-- ==== Sys2Proof/Word.lean ====
section
/-!
DEFINITION. The word types of the model: a register is at most 64 bits (R10), a byte 8, little-endian (R5).
-/
namespace Sys2Proof

/-- A register value. 32-bit registers use the low half (R10). -/
abbrev Word := BitVec 64

/-- A byte of memory. -/
abbrev Byte := BitVec 8

end Sys2Proof
end

