-- ==== Sys2Proof/Syntax.lean ====
section
/-!
DEFINITION. The commands of the block: one constructor of `Instr` per row of the opcode table, with the operands that
the row's rule gives it, and the types of those operands. Bounded numbers are `Fin`, so a command cannot name a port,
Stall, host or lane that does not exist.
-/
namespace Sys2Proof

/-- The two fabric dies (R23). East is index 0 and West index 1 wherever a register numbers the halves. -/
inductive Half where
  | east | west
deriving DecidableEq, Repr

/-- A port, 0 to 95 (R8). -/
abbrev Port := Fin 96
/-- A Stall, 0 to 4,095 (R248). -/
abbrev StallId := Fin 4096
/-- A host, 0 to 94 (R90). -/
abbrev HostId := Fin 95
/-- A host context, 0 to 94 of the hosts and 95 of the privileged requesters (R227, R234). -/
abbrev Context := Fin 96
/-- A lane of a port (R8). -/
abbrev Lane := Fin 8
/-- A virtual downstream port of a host (R97). -/
abbrev Vdsp := Fin 64

/-- Who accesses a register (R11, R15, R470, R591): a Hearth core, the debug port, a Porter channel (14 h + c), or a CXL.io
management requester behind a port. -/
inductive Agent where
  | core (c : Fin 17)
  | debug
  | porter (c : Fin 28)
  | cxl (p : Port)
deriving DecidableEq, Repr

/-- What a message taken from a port's link layer asks (R98, R100, R218, R228, R396). -/
inductive ReqKind where
  /-- CXL.mem read (class 0) -/
  | memRead
  /-- CXL.mem write (class 1) -/
  | memWrite
  /-- CXL.mem MemInv or MemClnEvct (class 0) -/
  | memInv
  /-- CXL.io memory read, non-posted (class 4) -/
  | ioRead
  /-- CXL.io memory write, posted (class 4) -/
  | ioWrite
  /-- CXL.io memory request into the windows that the host programmed into a virtual downstream port's bridge -/
  | passThrough (v : Vdsp) (posted : Bool)
  /-- a request of a passed-through device toward its host (CXL.io or CXL.cache, class 4 or 10) -/
  | fromDevice (cache : Bool)
  /-- a request to the fabric-manager mailbox (class 9) -/
  | fmMailbox
  /-- an MCTP message over CXL.io (class 9) -/
  | mctp
  /-- Data Object Exchange traffic (R103, R106) -/
  | doe
  /-- a register access of a CXL.io management requester (R24, R591) -/
  | register (write : Bool)
  /-- the next message that the port's own link layer extracted (Cascade ports, R123) -/
  | fromLink
  /-- a CXL.io AtomicOp (R318) -/
  | atomic
deriving DecidableEq, Repr

/-- What a request to a Market line asks of its home (R318): to share, ownership, an uncached read or write, a clean
eviction, or a write of a host whose port negotiated back-invalidate, which keeps the line Shared or Invalid. -/
inductive MktKind where
  | share | own | uncached | evict | write (keepShared : Bool)
deriving DecidableEq, Repr

/-- A message as the port's link layer hands it over: what it asks, the address and length, the data, whether its
data is poisoned (R112), how many of its cell writes were deferred under R167, and, for a Market request, whether it
asks for an exclusive copy and what its requester holds afterwards (R318). -/
structure ReqIn where
  kind : ReqKind
  addr : BitVec 64
  len : Nat
  data : List Byte
  poison : Bool
  deferrals : Nat
  market : MktKind
  /-- the MAC that ends its span came with it (R104) -/
  mac : Bool
  /-- cells of its data, the last ones, that are still arriving when it joins (R181, R182) -/
  late : Nat
deriving DecidableEq, Repr

/-- A link of the device's own link layer: the Cascade ports 0 to 95, and Seam channel c at the endpoint of half h as
96 + 8 h + c (R151, R162). -/
abbrev LinkId := Fin 112

/-- The protocols of a link (R89, R93): plain PCIe, CXL with its sub-protocols, Solsum's device link layer. -/
inductive LinkProtocol where
  | pcie
  | cxl (cache mem : Bool)
  | cascade
deriving DecidableEq, Repr

/-- What a partner shows while a link trains (R53, R64, R70, R71, R93, R95). Lanes 8 to 15 are those of the other port of a
bonded pair (R76). -/
structure Training where
  /-- rate codes the partner advertises, bit per code -/
  rates : BitVec 7
  /-- lanes with inverted polarity, and lanes that trained -/
  inverted : BitVec 16
  trained : BitVec 16
  /-- widths the partner supports: bit 0 x1, 1 x2, 2 x4, 3 x8, 4 x16 -/
  widths : BitVec 5
  /-- the partner's lane numbers run the other way; the partner itself can reverse its lanes -/
  crossed : Bool
  reversal : Bool
  /-- the protocol that the partner answers with, and whether it negotiates back-invalidate -/
  answer : LinkProtocol
  backInvalidate : Bool
  /-- framings the partner offers: 68-byte, 256-byte, latency-optimised 256-byte, PCIe flit mode -/
  flit68 : Bool
  flit256 : Bool
  flitLo : Bool
  flitPcie : Bool
  /-- per lane, the bytes of the eight training sets of R70, and the support of R71 -/
  sets : List (List Byte)
  bypass : Bool
deriving DecidableEq, Repr

/-- What the partner asks of a transmitter in an equalisation phase (R66): coefficients, or a preset by number. -/
inductive EqRequest where
  | coefficients (c : BitVec 32)
  | preset (n : Fin 16)
deriving DecidableEq, Repr

/-- How a link leaves L0 (R147). -/
inductive LeaveKind where
  | recovery | hotReset | detect
deriving DecidableEq, Repr

/-- What the buffer's checks find when a message is read for its egress (R198). -/
inductive CellErr where
  | none
  /-- an error of the n-th cell of the message, corrected -/
  | corrected (n : Nat)
  /-- an uncorrectable error of its n-th cell -/
  | dataUe (n : Nat)
  /-- bits of a byte of its n-th cell changed with no ECC error: the egress check of the CRC finds it -/
  | changed (n : Nat) (at_ : Fin 64) (mask : Byte)
  | headerUe | linkUe
deriving DecidableEq, Repr

/-- What arrives at a link (R119, R120, R129): the bytes of a flit from the partner of a Cascade port, after forward error
correction; or the next flit on the wire between the halves, with the bytes that the wire changed. -/
inductive FlitIn where
  | fromPartner (bytes : List Byte)
  | fromWire (noise : List (Fin 512 × Byte))
deriving DecidableEq, Repr

/-- How a response comes in: poisoned (R112), with the MAC that ends its span (R104), and how many writes of its cells were
deferred (R167). -/
structure Arrival where
  poison : Bool
  mac : Bool
  deferrals : Nat
deriving DecidableEq, Repr

/-- What a lane brings with a skip ordered set: whether the set holds content to remove (R58), and the code, disparity and
sync-header errors and corrected symbols since the last set (R59, R87). -/
structure SkipSet where
  enough : Bool
  errors : Fin 65536
deriving DecidableEq, Repr

/-- A step of the margin sampler: in voltage or in time (R82). -/
structure MarginStep where
  voltage : Bool
  step : Fin 64
deriving DecidableEq, Repr

/-- What a Device port of ROLE 3 tells firmware once it reaches L0 (R264): serial number, capacity of each logical
device in MiB, persistent or volatile, and whether it answers Global Persistent Flush. -/
structure DeviceId where
  serial : BitVec 64
  capacities : List Nat
  persistent : Bool
  gpf : Bool
  /-- an upstream switch port answered in its place (R100) -/
  switchBelow : Bool
deriving DecidableEq, Repr

/-- What broke on an IDE stream (R105). -/
inductive IdeFailure where
  | mac | gap | truncated
deriving DecidableEq, Repr

/-- What check bits report of an access: nothing, a corrected error, or an uncorrectable one. -/
inductive Ecc where
  | good | corrected | uncorrectable
deriving DecidableEq, Repr

/-- What SECDED finds in a row of the scratchpad or the Ember store (R459): nothing, a corrected error in a column, or an
uncorrectable one. -/
inductive MemErr where
  | good
  | corrected (column : Fin 624)
  | uncorrectable
deriving DecidableEq, Repr

/-- What the fetch of a descriptor, or the re-read of a tail, brings (R349): the bytes that memory returned, poisoned data, or
a bus error. The bytes of the scratchpad and the Ember store are those of the state. -/
inductive FetchIn where
  | data (b : List Byte)
  | poisoned
  | error
deriving DecidableEq, Repr

/-- A read of the Ledger that returned (R314, R332): the one that a flow waits for, by message id, or an entry that the
walk of a recall found, by region, way and line. -/
inductive LedgerRead where
  | reply (id : Nat) (poison : Bool)
  | walk (r : Fin 256) (w : Fin 16) (line : BitVec 32)
deriving DecidableEq, Repr

/-- A register of a window entry (R271). -/
inductive WinReg where
  | base | size | attr
deriving DecidableEq, Repr

/-- Whose recall a walk ended for: a commit's, or that of UNFENCE_HOST (R332, R323). -/
inductive RecallOf where
  | commit (t : Fin 4)
  | unfence (r : Fin 256) (host : HostId)
deriving DecidableEq, Repr

/-- A slot power channel, 0 to 47 (R512). -/
abbrev SlotId := Fin 48

/-- Feed A or feed B (R528). -/
inductive Feed where
  | a | b
deriving DecidableEq, Repr

/-- A class of a feed (R530). -/
inductive FeedClass where
  | sag | swell | dropout | ripple
deriving DecidableEq, Repr

/-- What kindling's checks find of the Ember store (R554, R556): everything passes, the seal record or a section fails, or
the journals' CRCs fail too. -/
inductive SealCheck where
  | good | badSeal | badJournals
deriving DecidableEq, Repr

/-- What a cold boot finds in the Keep region (R560): no copy, one that passes, or one whose MAC or CRCs fail. -/
inductive KeepRead where
  | none | good | bad
deriving DecidableEq, Repr

/-- What a kindling finds. -/
structure KindleIn where
  store : SealCheck
  keep : KeepRead
deriving DecidableEq, Repr

/-- What wakes the device in Banked (R557): a UDP datagram to UDP_PORT from an address, or an MCTP message. -/
inductive Wake where
  | datagram (src : Nat)
  | mctp
deriving DecidableEq, Repr

/-- A trigger of BANK_REQ (R534). -/
inductive BankTrigger where
  | pfail | sag | dropout
deriving DecidableEq, Repr

/-- What a cold boot finds (R412, R456, R560): the image slot that runs, 0 none, the slots rejected, the security version
that runs, cores and buffer banks that fail their tests, and the Keep region. -/
structure BootIn where
  running : Fin 3
  aRejected : Bool
  bRejected : Bool
  version : BitVec 16
  cores : List (Fin 17)
  banks : List (Half × Fin 256)
  keep : KeepRead
deriving DecidableEq, Repr

/-- What a configuration request addresses (R29, R97): the upstream port of the host's virtual switch, a virtual downstream
port, or a Stall. -/
inductive CfgTarget where
  | upstream
  | vdsp (v : Vdsp)
  | stall (st : StallId)
deriving DecidableEq, Repr

/-- What a configuration request does (R247, R250, R259): a read or a write of a register, the programming of an emulated
HDM decoder, its read, its Commit bit set or cleared, a Secondary Bus Reset of a virtual downstream port, a CXL Reset of a device. -/
inductive CfgAccess where
  | read (off : Fin 4096)
  | write (off : Fin 4096) (v : BitVec 32)
  | hdmProgram (k : Fin 4) (base size : BitVec 64) (ways : Nat)
  | hdmRead (k : Fin 4)
  | hdmCommit (k : Fin 4)
  | hdmClear (k : Fin 4)
  | busReset
  | cxlReset
deriving DecidableEq, Repr

/-- What a memory device reports of its health (R252): status and alert bits, and fields that are levels, lives or counts. -/
structure Health where
  bits : BitVec 16
  levels : List Nat
deriving DecidableEq, Repr

/-- Whose bridged access the far side reports (R464): a store of the Hearth to a half, or a register access of a CXL.io
management requester. -/
inductive FlueWho where
  | hearth (h : Half)
  | cxl (p : Port) (e : MemErr)
deriving DecidableEq, Repr

/-- How the copy to the Keep region ends (R553): done, or the copy or the flush of its device failed or timed out. -/
inductive KeepEnd where
  | done | copyFailed | flushFailed
deriving DecidableEq, Repr

/-- Where a bridged transfer finds no answer within 2 ms (R464, R480): over the Flue link of a half, or at the Grate. -/
inductive Silent where
  | half (h : Half)
  | grate
deriving DecidableEq, Repr

/-- A target of control memory (R471): a scratchpad bank, the Ember store, the Hearth's registers, a half, the Grate. -/
inductive Target where
  | bank (b : Fin 16)
  | ember
  | hearth
  | half (h : Half)
  | grate
deriving DecidableEq, Repr

/-- Who asks by SPDM (R411, R414): over Data Object Exchange of a port, or MCTP over SMBus or I3C. -/
inductive Requester where
  | port (p : Port)
  | smbus
  | i3c
deriving DecidableEq, Repr

/-- What an SPDM or IDE key-management message does (R103, R422): sets up a session, ends it, or anything else. -/
inductive SpdmMsg where
  | setUp
  | finish
  | other
deriving DecidableEq, Repr

/-- A JTAG instruction (R416, R417): boundary scan of a lane, the identity code, register and scratchpad access, halt and step
of a core, the injection controls, and the debug unlock's challenge and token (whether its signature verifies). -/
inductive Jtag where
  | boundaryScan (p : Port) (k : Lane) (on : Bool)
  | identity
  | read (addr : BitVec 64) (len : Fin 65)
  | write (addr : BitVec 64) (data : List Byte)
  | halt (c : Fin 17) (b : Bool)
  | coreStep (c : Fin 17)
  | inject (l : LinkId) (v : BitVec 32)
  | force (n : Fin 1024) (b : Bool)
  | challenge
  | token (verifies : Bool)
deriving DecidableEq, Repr

/-- The transport and source of an ECP packet (R433): an IP address (as a number that names it) and UDP port, an MCTP
endpoint over SMBus or I3C, or the requester over CXL.io of a Host port. -/
inductive Source where
  | udp (addr : Nat) (port : Fin 65536)
  | smbus (eid : Fin 256)
  | i3c (eid : Fin 256)
  | cxl (p : Port)
deriving DecidableEq, Repr

/-- What a well-formed ECP command packet carries beside its opcode and parameters (R424, R427 to R429): SESSION_ID,
SEQUENCE, its source, whether its tag verifies under the key of the session or pending session that it names, and the code
of the first parameter that the checks of R429 refuse, 0 where the parameters do not fill the payload (R428). -/
structure EcpHdr where
  sess : Fin 65536
  seq : BitVec 32
  src : Source
  tagOk : Bool
  paramErr : Option (Fin 65536)
deriving DecidableEq, Repr

/-- A frame of the management network that carries no whole ECP datagram (R431): ARP, ICMP echo, IPv6 neighbour discovery,
ICMPv6 echo, a fragment of a datagram (its source address and identification), any other frame. -/
inductive Frame where
  | arp
  | icmpEcho
  | neighbour
  | icmpv6Echo
  | fragment (src ident : Nat)
  | other
deriving DecidableEq, Repr


/-- A tunnelled command of the multiple-logical-device command set (R454). -/
inductive TunnelCmd where
  | ldInfo | ldAllocations | other
deriving DecidableEq, Repr

/-- What Bind vPPB binds (R118, R254): a Stall, a device passed through whole from a Device port, or a logical device of a
memory device, which is refused. -/
inductive BindTarget where
  | stall (st : StallId)
  | passed (q : Port)
  | logical (q : Port) (ld : Fin 16)
deriving DecidableEq, Repr

/-- What Physical Port Control asks (R453): to Disabled or out of it, or a reset. -/
inductive PortControl where
  | disable (b : Bool)
  | reset
deriving DecidableEq, Repr

/-- An ADDRESS, VALUE and MASK (R429): `wide` says that the value has 8 bytes, not 4. -/
structure RegItem where
  addr : BitVec 64
  value : BitVec 64
  mask : BitVec 64
  wide : Bool
deriving DecidableEq, Repr

/-- An ENTRY (R429): its kind, the register-space offset of its first register, the bytes of its registers. -/
structure Entry where
  kind : BitVec 32
  off : BitVec 32
  data : List Byte
deriving DecidableEq, Repr

/-- The commands. Each docstring names the row of the table and its rule. The commands of ECP come first: a session may keep
them waiting (R442), and Lean's compiler builds only values of the first constructors of a type as large as this one. -/
inductive Instr where
  /-- UNKNOWN_OPCODE (R451): an unknown opcode is answered UNKNOWN_OPCODE. -/
  | unknownOpcode (h : EcpHdr) (opcode : BitVec 16)
  /-- GET_IDENTITY (R451): returns part number, stepping, serial, Wesis version, lifecycle and boot status. -/
  | getIdentity (h : EcpHdr)
  /-- SESSION_CHALLENGE (R436): opens a pending session and returns the device nonce. -/
  | sessionChallenge (h : EcpHdr) (cred : Fin 32) (nonce : BitVec 128)
  /-- SESSION_OPEN (R436): opens a pending session whose tag verifies under the derived key. -/
  | sessionOpen (h : EcpHdr)
  /-- SESSION_CLOSE (R438): closes the session. -/
  | sessionClose (h : EcpHdr)
  /-- GET_SESSION (R451): returns the session's permissions and reply limit. -/
  | getSession (h : EcpHdr)
  /-- SET_REPLY_LIMIT (R451): sets the session's reply limit. -/
  | setReplyLimit (h : EcpHdr) (count : BitVec 32)
  /-- SUBSCRIBE (R450): sets the session's event mask. -/
  | subscribe (h : EcpHdr) (mask : BitVec 32)
  /-- GET_OPERATION (R445): returns an operation's status. -/
  | getOperation (h : EcpHdr) (id : BitVec 32)
  /-- ABORT_OPERATION (R447): aborts an operation before its point of no return or answers ALREADY_DONE. -/
  | abortOperation (h : EcpHdr) (id : BitVec 32)
  /-- LIST_OPERATIONS (R451): returns paged operation IDs and results. -/
  | listOperations (h : EcpHdr) (start : BitVec 32)
  /-- GET_ECP_STATS (R451): returns ECP discard and failure counts. -/
  | getEcpStats (h : EcpHdr)
  /-- GET_MGMT_CONFIG (R434): reads the management configuration record. -/
  | getMgmtConfig (h : EcpHdr)
  /-- SET_MGMT_CONFIG (R434): writes fields of the management configuration record. -/
  | setMgmtConfig (h : EcpHdr) (fields : List (Nat × Nat))
  /-- GET_PORT (R451): returns a port's PHY, port and link-layer registers. -/
  | getPort (h : EcpHdr) (p : Port)
  /-- SET_PORT_DISABLED (R79): takes a port to or from Disabled, refused while it carries a binding. -/
  | setPortDisabled (h : EcpHdr) (p : Port) (disabled : Bool)
  /-- RETRAIN_PORT (R63): writes PHY_CTRL.RETRAIN of a port. -/
  | retrainPort (h : EcpHdr) (p : Port)
  /-- RESET_PORT (R40): starts a port reset as an operation. -/
  | resetPort (h : EcpHdr) (p : Port)
  /-- HOLD_PORT (R109): holds or releases a port over the Flue link. -/
  | holdPort (h : EcpHdr) (p : Port) (hold : Bool)
  /-- RETIRE_LANE (R84): retires a lane as an operation ending when RETIRE_BUSY clears. -/
  | retireLane (h : EcpHdr) (p : Port) (k : Lane)
  /-- SAVE_EQUALISATION (R69): captures a port's equalisation records. -/
  | saveEqualisation (h : EcpHdr) (p : Port)
  /-- MARGIN_LANE (R82): runs margining on a lane as an operation. -/
  | marginLane (h : EcpHdr) (p : Port) (v : BitVec 32)
  /-- SET_TEST_MODE (R79): writes TEST_MODE, LOOPBACK_CTRL and TEST_CTRL of a port. -/
  | setTestMode (h : EcpHdr) (p : Port) (mode : Fin 4) (loop test : BitVec 32)
  /-- PPB_CONFIG_REQUEST (R451): sends a configuration request to a physical port's partner. -/
  | ppbConfigRequest (h : EcpHdr) (p : Port) (addr : BitVec 64) (value reply : Option (BitVec 32))
  /-- LD_CONFIG_REQUEST (R451): sends a configuration read or write to a logical device. -/
  | ldConfigRequest (h : EcpHdr) (p : Port) (ld : Fin 16) (addr : BitVec 52) (value reply : Option (BitVec 32))
  /-- LD_MEMORY_ACCESS (R404): reads or writes a raw range of a logical device, subject to sealing. -/
  | ldMemoryAccess (h : EcpHdr) (p : Port) (ld : Fin 16) (dpa : BitVec 52) (count : Fin 4001) (write : Bool) (data : List Byte)
  /-- LD_MGMT_TUNNEL (R454): tunnels a read-only multiple-logical-device command to a memory device. -/
  | ldMgmtTunnel (h : EcpHdr) (p : Port) (c : TunnelCmd) (data : List Byte) (reply : Option (List Byte))
  /-- GET_STALL (R451): returns a Stall's registers. -/
  | getStall (h : EcpHdr) (st : StallId)
  /-- LIST_STALLS (R451): returns paged Stall numbers and states. -/
  | listStalls (h : EcpHdr) (start : BitVec 32)
  /-- QUENCH_STALL (R215): sets or clears QUENCH of a Stall over the Flue link. -/
  | quenchStall (h : EcpHdr) (st : StallId) (quench : Bool)
  /-- RESET_STALL (R259): starts a Stall reset as an operation. -/
  | resetStall (h : EcpHdr) (st : StallId)
  /-- RESUME_STALL (R265): returns a Failed Stall to Bound after its checks. -/
  | resumeStall (h : EcpHdr) (st : StallId)
  /-- FREEZE_STALL (R258): quenches a Stall and writes its state record. -/
  | freezeStall (h : EcpHdr) (st : StallId)
  /-- READ_STALL_RECORD (R258): reads a page of a Stall state record. -/
  | readStallRecord (h : EcpHdr) (st : StallId) (start : BitVec 32)
  /-- WRITE_STALL_RECORD (R258): writes a page of a Stall state record into staging. -/
  | writeStallRecord (h : EcpHdr) (st : StallId) (start : BitVec 32) (data : List Byte)
  /-- RESTORE_STALL (R258): defines a Stall from staging by a slot 3 transaction. -/
  | restoreStall (h : EcpHdr) (st : StallId)
  /-- GET_INVENTORY (R264): returns the paged device inventory. -/
  | getInventory (h : EcpHdr) (start : BitVec 32)
  /-- CLEAR_QUARANTINE (R270): clears quarantined ranges overlapping a span and restarts their scrub. -/
  | clearQuarantine (h : EcpHdr) (p : Port) (addr : BitVec 64) (count : BitVec 32)
  /-- SET_CHECKER (R237): writes CHK_CTRL.EN of a host context. -/
  | setChecker (h : EcpHdr) (host : HostId) (en : Bool)
  /-- WRITE_WINDOW (R236): writes a window entry directly. -/
  | writeWindow (h : EcpHdr) (host : HostId) (e : Entry)
  /-- GET_VCS_INFO (R451): returns a port's virtual switch state. -/
  | getVcsInfo (h : EcpHdr) (p : Port)
  /-- BIND_VPPB (R254): binds a Stall or passed-through device to a virtual port by transaction. -/
  | bindVppb (h : EcpHdr) (p : Port) (v : Vdsp) (t : BindTarget)
  /-- UNBIND_VPPB (R255): unbinds a virtual port by transaction, with recall where needed. -/
  | unbindVppb (h : EcpHdr) (p : Port) (v : Vdsp)
  /-- GENERATE_AER (R451): generates an AER event on a port. -/
  | generateAer (h : EcpHdr) (p : Port) (v : BitVec 32) (data : List Byte)
  /-- TXN_BEGIN (R274): opens a transaction in a free slot and records its base epoch. -/
  | txnBegin (h : EcpHdr)
  /-- TXN_WRITE (R278): writes register values into a transaction's shadow. -/
  | txnWrite (h : EcpHdr) (t : Fin 4) (items : List RegItem)
  /-- TXN_WRITE_ENTRY (R277): writes table entries into a transaction's shadow. -/
  | txnWriteEntry (h : EcpHdr) (t : Fin 4) (es : List Entry)
  /-- TXN_READ (R280): returns a shadow value. -/
  | txnRead (h : EcpHdr) (t : Fin 4) (addr : BitVec 64)
  /-- TXN_COMMIT (R282): starts the commit of a transaction as an operation. -/
  | txnCommit (h : EcpHdr) (t : Fin 4)
  /-- TXN_ROLLBACK (R287): discards the shadow and frees the slot. -/
  | txnRollback (h : EcpHdr) (t : Fin 4)
  /-- TXN_STATUS (R451): returns slot and epoch registers. -/
  | txnStatus (h : EcpHdr)
  /-- WRITE_DIRECT (R451): writes non-RWT register fields directly. -/
  | writeDirect (h : EcpHdr) (items : List RegItem)
  /-- GET_REGION (R451): returns a region's registers. -/
  | getRegion (h : EcpHdr) (r : Fin 256)
  /-- RECOVER_REGION (R336): starts rewriting recovering slices of a region as unknown. -/
  | recoverRegion (h : EcpHdr) (r : Fin 256)
  /-- UNFENCE_HOST (R323): recalls a host from a region, then lifts its fence. -/
  | unfenceHost (h : EcpHdr) (r : Fin 256) (host : HostId)
  /-- FLUSH_LEDGER (R451): starts a Ledger flush of one half. -/
  | flushLedger (h : EcpHdr) (half : Half)
  /-- PORTER_START_CHAIN (R451): starts a chain on a channel without PRIV_OK. -/
  | porterStartChain (h : EcpHdr) (c : Fin 28) (addr : BitVec 64)
  /-- GET_CHANNEL (R451): returns a Porter channel's registers. -/
  | getChannel (h : EcpHdr) (c : Fin 28)
  /-- PAUSE_CHANNEL (R368): writes CH_CTRL.PAUSE of a channel. -/
  | pauseChannel (h : EcpHdr) (c : Fin 28) (pause : Bool)
  /-- RETIRE_CHANNEL (R370): retires a Porter channel. -/
  | retireChannel (h : EcpHdr) (c : Fin 28)
  /-- RELOC_START (R376): starts a relocation by a slot 3 transaction. -/
  | relocStart (h : EcpHdr) (object dst ledger : BitVec 64) (auto : Bool)
  /-- RELOC_COMMIT (R388): commits a Synced relocation. -/
  | relocCommit (h : EcpHdr) (x : Fin 8)
  /-- RELOC_ROLLBACK (R390): rolls a relocation back to the source. -/
  | relocRollback (h : EcpHdr) (x : Fin 8)
  /-- RELOC_PAUSE (R384): sets or clears PAUSE of a relocation context. -/
  | relocPause (h : EcpHdr) (x : Fin 8) (pause : Bool)
  /-- RELOC_RESUME (R385): takes a relocation context out of Stopped. -/
  | relocResume (h : EcpHdr) (x : Fin 8)
  /-- RELOC_STATUS (R451): returns a relocation context's registers. -/
  | relocStatus (h : EcpHdr) (x : Fin 8)
  /-- RELOC_INBOUND (R396): commits a range as an inbound relocation target. -/
  | relocInbound (h : EcpHdr) (p q : Port) (ld : Fin 16) (base units : BitVec 24) (far : BitVec 32)
  /-- GET_SLOT (R451): returns a slot channel's registers. -/
  | getSlot (h : EcpHdr) (n : SlotId)
  /-- SLOT_POWER (R536): requests a slot channel on or off. -/
  | slotPower (h : EcpHdr) (n : SlotId) (on : Bool)
  /-- SLOT_CLEAR_LOCKOUT (R536): releases a channel from Lockout. -/
  | slotClearLockout (h : EcpHdr) (n : SlotId)
  /-- SLOT_SET_FEED (R536): sets a channel's feed priority and dead time. -/
  | slotSetFeed (h : EcpHdr) (n : SlotId) (v : BitVec 32)
  /-- GET_POWER_STATE (R451): returns power-ladder registers. -/
  | getPowerState (h : EcpHdr)
  /-- SET_POWER_STATE (R541): enters Blaze, Glow, Smoulder or Banked. -/
  | setPowerState (h : EcpHdr) (rung : Fin 256)
  /-- SET_KEEP_REGION (R552): commits the Keep region by a slot 3 transaction. -/
  | setKeepRegion (h : EcpHdr) (p : Port) (addr : BitVec 64) (count : BitVec 32)
  /-- RESET_WARM (R40): starts a warm reset as an operation. -/
  | resetWarm (h : EcpHdr)
  /-- RESET_HALF (R40): starts a half reset as an operation. -/
  | resetHalf (h : EcpHdr) (half : Half)
  /-- RESET_HEARTH (R40): starts a Hearth-only reset as an operation. -/
  | resetHearth (h : EcpHdr)
  /-- GET_FAULTS (R510): returns paged fault records. -/
  | getFaults (h : EcpHdr) (start : BitVec 32)
  /-- CLEAR_FAULT (R499): clears a fault source. -/
  | clearFault (h : EcpHdr) (n : BitVec 32)
  /-- SET_REACTION (R500): sets a source's reaction. -/
  | setReaction (h : EcpHdr) (n v : BitVec 32)
  /-- READ_REGISTERS (R451): returns register values. -/
  | readRegisters (h : EcpHdr) (addrs : List (BitVec 64))
  /-- PROGRAM_COUNTERS (R565): writes counter unit registers. -/
  | programCounters (h : EcpHdr) (items : List (BitVec 64 × BitVec 64))
  /-- SET_SNAPSHOT_RING (R572): sets the snapshot ring and restarts its sequence. -/
  | setSnapshotRing (h : EcpHdr) (addr : BitVec 64) (count : BitVec 32)
  /-- GET_WEAR_RECORD (R577): returns paged wear record entries. -/
  | getWearRecord (h : EcpHdr) (start : BitVec 32)
  /-- TELEMETRY_DUMP (R451): dumps telemetry into a ring in pool memory. -/
  | telemetryDump (h : EcpHdr) (addr : BitVec 64)
  /-- GET_SECURITY_STATE (R423): returns the security registers. -/
  | getSecurityState (h : EcpHdr)
  /-- LIFECYCLE_ADVANCE (R409): advances the lifecycle state by fuse and resets the device. -/
  | lifecycleAdvance (h : EcpHdr) (target : Fin 256)
  /-- PROVISION_CREDENTIAL (R435): provisions a credential key and permissions. -/
  | provisionCredential (h : EcpHdr) (cred : Fin 32) (key : Option (BitVec 256)) (perms : BitVec 32)
  /-- REVOKE_CREDENTIAL (R437): revokes a credential and ends its sessions. -/
  | revokeCredential (h : EcpHdr) (cred : Fin 32)
  /-- TAMPER_CLEAR (R422): clears the tamper latch unless a source is active. -/
  | tamperClear (h : EcpHdr)
  /-- UNLOCK_CHALLENGE (R417): returns a 32-byte debug unlock nonce. -/
  | unlockChallenge (h : EcpHdr)
  /-- UNLOCK_RESPONSE (R417): verifies a debug token and sets UNLOCK_PENDING or counts a failure. -/
  | unlockResponse (h : EcpHdr) (verifies : Bool)
  /-- DEBUG_LOCK (R418): locks debug from any session. -/
  | debugLock (h : EcpHdr)
  /-- FW_BEGIN (R451): begins a firmware image write to a slot. -/
  | fwBegin (h : EcpHdr) (slot : Fin 2) (count : BitVec 32)
  /-- FW_DATA (R451): writes firmware image data. -/
  | fwData (h : EcpHdr) (start : BitVec 32) (data : List Byte)
  /-- FW_END (R412): verifies the written firmware image. -/
  | fwEnd (h : EcpHdr) (verified : Bool)
  /-- SET_PREFERRED_SLOT (R412): sets BOOT_STATUS.PREFERRED. -/
  | setPreferredSlot (h : EcpHdr) (slot : Fin 2)
  /-- GET_AUDIT_LOG (R407): returns paged audit log entries. -/
  | getAuditLog (h : EcpHdr) (start : BitVec 32)
  /-- DEBUG_READ_MEMORY (R404): reads memory through context 95 when debug rules allow. -/
  | debugReadMemory (h : EcpHdr) (addr : BitVec 64) (count : Fin 4001) (returned : List Byte)
  /-- DEBUG_WRITE_MEMORY (R404): writes memory through context 95 when debug rules allow. -/
  | debugWriteMemory (h : EcpHdr) (addr : BitVec 64) (data : List Byte)
  /-- FORCE_FAULT (R501): sets a source's force bit. -/
  | forceFault (h : EcpHdr) (n : BitVec 32)
  /-- LINK_INJECT (R158): writes link-layer injector registers. -/
  | linkInject (h : EcpHdr) (addr : BitVec 64) (v : BitVec 32)
  /-- POISON_LINE (R404): poisons a line at an offset in a Stall's space. -/
  | poisonLine (h : EcpHdr) (st : StallId) (off : BitVec 64)
  /-- REGISTER_WRITE (R13): a write to a register field that has no row of its own acts on each field by its access code. -/
  | registerWrite (a : Agent) (addr : BitVec 64) (data : List Byte)
  /-- INGRESS_REQUEST (R26): a message taken whole from a port's link layer is checked, decoded, metered and offered to admission. -/
  | ingressRequest (p : Port) (r : ReqIn)
  /-- HOLD_LIST_RETRY (R178): the head of a hold list is tried again after an account changes or 64 FCLK cycles pass. -/
  | holdListRetry (h : Half) (seam : Bool) (input dst : Fin 128) (q : Fin 4)
  /-- EGRESS_MESSAGE_START (R204): the egress port starts the head message of the highest eligible queue and sends its cells. -/
  | egressMessageStart (p : Port) (e : CellErr) (deferred : Nat)
  /-- MIRROR_IDLE_TIMER (R196): after 10 us of session idleness the producer offset is written. -/
  | mirrorIdleTimer (h : Half) (n : Fin 8)
  /-- DEVICE_RESPONSE (R28): a response from a device port is written to the requester's half and forwarded in the Response class. -/
  | deviceResponse (p : Port) (id : Nat) (data : List Byte) (how : Arrival)
  /-- DEVICE_BI_SNOOP (R100): a back-invalidate snoop from a memory device is answered invalid, dropped and recorded. -/
  | deviceBiSnoop (p : Port) (addr : BitVec 52)
  /-- MEM_TIMEOUT_EXPIRY (R115): a forwarded CXL.mem request without response within CXL_TIMEOUT.MEM is answered and a fault recorded. -/
  | memTimeoutExpiry (p : Port) (id : Nat)
  /-- IO_TIMEOUT_EXPIRY (R115): a forwarded non-posted CXL.io request without response within CXL_TIMEOUT.IO is completed with Completer Abort. -/
  | ioTimeoutExpiry (p : Port) (id : Nat)
  /-- CONFIG_REQUEST_TO_STALL (R29): the Hearth emulates a configuration request to a Stall or virtual port and returns the completion. -/
  | configRequestToStall (p : Port) (id : Nat) (t : CfgTarget) (a : CfgAccess)
  /-- HDM_COMMITTED_SET (R247): firmware sets Committed in the emulated decoder once the epoch has advanced. -/
  | hdmCommittedSet (st : StallId) (k : Fin 4)
  /-- HOT_PLUG_NOTIFY (R255): after a bind or unbind commit, firmware posts the slot status event to the host. -/
  | hotPlugNotify
  /-- MAILBOX_DOORBELL (R29): a Stall mailbox doorbell is accepted and the command passed to firmware. -/
  | mailboxDoorbell (st : StallId)
  /-- GET_EVENT_RECORDS (R252): returns the Stall's own event log. -/
  | getEventRecords (st : StallId)
  /-- CLEAR_EVENT_RECORDS (R252): clears records of the Stall's own event log. -/
  | clearEventRecords (st : StallId) (handles : List Nat)
  /-- GET_TIMESTAMP (R252): returns the Stall's own timestamp. -/
  | getTimestamp (st : StallId)
  /-- SET_TIMESTAMP (R252): sets the Stall's own timestamp. -/
  | setTimestamp (st : StallId) (v : BitVec 64)
  /-- GET_SUPPORTED_LOGS (R252): returns the Command Effects Log only. -/
  | getSupportedLogs (st : StallId)
  /-- GET_LOG (R252): returns the Command Effects Log. -/
  | getLog (st : StallId) (off : Nat) (len : Fin 4097)
  /-- IDENTIFY_MEMORY_DEVICE (R252): reports the Stall's capacity and kind. -/
  | identifyMemoryDevice (st : StallId)
  /-- GET_PARTITION_INFO (R252): reports all capacity in the one kind. -/
  | getPartitionInfo (st : StallId)
  /-- GET_HEALTH_INFO (R252): reports the worst health values over the Stall's devices. -/
  | getHealthInfo (st : StallId) (reports : List Health)
  /-- GET_POISON_LIST (R252): returns poisoned lines in the Stall's slices as Stall offsets. -/
  | getPoisonList (st : StallId)
  /-- INJECT_POISON (R252): injects poison, refused unless debug is unlocked. -/
  | injectPoison (st : StallId) (off : BitVec 64)
  /-- CLEAR_POISON (R252): writes data to the line and removes it from the poison list. -/
  | clearPoison (st : StallId) (off : BitVec 64) (data : List Byte)
  /-- SANITIZE (R253): starts a scrub of the Stall's slices as a background operation. -/
  | sanitize (st : StallId)
  /-- SECURE_ERASE (R253): starts a secure erase scrub of the Stall's slices as a background operation. -/
  | secureErase (st : StallId)
  /-- MAILBOX_BG_OP_COMPLETE (R253): sanitize or Secure Erase completes when every slice is scrubbed, or fails with Media Failure. -/
  | mailboxBgOpComplete (st : StallId)
  /-- MAILBOX_UNSUPPORTED (R252): any other mailbox command is answered Unsupported. -/
  | mailboxUnsupported (st : StallId) (opcode : BitVec 16)
  /-- CONFIG_MESSAGE_RECEIVE (R32): a configuration message on the Seam or a Flue link is accepted or discarded by epoch. -/
  | configMessageReceive (h : Half) (epoch : BitVec 32) (id : BitVec 32)
  /-- FLUE_HEARTBEAT (R33): the Hearth sends a heartbeat on each Flue link every 1 us. -/
  | flueHeartbeat (h : Half)
  /-- FLUE_SILENCE_TIMEOUT (R33): a half without Flue traffic for 8 us enters Hold. -/
  | flueSilenceTimeout (h : Half)
  /-- FLUE_TRANSFER_TIMEOUT (R35): a Flue transfer without response in 2 ms ends with an error and an imprecise-error interrupt. -/
  | flueTransferTimeout (x : Silent)
  /-- FLUE_RESPONSE (R464): the far side reports a bridged access taken effect, completing the initiator's access. -/
  | flueResponse (w : FlueWho)
  /-- SEMAPHORE_EXPIRY (R467): a Flue bridge semaphore entry is released 4 us after it was taken. -/
  | semaphoreExpiry (c : Fin 17)
  /-- SLOT_HOLD_LINE_ASSERT (R34): the Grate asserts a slot hold line and the owning half holds the port. -/
  | slotHoldLineAssert (n : SlotId)
  /-- SLOT_HOLD_LINE_RELEASE (R34): the Grate releases a slot hold line when the pin is present and the channel On. -/
  | slotHoldLineRelease (n : SlotId)
  /-- GRATE_EVENT_REPORT (R34): the Grate reports a slot event to the Hearth, which posts events and clears equalisation records. -/
  | grateEventReport (n : SlotId)
  /-- COLD_RESET (R40): supplies and VBANK rising from unpowered reset every die and run the cold boot. -/
  | coldReset
  /-- COLD_BOOT_COMPLETE (R560): the cold boot sequence ends and forwarding starts under the restored or empty configuration. -/
  | coldBootComplete (b : BootIn)
  /-- RESET_N_ASSERT (R40): RESET_N low for 1 us starts a warm reset, or wakes the device in Banked. -/
  | resetNAssert (k : KindleIn)
  /-- RESET_N_RELEASE (R622): RESET_N rising lets the warm reset proceed and firmware restore the configuration. -/
  | resetNRelease
  /-- RST_WARM (R589): RST_CTRL.WARM starts a warm reset. -/
  | rstWarm
  /-- RST_HALF_E (R589): RST_CTRL.HALF_E starts a half reset of East. -/
  | rstHalfE
  /-- RST_HALF_W (R589): RST_CTRL.HALF_W starts a half reset of West. -/
  | rstHalfW
  /-- RST_HEARTH (R589): RST_CTRL.HEARTH starts a Hearth-only reset. -/
  | rstHearth
  /-- RST_PORT (R589): RST_CTRL.PORT starts a port reset of PORT_NUM. -/
  | rstPort (p : Port)
  /-- SEAM_DOWN_HOLD_EXPIRY (R46): after 10 us with the Seam down, held requests for the reset half are completed with an error. -/
  | seamDownHoldExpiry (h : Half)
  /-- HALF_RESET_RELEASE (R622): after the hold time the Hearth reloads the half and releases its ports to bring-up. -/
  | halfResetRelease (h : Half)
  /-- PORT_RESET_RELEASE (R622): after 2 to 10 us the port enters Detect or Disabled and RESET_PORT ends OK. -/
  | portResetRelease (p : Port)
  /-- STALL_DRAIN_END (R260): the drain time ends or outstanding reaches 0, and everything remaining is squashed. -/
  | stallDrainEnd (st : StallId)
  /-- STALL_RESET_COMPLETE (R262): with no transfer of the Stall left, emulated state resets and the Stall returns to Bound or Quenched. -/
  | stallResetComplete (st : StallId)
  /-- PLL_LOCK_LOSS (R56): a port-group PLL loses lock, taking its four links to Detect and recording faults. -/
  | pllLockLoss (g : Fin 24)
  /-- PLL_RELOCK (R56): the port-group PLL relocks and its ports begin bring-up. -/
  | pllRelock (g : Fin 24)
  /-- FCLK_LOCK_LOSS (R592): loss of lock of FCLK_E or FCLK_W raises source 792 or 793. -/
  | fclkLockLoss (h : Half)
  /-- SKP_ORDERED_SET (R58): a received skip ordered set lets the elastic buffer add or remove skip content. -/
  | skpOrderedSet (p : Port) (k : Lane) (drift : Int) (set : SkipSet)
  /-- RECEIVER_DETECTED (R60): a receiver is detected and training proceeds through Polling and Configuration. -/
  | receiverDetected (p : Port) (t : Option Training)
  /-- DETECT_QUIET_TIMER (R61): detect.Quiet expires and the next receiver-detect attempt is made. -/
  | detectQuietTimer (p : Port)
  /-- TRAINING_TIMEOUT (R61): a Polling or Configuration timeout returns the port to Detect and may record a fault. -/
  | trainingTimeout (p : Port)
  /-- LINK_REACHES_L0 (R60): the link reaches L0 at a rate, stepping up or capturing equalisation records. -/
  | linkReachesL0 (p : Port) (viral : Bool)
  /-- EQ_PHASE_COMPLETE (R60): an equalisation phase completes and the next phase or rate starts. -/
  | eqPhaseComplete (p : Port) (own : List EqRequest) (partner : List (BitVec 32))
  /-- SPEED_CHANGE_TIMEOUT (R63): a speed change times out and the port returns to the last good rate, setting RATE_FAILED. -/
  | speedChangeTimeout (p : Port)
  /-- EQ_PHASE_TIMEOUT (R63): an equalisation phase times out and the port returns to the last good rate. -/
  | eqPhaseTimeout (p : Port)
  /-- EQ_BYPASS_FALLBACK (R72): errors in the first 1 ms after bypass clear VALID and re-equalise the port. -/
  | eqBypassFallback (p : Port)
  /-- ADAPTATION_UPDATE (R68): every 1 us the CTLE and DFE adapt by sign-sign LMS unless frozen. -/
  | adaptationUpdate (p : Port) (k : Lane) (signs : List Int)
  /-- RETRAIN (R63): PHY_CTRL.RETRAIN clears RATE_FAILED and steps the link up again through Recovery. -/
  | retrain (p : Port)
  /-- SAVE_EQ (R69): PHY_CTRL.SAVE_EQ captures the port's equalisation records if in L0. -/
  | saveEq (p : Port)
  /-- BOND (R77): a BOND_CTRL.BOND write takes effect only while both ports are Disabled. -/
  | bond (p : Port) (b : Bool)
  /-- LOOPBACK_CTRL_WRITE (R79): a loopback mode is entered only from Disabled with TEST_MODE set, else REFUSED is set. -/
  | loopbackCtrlWrite (p : Port) (v : BitVec 32)
  /-- TEST_CTRL_WRITE (R79): a pattern test is started only from Disabled with TEST_MODE set, else REFUSED is set. -/
  | testCtrlWrite (p : Port) (v : BitVec 32)
  /-- PARTNER_LOOPBACK_REQUEST (R78): a partner's loopback request is followed only if FOLLOW_EN is set. -/
  | partnerLoopbackRequest (p : Port)
  /-- LANE_SLIP_WRITE (R81): SLIP_POS shifts the receive word boundary in test modes, else it is refused. -/
  | laneSlipWrite (p : Port) (k : Lane) (pos : Fin 128)
  /-- MARGIN_START (R82): MARGIN_CTRL.START begins margining a lane on its margin sampler. -/
  | marginStart (p : Port) (lane : Lane) (axis dir : Bool) (limit steps : Fin 64)
  /-- MARGIN_STEP_END (R82): a margin step ends after its dwell or error limit, and the next step starts. -/
  | marginStepEnd (p : Port) (errors : Nat)
  /-- PARTNER_MARGIN_REQUEST (R82): the partner margins the device's receiver by Lane Margining at the Receiver. -/
  | partnerMarginRequest (p : Port) (k : Lane) (step : MarginStep) (errors : Fin 64)
  /-- LANE_RETIRE (R84): a LANE_RETIRE bit retires a lane, without retraining on Cascade ports or by Recovery otherwise. -/
  | laneRetire (p : Port) (mask : BitVec 8)
  /-- RETIRE_CONTROL_FLIT (R155): a received retire-control flit schedules a lane switch and may be answered. -/
  | retireControlFlit (p : Port) (mask : BitVec 8) (ack : Bool)
  /-- RETIRE_SWITCH (R155): at the named flit boundary the direction switches to the new lane mask. -/
  | retireSwitch (p : Port) (receiver : Bool)
  /-- RETIRE_ACK_TIMEOUT (R156): no acknowledged retire-control flit in 100 us sets RETIRE_FAIL and retrains. -/
  | retireAckTimeout (p : Port)
  /-- IDE_MAC_FAILURE (R105): a MAC failure, gap or truncation moves the stream to Insecure and holds the port. -/
  | ideMacFailure (p : Port) (rx : Bool) (what : IdeFailure)
  /-- IDE_KEY_PROGRAM (R103): the key unit programs a key set into a port engine, making the stream Secure. -/
  | ideKeyProgram (p : Port) (rx tx : Bool)
  /-- KEY_ROLLOVER (R103): a key rollover installs the new set and switches at the next MAC boundary. -/
  | keyRollover (p : Port)
  /-- OLD_KEY_WINDOW_END (R103): one microsecond after a switch the old key set is no longer checked. -/
  | oldKeyWindowEnd (p : Port)
  /-- VIRAL_RECEIVED (R113): viral from a memory device holds its port, records a fault and posts events in its Stalls. -/
  | viralReceived (p : Port)
  /-- VIRAL_FROM_HOST (R113): viral from a host marks that host's own Stalls failed. -/
  | viralFromHost (p : Port)
  /-- DEVICE_INVENTORY_READ (R264): firmware reads a newly trained memory device's identity and capacity into the inventory. -/
  | deviceInventoryRead (p : Port) (d : DeviceId)
  /-- FLIT_RECEIVE (R129): a Cascade or Seam flit is checked, its sequence handled and its acknowledgements, credits and messages applied. -/
  | flitReceive (l : LinkId) (f : FlitIn) (deferrals : Nat)
  /-- ACK_COALESCE_REACHED (R130): ACK_COALESCE accepted flits start an acknowledgement event. -/
  | ackCoalesceReached (l : LinkId)
  /-- ACK_TIMER_EXPIRY (R130): ACK_TIMER expiry starts an acknowledgement event. -/
  | ackTimerExpiry (l : LinkId)
  /-- REPLAY_TIMER_EXPIRY (R133): the oldest unacknowledged flit held for REPLAY_TIMER starts a replay. -/
  | replayTimerExpiry (l : LinkId)
  /-- LINK_MESSAGE_SEND (R139): a waiting message is sent once its channel has the credits and floor it needs. -/
  | linkMessageSend (l : LinkId)
  /-- INIT_TIMEOUT (R149): init lasting beyond its limit sets INIT_TIMEOUT and takes the link to Detect or re-alignment. -/
  | initTimeout (l : LinkId)
  /-- LINK_LAYER_DOWN (R150): a Cascade port entering Down answers every forwarded request awaiting a response. -/
  | linkLayerDown (p : Port)
  /-- SEAM_REALIGN (R152): a Seam channel re-deskews and runs Init, then replays. -/
  | seamRealign (h : Half) (c : Fin 8) (ok : Bool)
  /-- SEAM_ACTIVE_TIMEOUT (R152): a channel not Active within 10 us, or three failed re-alignments, takes the Seam down. -/
  | seamActiveTimeout (h : Half)
  /-- LL_INJECT_ARM (R158): a write of LL_INJECT arms the injector when the lifecycle allows it. -/
  | llInjectArm (l : LinkId) (v : BitVec 32)
  /-- INJECTOR_FIRE (R158): on the N-th flit the injector drops, corrupts or reorders it. -/
  | injectorFire (l : LinkId)
  /-- POOL_STATE_SEND (R184): a half sends a pool-state message at a change and at least every 1 us at Blaze. -/
  | poolStateSend (h : Half)
  /-- POOL_STATE_STALE (R185): no pool-state message for 4 us at Blaze stops Yellow Seam traffic. -/
  | poolStateStale (h : Half)
  /-- CENSUS_START (R187): at each INTERVAL boundary a census of cells and header entries starts. -/
  | censusStart (h : Half)
  /-- CENSUS_COMPLETE (R189): a completed census reclaims leaked cells and removes doubly referenced ones. -/
  | censusComplete (h : Half) (doubled : List (Fin 256))
  /-- CENSUS_RUN_NOW (R191): CENSUS_CFG.RUN_NOW starts a census at once unless one runs. -/
  | censusRunNow (h : Half)
  /-- BANK_RETIRE (R199): BANK_CTRL.RETIRE starts draining a bank and activates a spare. -/
  | bankRetire (h : Half) (b : Fin 256)
  /-- METER_TOKEN_REFILL (R209): every 16 ns both buckets gain CIR and PIR tokens up to their bursts. -/
  | meterTokenRefill (h : Half)
  /-- BULK_PROMOTE (R217): the Bulk credit reaching HI_CREDIT promotes Bulk above Request. -/
  | bulkPromote (p : Port)
  /-- HIST_SAMPLE (R221): at each interval every queue's depth and head delay are sampled into histograms. -/
  | histSample (h : Half)
  /-- HIST_CLEAR (R223): HIST_CTRL.CLEAR sets every histogram counter of the port to 0. -/
  | histClear (p : Port)
  /-- WINDOW_DIRECT_WRITE (R236): a direct window write is accepted only while the context's checker is disabled. -/
  | windowDirectWrite (c : Context) (w : Fin 256) (r : WinReg) (v : BitVec 32)
  /-- CHECKER_DISABLE (R237): a write of EN = 0 holds the context's requests from the next cycle. -/
  | checkerDisable (c : Context)
  /-- CHECKER_ENABLE (R238): a write of EN = 1 checks overlap and decoder fit, refusing or enabling the checker. -/
  | checkerEnable (c : Context)
  /-- CHECKER_ENABLED (R238): the checker becomes enabled and held requests are checked in arrival order. -/
  | checkerEnabled (c : Context)
  /-- CHECKER_HOLD_EXPIRED (R239): after 100 us disabled, HOLD_EXPIRED is set and held requests are answered. -/
  | checkerHoldExpired (c : Context)
  /-- SCRUB_BARRIER_CONFIRMED (R268): a 1 MiB scrub is confirmed by its barrier and journalled. -/
  | scrubBarrierConfirmed (p : Port)
  /-- SCRUB_WRITE_FAIL (R270): a failed scrub write quarantines the range and records a fault. -/
  | scrubWriteFail (p : Port)
  /-- TXN_IDLE_TIMEOUT (R276): an Open transaction idle for IDLE_TIMEOUT is rolled back. -/
  | txnIdleTimeout (t : Fin 4)
  /-- COMMIT_VALIDATED (R282): validation of a commit completes, refusing it or journalling it Prepared and staging it. -/
  | commitValidated (t : Fin 4)
  /-- RECALL_WALK_DONE (R332): every Ledger walk of a recall has ended and validation starts. -/
  | recallWalkDone (what : RecallOf)
  /-- HALF_APPLY (R290): a half receiving APPLY closes the affected ingresses. -/
  | halfApply (h : Half)
  /-- HALF_APPLY_QUIESCED (R290): pipelines drained, the half copies staged items, advances its epoch, reopens and reports APPLIED. -/
  | halfApplyQuiesced (h : Half) (ok : Bool)
  /-- APPLY_QUIESCE_TIMEOUT (R291): a half not at step 4 within 2 us restores its tables and reports APPLY_FAILED. -/
  | applyQuiesceTimeout (h : Half)
  /-- APPLIED_REPORT (R294): with both halves APPLIED the Hearth advances its epoch and the commit ends OK. -/
  | appliedReport (h : Half)
  /-- APPLY_FAILED_REPORT (R290): an APPLY_FAILED report leads to an undo commit or an Empty journal and FAULTED. -/
  | applyFailedReport (h : Half)
  /-- COMMIT_TIMEOUT (R294): a commit not completed 10 ms after APPLY ends with TIMEOUT. -/
  | commitTimeout (t : Fin 4)
  /-- CHARGE_REASSERT (R295): the Hearth re-asserts charge after a Flue link returns or a split is reported. -/
  | chargeReassert
  /-- CHARGE_RECEIVE (R295): a half receiving CHARGE with its own epoch and ID leaves Hold and clears SPLIT. -/
  | chargeReceive (h : Half)
  /-- EPOCH_MARK_SEND (R296): a half sends an epoch mark after every apply and at least every 10 us at Blaze. -/
  | epochMarkSend (h : Half)
  /-- HOME_REQUEST (R316): a Market request is accepted into the home engine's staging. -/
  | homeRequest (h : Half)
  /-- HOME_FLOW_START (R318): the next request for a line starts its flow, looking up the Ledger and snooping as needed. -/
  | homeFlowStart (h : Half) (ecc : Ecc)
  /-- LEDGER_FILL (R314): a Ledger entry read from memory fills the cache and the flow proceeds. -/
  | ledgerFill (h : Half) (what : LedgerRead) (entry : BitVec 64)
  /-- LEDGER_WAY_FREED (R314): a freed way of a full Busy set is taken by the earliest waiting miss. -/
  | ledgerWayFreed (h : Half)
  /-- SNOOP_RESPONSE (R318): a snoop response is collected by its flow, which may then complete. -/
  | snoopResponse (p : Port) (h : Half) (id : Nat) (kept : Bool)
  /-- HOME_WRITEBACK (R320): a writeback or clean eviction is applied at once on acceptance. -/
  | homeWriteback (h : Half)
  /-- SNOOP_TIMEOUT (R323): a missing snoop response answers the snoop, fences the host and records a fault. -/
  | snoopTimeout (h : Half) (id : Nat)
  /-- WB_GRACE_EXPIRY (R325): after WB_GRACE without a writeback the flow uses memory data. -/
  | wbGraceExpiry (h : Half) (id : Nat)
  /-- MIN_HOLD_EXPIRY (R327): HOLD_NS after an Exclusive grant a waiting flow may snoop the holder. -/
  | minHoldExpiry (h : Half) (id : Nat)
  /-- LEDGER_WAY_RETIRE (R315): LEDGER_GROUP.RETIRE stops a way taking entries and sets RETIRING. -/
  | ledgerWayRetire (h : Half) (g : Fin 192) (way : Fin 32)
  /-- LEDGER_WAY_RETIRE_DONE (R315): with no Busy entry left, the way is written back, invalidated and replaced by a spare. -/
  | ledgerWayRetireDone (h : Half) (g : Fin 192)
  /-- REGION_RECOVERY_DONE (R336): every entry of recovering slices rewritten as unknown, their bits clear and the command ends. -/
  | regionRecoveryDone (r : Fin 256)
  /-- COH_FLUSH (R341): COH_CTRL.FLUSH writes back every dirty Ledger entry of the half. -/
  | cohFlush (h : Half)
  /-- LEDGER_FLUSH_DONE (R341): the Ledger write-back ends and FLUSHING clears. -/
  | ledgerFlushDone (h : Half)
  /-- CH_START (R361): CH_CTRL.START on an Idle channel fetches the descriptor at CH_HEAD. -/
  | chStart (c : Fin 28)
  /-- CH_ABORT (R366): CH_CTRL.ABORT stops the channel and takes it to Idle. -/
  | chAbort (c : Fin 28)
  /-- CH_TRIGGER (R364): CH_CTRL.TRIGGER adds one trigger event. -/
  | chTrigger (c : Fin 28)
  /-- CH_PAUSE (R368): CH_CTRL.PAUSE pauses the channel at the next descriptor boundary. -/
  | chPause (c : Fin 28) (b : Bool)
  /-- DESCRIPTOR_FETCH (R349): a fetched descriptor is checked and started, or the channel halts on a fetch error. -/
  | descriptorFetch (c : Fin 28) (f : FetchIn)
  /-- PORTER_READ_RETURN (R354): source data enters the packing register and destination writes are issued. -/
  | porterReadReturn (c : Fin 28) (e : MemErr)
  /-- DESCRIPTOR_COMPLETE (R348): a descriptor completes, writing its status and raising events and interrupts. -/
  | descriptorComplete (c : Fin 28)
  /-- PORTER_LATE_WRITE_ERROR (R359): a write error after completion sets LATE_WRITE_ERR and fails the next barrier. -/
  | porterLateWriteError (c : Fin 28)
  /-- PORTER_DOORBELL (R362): a CH_DOORBELL write in At tail causes a re-read of the tail descriptor. -/
  | porterDoorbell (c : Fin 28) (v : BitVec 32)
  /-- TAIL_REREAD (R362): the re-read tail descriptor continues the chain if TAIL is now 0. -/
  | tailReread (c : Fin 28) (f : FetchIn)
  /-- PORTER_PACE_TIMER (R364): the channel timer adds a trigger event every PERIOD. -/
  | porterPaceTimer (c : Fin 28)
  /-- PORTER_RETIRE (R370): PORTER_RETIRE replaces an Idle logical channel's physical channel with a spare. -/
  | porterRetire (c : Fin 28)
  /-- RELOC_CHUNK_DELIVERED (R382): a chunk's barrier confirms and the new watermark is journalled. -/
  | relocChunkDelivered (x : Fin 8)
  /-- RELOC_JOURNAL_ACKED (R382): the journalled watermark is acknowledged and published to both halves. -/
  | relocJournalAcked (x : Fin 8)
  /-- WATERMARK_MESSAGE (R382): a half takes a new W and C, releasing held writes, and acknowledges. -/
  | watermarkMessage (x : Fin 8)
  /-- WATERMARK_ACK (R382): the other half's acknowledgement completes publication. -/
  | watermarkAck (x : Fin 8)
  /-- RELOC_SOURCE_DRAINED (R382): source-only writes to the next chunk have completed and its copy starts. -/
  | relocSourceDrained (x : Fin 8)
  /-- RELOC_CHUNK_FAILED (R385): a failed chunk chain is copied again, and after three failures the context stops. -/
  | relocChunkFailed (x : Fin 8)
  /-- MIRRORED_WRITE_COMPLETE (R379): both devices complete a paired write and one completion goes to the host. -/
  | mirroredWriteComplete (id : Nat)
  /-- RELOC_HANDOVER_DONE (R387): the old home has quiesced a slice and its commit may be validated. -/
  | relocHandoverDone (x : Fin 8)
  /-- HANDOVER_END_MARKER (R387): the end marker lets the new home accept requests for the slice. -/
  | handoverEndMarker (x : Fin 8)
  /-- RELOC_SOURCE_RELEASE (R389): after the commit and source writes drain, the source is released and the start ends OK. -/
  | relocSourceRelease (x : Fin 8)
  /-- RELOC_TARGET_FAILURE (R392): a held target or failed target write sets W = 0 and rolls back. -/
  | relocTargetFailure (x : Fin 8)
  /-- TAMPER_SIGNAL (R420): a tamper source wipes the sealed part and keys, latches and records a fault. -/
  | tamperSignal (n : Fin 4)
  /-- JTAG_ACCESS (R416): a JTAG instruction performs boundary scan, identity or debug functions as lock state allows. -/
  | jtagAccess (j : Jtag)
  /-- DEBUG_CTRL_LOCK (R418): DEBUG_CTRL.LOCK locks debug at once and clears UNLOCK_PENDING. -/
  | debugCtrlLock
  /-- SPDM_GET_MEASUREMENTS (R414): an SPDM requester receives the measurement indices. -/
  | spdmGetMeasurements (r : Requester) (index : BitVec 8)
  /-- SPDM_SESSION_MESSAGE (R103): an SPDM or IDE key-management message over Data Object Exchange is processed. -/
  | spdmSessionMessage (r : Requester) (m : SpdmMsg)
  /-- WESIS_VERIFIED (R555): background verification of the Wesis image passes and WESIS_OK is set. -/
  | wesisVerified
  /-- ECP_INVALID_PACKET (R425): a malformed ECP packet is discarded without reply and counted. -/
  | ecpInvalidPacket (src : Source)
  /-- MGMT_NETWORK_FRAME (R431): ARP, ICMP echo and neighbour discovery frames are answered; others ignored. -/
  | mgmtNetworkFrame (f : Frame)
  /-- FRAGMENT_REASSEMBLY_TIMEOUT (R431): incomplete IP fragments are discarded after 100 ms. -/
  | fragmentReassemblyTimeout (src ident : Nat)
  /-- PENDING_SESSION_EXPIRY (R436): a pending session expires 1 s after its challenge. -/
  | pendingSessionExpiry (id : Fin 65536)
  /-- SESSION_IDLE_TIMEOUT (R438): a session without a valid packet for SESSION_IDLE ends. -/
  | sessionIdleTimeout (id : Fin 65536)
  /-- CHALLENGE_LOCKOUT_END (R436): challenges from a locked-out source are accepted again after 60 s. -/
  | challengeLockoutEnd (src : Source)
  /-- OPERATION_STATUS_EXPIRY (R445): a terminal operation status expires after 256 newer ends and 600 s. -/
  | operationStatusExpiry (id : BitVec 32)
  /-- FM_IDENTIFY (R453): fabric-manager Identify, run as GET_IDENTITY. -/
  | fmIdentify (src : Source)
  /-- FM_BACKGROUND_OPERATION_STATUS (R453): fabric-manager Background Operation Status, run as GET_OPERATION. -/
  | fmBackgroundOperationStatus (src : Source)
  /-- FM_GET_RESPONSE_MESSAGE_LIMIT (R453): fabric-manager Get Response Message Limit, run as GET_SESSION. -/
  | fmGetResponseMessageLimit (src : Source)
  /-- FM_SET_RESPONSE_MESSAGE_LIMIT (R453): fabric-manager Set Response Message Limit, run as SET_REPLY_LIMIT. -/
  | fmSetResponseMessageLimit (src : Source) (limit : BitVec 32)
  /-- FM_IDENTIFY_SWITCH_DEVICE (R453): fabric-manager Identify Switch Device, run as GET_IDENTITY. -/
  | fmIdentifySwitchDevice (src : Source)
  /-- FM_GET_PHYSICAL_PORT_STATE (R453): fabric-manager Get Physical Port State, run as GET_PORT. -/
  | fmGetPhysicalPortState (src : Source) (p : Port)
  /-- FM_PHYSICAL_PORT_CONTROL (R118): fabric-manager Physical Port Control, run as SET_PORT_DISABLED or RESET_PORT. -/
  | fmPhysicalPortControl (src : Source) (p : Port) (op : PortControl)
  /-- FM_SEND_PPB_CONFIG_REQUEST (R453): fabric-manager Send PPB CXL.io Configuration Request. -/
  | fmSendPpbConfigRequest (src : Source) (p : Port) (addr : BitVec 64) (value reply : Option (BitVec 32))
  /-- FM_GET_VCS_INFO (R453): fabric-manager Get Virtual CXL Switch Info. -/
  | fmGetVcsInfo (src : Source) (p : Port)
  /-- FM_BIND_VPPB (R118): fabric-manager Bind vPPB, run as BIND_VPPB. -/
  | fmBindVppb (src : Source) (p : Port) (v : Vdsp) (t : BindTarget)
  /-- FM_UNBIND_VPPB (R453): fabric-manager Unbind vPPB, run as UNBIND_VPPB. -/
  | fmUnbindVppb (src : Source) (p : Port) (v : Vdsp)
  /-- FM_GENERATE_AER_EVENT (R453): fabric-manager Generate AER Event. -/
  | fmGenerateAerEvent (src : Source) (p : Port) (v : BitVec 32) (data : List Byte)
  /-- FM_TUNNEL_MANAGEMENT_COMMAND (R454): fabric-manager Tunnel Management Command, run as LD_MGMT_TUNNEL. -/
  | fmTunnelManagementCommand (src : Source) (p : Port) (c : TunnelCmd) (data : List Byte) (reply : Option (List Byte))
  /-- FM_SEND_LD_CONFIG_REQUEST (R453): fabric-manager Send LD CXL.io Configuration Request. -/
  | fmSendLdConfigRequest (src : Source) (p : Port) (ld : Fin 16) (addr : BitVec 52) (value reply : Option (BitVec 32))
  /-- FM_SEND_LD_MEMORY_REQUEST (R453): fabric-manager Send LD CXL.io Memory Request. -/
  | fmSendLdMemoryRequest (src : Source) (p : Port) (ld : Fin 16) (dpa : BitVec 52) (count : Fin 4001) (write : Bool) (data : List Byte)
  /-- FM_UNSUPPORTED_COMMAND (R117): any other fabric-manager command, or one from a source not enabled, is answered Unsupported. -/
  | fmUnsupportedCommand (src : Source) (opcode : BitVec 16)
  /-- CORE_RETIRE (R456): marks an active core for retirement at the next Hearth reset. -/
  | coreRetire (c : Fin 17)
  /-- WDT_KICK (R457): the value 0x0000_5A5A restarts the watchdog. -/
  | wdtKick (v : BitVec 32)
  /-- WATCHDOG_EXPIRY (R457): the watchdog expires, performing a Hearth-only reset and recording a fault. -/
  | watchdogExpiry
  /-- BANK_RETENTION_ENTRY (R461): a scratchpad bank with RETAIN idle for 64 us enters retention. -/
  | bankRetentionEntry (b : Fin 16)
  /-- BANK_RETENTION_WAKE (R461): an access to a retained bank wakes it and is served. -/
  | bankRetentionWake (b : Fin 16)
  /-- SOFT_REPAIR (R462): SP_REPAIR.REPAIR starts a soft column repair of a bank. -/
  | softRepair (b : Fin 16) (col : Fin 1024)
  /-- SOFT_REPAIR_DONE (R462): the repair rewrite completes and REPAIR_BUSY clears. -/
  | softRepairDone (b : Fin 16)
  /-- CORE_LOAD (R473): a core load takes its value from its store buffer or the target. -/
  | coreLoad (c : Fin 17) (addr : BitVec 64) (len : Fin 65) (e : MemErr)
  /-- CORE_STORE (R473): a core store enters the store buffer. -/
  | coreStore (c : Fin 17) (addr : BitVec 64) (data : List Byte) (posted : Bool)
  /-- STORE_BUFFER_ISSUE (R475): the oldest store-buffer entry is issued and retired, early or on effect. -/
  | storeBufferIssue (c : Fin 17)
  /-- STORE_TAKES_EFFECT (R471): a target applies a store, making it visible to every later access. -/
  | storeTakesEffect (t : Target)
  /-- FENCE (R477): a barrier waits until earlier stores take effect and loads return. -/
  | fence (c : Fin 17)
  /-- RESERVE_LOAD (R481): a reserve-load takes a reservation on a granule and reads it. -/
  | reserveLoad (c : Fin 17) (addr : BitVec 64) (len : Fin 65) (e : MemErr)
  /-- CONDITIONAL_STORE (R481): a conditional-store succeeds only if the reservation is intact. -/
  | conditionalStore (c : Fin 17) (addr : BitVec 64) (data : List Byte) (interrupted : Bool)
  /-- CM_IMPRECISE_CLR (R491): CLEAR clears VALID in CM_IMPRECISE_ADDR. -/
  | cmImpreciseClr
  /-- FC_CLEAR (R499): a source is cleared, ending its effects, and re-raised if its condition persists. -/
  | fcClear (n : Fin 1024)
  /-- FC_FORCE (R501): a FORCE write raises a source when the lifecycle or debug allows. -/
  | fcForce (n : Fin 1024) (b : Bool)
  /-- COLLECTOR_PARITY_ERROR (R506): a collector parity error drives the device into Ash in hardware. -/
  | collectorParityError (trusted : Bool)
  /-- PRES_LONG_ASSERT (R515): PRES_LONG asserted takes an Empty channel to Seating. -/
  | presLongAssert (n : SlotId)
  /-- PRES_LONG_DEASSERT (R517): PRES_LONG lost pulls the gates low and takes the channel to Empty. -/
  | presLongDeassert (n : SlotId)
  /-- PRES_SHORT_DEASSERT (R517): PRES_SHORT lost pulls the gates low, sets UNSEAT and takes the channel to Seating. -/
  | presShortDeassert (n : SlotId)
  /-- SEATING_DEBOUNCE_END (R516): both pins held 50 ms take the channel to Ready or Precharge. -/
  | seatingDebounceEnd (n : SlotId)
  /-- PRECHARGE_COMPLETE (R518): output within 0.5 V of the feed starts the ramp. -/
  | prechargeComplete (n : SlotId)
  /-- PRECHARGE_TIMEOUT (R518): precharge exceeding its timeout trips the channel. -/
  | prechargeTimeout (n : SlotId)
  /-- RAMP_COMPLETE (R519): at ramp end the channel enters On or trips with power-good lost. -/
  | rampComplete (n : SlotId) (within : Bool)
  /-- CURVE_TRIP (R522): a breaker counter exceeding its TK trips the channel. -/
  | curveTrip (n : SlotId)
  /-- FAST_TRIP (R523): the analogue comparator pulls the gates low on overcurrent. -/
  | fastTrip (n : SlotId)
  /-- BACKOFF_DEADLINE (R524): the backoff deadline returns a Tripped channel to Precharge. -/
  | backoffDeadline (n : SlotId)
  /-- SLOT_COOLDOWN_EXPIRY (R526): on or Empty held for COOLDOWN resets RETRIES and drops the deadline. -/
  | slotCooldownExpiry (n : SlotId)
  /-- PG_LOST_TRIP (R533): output 1 V below the feed for 10 us in On trips with power-good lost. -/
  | pgLostTrip (n : SlotId)
  /-- FEED_CLASS_CHANGE (R530): a feed enters or leaves sag, swell, dropout or ripple after its filter. -/
  | feedClassChange (f : Feed) (c : FeedClass) (enter : Bool)
  /-- PRIMARY_FEED_RETURN (R528): PRIMARY good for 100 ms moves the channel back to it. -/
  | primaryFeedReturn (n : SlotId)
  /-- FEED_DEAD_TIME_END (R529): after DEAD_TIME the new feed's gate turns on. -/
  | feedDeadTimeEnd (n : SlotId)
  /-- FEED_SWITCH_CHECK (R529): 100 us after a feed switch the output is checked, tripping on switch failure. -/
  | feedSwitchCheck (n : SlotId) (within : Bool)
  /-- SUPPLY_LOST_ENTRY (R531): no allowed feed or main supplies lost takes a powered channel to Supply lost. -/
  | supplyLostEntry (n : SlotId)
  /-- SUPPLY_RETURN (R532): supplies and a feed good for 1 ms take the channel to Precharge or Seating. -/
  | supplyReturn (n : SlotId)
  /-- BANK_REQ_RAISE (R534): PFAIL_N or persistent feed loss raises BANK_REQ and starts banking. -/
  | bankReqRaise (t : BankTrigger)
  /-- REARM (R535): FEED_CTRL.REARM clears BANK_REQ unless a trigger still holds. -/
  | rearm (pfailLow : Bool)
  /-- SLOT_CTRL_ON (R536): SLOT_CTRL.ON sets POWER_REQ. -/
  | slotCtrlOn (n : SlotId)
  /-- SLOT_CTRL_OFF (R536): SLOT_CTRL.OFF clears POWER_REQ and turns the gates off. -/
  | slotCtrlOff (n : SlotId)
  /-- CLEAR_LOCKOUT (R525): SLOT_CTRL.CLEAR_LOCKOUT releases Lockout by the pins. -/
  | clearLockout (n : SlotId)
  /-- GLOW_IDLE_EXPIRY (R541): with AUTO_GLOW, idleness for GLOW_IDLE enters Glow. -/
  | glowIdleExpiry (stay : List Port)
  /-- LADDER_EXIT_CAUSE (R541): an exit cause in Glow or Smoulder starts the return to Blaze. -/
  | ladderExitCause
  /-- LADDER_REACHES_BLAZE (R542): the half returns to Blaze and sends pool-state and epoch marks at once. -/
  | ladderReachesBlaze (h : Half)
  /-- GPF_RESPONSE (R544): a port answers a GPF phase. -/
  | gpfResponse (p : Port)
  /-- GPF_PHASE1_END (R544): phase 1 ends by answers or PHASE1, closing Host ingresses and quiescing homes. -/
  | gpfPhase1End
  /-- LEDGER_WRITEBACK_CUTOFF (R545): at half of PHASE2 an unfinished Ledger write-back stops with LEDGER_INCOMPLETE. -/
  | ledgerWritebackCutoff (h : Half)
  /-- GPF_PHASE2_END (R544): phase 2 ends by answers or PHASE2 and the image is written. -/
  | gpfPhase2End
  /-- BANK_IMAGE_SEAL (R547): the banking sections are written and the seal record made sealed. -/
  | bankImageSeal
  /-- KEEP_COPY_DONE (R553): the Keep copy and its GPF phase 2 complete or fail, and the device enters Banked. -/
  | keepCopyDone (e : KeepEnd)
  /-- MAIN_SUPPLY_LOST (R607): loss of the main supplies enters Ember. -/
  | mainSupplyLost
  /-- MAIN_SUPPLY_GOOD (R41): main supplies returning in Ember start kindling, or leave Ash. -/
  | mainSupplyGood (k : KindleIn)
  /-- VBANK_RISE (R608): VBANK becoming good leads to the cold reset. -/
  | vbankRise
  /-- VBANK_LOSS (R610): VBANK below 1.45 V for 10 us invalidates the Ember store. -/
  | vbankLoss
  /-- BANKED_WAKE (R557): a wake event in Banked starts kindling. -/
  | bankedWake (w : Wake) (k : KindleIn)
  /-- AUTO_KINDLE_TIMER (R557): trigger conditions ended for 50 ms with AUTO_KINDLE start kindling. -/
  | autoKindleTimer (k : KindleIn)
  /-- KINDLING_REACHES_BLAZE (R555): all bound links in L0, the seal record is set live and background verification starts. -/
  | kindlingReachesBlaze (fellBack : List Port)
  /-- PMU_RESET (R567): PMU_CTRL.RESET sets every counter of the unit to 0. -/
  | pmuReset (u : Fin 229)
  /-- PMU_FREEZE (R566): PMU_CTRL.FREEZE stops or starts the unit's counters. -/
  | pmuFreeze (u : Fin 229) (b : Bool)
  /-- FREEZE_ALL (R569): PMU_GLOBAL.FREEZE_ALL stops or starts every counter unit. -/
  | freezeAll (b : Bool)
  /-- RESET_ALL (R567): PMU_GLOBAL.RESET_ALL sets every counter to 0. -/
  | resetAll
  /-- COUNTER_OVERFLOW (R566): a 48-bit counter wraps, sets PMU_OVF and may interrupt. -/
  | counterOverflow (u : Fin 229) (n : Fin 8) (rest : BitVec 48)
  /-- SNAPSHOT_TAKE (R570): each PERIOD East latches its snapshot units and sends a mark. -/
  | snapshotTake
  /-- SNAPSHOT_MARK_RECEIVE (R570): west latches its snapshot units on the mark and the record is written. -/
  | snapshotMarkReceive
  /-- WEAR_SAMPLE (R578): firmware samples a wear source and acts on thresholds. -/
  | wearSample (kind : Fin 8) (element : BitVec 16) (value : BitVec 32) (grave : Bool)
  /-- HOST_COUNTER_REFRESH (R575): firmware refreshes the host-visible Stall counters at least every 1 ms. -/
  | hostCounterRefresh (st : StallId)
  /-- IA_PENDING_CLEAR (R597): a write of 1 to IA_PENDING clears a latched source. -/
  | iaPendingClear (n : Fin 2048)
  /-- IA_SOFT_SET (R597): IA_SOFT.SET makes a software source pending. -/
  | iaSoftSet (n : Fin 2048)
  /-- IA_SOFT_CLEAR (R597): IA_SOFT.CLEAR clears a software source. -/
  | iaSoftClear (n : Fin 2048)
  /-- KCLK_CALIBRATION_REFRESH (R592): every 1,024 KCLK cycles CLK_KCLK_CAL is refreshed. -/
  | kclkCalibrationRefresh (v : BitVec 32)
  /-- PORT_LEAVES_L0 (R147): the partner or the line takes a link out of L0 into Recovery, hot reset or Detect, pausing or downing the link layer and interrupting margining. -/
  | portLeavesL0 (p : Port) (k : LeaveKind)
  /-- PARTNER_LINK_CREDITS (R205): link credits returned by the partner of a CXL or PCIe port make a queue head eligible again at the egress. -/
  | partnerLinkCredits (p : Port) (covered : BitVec 4)
  /-- TAMPER_SOURCE_END (R422): a tamper source stops signalling, such as TAMPER_N rising, clearing its TAMPER_ACTIVE bit and the lasting condition of source 789. -/
  | tamperSourceEnd (n : Fin 4)
  /-- WARM_RESET_DEFER_LIMIT (R302): a warm reset deferred for a journal phase or a Ledger write-back reaches its limit of 100 us or 2 ms and proceeds. -/
  | warmResetDeferLimit
  /-- POWER_RUNG_REACHED (R541): a commanded entry to Glow or Smoulder reaches its rung, once the links have entered L0p or L1, and the SET_POWER_STATE operation ends OK. -/
  | powerRungReached (stay : List Port)
  /-- XSPI_OPERATION_COMPLETE (R593): the xSPI controller completes a flash operation and raises latched interrupt source 267. -/
  | xspiOperationComplete
deriving DecidableEq, Repr

end Sys2Proof
end

