-- ==== Sys2Proof/Decode.lean ====
section
/-!
DEFINITION. The commands that words spell. No row of the opcode table gives its command any bits, so no word
spells a command (log entry 1).
-/
namespace Sys2Proof

/-- The command that a word of `nbits` bits spells by the table's bits: none, since no row gives bits. -/
def decodeTableWord (_nbits _w : Nat) : Option Instr := none

end Sys2Proof
end

