-- ==== Sys2Proof/Machine/RegMap.lean ====
section
/-!
DEFINITION. The registers of the device, one name each (the Register Map chapter, R585 to R599, and the register
tables of the chapters it indexes). `Reg` names a register, `Key` one register of an array (two indices, 0 where the
register has none), `F` the fields, `Reg.rows` the addresses, `Reg.fields` the access code of R13 and the encodings
that are used (R20), `Reg.reset` the value of R18. Arrays that the manual spells register by register are one name
with an index: Q_OCC (R201), SLOT_CURVE (R539), HALF_EPOCH, HALF_COMMIT, HALF_STATE, HALF_STALE (R304, index 0 East,
1 West), REGION_FENCED (R340), SLOT_SUMMARY (R538). SLOT_STATE of R304 is TXSLOT_STATE here. The link-layer
registers LL_* hold the Cascade ports at index 0 to 95 and Seam channel c of half h at 96 + 8 h + c (R162).
-/
namespace Sys2Proof.Machine

/-- The register names, in the order of the chapters. -/
inductive Reg where
  | PHY_CTRL
  | PHY_STATUS
  | PARTNER_RATES
  | DETECT_FAILS
  | LOOPBACK_CTRL
  | TEST_CTRL
  | MARGIN_CTRL
  | MARGIN_STATUS
  | BOND_CTRL
  | LANE_RETIRE
  | LANE_STATUS
  | LANE_TXEQ
  | LANE_RXEQ
  | LANE_DFE0
  | LANE_DFE1
  | LANE_DFE2
  | LANE_ERR
  | LANE_SLIP
  | LANE_EQ_RECORD
  | PORT_CFG
  | PORT_STATUS
  | PORT_SLOT
  | CXL_TIMEOUT
  | IDE_CTRL
  | IDE_STATUS
  | PORT_ERR
  | LATE_RESP_COUNT
  | POISON_COUNT
  | LL_CTRL
  | LL_STATUS
  | LL_REPLAY
  | LL_ADV_REQ
  | LL_ADV_RSP
  | LL_AVAIL_REQ
  | LL_AVAIL_RSP
  | LL_COMPAT
  | LL_ERR
  | LL_CRC_COUNT
  | LL_REPLAY_COUNT
  | LL_INJECT
  | LL_INJECT_N
  | LL_INJECT_MASK
  | LL_INJECT_STATUS
  | BUF_CFG
  | BUF_RSP_HEADROOM
  | BUF_MGMT_RESERVE
  | BUF_SEAM_RESERVE
  | BUF_ACTIVE_CELLS
  | BUF_SHARED_SIZE
  | BUF_SHARED_USED
  | BUF_STATUS
  | HDR_FREE
  | HDR_QUEUE_CAP
  | CENSUS_CFG
  | CENSUS_STATUS
  | LEAK_COUNT
  | BUF_ERR
  | BUF_CE_COUNT
  | MIRROR_MAX
  | MIRROR_FLOOR
  | WRITE_STALL_COUNT
  | READ_DEFER_COUNT
  | Q_RX_RESERVE
  | Q_MIN
  | Q_ALPHA
  | Q_OCC
  | Q_HOLD
  | Q_RX_INFORCE
  | Q_ADMIT_WAIT
  | MIR_CTRL
  | MIR_MATCH
  | MIR_RING_BASE
  | MIR_RING_SIZE
  | MIR_PROD_ADDR
  | MIR_COUNT
  | MIR_DROP
  | MIR_OFFSET
  | BANK_CTRL
  | BANK_CE
  | BANK_UE
  | METER_CTRL
  | METER_CIR
  | METER_PIR
  | METER_BURST
  | METER_LEVEL
  | METER_GREEN
  | METER_YELLOW
  | METER_RED
  | BULK_SHAPE
  | BULK_CREDIT
  | BULK_STATUS
  | HIST_CTRL
  | DEPTH_HIST
  | DELAY_HIST
  | WIN_BASE
  | WIN_SIZE
  | WIN_ATTR
  | CHK_CTRL
  | CHK_HELD
  | CHK_NOMATCH
  | CHK_DENIED
  | CHK_LAST_ADDR
  | DEC_CTRL
  | DEC_BASE
  | DEC_SIZE
  | DEC_OFFSET
  | DEC_STATE
  | STALL_CTRL
  | STALL_BIND
  | STALL_LAYOUT
  | STALL_STATE
  | STALL_SERIAL
  | STALL_DRAIN
  | STALL_OUTSTANDING
  | STALL_SQUASHED
  | STALL_LATE
  | STALL_SLICE
  | SCRUB_ACTIVE
  | SCRUB_QUARANTINED
  | EPOCH
  | COMMIT_ID
  | TXN_CTRL
  | COMMIT_STATUS
  | TXSLOT_STATE
  | SLOT_COUNT
  | SLOT_BASE_EPOCH
  | SLOT_LAST_ITEM
  | HALF_EPOCH
  | HALF_COMMIT
  | HALF_STATE
  | HALF_STALE
  | JOURNAL_PHASE
  | JOURNAL_EPOCH
  | JOURNAL_ID
  | REGION_CTRL
  | REGION_LAYOUT
  | REGION_STATUS
  | SNOOP_ABSENT
  | REGION_FENCED
  | REGION_SLICE
  | REGION_LEDGER
  | COH_CTRL
  | COH_STATUS
  | LEDGER_HIT
  | LEDGER_MISS
  | SNOOPS_SENT
  | SPEC_ISSUED
  | SPEC_DISCARDED
  | LEDGER_WRITEBACKS
  | COH_EVENTS
  | COH_ERR
  | LEDGER_GROUP
  | MKT_CREDITS
  | MKT_OUTSTANDING
  | CH_CTRL
  | CH_STATUS
  | CH_HEAD
  | CH_CUR
  | CH_DOORBELL
  | CH_SEEN
  | CH_CFG
  | CH_PACE
  | CH_ERR
  | CH_ERR_ADDR
  | CH_DONE_COUNT
  | CH_CELLS
  | PORTER_MAP
  | PORTER_PHYS
  | PORTER_RETIRE
  | RELOC_CTRL
  | RELOC_OBJECT
  | RELOC_SRC
  | RELOC_DST
  | RELOC_LEDGER
  | RELOC_STATE
  | RELOC_CHUNKS
  | RELOC_WATERMARK
  | RELOC_IN_COPY
  | RELOC_HELD
  | RELOC_MIRRORED
  | RELOC_RETRIES
  | RELOC_REVERSE
  | RELOC_PEER_WATERMARK
  | RELOC_PEER_IN_COPY
  | LC_STATE
  | ISO_STATUS
  | DEBUG_STATUS
  | DEBUG_CTRL
  | TAMPER_STATUS
  | TAMPER_ACTIVE
  | BOOT_STATUS
  | FW_SECURITY
  | WIPES
  | SEALED_DENIED
  | AUDIT_COUNT
  | CORE_ACTIVE
  | CORE_RETIRED
  | CORE_RETIRE
  | WDT_CTRL
  | WDT_KICK
  | WDT_RESETS
  | SP_BANK_CTRL
  | SP_BANK_CE
  | SP_BANK_UE
  | SP_REPAIR
  | SP_CONFLICT
  | FLUE_STATUS
  | FLUE_ERR
  | FLUE_POSTED_ADDR
  | FLUE_POSTED_COUNT
  | FLUE_TIMEOUT_COUNT
  | CM_EARLY_ACK
  | CM_IMPRECISE_COUNT
  | CM_IMPRECISE_ADDR
  | CM_IMPRECISE_CLR
  | CM_RESV_FAILS
  | FC_SRC
  | FC_STATUS
  | FC_DOUSED
  | FC_CLEAR
  | FC_RING_HEAD
  | FC_RING_SEQ
  | FC_RECORD_LOST
  | FC_TIME
  | FC_LATCHED_MAP
  | FEED_CFG
  | FEED_LEVELS
  | FEED_LEVELS2
  | FEED_STATUS
  | FEED_V
  | FEED_ERR
  | FEED_EVENTS
  | FEED_CTRL
  | SLOT_SUMMARY
  | SLOT_CTRL
  | SLOT_STATE
  | SLOT_GATE
  | SLOT_FEED
  | SLOT_FAST
  | SLOT_CURVE
  | SLOT_I
  | SLOT_V
  | SLOT_ERR
  | SLOT_TRIPS
  | PWR_STATE
  | PWR_CTRL
  | BANK_BUDGET
  | BANK_STATUS
  | BANK_ERR
  | BANK_TIMES
  | BANK_SEAL_TIME
  | FLUSH_MISSED_HOST
  | FLUSH_MISSED_PORT
  | KEEP_CTRL
  | KEEP_BASE
  | KINDLE_STATUS
  | KINDLE_TIME
  | BANK_GENERATION
  | PMU_DIR
  | PMU_CTRL
  | PMU_OVF
  | PMU_CYCLE
  | PMU_EVSEL
  | PMU_COUNT
  | SNAP_CTRL
  | SNAP_RING_BASE
  | SNAP_RING_COUNT
  | SNAP_HEAD
  | SNAP_MISSED
  | PMU_GLOBAL
  | WEAR_LEDGER_CE
  | WEAR_SP_COLUMN
  | WEAR_POLICY
  | STALL_RD
  | STALL_WR
  | STALL_IO
  | STALL_POISON
  | ID_DEVICE
  | ID_REVISION
  | ID_SERIAL
  | ID_GRADE
  | ID_EMULATED
  | ID_EMULATED2
  | ID_JTAG
  | RST_CTRL
  | RST_STATUS
  | RST_CAUSE
  | RST_COUNT
  | RST_REFUSED
  | CLK_STATUS
  | CLK_GROUP_LOCK
  | CLK_LOSS
  | CLK_KCLK_CAL
  | IA_PENDING
  | IA_ENABLE
  | IA_SOFT
  | IA_CLAIM
  | IA_ROUTE
deriving DecidableEq, Repr

/-- One register: its name and its indices (port, half, Stall, context; lane, window, slice). -/
structure Key where
  reg : Reg
  i : Nat
  j : Nat
deriving DecidableEq, Repr

/-- The strict order of register keys that the canonical form of the register file follows. -/
def Key.lt (a b : Key) : Bool :=
  a.reg.ctorIdx < b.reg.ctorIdx ||
    (a.reg.ctorIdx == b.reg.ctorIdx && (a.i < b.i || (a.i == b.i && a.j < b.j)))

/-- The access codes of R13. RWS and RWT carry what R16 and R17 say. -/
inductive Acc where
  | RO | RW | W1C | WO | RC | RWS | RWT
deriving DecidableEq, Repr

/-- A field of a register: its lowest bit and its width. -/
structure Fld where
  reg : Reg
  lo : Nat
  w : Nat
deriving DecidableEq, Repr

/-- A field with its access code and, where some encodings are unused (R20), the inclusive ranges that are used. -/
structure FSpec where
  lo : Nat
  w : Nat
  acc : Acc
  used : List (Nat × Nat) := []
deriving DecidableEq, Repr

/-- Which index a dimension of an address block feeds: none (the block is the same in both halves), the first or the
second index of the key. -/
inductive Axis where
  | shared | first | second
deriving DecidableEq, Repr

/-- One dimension of a register array: how many, and how far apart in bytes. -/
structure Dim where
  n : Nat
  stride : Nat
  axis : Axis
deriving DecidableEq, Repr

/-- One run of addresses of a register. -/
structure Row where
  reg : Reg
  base : Nat
  dims : List Dim
  i0 : Nat := 0
deriving DecidableEq, Repr

/-! The fields, `F.<register>_<field>`; a register the table describes as one value has the field V. -/
namespace F
def PHY_CTRL_SRIS : Fld := ⟨.PHY_CTRL, 27, 1⟩
def PHY_CTRL_EQ_BYPASS_EN : Fld := ⟨.PHY_CTRL, 26, 1⟩
def PHY_CTRL_SAVE_EQ : Fld := ⟨.PHY_CTRL, 25, 1⟩
def PHY_CTRL_RETRAIN : Fld := ⟨.PHY_CTRL, 24, 1⟩
def PHY_CTRL_MAX_RATE : Fld := ⟨.PHY_CTRL, 21, 3⟩
def PHY_CTRL_MAX_WIDTH : Fld := ⟨.PHY_CTRL, 19, 2⟩
def PHY_CTRL_LANE_REV_EN : Fld := ⟨.PHY_CTRL, 18, 1⟩
def PHY_CTRL_TEST_MODE : Fld := ⟨.PHY_CTRL, 16, 2⟩
def PHY_STATUS_CUR_RATE : Fld := ⟨.PHY_STATUS, 26, 3⟩
def PHY_STATUS_CUR_WIDTH : Fld := ⟨.PHY_STATUS, 21, 5⟩
def PHY_STATUS_BYPASS_USED : Fld := ⟨.PHY_STATUS, 20, 1⟩
def PHY_STATUS_REVERSED : Fld := ⟨.PHY_STATUS, 19, 1⟩
def PHY_STATUS_REFCLK_LOST : Fld := ⟨.PHY_STATUS, 18, 1⟩
def PHY_STATUS_RATE_FAILED : Fld := ⟨.PHY_STATUS, 8, 7⟩
def PHY_STATUS_LINK_STATE : Fld := ⟨.PHY_STATUS, 0, 5⟩
def PARTNER_RATES_V : Fld := ⟨.PARTNER_RATES, 0, 7⟩
def DETECT_FAILS_V : Fld := ⟨.DETECT_FAILS, 0, 16⟩
def LOOPBACK_CTRL_REFUSED : Fld := ⟨.LOOPBACK_CTRL, 31, 1⟩
def LOOPBACK_CTRL_FOLLOW_EN : Fld := ⟨.LOOPBACK_CTRL, 2, 1⟩
def LOOPBACK_CTRL_MODE : Fld := ⟨.LOOPBACK_CTRL, 0, 2⟩
def TEST_CTRL_CHK_EN : Fld := ⟨.TEST_CTRL, 4, 1⟩
def TEST_CTRL_GEN_EN : Fld := ⟨.TEST_CTRL, 3, 1⟩
def TEST_CTRL_PATTERN : Fld := ⟨.TEST_CTRL, 0, 3⟩
def MARGIN_CTRL_START : Fld := ⟨.MARGIN_CTRL, 31, 1⟩
def MARGIN_CTRL_LANE : Fld := ⟨.MARGIN_CTRL, 28, 3⟩
def MARGIN_CTRL_AXIS : Fld := ⟨.MARGIN_CTRL, 27, 1⟩
def MARGIN_CTRL_DIRECTION : Fld := ⟨.MARGIN_CTRL, 26, 1⟩
def MARGIN_CTRL_ERR_LIMIT : Fld := ⟨.MARGIN_CTRL, 16, 6⟩
def MARGIN_CTRL_STEPS : Fld := ⟨.MARGIN_CTRL, 0, 6⟩
def MARGIN_STATUS_BUSY : Fld := ⟨.MARGIN_STATUS, 31, 1⟩
def MARGIN_STATUS_INTERRUPTED : Fld := ⟨.MARGIN_STATUS, 30, 1⟩
def MARGIN_STATUS_ERRORS : Fld := ⟨.MARGIN_STATUS, 16, 6⟩
def MARGIN_STATUS_LAST_STEP : Fld := ⟨.MARGIN_STATUS, 0, 6⟩
def BOND_CTRL_BOND_ACTIVE : Fld := ⟨.BOND_CTRL, 1, 1⟩
def BOND_CTRL_BOND : Fld := ⟨.BOND_CTRL, 0, 1⟩
def LANE_RETIRE_RETIRE_BUSY : Fld := ⟨.LANE_RETIRE, 8, 1⟩
def LANE_RETIRE_RETIRED : Fld := ⟨.LANE_RETIRE, 0, 8⟩
def LANE_STATUS_POL_INV : Fld := ⟨.LANE_STATUS, 31, 1⟩
def LANE_STATUS_IN_USE : Fld := ⟨.LANE_STATUS, 30, 1⟩
def LANE_STATUS_ELASTIC_ERR : Fld := ⟨.LANE_STATUS, 29, 1⟩
def LANE_STATUS_LOGICAL : Fld := ⟨.LANE_STATUS, 16, 7⟩
def LANE_TXEQ_CM2 : Fld := ⟨.LANE_TXEQ, 24, 6⟩
def LANE_TXEQ_CM1 : Fld := ⟨.LANE_TXEQ, 16, 6⟩
def LANE_TXEQ_C0 : Fld := ⟨.LANE_TXEQ, 8, 6⟩
def LANE_TXEQ_CP1 : Fld := ⟨.LANE_TXEQ, 0, 6⟩
def LANE_RXEQ_FREEZE : Fld := ⟨.LANE_RXEQ, 31, 1⟩
def LANE_RXEQ_LF : Fld := ⟨.LANE_RXEQ, 8, 3⟩
def LANE_RXEQ_CTLE : Fld := ⟨.LANE_RXEQ, 0, 6⟩
def LANE_DFE0_TAP1 : Fld := ⟨.LANE_DFE0, 0, 8⟩
def LANE_DFE0_TAP2 : Fld := ⟨.LANE_DFE0, 8, 8⟩
def LANE_DFE0_TAP3 : Fld := ⟨.LANE_DFE0, 16, 8⟩
def LANE_DFE0_TAP4 : Fld := ⟨.LANE_DFE0, 24, 8⟩
def LANE_DFE1_TAP5 : Fld := ⟨.LANE_DFE1, 0, 8⟩
def LANE_DFE1_TAP6 : Fld := ⟨.LANE_DFE1, 8, 8⟩
def LANE_DFE1_TAP7 : Fld := ⟨.LANE_DFE1, 16, 8⟩
def LANE_DFE1_TAP8 : Fld := ⟨.LANE_DFE1, 24, 8⟩
def LANE_DFE2_TAP9 : Fld := ⟨.LANE_DFE2, 0, 8⟩
def LANE_DFE2_TAP10 : Fld := ⟨.LANE_DFE2, 8, 8⟩
def LANE_DFE2_TAP11 : Fld := ⟨.LANE_DFE2, 16, 8⟩
def LANE_DFE2_TAP12 : Fld := ⟨.LANE_DFE2, 24, 8⟩
def LANE_ERR_V : Fld := ⟨.LANE_ERR, 0, 16⟩
def LANE_SLIP_ERR_COUNT : Fld := ⟨.LANE_SLIP, 16, 16⟩
def LANE_SLIP_PRBS_LOCK : Fld := ⟨.LANE_SLIP, 8, 1⟩
def LANE_SLIP_SLIP_POS : Fld := ⟨.LANE_SLIP, 0, 7⟩
def LANE_EQ_RECORD_V : Fld := ⟨.LANE_EQ_RECORD, 0, 32⟩
def PORT_CFG_IDE_REQUIRED : Fld := ⟨.PORT_CFG, 16, 1⟩
def PORT_CFG_HOST_ID : Fld := ⟨.PORT_CFG, 9, 7⟩
def PORT_CFG_LO_FLIT_EN : Fld := ⟨.PORT_CFG, 7, 1⟩
def PORT_CFG_FLIT68_EN : Fld := ⟨.PORT_CFG, 6, 1⟩
def PORT_CFG_ROLE : Fld := ⟨.PORT_CFG, 2, 4⟩
def PORT_STATUS_CXL_ACTIVE : Fld := ⟨.PORT_STATUS, 31, 1⟩
def PORT_STATUS_HELD : Fld := ⟨.PORT_STATUS, 30, 1⟩
def PORT_STATUS_BI_SUPPORTED : Fld := ⟨.PORT_STATUS, 29, 1⟩
def PORT_STATUS_LOW_RATE : Fld := ⟨.PORT_STATUS, 28, 1⟩
def PORT_STATUS_FLIT : Fld := ⟨.PORT_STATUS, 26, 2⟩
def PORT_STATUS_PARTNER_LDS : Fld := ⟨.PORT_STATUS, 16, 5⟩
def PORT_STATUS_ROLE_ACTIVE : Fld := ⟨.PORT_STATUS, 0, 4⟩
def PORT_SLOT_VALID : Fld := ⟨.PORT_SLOT, 31, 1⟩
def PORT_SLOT_SLOT : Fld := ⟨.PORT_SLOT, 0, 6⟩
def CXL_TIMEOUT_IO : Fld := ⟨.CXL_TIMEOUT, 16, 16⟩
def CXL_TIMEOUT_MEM : Fld := ⟨.CXL_TIMEOUT, 0, 16⟩
def IDE_CTRL_SKID : Fld := ⟨.IDE_CTRL, 1, 1⟩
def IDE_CTRL_EN : Fld := ⟨.IDE_CTRL, 0, 1⟩
def IDE_STATUS_RX : Fld := ⟨.IDE_STATUS, 30, 2⟩
def IDE_STATUS_TX : Fld := ⟨.IDE_STATUS, 28, 2⟩
def IDE_STATUS_ROLLOVERS : Fld := ⟨.IDE_STATUS, 16, 8⟩
def IDE_STATUS_MAC : Fld := ⟨.IDE_STATUS, 0, 16⟩
def PORT_ERR_VIRAL_RX : Fld := ⟨.PORT_ERR, 7, 1⟩
def PORT_ERR_IDE_FAIL : Fld := ⟨.PORT_ERR, 6, 1⟩
def PORT_ERR_MEM_TIMEOUT : Fld := ⟨.PORT_ERR, 5, 1⟩
def PORT_ERR_IO_TIMEOUT : Fld := ⟨.PORT_ERR, 4, 1⟩
def PORT_ERR_LATE_RESP : Fld := ⟨.PORT_ERR, 3, 1⟩
def PORT_ERR_POISON_RX : Fld := ⟨.PORT_ERR, 2, 1⟩
def PORT_ERR_LOW_RATE : Fld := ⟨.PORT_ERR, 1, 1⟩
def PORT_ERR_NEG_FAIL : Fld := ⟨.PORT_ERR, 0, 1⟩
def LATE_RESP_COUNT_V : Fld := ⟨.LATE_RESP_COUNT, 0, 16⟩
def POISON_COUNT_V : Fld := ⟨.POISON_COUNT, 0, 32⟩
def LL_CTRL_REPLAY_TIMER : Fld := ⟨.LL_CTRL, 16, 6⟩
def LL_CTRL_ACK_TIMER : Fld := ⟨.LL_CTRL, 8, 8⟩
def LL_CTRL_ACK_COALESCE : Fld := ⟨.LL_CTRL, 0, 8⟩
def LL_STATUS_STATE : Fld := ⟨.LL_STATUS, 29, 3⟩
def LL_STATUS_RETIRING : Fld := ⟨.LL_STATUS, 28, 1⟩
def LL_STATUS_SEQ : Fld := ⟨.LL_STATUS, 16, 12⟩
def LL_STATUS_EXPECTED : Fld := ⟨.LL_STATUS, 0, 12⟩
def LL_REPLAY_UNACKED : Fld := ⟨.LL_REPLAY, 16, 10⟩
def LL_REPLAY_LAST_ACK : Fld := ⟨.LL_REPLAY, 0, 12⟩
def LL_ADV_REQ_HDR : Fld := ⟨.LL_ADV_REQ, 16, 11⟩
def LL_ADV_REQ_DATA : Fld := ⟨.LL_ADV_REQ, 0, 11⟩
def LL_ADV_RSP_HDR : Fld := ⟨.LL_ADV_RSP, 16, 11⟩
def LL_ADV_RSP_DATA : Fld := ⟨.LL_ADV_RSP, 0, 11⟩
def LL_AVAIL_REQ_HDR : Fld := ⟨.LL_AVAIL_REQ, 16, 11⟩
def LL_AVAIL_REQ_DATA : Fld := ⟨.LL_AVAIL_REQ, 0, 11⟩
def LL_AVAIL_RSP_HDR : Fld := ⟨.LL_AVAIL_RSP, 16, 11⟩
def LL_AVAIL_RSP_DATA : Fld := ⟨.LL_AVAIL_RSP, 0, 11⟩
def LL_COMPAT_XON_HYST : Fld := ⟨.LL_COMPAT, 16, 11⟩
def LL_COMPAT_XOFF_THRESH : Fld := ⟨.LL_COMPAT, 0, 11⟩
def LL_ERR_OVERRUN : Fld := ⟨.LL_ERR, 7, 1⟩
def LL_ERR_PROTO : Fld := ⟨.LL_ERR, 6, 1⟩
def LL_ERR_INIT_TIMEOUT : Fld := ⟨.LL_ERR, 5, 1⟩
def LL_ERR_REPLAY_LIMIT : Fld := ⟨.LL_ERR, 4, 1⟩
def LL_ERR_RETIRE_FAIL : Fld := ⟨.LL_ERR, 3, 1⟩
def LL_ERR_MSG_BAD : Fld := ⟨.LL_ERR, 2, 1⟩
def LL_ERR_SEQ_GAP : Fld := ⟨.LL_ERR, 1, 1⟩
def LL_ERR_CRC : Fld := ⟨.LL_ERR, 0, 1⟩
def LL_CRC_COUNT_V : Fld := ⟨.LL_CRC_COUNT, 0, 16⟩
def LL_REPLAY_COUNT_V : Fld := ⟨.LL_REPLAY_COUNT, 0, 16⟩
def LL_INJECT_ARM : Fld := ⟨.LL_INJECT, 31, 1⟩
def LL_INJECT_REPEAT : Fld := ⟨.LL_INJECT, 30, 1⟩
def LL_INJECT_KIND : Fld := ⟨.LL_INJECT, 28, 1⟩
def LL_INJECT_WORD : Fld := ⟨.LL_INJECT, 16, 7⟩
def LL_INJECT_MODE : Fld := ⟨.LL_INJECT, 0, 3⟩
def LL_INJECT_N_N : Fld := ⟨.LL_INJECT_N, 0, 16⟩
def LL_INJECT_MASK_MASK : Fld := ⟨.LL_INJECT_MASK, 0, 32⟩
def LL_INJECT_STATUS_V : Fld := ⟨.LL_INJECT_STATUS, 0, 16⟩
def BUF_CFG_YELLOW_PCT : Fld := ⟨.BUF_CFG, 0, 8⟩
def BUF_RSP_HEADROOM_V : Fld := ⟨.BUF_RSP_HEADROOM, 0, 20⟩
def BUF_MGMT_RESERVE_V : Fld := ⟨.BUF_MGMT_RESERVE, 0, 16⟩
def BUF_SEAM_RESERVE_V : Fld := ⟨.BUF_SEAM_RESERVE, 0, 20⟩
def BUF_ACTIVE_CELLS_V : Fld := ⟨.BUF_ACTIVE_CELLS, 0, 20⟩
def BUF_SHARED_SIZE_V : Fld := ⟨.BUF_SHARED_SIZE, 0, 20⟩
def BUF_SHARED_USED_V : Fld := ⟨.BUF_SHARED_USED, 0, 20⟩
def BUF_STATUS_OWN_CLOSED : Fld := ⟨.BUF_STATUS, 31, 1⟩
def BUF_STATUS_PEER_CLOSED : Fld := ⟨.BUF_STATUS, 30, 1⟩
def BUF_STATUS_PEER_STALE : Fld := ⟨.BUF_STATUS, 29, 1⟩
def HDR_FREE_V : Fld := ⟨.HDR_FREE, 0, 19⟩
def HDR_QUEUE_CAP_V : Fld := ⟨.HDR_QUEUE_CAP, 0, 19⟩
def CENSUS_CFG_RUN_NOW : Fld := ⟨.CENSUS_CFG, 31, 1⟩
def CENSUS_CFG_INTERVAL : Fld := ⟨.CENSUS_CFG, 0, 16⟩
def CENSUS_STATUS_BUSY : Fld := ⟨.CENSUS_STATUS, 31, 1⟩
def CENSUS_STATUS_COUNT : Fld := ⟨.CENSUS_STATUS, 0, 16⟩
def LEAK_COUNT_HEADERS : Fld := ⟨.LEAK_COUNT, 16, 16⟩
def LEAK_COUNT_CELLS : Fld := ⟨.LEAK_COUNT, 0, 16⟩
def BUF_ERR_LINK_UE : Fld := ⟨.BUF_ERR, 5, 1⟩
def BUF_ERR_HDR_UE : Fld := ⟨.BUF_ERR, 4, 1⟩
def BUF_ERR_DATA_UE : Fld := ⟨.BUF_ERR, 3, 1⟩
def BUF_ERR_CRC_MISMATCH : Fld := ⟨.BUF_ERR, 2, 1⟩
def BUF_ERR_DOUBLE_REF : Fld := ⟨.BUF_ERR, 1, 1⟩
def BUF_ERR_LEAK : Fld := ⟨.BUF_ERR, 0, 1⟩
def BUF_CE_COUNT_V : Fld := ⟨.BUF_CE_COUNT, 0, 32⟩
def MIRROR_MAX_V : Fld := ⟨.MIRROR_MAX, 0, 20⟩
def MIRROR_FLOOR_V : Fld := ⟨.MIRROR_FLOOR, 0, 20⟩
def WRITE_STALL_COUNT_V : Fld := ⟨.WRITE_STALL_COUNT, 0, 32⟩
def READ_DEFER_COUNT_V : Fld := ⟨.READ_DEFER_COUNT, 0, 32⟩
def Q_RX_RESERVE_V : Fld := ⟨.Q_RX_RESERVE, 0, 16⟩
def Q_MIN_BULK : Fld := ⟨.Q_MIN, 24, 8⟩
def Q_MIN_REQUEST : Fld := ⟨.Q_MIN, 16, 8⟩
def Q_MIN_RESPONSE : Fld := ⟨.Q_MIN, 8, 8⟩
def Q_MIN_MANAGEMENT : Fld := ⟨.Q_MIN, 0, 8⟩
def Q_ALPHA_BULK : Fld := ⟨.Q_ALPHA, 12, 4⟩
def Q_ALPHA_REQUEST : Fld := ⟨.Q_ALPHA, 8, 4⟩
def Q_ALPHA_RESPONSE : Fld := ⟨.Q_ALPHA, 4, 4⟩
def Q_ALPHA_MANAGEMENT : Fld := ⟨.Q_ALPHA, 0, 4⟩
def Q_OCC_V : Fld := ⟨.Q_OCC, 0, 20⟩
def Q_HOLD_V : Fld := ⟨.Q_HOLD, 0, 20⟩
def Q_RX_INFORCE_V : Fld := ⟨.Q_RX_INFORCE, 0, 16⟩
def Q_ADMIT_WAIT_V : Fld := ⟨.Q_ADMIT_WAIT, 0, 32⟩
def MIR_CTRL_EN : Fld := ⟨.MIR_CTRL, 31, 1⟩
def MIR_CTRL_INSPECT : Fld := ⟨.MIR_CTRL, 30, 1⟩
def MIR_CTRL_SOURCE : Fld := ⟨.MIR_CTRL, 28, 2⟩
def MIR_CTRL_PORT : Fld := ⟨.MIR_CTRL, 20, 7⟩
def MIR_CTRL_ANALYSIS : Fld := ⟨.MIR_CTRL, 13, 7⟩
def MIR_CTRL_CLASS_MASK : Fld := ⟨.MIR_CTRL, 0, 4⟩
def MIR_MATCH_STALL : Fld := ⟨.MIR_MATCH, 16, 12⟩
def MIR_MATCH_SNAP_CELLS : Fld := ⟨.MIR_MATCH, 0, 7⟩
def MIR_RING_BASE_V : Fld := ⟨.MIR_RING_BASE, 12, 52⟩
def MIR_RING_SIZE_LOG2 : Fld := ⟨.MIR_RING_SIZE, 0, 5⟩
def MIR_PROD_ADDR_V : Fld := ⟨.MIR_PROD_ADDR, 3, 61⟩
def MIR_COUNT_V : Fld := ⟨.MIR_COUNT, 0, 32⟩
def MIR_DROP_V : Fld := ⟨.MIR_DROP, 0, 32⟩
def MIR_OFFSET_V : Fld := ⟨.MIR_OFFSET, 0, 31⟩
def BANK_CTRL_RETIRE : Fld := ⟨.BANK_CTRL, 31, 1⟩
def BANK_CTRL_STATE : Fld := ⟨.BANK_CTRL, 29, 2⟩
def BANK_CTRL_FREE : Fld := ⟨.BANK_CTRL, 0, 12⟩
def BANK_CE_V : Fld := ⟨.BANK_CE, 0, 16⟩
def BANK_UE_V : Fld := ⟨.BANK_UE, 0, 16⟩
def METER_CTRL_EN : Fld := ⟨.METER_CTRL, 31, 1⟩
def METER_CTRL_QUENCH : Fld := ⟨.METER_CTRL, 30, 1⟩
def METER_CTRL_QUENCHED : Fld := ⟨.METER_CTRL, 0, 16⟩
def METER_CIR_CIR : Fld := ⟨.METER_CIR, 0, 18⟩
def METER_PIR_PIR : Fld := ⟨.METER_PIR, 0, 18⟩
def METER_BURST_PBS : Fld := ⟨.METER_BURST, 16, 16⟩
def METER_BURST_CBS : Fld := ⟨.METER_BURST, 0, 16⟩
def METER_LEVEL_PEAK : Fld := ⟨.METER_LEVEL, 16, 16⟩
def METER_LEVEL_COMMITTED : Fld := ⟨.METER_LEVEL, 0, 16⟩
def METER_GREEN_V : Fld := ⟨.METER_GREEN, 0, 32⟩
def METER_YELLOW_V : Fld := ⟨.METER_YELLOW, 0, 32⟩
def METER_RED_V : Fld := ⟨.METER_RED, 0, 32⟩
def BULK_SHAPE_HI_CREDIT : Fld := ⟨.BULK_SHAPE, 16, 16⟩
def BULK_SHAPE_IDLE_SLOPE : Fld := ⟨.BULK_SHAPE, 0, 11⟩
def BULK_CREDIT_V : Fld := ⟨.BULK_CREDIT, 0, 32⟩
def BULK_STATUS_PROMOTED : Fld := ⟨.BULK_STATUS, 0, 1⟩
def HIST_CTRL_FREEZE : Fld := ⟨.HIST_CTRL, 31, 1⟩
def HIST_CTRL_CLEAR : Fld := ⟨.HIST_CTRL, 30, 1⟩
def HIST_CTRL_DELAY_SHIFT : Fld := ⟨.HIST_CTRL, 16, 4⟩
def HIST_CTRL_DEPTH_SHIFT : Fld := ⟨.HIST_CTRL, 8, 4⟩
def HIST_CTRL_INTERVAL : Fld := ⟨.HIST_CTRL, 0, 8⟩
def DEPTH_HIST_V : Fld := ⟨.DEPTH_HIST, 0, 32⟩
def DELAY_HIST_V : Fld := ⟨.DELAY_HIST, 0, 32⟩
def WIN_BASE_VALID : Fld := ⟨.WIN_BASE, 31, 1⟩
def WIN_BASE_BASE : Fld := ⟨.WIN_BASE, 0, 24⟩
def WIN_SIZE_SIZE : Fld := ⟨.WIN_SIZE, 0, 24⟩
def WIN_ATTR_READ_ONLY : Fld := ⟨.WIN_ATTR, 9, 1⟩
def WIN_ATTR_DEVICE : Fld := ⟨.WIN_ATTR, 8, 1⟩
def WIN_ATTR_DECODER : Fld := ⟨.WIN_ATTR, 0, 5⟩
def CHK_CTRL_EN : Fld := ⟨.CHK_CTRL, 31, 1⟩
def CHK_CTRL_OVERLAP_REFUSED : Fld := ⟨.CHK_CTRL, 30, 1⟩
def CHK_CTRL_HOLD_EXPIRED : Fld := ⟨.CHK_CTRL, 29, 1⟩
def CHK_HELD_V : Fld := ⟨.CHK_HELD, 0, 20⟩
def CHK_NOMATCH_V : Fld := ⟨.CHK_NOMATCH, 0, 32⟩
def CHK_DENIED_V : Fld := ⟨.CHK_DENIED, 0, 32⟩
def CHK_LAST_ADDR_V : Fld := ⟨.CHK_LAST_ADDR, 0, 64⟩
def DEC_CTRL_VALID : Fld := ⟨.DEC_CTRL, 31, 1⟩
def DEC_CTRL_TYPE : Fld := ⟨.DEC_CTRL, 29, 2⟩
def DEC_CTRL_HOST_PLACE : Fld := ⟨.DEC_CTRL, 28, 1⟩
def DEC_CTRL_REGION : Fld := ⟨.DEC_CTRL, 20, 8⟩
def DEC_CTRL_STALL : Fld := ⟨.DEC_CTRL, 0, 12⟩
def DEC_BASE_V : Fld := ⟨.DEC_BASE, 28, 24⟩
def DEC_SIZE_V : Fld := ⟨.DEC_SIZE, 0, 24⟩
def DEC_OFFSET_V : Fld := ⟨.DEC_OFFSET, 0, 24⟩
def DEC_STATE_PENDING : Fld := ⟨.DEC_STATE, 0, 1⟩
def STALL_CTRL_DEFINED : Fld := ⟨.STALL_CTRL, 31, 1⟩
def STALL_CTRL_SEALED : Fld := ⟨.STALL_CTRL, 30, 1⟩
def STALL_CTRL_TENANT : Fld := ⟨.STALL_CTRL, 0, 16⟩
def STALL_BIND_BOUND : Fld := ⟨.STALL_BIND, 31, 1⟩
def STALL_BIND_HOST : Fld := ⟨.STALL_BIND, 16, 7⟩
def STALL_BIND_VDSP : Fld := ⟨.STALL_BIND, 0, 6⟩
def STALL_LAYOUT_WAYS : Fld := ⟨.STALL_LAYOUT, 28, 4⟩
def STALL_LAYOUT_IG : Fld := ⟨.STALL_LAYOUT, 24, 3⟩
def STALL_LAYOUT_CAP : Fld := ⟨.STALL_LAYOUT, 0, 24⟩
def STALL_STATE_STATE : Fld := ⟨.STALL_STATE, 28, 4⟩
def STALL_SERIAL_V : Fld := ⟨.STALL_SERIAL, 0, 64⟩
def STALL_DRAIN_V : Fld := ⟨.STALL_DRAIN, 0, 10⟩
def STALL_OUTSTANDING_V : Fld := ⟨.STALL_OUTSTANDING, 0, 16⟩
def STALL_SQUASHED_V : Fld := ⟨.STALL_SQUASHED, 0, 32⟩
def STALL_LATE_V : Fld := ⟨.STALL_LATE, 0, 16⟩
def STALL_SLICE_VALID : Fld := ⟨.STALL_SLICE, 63, 1⟩
def STALL_SLICE_PORT : Fld := ⟨.STALL_SLICE, 48, 7⟩
def STALL_SLICE_LD : Fld := ⟨.STALL_SLICE, 40, 4⟩
def STALL_SLICE_DPA_BASE : Fld := ⟨.STALL_SLICE, 0, 24⟩
def SCRUB_ACTIVE_V : Fld := ⟨.SCRUB_ACTIVE, 0, 16⟩
def SCRUB_QUARANTINED_V : Fld := ⟨.SCRUB_QUARANTINED, 0, 16⟩
def EPOCH_V : Fld := ⟨.EPOCH, 0, 32⟩
def COMMIT_ID_V : Fld := ⟨.COMMIT_ID, 0, 32⟩
def TXN_CTRL_IDLE_TIMEOUT : Fld := ⟨.TXN_CTRL, 0, 16⟩
def COMMIT_STATUS_APPLYING : Fld := ⟨.COMMIT_STATUS, 31, 1⟩
def COMMIT_STATUS_REFUSING : Fld := ⟨.COMMIT_STATUS, 30, 1⟩
def COMMIT_STATUS_QUEUED : Fld := ⟨.COMMIT_STATUS, 0, 3⟩
def TXSLOT_STATE_STATE : Fld := ⟨.TXSLOT_STATE, 28, 4⟩
def SLOT_COUNT_ENTRIES : Fld := ⟨.SLOT_COUNT, 16, 15⟩
def SLOT_COUNT_WRITES : Fld := ⟨.SLOT_COUNT, 0, 15⟩
def SLOT_BASE_EPOCH_V : Fld := ⟨.SLOT_BASE_EPOCH, 0, 32⟩
def SLOT_LAST_ITEM_V : Fld := ⟨.SLOT_LAST_ITEM, 0, 30⟩
def HALF_EPOCH_V : Fld := ⟨.HALF_EPOCH, 0, 32⟩
def HALF_COMMIT_V : Fld := ⟨.HALF_COMMIT, 0, 32⟩
def HALF_STATE_HOLD : Fld := ⟨.HALF_STATE, 31, 1⟩
def HALF_STATE_SPLIT : Fld := ⟨.HALF_STATE, 30, 1⟩
def HALF_STATE_APPLYING : Fld := ⟨.HALF_STATE, 29, 1⟩
def HALF_STALE_V : Fld := ⟨.HALF_STALE, 0, 16⟩
def JOURNAL_PHASE_PHASE : Fld := ⟨.JOURNAL_PHASE, 28, 4⟩
def JOURNAL_EPOCH_V : Fld := ⟨.JOURNAL_EPOCH, 0, 32⟩
def JOURNAL_ID_V : Fld := ⟨.JOURNAL_ID, 0, 32⟩
def REGION_CTRL_VALID : Fld := ⟨.REGION_CTRL, 31, 1⟩
def REGION_CTRL_SPEC_EN : Fld := ⟨.REGION_CTRL, 30, 1⟩
def REGION_CTRL_HOLD_MODE : Fld := ⟨.REGION_CTRL, 28, 2⟩
def REGION_CTRL_HOLD_NS : Fld := ⟨.REGION_CTRL, 0, 11⟩
def REGION_LAYOUT_WAYS : Fld := ⟨.REGION_LAYOUT, 28, 4⟩
def REGION_LAYOUT_IG : Fld := ⟨.REGION_LAYOUT, 24, 3⟩
def REGION_LAYOUT_CAP : Fld := ⟨.REGION_LAYOUT, 0, 24⟩
def REGION_STATUS_STATE : Fld := ⟨.REGION_STATUS, 28, 4⟩
def REGION_STATUS_HOLD_ACTIVE : Fld := ⟨.REGION_STATUS, 27, 1⟩
def REGION_STATUS_HOSTS : Fld := ⟨.REGION_STATUS, 16, 7⟩
def REGION_STATUS_RECOVERING : Fld := ⟨.REGION_STATUS, 0, 16⟩
def SNOOP_ABSENT_V : Fld := ⟨.SNOOP_ABSENT, 0, 32⟩
def REGION_FENCED_V : Fld := ⟨.REGION_FENCED, 0, 32⟩
def REGION_SLICE_VALID : Fld := ⟨.REGION_SLICE, 63, 1⟩
def REGION_SLICE_PORT : Fld := ⟨.REGION_SLICE, 48, 7⟩
def REGION_SLICE_LD : Fld := ⟨.REGION_SLICE, 40, 4⟩
def REGION_SLICE_DPA_BASE : Fld := ⟨.REGION_SLICE, 0, 24⟩
def REGION_LEDGER_LEDGER_BASE : Fld := ⟨.REGION_LEDGER, 0, 27⟩
def COH_CTRL_SPEC_EN : Fld := ⟨.COH_CTRL, 31, 1⟩
def COH_CTRL_FLUSH : Fld := ⟨.COH_CTRL, 30, 1⟩
def COH_CTRL_WB_GRACE : Fld := ⟨.COH_CTRL, 16, 10⟩
def COH_CTRL_SNP_TIMEOUT : Fld := ⟨.COH_CTRL, 0, 16⟩
def COH_STATUS_LEDGER_CLEAN : Fld := ⟨.COH_STATUS, 31, 1⟩
def COH_STATUS_FLUSHING : Fld := ⟨.COH_STATUS, 30, 1⟩
def COH_STATUS_FLOWS : Fld := ⟨.COH_STATUS, 16, 13⟩
def COH_STATUS_WAITING : Fld := ⟨.COH_STATUS, 0, 15⟩
def LEDGER_HIT_V : Fld := ⟨.LEDGER_HIT, 0, 32⟩
def LEDGER_MISS_V : Fld := ⟨.LEDGER_MISS, 0, 32⟩
def SNOOPS_SENT_V : Fld := ⟨.SNOOPS_SENT, 0, 32⟩
def SPEC_ISSUED_V : Fld := ⟨.SPEC_ISSUED, 0, 32⟩
def SPEC_DISCARDED_V : Fld := ⟨.SPEC_DISCARDED, 0, 32⟩
def LEDGER_WRITEBACKS_V : Fld := ⟨.LEDGER_WRITEBACKS, 0, 32⟩
def COH_EVENTS_SNOOP_TIMEOUT : Fld := ⟨.COH_EVENTS, 24, 8⟩
def COH_EVENTS_ENTRY_BAD : Fld := ⟨.COH_EVENTS, 16, 8⟩
def COH_EVENTS_PROTO : Fld := ⟨.COH_EVENTS, 8, 8⟩
def COH_EVENTS_LATE_WB : Fld := ⟨.COH_EVENTS, 0, 8⟩
def COH_ERR_LEDGER_UE : Fld := ⟨.COH_ERR, 4, 1⟩
def COH_ERR_ENTRY_BAD : Fld := ⟨.COH_ERR, 3, 1⟩
def COH_ERR_PROTO : Fld := ⟨.COH_ERR, 2, 1⟩
def COH_ERR_SNOOP_TIMEOUT : Fld := ⟨.COH_ERR, 1, 1⟩
def COH_ERR_RECOVERING : Fld := ⟨.COH_ERR, 0, 1⟩
def LEDGER_GROUP_RETIRE : Fld := ⟨.LEDGER_GROUP, 31, 1⟩
def LEDGER_GROUP_RETIRING : Fld := ⟨.LEDGER_GROUP, 30, 1⟩
def LEDGER_GROUP_WAY : Fld := ⟨.LEDGER_GROUP, 21, 5⟩
def LEDGER_GROUP_ACTIVE : Fld := ⟨.LEDGER_GROUP, 0, 18⟩
def MKT_CREDITS_V : Fld := ⟨.MKT_CREDITS, 0, 9⟩
def MKT_OUTSTANDING_V : Fld := ⟨.MKT_OUTSTANDING, 0, 9⟩
def CH_CTRL_START : Fld := ⟨.CH_CTRL, 31, 1⟩
def CH_CTRL_ABORT : Fld := ⟨.CH_CTRL, 30, 1⟩
def CH_CTRL_TRIGGER : Fld := ⟨.CH_CTRL, 29, 1⟩
def CH_CTRL_PAUSE : Fld := ⟨.CH_CTRL, 28, 1⟩
def CH_CTRL_ERR_IRQ_EN : Fld := ⟨.CH_CTRL, 27, 1⟩
def CH_STATUS_STATE : Fld := ⟨.CH_STATUS, 28, 4⟩
def CH_STATUS_ABORT_LATE : Fld := ⟨.CH_STATUS, 27, 1⟩
def CH_STATUS_TRIG_PENDING : Fld := ⟨.CH_STATUS, 0, 8⟩
def CH_HEAD_V : Fld := ⟨.CH_HEAD, 6, 46⟩
def CH_CUR_V : Fld := ⟨.CH_CUR, 0, 64⟩
def CH_DOORBELL_V : Fld := ⟨.CH_DOORBELL, 0, 32⟩
def CH_SEEN_V : Fld := ⟨.CH_SEEN, 0, 32⟩
def CH_CFG_PRIV_OK : Fld := ⟨.CH_CFG, 31, 1⟩
def CH_PACE_TRIG_SRC : Fld := ⟨.CH_PACE, 30, 2⟩
def CH_PACE_TRIG_CH : Fld := ⟨.CH_PACE, 24, 4⟩
def CH_PACE_PERIOD : Fld := ⟨.CH_PACE, 0, 24⟩
def CH_ERR_TRIG_OVF : Fld := ⟨.CH_ERR, 5, 1⟩
def CH_ERR_FETCH_ERR : Fld := ⟨.CH_ERR, 4, 1⟩
def CH_ERR_LATE_WRITE_ERR : Fld := ⟨.CH_ERR, 3, 1⟩
def CH_ERR_BAD : Fld := ⟨.CH_ERR, 2, 1⟩
def CH_ERR_DENIED : Fld := ⟨.CH_ERR, 1, 1⟩
def CH_ERR_INVALID : Fld := ⟨.CH_ERR, 0, 1⟩
def CH_ERR_ADDR_V : Fld := ⟨.CH_ERR_ADDR, 0, 64⟩
def CH_DONE_COUNT_V : Fld := ⟨.CH_DONE_COUNT, 0, 32⟩
def CH_CELLS_V : Fld := ⟨.CH_CELLS, 0, 32⟩
def PORTER_MAP_V : Fld := ⟨.PORTER_MAP, 0, 56⟩
def PORTER_PHYS_RETIRED : Fld := ⟨.PORTER_PHYS, 16, 16⟩
def PORTER_PHYS_ACTIVE : Fld := ⟨.PORTER_PHYS, 0, 16⟩
def PORTER_RETIRE_RETIRE : Fld := ⟨.PORTER_RETIRE, 31, 1⟩
def PORTER_RETIRE_CHANNEL : Fld := ⟨.PORTER_RETIRE, 0, 4⟩
def RELOC_CTRL_AUTO_COMMIT : Fld := ⟨.RELOC_CTRL, 31, 1⟩
def RELOC_CTRL_PAUSE : Fld := ⟨.RELOC_CTRL, 30, 1⟩
def RELOC_OBJECT_VALID : Fld := ⟨.RELOC_OBJECT, 31, 1⟩
def RELOC_OBJECT_MARKET : Fld := ⟨.RELOC_OBJECT, 30, 1⟩
def RELOC_OBJECT_REMOTE : Fld := ⟨.RELOC_OBJECT, 29, 1⟩
def RELOC_OBJECT_WAY : Fld := ⟨.RELOC_OBJECT, 20, 4⟩
def RELOC_OBJECT_OBJECT : Fld := ⟨.RELOC_OBJECT, 0, 12⟩
def RELOC_SRC_VALID : Fld := ⟨.RELOC_SRC, 63, 1⟩
def RELOC_SRC_PORT : Fld := ⟨.RELOC_SRC, 48, 7⟩
def RELOC_SRC_LD : Fld := ⟨.RELOC_SRC, 40, 4⟩
def RELOC_SRC_DPA_BASE : Fld := ⟨.RELOC_SRC, 0, 24⟩
def RELOC_DST_VALID : Fld := ⟨.RELOC_DST, 63, 1⟩
def RELOC_DST_PORT : Fld := ⟨.RELOC_DST, 48, 7⟩
def RELOC_DST_LD : Fld := ⟨.RELOC_DST, 40, 4⟩
def RELOC_DST_REMOTE_PORT : Fld := ⟨.RELOC_DST, 32, 7⟩
def RELOC_DST_DPA_BASE : Fld := ⟨.RELOC_DST, 0, 24⟩
def RELOC_LEDGER_DST_LEDGER_BASE : Fld := ⟨.RELOC_LEDGER, 32, 27⟩
def RELOC_LEDGER_SRC_LEDGER_BASE : Fld := ⟨.RELOC_LEDGER, 0, 27⟩
def RELOC_STATE_STATE : Fld := ⟨.RELOC_STATE, 28, 4⟩
def RELOC_STATE_TAINTED : Fld := ⟨.RELOC_STATE, 27, 1⟩
def RELOC_CHUNKS_N : Fld := ⟨.RELOC_CHUNKS, 0, 32⟩
def RELOC_WATERMARK_W : Fld := ⟨.RELOC_WATERMARK, 0, 32⟩
def RELOC_IN_COPY_C : Fld := ⟨.RELOC_IN_COPY, 0, 32⟩
def RELOC_HELD_V : Fld := ⟨.RELOC_HELD, 0, 16⟩
def RELOC_MIRRORED_V : Fld := ⟨.RELOC_MIRRORED, 0, 32⟩
def RELOC_RETRIES_V : Fld := ⟨.RELOC_RETRIES, 0, 8⟩
def RELOC_REVERSE_V : Fld := ⟨.RELOC_REVERSE, 0, 32⟩
def RELOC_PEER_WATERMARK_W : Fld := ⟨.RELOC_PEER_WATERMARK, 0, 32⟩
def RELOC_PEER_IN_COPY_C : Fld := ⟨.RELOC_PEER_IN_COPY, 0, 32⟩
def LC_STATE_V : Fld := ⟨.LC_STATE, 0, 2⟩
def ISO_STATUS_HOLDS : Fld := ⟨.ISO_STATUS, 31, 1⟩
def ISO_STATUS_COMMITTED : Fld := ⟨.ISO_STATUS, 4, 1⟩
def ISO_STATUS_NO_INSPECT : Fld := ⟨.ISO_STATUS, 3, 1⟩
def ISO_STATUS_DEBUG_LOCKED : Fld := ⟨.ISO_STATUS, 2, 1⟩
def ISO_STATUS_DEPLOYED : Fld := ⟨.ISO_STATUS, 1, 1⟩
def ISO_STATUS_WESIS_OK : Fld := ⟨.ISO_STATUS, 0, 1⟩
def DEBUG_STATUS_UNLOCKED : Fld := ⟨.DEBUG_STATUS, 31, 1⟩
def DEBUG_STATUS_UNLOCK_PENDING : Fld := ⟨.DEBUG_STATUS, 30, 1⟩
def DEBUG_STATUS_LOCKED_OUT : Fld := ⟨.DEBUG_STATUS, 29, 1⟩
def DEBUG_STATUS_UNLOCK_FAILS : Fld := ⟨.DEBUG_STATUS, 0, 4⟩
def DEBUG_CTRL_LOCK : Fld := ⟨.DEBUG_CTRL, 0, 1⟩
def TAMPER_STATUS_TAMPER_LATCHED : Fld := ⟨.TAMPER_STATUS, 31, 1⟩
def TAMPER_STATUS_TEMP : Fld := ⟨.TAMPER_STATUS, 3, 1⟩
def TAMPER_STATUS_CLOCK : Fld := ⟨.TAMPER_STATUS, 2, 1⟩
def TAMPER_STATUS_SUPPLY : Fld := ⟨.TAMPER_STATUS, 1, 1⟩
def TAMPER_STATUS_PIN : Fld := ⟨.TAMPER_STATUS, 0, 1⟩
def TAMPER_ACTIVE_V : Fld := ⟨.TAMPER_ACTIVE, 0, 4⟩
def BOOT_STATUS_RUNNING : Fld := ⟨.BOOT_STATUS, 30, 2⟩
def BOOT_STATUS_PREFERRED : Fld := ⟨.BOOT_STATUS, 29, 1⟩
def BOOT_STATUS_A_REJECTED : Fld := ⟨.BOOT_STATUS, 28, 1⟩
def BOOT_STATUS_B_REJECTED : Fld := ⟨.BOOT_STATUS, 27, 1⟩
def FW_SECURITY_MINIMUM : Fld := ⟨.FW_SECURITY, 16, 16⟩
def FW_SECURITY_RUNNING : Fld := ⟨.FW_SECURITY, 0, 16⟩
def WIPES_V : Fld := ⟨.WIPES, 0, 32⟩
def SEALED_DENIED_V : Fld := ⟨.SEALED_DENIED, 0, 32⟩
def AUDIT_COUNT_V : Fld := ⟨.AUDIT_COUNT, 0, 32⟩
def CORE_ACTIVE_V : Fld := ⟨.CORE_ACTIVE, 0, 17⟩
def CORE_RETIRED_V : Fld := ⟨.CORE_RETIRED, 0, 17⟩
def CORE_RETIRE_RETIRE : Fld := ⟨.CORE_RETIRE, 31, 1⟩
def CORE_RETIRE_CORE : Fld := ⟨.CORE_RETIRE, 0, 5⟩
def WDT_CTRL_EN : Fld := ⟨.WDT_CTRL, 31, 1⟩
def WDT_CTRL_TIMEOUT : Fld := ⟨.WDT_CTRL, 0, 16⟩
def WDT_KICK_V : Fld := ⟨.WDT_KICK, 0, 32⟩
def WDT_RESETS_V : Fld := ⟨.WDT_RESETS, 0, 16⟩
def SP_BANK_CTRL_RETAIN : Fld := ⟨.SP_BANK_CTRL, 31, 1⟩
def SP_BANK_CTRL_RETAINED : Fld := ⟨.SP_BANK_CTRL, 30, 1⟩
def SP_BANK_CTRL_REPAIR_BUSY : Fld := ⟨.SP_BANK_CTRL, 29, 1⟩
def SP_BANK_CTRL_OWNER : Fld := ⟨.SP_BANK_CTRL, 0, 5⟩
def SP_BANK_CE_V : Fld := ⟨.SP_BANK_CE, 0, 32⟩
def SP_BANK_UE_V : Fld := ⟨.SP_BANK_UE, 0, 16⟩
def SP_REPAIR_REPAIR : Fld := ⟨.SP_REPAIR, 31, 1⟩
def SP_REPAIR_COLUMN : Fld := ⟨.SP_REPAIR, 16, 10⟩
def SP_REPAIR_SPARES2 : Fld := ⟨.SP_REPAIR, 8, 4⟩
def SP_REPAIR_SPARES1 : Fld := ⟨.SP_REPAIR, 4, 4⟩
def SP_REPAIR_SPARES0 : Fld := ⟨.SP_REPAIR, 0, 4⟩
def SP_CONFLICT_V : Fld := ⟨.SP_CONFLICT, 0, 32⟩
def FLUE_STATUS_LINK_UP : Fld := ⟨.FLUE_STATUS, 31, 1⟩
def FLUE_STATUS_TO_HALF : Fld := ⟨.FLUE_STATUS, 16, 7⟩
def FLUE_STATUS_TO_HEARTH : Fld := ⟨.FLUE_STATUS, 0, 7⟩
def FLUE_ERR_TIMEOUT : Fld := ⟨.FLUE_ERR, 1, 1⟩
def FLUE_ERR_POSTED_ERR : Fld := ⟨.FLUE_ERR, 0, 1⟩
def FLUE_POSTED_ADDR_V : Fld := ⟨.FLUE_POSTED_ADDR, 0, 30⟩
def FLUE_POSTED_COUNT_V : Fld := ⟨.FLUE_POSTED_COUNT, 0, 32⟩
def FLUE_TIMEOUT_COUNT_V : Fld := ⟨.FLUE_TIMEOUT_COUNT, 0, 32⟩
def CM_EARLY_ACK_EMBER : Fld := ⟨.CM_EARLY_ACK, 1, 1⟩
def CM_EARLY_ACK_SCRATCHPAD : Fld := ⟨.CM_EARLY_ACK, 0, 1⟩
def CM_IMPRECISE_COUNT_V : Fld := ⟨.CM_IMPRECISE_COUNT, 0, 32⟩
def CM_IMPRECISE_ADDR_VALID : Fld := ⟨.CM_IMPRECISE_ADDR, 63, 1⟩
def CM_IMPRECISE_ADDR_CORE : Fld := ⟨.CM_IMPRECISE_ADDR, 30, 5⟩
def CM_IMPRECISE_ADDR_ADDRESS : Fld := ⟨.CM_IMPRECISE_ADDR, 0, 30⟩
def CM_IMPRECISE_CLR_CLEAR : Fld := ⟨.CM_IMPRECISE_CLR, 0, 1⟩
def CM_RESV_FAILS_V : Fld := ⟨.CM_RESV_FAILS, 0, 32⟩
def FC_SRC_LATCHED : Fld := ⟨.FC_SRC, 31, 1⟩
def FC_SRC_CONDITION : Fld := ⟨.FC_SRC, 30, 1⟩
def FC_SRC_FORCE : Fld := ⟨.FC_SRC, 29, 1⟩
def FC_SRC_APPLIED : Fld := ⟨.FC_SRC, 24, 3⟩
def FC_SRC_COUNT : Fld := ⟨.FC_SRC, 16, 8⟩
def FC_SRC_REACTION : Fld := ⟨.FC_SRC, 0, 3⟩
def FC_STATUS_ASH : Fld := ⟨.FC_STATUS, 31, 1⟩
def FC_STATUS_SELF_ERR : Fld := ⟨.FC_STATUS, 30, 1⟩
def FC_STATUS_FAULT_N_LOW : Fld := ⟨.FC_STATUS, 29, 1⟩
def FC_STATUS_LATCHED_COUNT : Fld := ⟨.FC_STATUS, 0, 11⟩
def FC_DOUSED_WEST : Fld := ⟨.FC_DOUSED, 1, 1⟩
def FC_DOUSED_EAST : Fld := ⟨.FC_DOUSED, 0, 1⟩
def FC_CLEAR_SOURCE : Fld := ⟨.FC_CLEAR, 0, 10⟩
def FC_RING_HEAD_V : Fld := ⟨.FC_RING_HEAD, 0, 10⟩
def FC_RING_SEQ_SEQ : Fld := ⟨.FC_RING_SEQ, 0, 32⟩
def FC_RECORD_LOST_V : Fld := ⟨.FC_RECORD_LOST, 0, 32⟩
def FC_TIME_V : Fld := ⟨.FC_TIME, 0, 64⟩
def FC_LATCHED_MAP_V : Fld := ⟨.FC_LATCHED_MAP, 0, 32⟩
def FEED_CFG_SAG_BANK_EN : Fld := ⟨.FEED_CFG, 31, 1⟩
def FEED_CFG_PFAIL_EN : Fld := ⟨.FEED_CFG, 30, 1⟩
def FEED_CFG_A_PRESENT : Fld := ⟨.FEED_CFG, 29, 1⟩
def FEED_CFG_B_PRESENT : Fld := ⟨.FEED_CFG, 28, 1⟩
def FEED_CFG_SAG_PERSIST : Fld := ⟨.FEED_CFG, 0, 16⟩
def FEED_LEVELS_SWELL_LEVEL : Fld := ⟨.FEED_LEVELS, 16, 16⟩
def FEED_LEVELS_SAG_LEVEL : Fld := ⟨.FEED_LEVELS, 0, 16⟩
def FEED_LEVELS2_RIPPLE_LEVEL : Fld := ⟨.FEED_LEVELS2, 16, 16⟩
def FEED_LEVELS2_DROPOUT_LEVEL : Fld := ⟨.FEED_LEVELS2, 0, 16⟩
def FEED_STATUS_A_GOOD : Fld := ⟨.FEED_STATUS, 31, 1⟩
def FEED_STATUS_B_GOOD : Fld := ⟨.FEED_STATUS, 30, 1⟩
def FEED_STATUS_PFAIL_LOW : Fld := ⟨.FEED_STATUS, 29, 1⟩
def FEED_STATUS_BANK_REQ : Fld := ⟨.FEED_STATUS, 28, 1⟩
def FEED_STATUS_BANK_CAUSE : Fld := ⟨.FEED_STATUS, 26, 2⟩
def FEED_STATUS_CLASS_B : Fld := ⟨.FEED_STATUS, 4, 4⟩
def FEED_STATUS_CLASS_A : Fld := ⟨.FEED_STATUS, 0, 4⟩
def FEED_V_B : Fld := ⟨.FEED_V, 16, 16⟩
def FEED_V_A : Fld := ⟨.FEED_V, 0, 16⟩
def FEED_ERR_B_RIPPLE : Fld := ⟨.FEED_ERR, 7, 1⟩
def FEED_ERR_B_DROPOUT : Fld := ⟨.FEED_ERR, 6, 1⟩
def FEED_ERR_B_SWELL : Fld := ⟨.FEED_ERR, 5, 1⟩
def FEED_ERR_B_SAG : Fld := ⟨.FEED_ERR, 4, 1⟩
def FEED_ERR_A_RIPPLE : Fld := ⟨.FEED_ERR, 3, 1⟩
def FEED_ERR_A_DROPOUT : Fld := ⟨.FEED_ERR, 2, 1⟩
def FEED_ERR_A_SWELL : Fld := ⟨.FEED_ERR, 1, 1⟩
def FEED_ERR_A_SAG : Fld := ⟨.FEED_ERR, 0, 1⟩
def FEED_EVENTS_SAGS : Fld := ⟨.FEED_EVENTS, 24, 8⟩
def FEED_EVENTS_SWELLS : Fld := ⟨.FEED_EVENTS, 16, 8⟩
def FEED_EVENTS_DROPOUTS : Fld := ⟨.FEED_EVENTS, 8, 8⟩
def FEED_EVENTS_RIPPLES : Fld := ⟨.FEED_EVENTS, 0, 8⟩
def FEED_CTRL_REARM : Fld := ⟨.FEED_CTRL, 0, 1⟩
def SLOT_SUMMARY_V : Fld := ⟨.SLOT_SUMMARY, 0, 32⟩
def SLOT_CTRL_ON : Fld := ⟨.SLOT_CTRL, 31, 1⟩
def SLOT_CTRL_OFF : Fld := ⟨.SLOT_CTRL, 30, 1⟩
def SLOT_CTRL_CLEAR_LOCKOUT : Fld := ⟨.SLOT_CTRL, 29, 1⟩
def SLOT_CTRL_AUTO_ON : Fld := ⟨.SLOT_CTRL, 28, 1⟩
def SLOT_CTRL_RETRY_LIMIT : Fld := ⟨.SLOT_CTRL, 21, 3⟩
def SLOT_CTRL_COOLDOWN : Fld := ⟨.SLOT_CTRL, 8, 8⟩
def SLOT_CTRL_PRECHARGE_TIMEOUT : Fld := ⟨.SLOT_CTRL, 0, 8⟩
def SLOT_STATE_STATE : Fld := ⟨.SLOT_STATE, 28, 4⟩
def SLOT_STATE_POWER_REQ : Fld := ⟨.SLOT_STATE, 27, 1⟩
def SLOT_STATE_SHORT_PIN : Fld := ⟨.SLOT_STATE, 26, 1⟩
def SLOT_STATE_LONG_PIN : Fld := ⟨.SLOT_STATE, 25, 1⟩
def SLOT_STATE_FEED_IN_USE : Fld := ⟨.SLOT_STATE, 24, 1⟩
def SLOT_STATE_PG : Fld := ⟨.SLOT_STATE, 23, 1⟩
def SLOT_STATE_RETRIES : Fld := ⟨.SLOT_STATE, 20, 3⟩
def SLOT_STATE_LAST_TRIP : Fld := ⟨.SLOT_STATE, 16, 4⟩
def SLOT_STATE_BACKOFF_MS : Fld := ⟨.SLOT_STATE, 0, 16⟩
def SLOT_GATE_RAMP_SLOPE : Fld := ⟨.SLOT_GATE, 0, 8⟩
def SLOT_FEED_ALLOW_B : Fld := ⟨.SLOT_FEED, 17, 1⟩
def SLOT_FEED_ALLOW_A : Fld := ⟨.SLOT_FEED, 16, 1⟩
def SLOT_FEED_PRIMARY : Fld := ⟨.SLOT_FEED, 8, 1⟩
def SLOT_FEED_DEAD_TIME : Fld := ⟨.SLOT_FEED, 0, 8⟩
def SLOT_FAST_FT_CODE : Fld := ⟨.SLOT_FAST, 0, 12⟩
def SLOT_CURVE_TK : Fld := ⟨.SLOT_CURVE, 12, 20⟩
def SLOT_CURVE_IK : Fld := ⟨.SLOT_CURVE, 0, 12⟩
def SLOT_I_PEAK : Fld := ⟨.SLOT_I, 16, 12⟩
def SLOT_I_CURRENT : Fld := ⟨.SLOT_I, 0, 12⟩
def SLOT_V_OUT_SENSE : Fld := ⟨.SLOT_V, 0, 16⟩
def SLOT_ERR_CURVE_BAD : Fld := ⟨.SLOT_ERR, 8, 1⟩
def SLOT_ERR_UNSEAT : Fld := ⟨.SLOT_ERR, 7, 1⟩
def SLOT_ERR_LOCKOUT : Fld := ⟨.SLOT_ERR, 6, 1⟩
def SLOT_ERR_SWITCH_FAIL : Fld := ⟨.SLOT_ERR, 5, 1⟩
def SLOT_ERR_PG_LOST : Fld := ⟨.SLOT_ERR, 4, 1⟩
def SLOT_ERR_PRECHARGE_TO : Fld := ⟨.SLOT_ERR, 3, 1⟩
def SLOT_ERR_FAST_TRIP : Fld := ⟨.SLOT_ERR, 2, 1⟩
def SLOT_ERR_CURVE_TRIP : Fld := ⟨.SLOT_ERR, 1, 1⟩
def SLOT_ERR_SUPPLY_LOST : Fld := ⟨.SLOT_ERR, 0, 1⟩
def SLOT_TRIPS_V : Fld := ⟨.SLOT_TRIPS, 0, 32⟩
def PWR_STATE_STATE : Fld := ⟨.PWR_STATE, 28, 4⟩
def PWR_CTRL_AUTO_GLOW : Fld := ⟨.PWR_CTRL, 31, 1⟩
def PWR_CTRL_AUTO_KINDLE : Fld := ⟨.PWR_CTRL, 30, 1⟩
def PWR_CTRL_WAKE_MGMT : Fld := ⟨.PWR_CTRL, 29, 1⟩
def PWR_CTRL_WAKE_MCTP : Fld := ⟨.PWR_CTRL, 28, 1⟩
def PWR_CTRL_GLOW_IDLE : Fld := ⟨.PWR_CTRL, 0, 16⟩
def BANK_BUDGET_PHASE1 : Fld := ⟨.BANK_BUDGET, 16, 16⟩
def BANK_BUDGET_PHASE2 : Fld := ⟨.BANK_BUDGET, 0, 16⟩
def BANK_STATUS_SEALED : Fld := ⟨.BANK_STATUS, 31, 1⟩
def BANK_STATUS_FLUSH1_OK : Fld := ⟨.BANK_STATUS, 30, 1⟩
def BANK_STATUS_FLUSH2_OK : Fld := ⟨.BANK_STATUS, 29, 1⟩
def BANK_STATUS_LEDGER_CLEAN_E : Fld := ⟨.BANK_STATUS, 28, 1⟩
def BANK_STATUS_LEDGER_CLEAN_W : Fld := ⟨.BANK_STATUS, 27, 1⟩
def BANK_STATUS_KEEP_OK : Fld := ⟨.BANK_STATUS, 26, 1⟩
def BANK_STATUS_ASH_MARK : Fld := ⟨.BANK_STATUS, 25, 1⟩
def BANK_STATUS_CAUSE : Fld := ⟨.BANK_STATUS, 22, 3⟩
def BANK_ERR_KEEP_RESTORE_FAIL : Fld := ⟨.BANK_ERR, 6, 1⟩
def BANK_ERR_SEAL_BAD : Fld := ⟨.BANK_ERR, 5, 1⟩
def BANK_ERR_UNSEALED : Fld := ⟨.BANK_ERR, 4, 1⟩
def BANK_ERR_KEEP_FAIL : Fld := ⟨.BANK_ERR, 3, 1⟩
def BANK_ERR_LEDGER_INCOMPLETE : Fld := ⟨.BANK_ERR, 2, 1⟩
def BANK_ERR_PHASE2_TIMEOUT : Fld := ⟨.BANK_ERR, 1, 1⟩
def BANK_ERR_PHASE1_TIMEOUT : Fld := ⟨.BANK_ERR, 0, 1⟩
def BANK_TIMES_PHASE1 : Fld := ⟨.BANK_TIMES, 16, 16⟩
def BANK_TIMES_PHASE2 : Fld := ⟨.BANK_TIMES, 0, 16⟩
def BANK_SEAL_TIME_STEP4 : Fld := ⟨.BANK_SEAL_TIME, 16, 16⟩
def BANK_SEAL_TIME_TO_SEAL : Fld := ⟨.BANK_SEAL_TIME, 0, 16⟩
def FLUSH_MISSED_HOST_V : Fld := ⟨.FLUSH_MISSED_HOST, 0, 32⟩
def FLUSH_MISSED_PORT_V : Fld := ⟨.FLUSH_MISSED_PORT, 0, 32⟩
def KEEP_CTRL_VALID : Fld := ⟨.KEEP_CTRL, 31, 1⟩
def KEEP_CTRL_COPY_ON_BANK : Fld := ⟨.KEEP_CTRL, 30, 1⟩
def KEEP_CTRL_PORT : Fld := ⟨.KEEP_CTRL, 16, 7⟩
def KEEP_CTRL_LD : Fld := ⟨.KEEP_CTRL, 0, 4⟩
def KEEP_BASE_BASE : Fld := ⟨.KEEP_BASE, 24, 28⟩
def KINDLE_STATUS_FROM : Fld := ⟨.KINDLE_STATUS, 28, 4⟩
def KINDLE_STATUS_IMAGE : Fld := ⟨.KINDLE_STATUS, 26, 2⟩
def KINDLE_STATUS_ASH_MARK : Fld := ⟨.KINDLE_STATUS, 25, 1⟩
def KINDLE_STATUS_WESIS_VERIFIED : Fld := ⟨.KINDLE_STATUS, 24, 1⟩
def KINDLE_STATUS_FELL_BACK : Fld := ⟨.KINDLE_STATUS, 16, 7⟩
def KINDLE_TIME_V : Fld := ⟨.KINDLE_TIME, 0, 32⟩
def BANK_GENERATION_V : Fld := ⟨.BANK_GENERATION, 0, 64⟩
def PMU_DIR_TYPE : Fld := ⟨.PMU_DIR, 24, 8⟩
def PMU_DIR_CLOCK : Fld := ⟨.PMU_DIR, 20, 4⟩
def PMU_DIR_SNAP : Fld := ⟨.PMU_DIR, 19, 1⟩
def PMU_DIR_INDEX : Fld := ⟨.PMU_DIR, 0, 7⟩
def PMU_CTRL_FREEZE : Fld := ⟨.PMU_CTRL, 31, 1⟩
def PMU_CTRL_RESET : Fld := ⟨.PMU_CTRL, 30, 1⟩
def PMU_OVF_V : Fld := ⟨.PMU_OVF, 0, 8⟩
def PMU_CYCLE_V : Fld := ⟨.PMU_CYCLE, 0, 64⟩
def PMU_EVSEL_EN : Fld := ⟨.PMU_EVSEL, 31, 1⟩
def PMU_EVSEL_EDGE : Fld := ⟨.PMU_EVSEL, 30, 1⟩
def PMU_EVSEL_OVF_IRQ : Fld := ⟨.PMU_EVSEL, 29, 1⟩
def PMU_EVSEL_EVENT : Fld := ⟨.PMU_EVSEL, 0, 10⟩
def PMU_COUNT_V : Fld := ⟨.PMU_COUNT, 0, 48⟩
def SNAP_CTRL_EN : Fld := ⟨.SNAP_CTRL, 31, 1⟩
def SNAP_CTRL_SNAP_ERR : Fld := ⟨.SNAP_CTRL, 30, 1⟩
def SNAP_CTRL_PERIOD : Fld := ⟨.SNAP_CTRL, 0, 24⟩
def SNAP_RING_BASE_V : Fld := ⟨.SNAP_RING_BASE, 6, 46⟩
def SNAP_RING_COUNT_V : Fld := ⟨.SNAP_RING_COUNT, 0, 16⟩
def SNAP_HEAD_V : Fld := ⟨.SNAP_HEAD, 0, 16⟩
def SNAP_MISSED_V : Fld := ⟨.SNAP_MISSED, 0, 32⟩
def PMU_GLOBAL_FREEZE_ALL : Fld := ⟨.PMU_GLOBAL, 31, 1⟩
def PMU_GLOBAL_RESET_ALL : Fld := ⟨.PMU_GLOBAL, 30, 1⟩
def WEAR_LEDGER_CE_LAST_WAY : Fld := ⟨.WEAR_LEDGER_CE, 24, 5⟩
def WEAR_LEDGER_CE_COUNT : Fld := ⟨.WEAR_LEDGER_CE, 0, 16⟩
def WEAR_SP_COLUMN_LAST_COLUMN : Fld := ⟨.WEAR_SP_COLUMN, 16, 10⟩
def WEAR_SP_COLUMN_COUNT : Fld := ⟨.WEAR_SP_COLUMN, 0, 16⟩
def WEAR_POLICY_MARGIN_PERIOD : Fld := ⟨.WEAR_POLICY, 16, 8⟩
def WEAR_POLICY_AUTO_DOWNSHIFT : Fld := ⟨.WEAR_POLICY, 1, 1⟩
def WEAR_POLICY_AUTO_RETIRE : Fld := ⟨.WEAR_POLICY, 0, 1⟩
def STALL_RD_V : Fld := ⟨.STALL_RD, 0, 64⟩
def STALL_WR_V : Fld := ⟨.STALL_WR, 0, 64⟩
def STALL_IO_V : Fld := ⟨.STALL_IO, 0, 64⟩
def STALL_POISON_V : Fld := ⟨.STALL_POISON, 0, 64⟩
def ID_DEVICE_DEVICE : Fld := ⟨.ID_DEVICE, 16, 16⟩
def ID_DEVICE_VENDOR : Fld := ⟨.ID_DEVICE, 0, 16⟩
def ID_REVISION_STEPPING : Fld := ⟨.ID_REVISION, 8, 8⟩
def ID_REVISION_METAL : Fld := ⟨.ID_REVISION, 0, 8⟩
def ID_SERIAL_V : Fld := ⟨.ID_SERIAL, 0, 64⟩
def ID_GRADE_V : Fld := ⟨.ID_GRADE, 0, 1⟩
def ID_EMULATED_UPSTREAM : Fld := ⟨.ID_EMULATED, 16, 16⟩
def ID_EMULATED_STALL : Fld := ⟨.ID_EMULATED, 0, 16⟩
def ID_EMULATED2_DOWNSTREAM : Fld := ⟨.ID_EMULATED2, 0, 16⟩
def ID_JTAG_VERSION : Fld := ⟨.ID_JTAG, 28, 4⟩
def ID_JTAG_PART : Fld := ⟨.ID_JTAG, 12, 16⟩
def ID_JTAG_MANUFACTURER : Fld := ⟨.ID_JTAG, 1, 11⟩
def ID_JTAG_ONE : Fld := ⟨.ID_JTAG, 0, 1⟩
def RST_CTRL_WARM : Fld := ⟨.RST_CTRL, 31, 1⟩
def RST_CTRL_HALF_E : Fld := ⟨.RST_CTRL, 30, 1⟩
def RST_CTRL_HALF_W : Fld := ⟨.RST_CTRL, 29, 1⟩
def RST_CTRL_HEARTH : Fld := ⟨.RST_CTRL, 28, 1⟩
def RST_CTRL_PORT : Fld := ⟨.RST_CTRL, 27, 1⟩
def RST_CTRL_PORT_NUM : Fld := ⟨.RST_CTRL, 0, 7⟩
def RST_STATUS_WARM_DEFERRED : Fld := ⟨.RST_STATUS, 31, 1⟩
def RST_STATUS_HALF_E : Fld := ⟨.RST_STATUS, 30, 1⟩
def RST_STATUS_HALF_W : Fld := ⟨.RST_STATUS, 29, 1⟩
def RST_STATUS_PORTS : Fld := ⟨.RST_STATUS, 16, 7⟩
def RST_CAUSE_V : Fld := ⟨.RST_CAUSE, 0, 4⟩
def RST_COUNT_WARM : Fld := ⟨.RST_COUNT, 16, 16⟩
def RST_COUNT_HEARTH : Fld := ⟨.RST_COUNT, 0, 16⟩
def RST_REFUSED_V : Fld := ⟨.RST_REFUSED, 0, 16⟩
def CLK_STATUS_FCLK_E_LOCK : Fld := ⟨.CLK_STATUS, 31, 1⟩
def CLK_STATUS_FCLK_W_LOCK : Fld := ⟨.CLK_STATUS, 30, 1⟩
def CLK_STATUS_HCLK_LOCK : Fld := ⟨.CLK_STATUS, 29, 1⟩
def CLK_STATUS_SEAM_EW : Fld := ⟨.CLK_STATUS, 28, 1⟩
def CLK_STATUS_SEAM_WE : Fld := ⟨.CLK_STATUS, 27, 1⟩
def CLK_STATUS_KCLK_RUN : Fld := ⟨.CLK_STATUS, 26, 1⟩
def CLK_GROUP_LOCK_V : Fld := ⟨.CLK_GROUP_LOCK, 0, 24⟩
def CLK_LOSS_FCLK_E : Fld := ⟨.CLK_LOSS, 24, 8⟩
def CLK_LOSS_FCLK_W : Fld := ⟨.CLK_LOSS, 16, 8⟩
def CLK_LOSS_SEAM : Fld := ⟨.CLK_LOSS, 8, 8⟩
def CLK_LOSS_GROUPS : Fld := ⟨.CLK_LOSS, 0, 8⟩
def CLK_KCLK_CAL_V : Fld := ⟨.CLK_KCLK_CAL, 0, 32⟩
def IA_PENDING_V : Fld := ⟨.IA_PENDING, 0, 32⟩
def IA_ENABLE_V : Fld := ⟨.IA_ENABLE, 0, 32⟩
def IA_SOFT_SET : Fld := ⟨.IA_SOFT, 31, 1⟩
def IA_SOFT_CLEAR : Fld := ⟨.IA_SOFT, 30, 1⟩
def IA_SOFT_SOURCE : Fld := ⟨.IA_SOFT, 0, 11⟩
def IA_CLAIM_VALID : Fld := ⟨.IA_CLAIM, 31, 1⟩
def IA_CLAIM_SOURCE : Fld := ⟨.IA_CLAIM, 0, 11⟩
def IA_ROUTE_TARGET : Fld := ⟨.IA_ROUTE, 0, 5⟩
end F

/-- Registers of 64 bits; every other register has 32 (R10). -/
def Reg.wide : Reg → Bool
  | .MIR_RING_BASE => true
  | .MIR_PROD_ADDR => true
  | .CHK_LAST_ADDR => true
  | .DEC_BASE => true
  | .STALL_SERIAL => true
  | .STALL_SLICE => true
  | .REGION_SLICE => true
  | .REGION_LEDGER => true
  | .CH_HEAD => true
  | .CH_CUR => true
  | .CH_ERR_ADDR => true
  | .PORTER_MAP => true
  | .RELOC_SRC => true
  | .RELOC_DST => true
  | .RELOC_LEDGER => true
  | .FLUE_POSTED_ADDR => true
  | .CM_IMPRECISE_ADDR => true
  | .FC_TIME => true
  | .KEEP_BASE => true
  | .BANK_GENERATION => true
  | .PMU_CYCLE => true
  | .PMU_COUNT => true
  | .SNAP_RING_BASE => true
  | .STALL_RD => true
  | .STALL_WR => true
  | .STALL_IO => true
  | .STALL_POISON => true
  | .ID_SERIAL => true
  | _ => false

/-- Registers of which a write with any value out of range is discarded whole, as their own rows state. -/
def Reg.writeWhole : Reg → Bool
  | .CXL_TIMEOUT => true
  | .LL_ADV_REQ => true
  | .LL_ADV_RSP => true
  | .LL_COMPAT => true
  | .FEED_CFG => true
  | .FEED_LEVELS => true
  | .FEED_LEVELS2 => true
  | .SLOT_FEED => true
  | .SLOT_GATE => true
  | .SLOT_CURVE => true
  | .BANK_BUDGET => true
  | .STALL_DRAIN => true
  | .TXN_CTRL => true
  | .SNAP_RING_COUNT => true
  | .CH_PACE => true
  | _ => false

/-- The fields of each register with their access codes (R13) and used encodings (R20). -/
def Reg.fields : Reg → List FSpec
  | .PHY_CTRL => [⟨27, 1, .RW, []⟩, ⟨26, 1, .RW, []⟩, ⟨25, 1, .WO, []⟩, ⟨24, 1, .WO, []⟩, ⟨21, 3, .RW, [(0, 6)]⟩, ⟨19, 2, .RW, []⟩, ⟨18, 1, .RW, []⟩, ⟨16, 2, .RW, [(0, 2)]⟩]
  | .PHY_STATUS => [⟨26, 3, .RO, []⟩, ⟨21, 5, .RO, []⟩, ⟨20, 1, .RO, []⟩, ⟨19, 1, .RO, []⟩, ⟨18, 1, .RO, []⟩, ⟨8, 7, .RO, []⟩, ⟨0, 5, .RO, []⟩]
  | .PARTNER_RATES => [⟨0, 7, .RO, []⟩]
  | .DETECT_FAILS => [⟨0, 16, .RC, []⟩]
  | .LOOPBACK_CTRL => [⟨31, 1, .W1C, []⟩, ⟨2, 1, .RW, []⟩, ⟨0, 2, .RW, []⟩]
  | .TEST_CTRL => [⟨4, 1, .RW, []⟩, ⟨3, 1, .RW, []⟩, ⟨0, 3, .RW, [(0, 4)]⟩]
  | .MARGIN_CTRL => [⟨31, 1, .WO, []⟩, ⟨28, 3, .RW, []⟩, ⟨27, 1, .RW, []⟩, ⟨26, 1, .RW, []⟩, ⟨16, 6, .RW, [(1, 63)]⟩, ⟨0, 6, .RW, [(1, 63)]⟩]
  | .MARGIN_STATUS => [⟨31, 1, .RO, []⟩, ⟨30, 1, .RO, []⟩, ⟨16, 6, .RO, []⟩, ⟨0, 6, .RO, []⟩]
  | .BOND_CTRL => [⟨1, 1, .RO, []⟩, ⟨0, 1, .RW, []⟩]
  | .LANE_RETIRE => [⟨8, 1, .RO, []⟩, ⟨0, 8, .RWS, []⟩]
  | .LANE_STATUS => [⟨31, 1, .RO, []⟩, ⟨30, 1, .RO, []⟩, ⟨29, 1, .RO, []⟩, ⟨16, 7, .RO, []⟩]
  | .LANE_TXEQ => [⟨24, 6, .RO, []⟩, ⟨16, 6, .RO, []⟩, ⟨8, 6, .RO, []⟩, ⟨0, 6, .RO, []⟩]
  | .LANE_RXEQ => [⟨31, 1, .RW, []⟩, ⟨8, 3, .RW, []⟩, ⟨0, 6, .RW, []⟩]
  | .LANE_DFE0 => [⟨0, 8, .RW, []⟩, ⟨8, 8, .RW, []⟩, ⟨16, 8, .RW, []⟩, ⟨24, 8, .RW, []⟩]
  | .LANE_DFE1 => [⟨0, 8, .RW, []⟩, ⟨8, 8, .RW, []⟩, ⟨16, 8, .RW, []⟩, ⟨24, 8, .RW, []⟩]
  | .LANE_DFE2 => [⟨0, 8, .RW, []⟩, ⟨8, 8, .RW, []⟩, ⟨16, 8, .RW, []⟩, ⟨24, 8, .RW, []⟩]
  | .LANE_ERR => [⟨0, 16, .RC, []⟩]
  | .LANE_SLIP => [⟨16, 16, .RC, []⟩, ⟨8, 1, .RO, []⟩, ⟨0, 7, .RW, []⟩]
  | .LANE_EQ_RECORD => [⟨0, 32, .RWS, []⟩]
  | .PORT_CFG => [⟨16, 1, .RWT, []⟩, ⟨9, 7, .RWT, [(0, 94), (127, 127)]⟩, ⟨7, 1, .RWT, []⟩, ⟨6, 1, .RWT, []⟩, ⟨2, 4, .RWT, [(0, 7)]⟩]
  | .PORT_STATUS => [⟨31, 1, .RO, []⟩, ⟨30, 1, .RO, []⟩, ⟨29, 1, .RO, []⟩, ⟨28, 1, .RO, []⟩, ⟨26, 2, .RO, []⟩, ⟨16, 5, .RO, []⟩, ⟨0, 4, .RO, []⟩]
  | .PORT_SLOT => [⟨31, 1, .RWT, []⟩, ⟨0, 6, .RWT, [(0, 47)]⟩]
  | .CXL_TIMEOUT => [⟨16, 16, .RW, [(1, 1000)]⟩, ⟨0, 16, .RW, [(1, 1000)]⟩]
  | .IDE_CTRL => [⟨1, 1, .RWT, []⟩, ⟨0, 1, .RWT, []⟩]
  | .IDE_STATUS => [⟨30, 2, .RO, []⟩, ⟨28, 2, .RO, []⟩, ⟨16, 8, .RO, []⟩, ⟨0, 16, .RO, []⟩]
  | .PORT_ERR => [⟨7, 1, .W1C, []⟩, ⟨6, 1, .W1C, []⟩, ⟨5, 1, .W1C, []⟩, ⟨4, 1, .W1C, []⟩, ⟨3, 1, .W1C, []⟩, ⟨2, 1, .W1C, []⟩, ⟨1, 1, .W1C, []⟩, ⟨0, 1, .W1C, []⟩]
  | .LATE_RESP_COUNT => [⟨0, 16, .RC, []⟩]
  | .POISON_COUNT => [⟨0, 32, .RC, []⟩]
  | .LL_CTRL => [⟨16, 6, .RW, [(1, 63)]⟩, ⟨8, 8, .RW, [(1, 255)]⟩, ⟨0, 8, .RW, [(1, 64)]⟩]
  | .LL_STATUS => [⟨29, 3, .RO, []⟩, ⟨28, 1, .RO, []⟩, ⟨16, 12, .RO, []⟩, ⟨0, 12, .RO, []⟩]
  | .LL_REPLAY => [⟨16, 10, .RO, []⟩, ⟨0, 12, .RO, []⟩]
  | .LL_ADV_REQ => [⟨16, 11, .RW, [(16, 2047)]⟩, ⟨0, 11, .RW, [(80, 2047)]⟩]
  | .LL_ADV_RSP => [⟨16, 11, .RW, [(16, 2047)]⟩, ⟨0, 11, .RW, [(80, 2047)]⟩]
  | .LL_AVAIL_REQ => [⟨16, 11, .RO, []⟩, ⟨0, 11, .RO, []⟩]
  | .LL_AVAIL_RSP => [⟨16, 11, .RO, []⟩, ⟨0, 11, .RO, []⟩]
  | .LL_COMPAT => [⟨16, 11, .RW, [(16, 1024)]⟩, ⟨0, 11, .RW, [(64, 2047)]⟩]
  | .LL_ERR => [⟨7, 1, .W1C, []⟩, ⟨6, 1, .W1C, []⟩, ⟨5, 1, .W1C, []⟩, ⟨4, 1, .W1C, []⟩, ⟨3, 1, .W1C, []⟩, ⟨2, 1, .W1C, []⟩, ⟨1, 1, .W1C, []⟩, ⟨0, 1, .W1C, []⟩]
  | .LL_CRC_COUNT => [⟨0, 16, .RC, []⟩]
  | .LL_REPLAY_COUNT => [⟨0, 16, .RC, []⟩]
  | .LL_INJECT => [⟨31, 1, .RW, []⟩, ⟨30, 1, .RW, []⟩, ⟨28, 1, .RW, []⟩, ⟨16, 7, .RW, []⟩, ⟨0, 3, .RW, [(0, 4)]⟩]
  | .LL_INJECT_N => [⟨0, 16, .RW, [(1, 65535)]⟩]
  | .LL_INJECT_MASK => [⟨0, 32, .RW, []⟩]
  | .LL_INJECT_STATUS => [⟨0, 16, .RC, []⟩]
  | .BUF_CFG => [⟨0, 8, .RWT, [(10, 90)]⟩]
  | .BUF_RSP_HEADROOM => [⟨0, 20, .RWT, [(1024, 65536)]⟩]
  | .BUF_MGMT_RESERVE => [⟨0, 16, .RWT, [(256, 8192)]⟩]
  | .BUF_SEAM_RESERVE => [⟨0, 20, .RO, []⟩]
  | .BUF_ACTIVE_CELLS => [⟨0, 20, .RO, []⟩]
  | .BUF_SHARED_SIZE => [⟨0, 20, .RO, []⟩]
  | .BUF_SHARED_USED => [⟨0, 20, .RO, []⟩]
  | .BUF_STATUS => [⟨31, 1, .RO, []⟩, ⟨30, 1, .RO, []⟩, ⟨29, 1, .RO, []⟩]
  | .HDR_FREE => [⟨0, 19, .RO, []⟩]
  | .HDR_QUEUE_CAP => [⟨0, 19, .RWT, [(256, 65536)]⟩]
  | .CENSUS_CFG => [⟨31, 1, .WO, []⟩, ⟨0, 16, .RW, [(1, 1000)]⟩]
  | .CENSUS_STATUS => [⟨31, 1, .RO, []⟩, ⟨0, 16, .RO, []⟩]
  | .LEAK_COUNT => [⟨16, 16, .RC, []⟩, ⟨0, 16, .RC, []⟩]
  | .BUF_ERR => [⟨5, 1, .W1C, []⟩, ⟨4, 1, .W1C, []⟩, ⟨3, 1, .W1C, []⟩, ⟨2, 1, .W1C, []⟩, ⟨1, 1, .W1C, []⟩, ⟨0, 1, .W1C, []⟩]
  | .BUF_CE_COUNT => [⟨0, 32, .RC, []⟩]
  | .MIRROR_MAX => [⟨0, 20, .RWT, [(0, 262144)]⟩]
  | .MIRROR_FLOOR => [⟨0, 20, .RWT, [(4096, 262144)]⟩]
  | .WRITE_STALL_COUNT => [⟨0, 32, .RC, []⟩]
  | .READ_DEFER_COUNT => [⟨0, 32, .RC, []⟩]
  | .Q_RX_RESERVE => [⟨0, 16, .RWT, [(512, 16384)]⟩]
  | .Q_MIN => [⟨24, 8, .RWT, []⟩, ⟨16, 8, .RWT, []⟩, ⟨8, 8, .RWT, []⟩, ⟨0, 8, .RWT, []⟩]
  | .Q_ALPHA => [⟨12, 4, .RWT, [(0, 9)]⟩, ⟨8, 4, .RWT, [(0, 9)]⟩, ⟨4, 4, .RWT, [(0, 9)]⟩, ⟨0, 4, .RWT, [(0, 9)]⟩]
  | .Q_OCC => [⟨0, 20, .RO, []⟩]
  | .Q_HOLD => [⟨0, 20, .RO, []⟩]
  | .Q_RX_INFORCE => [⟨0, 16, .RO, []⟩]
  | .Q_ADMIT_WAIT => [⟨0, 32, .RC, []⟩]
  | .MIR_CTRL => [⟨31, 1, .RWT, []⟩, ⟨30, 1, .RWT, []⟩, ⟨28, 2, .RWT, []⟩, ⟨20, 7, .RWT, [(0, 95)]⟩, ⟨13, 7, .RWT, [(0, 95)]⟩, ⟨0, 4, .RWT, []⟩]
  | .MIR_MATCH => [⟨16, 12, .RWT, []⟩, ⟨0, 7, .RWT, [(0, 64)]⟩]
  | .MIR_RING_BASE => [⟨12, 52, .RWT, []⟩]
  | .MIR_RING_SIZE => [⟨0, 5, .RWT, [(12, 30)]⟩]
  | .MIR_PROD_ADDR => [⟨3, 61, .RWT, []⟩]
  | .MIR_COUNT => [⟨0, 32, .RC, []⟩]
  | .MIR_DROP => [⟨0, 32, .RC, []⟩]
  | .MIR_OFFSET => [⟨0, 31, .RO, []⟩]
  | .BANK_CTRL => [⟨31, 1, .WO, []⟩, ⟨29, 2, .RO, []⟩, ⟨0, 12, .RO, []⟩]
  | .BANK_CE => [⟨0, 16, .RC, []⟩]
  | .BANK_UE => [⟨0, 16, .RC, []⟩]
  | .METER_CTRL => [⟨31, 1, .RWT, []⟩, ⟨30, 1, .RW, []⟩, ⟨0, 16, .RO, []⟩]
  | .METER_CIR => [⟨0, 18, .RWT, []⟩]
  | .METER_PIR => [⟨0, 18, .RWT, []⟩]
  | .METER_BURST => [⟨16, 16, .RWT, []⟩, ⟨0, 16, .RWT, []⟩]
  | .METER_LEVEL => [⟨16, 16, .RO, []⟩, ⟨0, 16, .RO, []⟩]
  | .METER_GREEN => [⟨0, 32, .RC, []⟩]
  | .METER_YELLOW => [⟨0, 32, .RC, []⟩]
  | .METER_RED => [⟨0, 32, .RC, []⟩]
  | .BULK_SHAPE => [⟨16, 16, .RWT, [(64, 65535)]⟩, ⟨0, 11, .RWT, [(1, 1024)]⟩]
  | .BULK_CREDIT => [⟨0, 32, .RO, []⟩]
  | .BULK_STATUS => [⟨0, 1, .RO, []⟩]
  | .HIST_CTRL => [⟨31, 1, .RW, []⟩, ⟨30, 1, .WO, []⟩, ⟨16, 4, .RW, []⟩, ⟨8, 4, .RW, []⟩, ⟨0, 8, .RW, [(1, 255)]⟩]
  | .DEPTH_HIST => [⟨0, 32, .RO, []⟩]
  | .DELAY_HIST => [⟨0, 32, .RO, []⟩]
  | .WIN_BASE => [⟨31, 1, .RW, []⟩, ⟨0, 24, .RW, []⟩]
  | .WIN_SIZE => [⟨0, 24, .RW, []⟩]
  | .WIN_ATTR => [⟨9, 1, .RW, []⟩, ⟨8, 1, .RW, []⟩, ⟨0, 5, .RW, []⟩]
  | .CHK_CTRL => [⟨31, 1, .RW, []⟩, ⟨30, 1, .W1C, []⟩, ⟨29, 1, .W1C, []⟩]
  | .CHK_HELD => [⟨0, 20, .RO, []⟩]
  | .CHK_NOMATCH => [⟨0, 32, .RC, []⟩]
  | .CHK_DENIED => [⟨0, 32, .RC, []⟩]
  | .CHK_LAST_ADDR => [⟨0, 64, .RO, []⟩]
  | .DEC_CTRL => [⟨31, 1, .RWT, []⟩, ⟨29, 2, .RWT, [(0, 2)]⟩, ⟨28, 1, .RWT, []⟩, ⟨20, 8, .RWT, []⟩, ⟨0, 12, .RWT, []⟩]
  | .DEC_BASE => [⟨28, 24, .RWT, []⟩]
  | .DEC_SIZE => [⟨0, 24, .RWT, []⟩]
  | .DEC_OFFSET => [⟨0, 24, .RWT, []⟩]
  | .DEC_STATE => [⟨0, 1, .RO, []⟩]
  | .STALL_CTRL => [⟨31, 1, .RWT, []⟩, ⟨30, 1, .RWT, []⟩, ⟨0, 16, .RWT, []⟩]
  | .STALL_BIND => [⟨31, 1, .RWT, []⟩, ⟨16, 7, .RWT, [(0, 94)]⟩, ⟨0, 6, .RWT, []⟩]
  | .STALL_LAYOUT => [⟨28, 4, .RWT, [(0, 7)]⟩, ⟨24, 3, .RWT, [(0, 6)]⟩, ⟨0, 24, .RWT, []⟩]
  | .STALL_STATE => [⟨28, 4, .RO, []⟩]
  | .STALL_SERIAL => [⟨0, 64, .RWT, []⟩]
  | .STALL_DRAIN => [⟨0, 10, .RW, [(1, 1000)]⟩]
  | .STALL_OUTSTANDING => [⟨0, 16, .RO, []⟩]
  | .STALL_SQUASHED => [⟨0, 32, .RC, []⟩]
  | .STALL_LATE => [⟨0, 16, .RC, []⟩]
  | .STALL_SLICE => [⟨63, 1, .RWT, []⟩, ⟨48, 7, .RWT, [(0, 95)]⟩, ⟨40, 4, .RWT, []⟩, ⟨0, 24, .RWT, []⟩]
  | .SCRUB_ACTIVE => [⟨0, 16, .RO, []⟩]
  | .SCRUB_QUARANTINED => [⟨0, 16, .RO, []⟩]
  | .EPOCH => [⟨0, 32, .RO, []⟩]
  | .COMMIT_ID => [⟨0, 32, .RO, []⟩]
  | .TXN_CTRL => [⟨0, 16, .RW, [(100, 60000)]⟩]
  | .COMMIT_STATUS => [⟨31, 1, .RO, []⟩, ⟨30, 1, .RO, []⟩, ⟨0, 3, .RO, []⟩]
  | .TXSLOT_STATE => [⟨28, 4, .RO, []⟩]
  | .SLOT_COUNT => [⟨16, 15, .RO, []⟩, ⟨0, 15, .RO, []⟩]
  | .SLOT_BASE_EPOCH => [⟨0, 32, .RO, []⟩]
  | .SLOT_LAST_ITEM => [⟨0, 30, .RO, []⟩]
  | .HALF_EPOCH => [⟨0, 32, .RO, []⟩]
  | .HALF_COMMIT => [⟨0, 32, .RO, []⟩]
  | .HALF_STATE => [⟨31, 1, .RO, []⟩, ⟨30, 1, .RO, []⟩, ⟨29, 1, .RO, []⟩]
  | .HALF_STALE => [⟨0, 16, .RC, []⟩]
  | .JOURNAL_PHASE => [⟨28, 4, .RO, []⟩]
  | .JOURNAL_EPOCH => [⟨0, 32, .RO, []⟩]
  | .JOURNAL_ID => [⟨0, 32, .RO, []⟩]
  | .REGION_CTRL => [⟨31, 1, .RWT, []⟩, ⟨30, 1, .RWT, []⟩, ⟨28, 2, .RWT, [(0, 1)]⟩, ⟨0, 11, .RWT, [(50, 1600)]⟩]
  | .REGION_LAYOUT => [⟨28, 4, .RWT, [(0, 7)]⟩, ⟨24, 3, .RWT, [(0, 6)]⟩, ⟨0, 24, .RWT, []⟩]
  | .REGION_STATUS => [⟨28, 4, .RO, []⟩, ⟨27, 1, .RO, []⟩, ⟨16, 7, .RO, []⟩, ⟨0, 16, .RO, []⟩]
  | .SNOOP_ABSENT => [⟨0, 32, .RC, []⟩]
  | .REGION_FENCED => [⟨0, 32, .RO, []⟩]
  | .REGION_SLICE => [⟨63, 1, .RWT, []⟩, ⟨48, 7, .RWT, [(0, 95)]⟩, ⟨40, 4, .RWT, []⟩, ⟨0, 24, .RWT, []⟩]
  | .REGION_LEDGER => [⟨0, 27, .RWT, []⟩]
  | .COH_CTRL => [⟨31, 1, .RW, []⟩, ⟨30, 1, .WO, []⟩, ⟨16, 10, .RW, [(0, 1000)]⟩, ⟨0, 16, .RW, [(10, 10000)]⟩]
  | .COH_STATUS => [⟨31, 1, .RO, []⟩, ⟨30, 1, .RO, []⟩, ⟨16, 13, .RO, []⟩, ⟨0, 15, .RO, []⟩]
  | .LEDGER_HIT => [⟨0, 32, .RC, []⟩]
  | .LEDGER_MISS => [⟨0, 32, .RC, []⟩]
  | .SNOOPS_SENT => [⟨0, 32, .RC, []⟩]
  | .SPEC_ISSUED => [⟨0, 32, .RC, []⟩]
  | .SPEC_DISCARDED => [⟨0, 32, .RC, []⟩]
  | .LEDGER_WRITEBACKS => [⟨0, 32, .RC, []⟩]
  | .COH_EVENTS => [⟨24, 8, .RC, []⟩, ⟨16, 8, .RC, []⟩, ⟨8, 8, .RC, []⟩, ⟨0, 8, .RC, []⟩]
  | .COH_ERR => [⟨4, 1, .W1C, []⟩, ⟨3, 1, .W1C, []⟩, ⟨2, 1, .W1C, []⟩, ⟨1, 1, .W1C, []⟩, ⟨0, 1, .W1C, []⟩]
  | .LEDGER_GROUP => [⟨31, 1, .WO, []⟩, ⟨30, 1, .RO, []⟩, ⟨21, 5, .WO, []⟩, ⟨0, 18, .RO, []⟩]
  | .MKT_CREDITS => [⟨0, 9, .RWT, [(1, 256)]⟩]
  | .MKT_OUTSTANDING => [⟨0, 9, .RO, []⟩]
  | .CH_CTRL => [⟨31, 1, .WO, []⟩, ⟨30, 1, .WO, []⟩, ⟨29, 1, .WO, []⟩, ⟨28, 1, .RW, []⟩, ⟨27, 1, .RW, []⟩]
  | .CH_STATUS => [⟨28, 4, .RO, []⟩, ⟨27, 1, .RO, []⟩, ⟨0, 8, .RO, []⟩]
  | .CH_HEAD => [⟨6, 46, .RW, []⟩]
  | .CH_CUR => [⟨0, 64, .RO, []⟩]
  | .CH_DOORBELL => [⟨0, 32, .RW, []⟩]
  | .CH_SEEN => [⟨0, 32, .RO, []⟩]
  | .CH_CFG => [⟨31, 1, .RWT, []⟩]
  | .CH_PACE => [⟨30, 2, .RW, [(0, 2)]⟩, ⟨24, 4, .RW, [(0, 13)]⟩, ⟨0, 24, .RW, []⟩]
  | .CH_ERR => [⟨5, 1, .W1C, []⟩, ⟨4, 1, .W1C, []⟩, ⟨3, 1, .W1C, []⟩, ⟨2, 1, .W1C, []⟩, ⟨1, 1, .W1C, []⟩, ⟨0, 1, .W1C, []⟩]
  | .CH_ERR_ADDR => [⟨0, 64, .RO, []⟩]
  | .CH_DONE_COUNT => [⟨0, 32, .RC, []⟩]
  | .CH_CELLS => [⟨0, 32, .RC, []⟩]
  | .PORTER_MAP => [⟨0, 56, .RO, []⟩]
  | .PORTER_PHYS => [⟨16, 16, .RO, []⟩, ⟨0, 16, .RO, []⟩]
  | .PORTER_RETIRE => [⟨31, 1, .WO, []⟩, ⟨0, 4, .WO, []⟩]
  | .RELOC_CTRL => [⟨31, 1, .RWT, []⟩, ⟨30, 1, .RW, []⟩]
  | .RELOC_OBJECT => [⟨31, 1, .RWT, []⟩, ⟨30, 1, .RWT, []⟩, ⟨29, 1, .RWT, []⟩, ⟨20, 4, .RWT, []⟩, ⟨0, 12, .RWT, []⟩]
  | .RELOC_SRC => [⟨63, 1, .RWT, []⟩, ⟨48, 7, .RWT, [(0, 95)]⟩, ⟨40, 4, .RWT, []⟩, ⟨0, 24, .RWT, []⟩]
  | .RELOC_DST => [⟨63, 1, .RWT, []⟩, ⟨48, 7, .RWT, [(0, 95)]⟩, ⟨40, 4, .RWT, []⟩, ⟨32, 7, .RWT, [(0, 95)]⟩, ⟨0, 24, .RWT, []⟩]
  | .RELOC_LEDGER => [⟨32, 27, .RWT, []⟩, ⟨0, 27, .RWT, []⟩]
  | .RELOC_STATE => [⟨28, 4, .RO, []⟩, ⟨27, 1, .RO, []⟩]
  | .RELOC_CHUNKS => [⟨0, 32, .RO, []⟩]
  | .RELOC_WATERMARK => [⟨0, 32, .RO, []⟩]
  | .RELOC_IN_COPY => [⟨0, 32, .RO, []⟩]
  | .RELOC_HELD => [⟨0, 16, .RO, []⟩]
  | .RELOC_MIRRORED => [⟨0, 32, .RC, []⟩]
  | .RELOC_RETRIES => [⟨0, 8, .RC, []⟩]
  | .RELOC_REVERSE => [⟨0, 32, .RO, []⟩]
  | .RELOC_PEER_WATERMARK => [⟨0, 32, .RO, []⟩]
  | .RELOC_PEER_IN_COPY => [⟨0, 32, .RO, []⟩]
  | .LC_STATE => [⟨0, 2, .RO, []⟩]
  | .ISO_STATUS => [⟨31, 1, .RO, []⟩, ⟨4, 1, .RO, []⟩, ⟨3, 1, .RO, []⟩, ⟨2, 1, .RO, []⟩, ⟨1, 1, .RO, []⟩, ⟨0, 1, .RO, []⟩]
  | .DEBUG_STATUS => [⟨31, 1, .RO, []⟩, ⟨30, 1, .RO, []⟩, ⟨29, 1, .RO, []⟩, ⟨0, 4, .RO, []⟩]
  | .DEBUG_CTRL => [⟨0, 1, .WO, []⟩]
  | .TAMPER_STATUS => [⟨31, 1, .RO, []⟩, ⟨3, 1, .RO, []⟩, ⟨2, 1, .RO, []⟩, ⟨1, 1, .RO, []⟩, ⟨0, 1, .RO, []⟩]
  | .TAMPER_ACTIVE => [⟨0, 4, .RO, []⟩]
  | .BOOT_STATUS => [⟨30, 2, .RO, []⟩, ⟨29, 1, .RWS, []⟩, ⟨28, 1, .RO, []⟩, ⟨27, 1, .RO, []⟩]
  | .FW_SECURITY => [⟨16, 16, .RO, []⟩, ⟨0, 16, .RO, []⟩]
  | .WIPES => [⟨0, 32, .RO, []⟩]
  | .SEALED_DENIED => [⟨0, 32, .RC, []⟩]
  | .AUDIT_COUNT => [⟨0, 32, .RO, []⟩]
  | .CORE_ACTIVE => [⟨0, 17, .RO, []⟩]
  | .CORE_RETIRED => [⟨0, 17, .RO, []⟩]
  | .CORE_RETIRE => [⟨31, 1, .WO, []⟩, ⟨0, 5, .WO, []⟩]
  | .WDT_CTRL => [⟨31, 1, .RW, []⟩, ⟨0, 16, .RW, [(10, 10000)]⟩]
  | .WDT_KICK => [⟨0, 32, .WO, []⟩]
  | .WDT_RESETS => [⟨0, 16, .RWS, []⟩]
  | .SP_BANK_CTRL => [⟨31, 1, .RW, []⟩, ⟨30, 1, .RO, []⟩, ⟨29, 1, .RO, []⟩, ⟨0, 5, .RW, [(0, 22), (31, 31)]⟩]
  | .SP_BANK_CE => [⟨0, 32, .RC, []⟩]
  | .SP_BANK_UE => [⟨0, 16, .RC, []⟩]
  | .SP_REPAIR => [⟨31, 1, .WO, []⟩, ⟨16, 10, .WO, []⟩, ⟨8, 4, .RO, []⟩, ⟨4, 4, .RO, []⟩, ⟨0, 4, .RO, []⟩]
  | .SP_CONFLICT => [⟨0, 32, .RC, []⟩]
  | .FLUE_STATUS => [⟨31, 1, .RO, []⟩, ⟨16, 7, .RO, []⟩, ⟨0, 7, .RO, []⟩]
  | .FLUE_ERR => [⟨1, 1, .W1C, []⟩, ⟨0, 1, .W1C, []⟩]
  | .FLUE_POSTED_ADDR => [⟨0, 30, .RO, []⟩]
  | .FLUE_POSTED_COUNT => [⟨0, 32, .RC, []⟩]
  | .FLUE_TIMEOUT_COUNT => [⟨0, 32, .RC, []⟩]
  | .CM_EARLY_ACK => [⟨1, 1, .RW, []⟩, ⟨0, 1, .RW, []⟩]
  | .CM_IMPRECISE_COUNT => [⟨0, 32, .RC, []⟩]
  | .CM_IMPRECISE_ADDR => [⟨63, 1, .RO, []⟩, ⟨30, 5, .RO, []⟩, ⟨0, 30, .RO, []⟩]
  | .CM_IMPRECISE_CLR => [⟨0, 1, .WO, []⟩]
  | .CM_RESV_FAILS => [⟨0, 32, .RC, []⟩]
  | .FC_SRC => [⟨31, 1, .RO, []⟩, ⟨30, 1, .RO, []⟩, ⟨29, 1, .RW, []⟩, ⟨24, 3, .RO, []⟩, ⟨16, 8, .RO, []⟩, ⟨0, 3, .RWS, [(0, 4)]⟩]
  | .FC_STATUS => [⟨31, 1, .RO, []⟩, ⟨30, 1, .RO, []⟩, ⟨29, 1, .RO, []⟩, ⟨0, 11, .RO, []⟩]
  | .FC_DOUSED => [⟨1, 1, .RO, []⟩, ⟨0, 1, .RO, []⟩]
  | .FC_CLEAR => [⟨0, 10, .WO, []⟩]
  | .FC_RING_HEAD => [⟨0, 10, .RO, []⟩]
  | .FC_RING_SEQ => [⟨0, 32, .RO, []⟩]
  | .FC_RECORD_LOST => [⟨0, 32, .RC, []⟩]
  | .FC_TIME => [⟨0, 64, .RO, []⟩]
  | .FC_LATCHED_MAP => [⟨0, 32, .RO, []⟩]
  | .FEED_CFG => [⟨31, 1, .RW, []⟩, ⟨30, 1, .RW, []⟩, ⟨29, 1, .RW, []⟩, ⟨28, 1, .RW, []⟩, ⟨0, 16, .RW, [(20, 10000)]⟩]
  | .FEED_LEVELS => [⟨16, 16, .RW, [(12000, 14000)]⟩, ⟨0, 16, .RW, [(8000, 12000)]⟩]
  | .FEED_LEVELS2 => [⟨16, 16, .RW, [(100, 2000)]⟩, ⟨0, 16, .RW, [(3000, 9000)]⟩]
  | .FEED_STATUS => [⟨31, 1, .RO, []⟩, ⟨30, 1, .RO, []⟩, ⟨29, 1, .RO, []⟩, ⟨28, 1, .RO, []⟩, ⟨26, 2, .RO, []⟩, ⟨4, 4, .RO, []⟩, ⟨0, 4, .RO, []⟩]
  | .FEED_V => [⟨16, 16, .RO, []⟩, ⟨0, 16, .RO, []⟩]
  | .FEED_ERR => [⟨7, 1, .W1C, []⟩, ⟨6, 1, .W1C, []⟩, ⟨5, 1, .W1C, []⟩, ⟨4, 1, .W1C, []⟩, ⟨3, 1, .W1C, []⟩, ⟨2, 1, .W1C, []⟩, ⟨1, 1, .W1C, []⟩, ⟨0, 1, .W1C, []⟩]
  | .FEED_EVENTS => [⟨24, 8, .RC, []⟩, ⟨16, 8, .RC, []⟩, ⟨8, 8, .RC, []⟩, ⟨0, 8, .RC, []⟩]
  | .FEED_CTRL => [⟨0, 1, .WO, []⟩]
  | .SLOT_SUMMARY => [⟨0, 32, .RO, []⟩]
  | .SLOT_CTRL => [⟨31, 1, .WO, []⟩, ⟨30, 1, .WO, []⟩, ⟨29, 1, .WO, []⟩, ⟨28, 1, .RW, []⟩, ⟨21, 3, .RW, []⟩, ⟨8, 8, .RW, [(1, 255)]⟩, ⟨0, 8, .RW, [(1, 255)]⟩]
  | .SLOT_STATE => [⟨28, 4, .RO, []⟩, ⟨27, 1, .RO, []⟩, ⟨26, 1, .RO, []⟩, ⟨25, 1, .RO, []⟩, ⟨24, 1, .RO, []⟩, ⟨23, 1, .RO, []⟩, ⟨20, 3, .RO, []⟩, ⟨16, 4, .RO, []⟩, ⟨0, 16, .RO, []⟩]
  | .SLOT_GATE => [⟨0, 8, .RW, [(1, 255)]⟩]
  | .SLOT_FEED => [⟨17, 1, .RW, []⟩, ⟨16, 1, .RW, []⟩, ⟨8, 1, .RW, []⟩, ⟨0, 8, .RW, [(2, 200)]⟩]
  | .SLOT_FAST => [⟨0, 12, .RW, []⟩]
  | .SLOT_CURVE => [⟨12, 20, .RW, [(1, 1048575)]⟩, ⟨0, 12, .RW, []⟩]
  | .SLOT_I => [⟨16, 12, .RC, []⟩, ⟨0, 12, .RO, []⟩]
  | .SLOT_V => [⟨0, 16, .RO, []⟩]
  | .SLOT_ERR => [⟨8, 1, .W1C, []⟩, ⟨7, 1, .W1C, []⟩, ⟨6, 1, .W1C, []⟩, ⟨5, 1, .W1C, []⟩, ⟨4, 1, .W1C, []⟩, ⟨3, 1, .W1C, []⟩, ⟨2, 1, .W1C, []⟩, ⟨1, 1, .W1C, []⟩, ⟨0, 1, .W1C, []⟩]
  | .SLOT_TRIPS => [⟨0, 32, .RO, []⟩]
  | .PWR_STATE => [⟨28, 4, .RO, []⟩]
  | .PWR_CTRL => [⟨31, 1, .RWS, []⟩, ⟨30, 1, .RWS, []⟩, ⟨29, 1, .RWS, []⟩, ⟨28, 1, .RWS, []⟩, ⟨0, 16, .RWS, [(1, 10000)]⟩]
  | .BANK_BUDGET => [⟨16, 16, .RWS, [(500, 5500)]⟩, ⟨0, 16, .RWS, [(500, 5500)]⟩]
  | .BANK_STATUS => [⟨31, 1, .RO, []⟩, ⟨30, 1, .RO, []⟩, ⟨29, 1, .RO, []⟩, ⟨28, 1, .RO, []⟩, ⟨27, 1, .RO, []⟩, ⟨26, 1, .RO, []⟩, ⟨25, 1, .RO, []⟩, ⟨22, 3, .RO, []⟩]
  | .BANK_ERR => [⟨6, 1, .W1C, []⟩, ⟨5, 1, .W1C, []⟩, ⟨4, 1, .W1C, []⟩, ⟨3, 1, .W1C, []⟩, ⟨2, 1, .W1C, []⟩, ⟨1, 1, .W1C, []⟩, ⟨0, 1, .W1C, []⟩]
  | .BANK_TIMES => [⟨16, 16, .RO, []⟩, ⟨0, 16, .RO, []⟩]
  | .BANK_SEAL_TIME => [⟨16, 16, .RO, []⟩, ⟨0, 16, .RO, []⟩]
  | .FLUSH_MISSED_HOST => [⟨0, 32, .RO, []⟩]
  | .FLUSH_MISSED_PORT => [⟨0, 32, .RO, []⟩]
  | .KEEP_CTRL => [⟨31, 1, .RWT, []⟩, ⟨30, 1, .RWT, []⟩, ⟨16, 7, .RWT, [(0, 95)]⟩, ⟨0, 4, .RWT, []⟩]
  | .KEEP_BASE => [⟨24, 28, .RWT, []⟩]
  | .KINDLE_STATUS => [⟨28, 4, .RO, []⟩, ⟨26, 2, .RO, []⟩, ⟨25, 1, .RO, []⟩, ⟨24, 1, .RO, []⟩, ⟨16, 7, .RO, []⟩]
  | .KINDLE_TIME => [⟨0, 32, .RO, []⟩]
  | .BANK_GENERATION => [⟨0, 64, .RO, []⟩]
  | .PMU_DIR => [⟨24, 8, .RO, []⟩, ⟨20, 4, .RO, []⟩, ⟨19, 1, .RO, []⟩, ⟨0, 7, .RO, []⟩]
  | .PMU_CTRL => [⟨31, 1, .RW, []⟩, ⟨30, 1, .WO, []⟩]
  | .PMU_OVF => [⟨0, 8, .W1C, []⟩]
  | .PMU_CYCLE => [⟨0, 64, .RO, []⟩]
  | .PMU_EVSEL => [⟨31, 1, .RW, []⟩, ⟨30, 1, .RW, []⟩, ⟨29, 1, .RW, []⟩, ⟨0, 10, .RW, []⟩]
  | .PMU_COUNT => [⟨0, 48, .RW, []⟩]
  | .SNAP_CTRL => [⟨31, 1, .RW, []⟩, ⟨30, 1, .W1C, []⟩, ⟨0, 24, .RW, [(1, 1000000)]⟩]
  | .SNAP_RING_BASE => [⟨6, 46, .RW, []⟩]
  | .SNAP_RING_COUNT => [⟨0, 16, .RW, [(1, 65535)]⟩]
  | .SNAP_HEAD => [⟨0, 16, .RO, []⟩]
  | .SNAP_MISSED => [⟨0, 32, .RC, []⟩]
  | .PMU_GLOBAL => [⟨31, 1, .RW, []⟩, ⟨30, 1, .WO, []⟩]
  | .WEAR_LEDGER_CE => [⟨24, 5, .RO, []⟩, ⟨0, 16, .RC, []⟩]
  | .WEAR_SP_COLUMN => [⟨16, 10, .RO, []⟩, ⟨0, 16, .RC, []⟩]
  | .WEAR_POLICY => [⟨16, 8, .RWS, [(1, 255)]⟩, ⟨1, 1, .RWS, []⟩, ⟨0, 1, .RWS, []⟩]
  | .STALL_RD => [⟨0, 64, .RO, []⟩]
  | .STALL_WR => [⟨0, 64, .RO, []⟩]
  | .STALL_IO => [⟨0, 64, .RO, []⟩]
  | .STALL_POISON => [⟨0, 64, .RO, []⟩]
  | .ID_DEVICE => [⟨16, 16, .RO, []⟩, ⟨0, 16, .RO, []⟩]
  | .ID_REVISION => [⟨8, 8, .RO, []⟩, ⟨0, 8, .RO, []⟩]
  | .ID_SERIAL => [⟨0, 64, .RO, []⟩]
  | .ID_GRADE => [⟨0, 1, .RO, []⟩]
  | .ID_EMULATED => [⟨16, 16, .RO, []⟩, ⟨0, 16, .RO, []⟩]
  | .ID_EMULATED2 => [⟨0, 16, .RO, []⟩]
  | .ID_JTAG => [⟨28, 4, .RO, []⟩, ⟨12, 16, .RO, []⟩, ⟨1, 11, .RO, []⟩, ⟨0, 1, .RO, []⟩]
  | .RST_CTRL => [⟨31, 1, .WO, []⟩, ⟨30, 1, .WO, []⟩, ⟨29, 1, .WO, []⟩, ⟨28, 1, .WO, []⟩, ⟨27, 1, .WO, []⟩, ⟨0, 7, .WO, []⟩]
  | .RST_STATUS => [⟨31, 1, .RO, []⟩, ⟨30, 1, .RO, []⟩, ⟨29, 1, .RO, []⟩, ⟨16, 7, .RO, []⟩]
  | .RST_CAUSE => [⟨0, 4, .RWS, [(0, 0)]⟩]
  | .RST_COUNT => [⟨16, 16, .RWS, []⟩, ⟨0, 16, .RWS, []⟩]
  | .RST_REFUSED => [⟨0, 16, .RC, []⟩]
  | .CLK_STATUS => [⟨31, 1, .RO, []⟩, ⟨30, 1, .RO, []⟩, ⟨29, 1, .RO, []⟩, ⟨28, 1, .RO, []⟩, ⟨27, 1, .RO, []⟩, ⟨26, 1, .RO, []⟩]
  | .CLK_GROUP_LOCK => [⟨0, 24, .RO, []⟩]
  | .CLK_LOSS => [⟨24, 8, .RC, []⟩, ⟨16, 8, .RC, []⟩, ⟨8, 8, .RC, []⟩, ⟨0, 8, .RC, []⟩]
  | .CLK_KCLK_CAL => [⟨0, 32, .RO, []⟩]
  | .IA_PENDING => [⟨0, 32, .RO, []⟩]
  | .IA_ENABLE => [⟨0, 32, .RW, []⟩]
  | .IA_SOFT => [⟨31, 1, .WO, []⟩, ⟨30, 1, .WO, []⟩, ⟨0, 11, .WO, []⟩]
  | .IA_CLAIM => [⟨31, 1, .RO, []⟩, ⟨0, 11, .RO, []⟩]
  | .IA_ROUTE => [⟨0, 5, .RW, [(0, 16), (31, 31)]⟩]

/-- Part 0 of the index of R599. -/
def Reg.rows0 : List Row := [
  ⟨.PHY_CTRL, 0x01000000, [⟨96, 0x10000, .first⟩], 0⟩,
  ⟨.PHY_STATUS, 0x01000004, [⟨96, 0x10000, .first⟩], 0⟩,
  ⟨.PARTNER_RATES, 0x01000008, [⟨96, 0x10000, .first⟩], 0⟩,
  ⟨.DETECT_FAILS, 0x0100000C, [⟨96, 0x10000, .first⟩], 0⟩,
  ⟨.LOOPBACK_CTRL, 0x01000010, [⟨96, 0x10000, .first⟩], 0⟩,
  ⟨.TEST_CTRL, 0x01000014, [⟨96, 0x10000, .first⟩], 0⟩,
  ⟨.MARGIN_CTRL, 0x01000018, [⟨96, 0x10000, .first⟩], 0⟩,
  ⟨.MARGIN_STATUS, 0x0100001C, [⟨96, 0x10000, .first⟩], 0⟩,
  ⟨.BOND_CTRL, 0x01000020, [⟨96, 0x10000, .first⟩], 0⟩,
  ⟨.LANE_RETIRE, 0x01000024, [⟨96, 0x10000, .first⟩], 0⟩,
  ⟨.LANE_STATUS, 0x01001000, [⟨96, 0x10000, .first⟩, ⟨8, 0x100, .second⟩], 0⟩,
  ⟨.LANE_TXEQ, 0x01001004, [⟨96, 0x10000, .first⟩, ⟨8, 0x100, .second⟩], 0⟩,
  ⟨.LANE_RXEQ, 0x01001008, [⟨96, 0x10000, .first⟩, ⟨8, 0x100, .second⟩], 0⟩,
  ⟨.LANE_DFE0, 0x0100100C, [⟨96, 0x10000, .first⟩, ⟨8, 0x100, .second⟩], 0⟩,
  ⟨.LANE_DFE1, 0x01001010, [⟨96, 0x10000, .first⟩, ⟨8, 0x100, .second⟩], 0⟩,
  ⟨.LANE_DFE2, 0x01001014, [⟨96, 0x10000, .first⟩, ⟨8, 0x100, .second⟩], 0⟩,
  ⟨.LANE_ERR, 0x01001018, [⟨96, 0x10000, .first⟩, ⟨8, 0x100, .second⟩], 0⟩,
  ⟨.LANE_SLIP, 0x0100101C, [⟨96, 0x10000, .first⟩, ⟨8, 0x100, .second⟩], 0⟩,
  ⟨.LANE_EQ_RECORD, 0x01001800, [⟨96, 0x10000, .first⟩, ⟨8, 0x20, .second⟩, ⟨8, 0x4, .second⟩], 0⟩,
  ⟨.PORT_CFG, 0x01002000, [⟨96, 0x10000, .first⟩], 0⟩,
  ⟨.PORT_STATUS, 0x01002004, [⟨96, 0x10000, .first⟩], 0⟩,
  ⟨.PORT_SLOT, 0x01002008, [⟨96, 0x10000, .first⟩], 0⟩,
  ⟨.CXL_TIMEOUT, 0x0100200C, [⟨96, 0x10000, .first⟩], 0⟩,
  ⟨.IDE_CTRL, 0x01002010, [⟨96, 0x10000, .first⟩], 0⟩,
  ⟨.IDE_STATUS, 0x01002014, [⟨96, 0x10000, .first⟩], 0⟩,
  ⟨.PORT_ERR, 0x01002018, [⟨96, 0x10000, .first⟩], 0⟩,
  ⟨.LATE_RESP_COUNT, 0x0100201C, [⟨96, 0x10000, .first⟩], 0⟩,
  ⟨.POISON_COUNT, 0x01002020, [⟨96, 0x10000, .first⟩], 0⟩,
  ⟨.LL_CTRL, 0x01002100, [⟨96, 0x10000, .first⟩], 0⟩,
  ⟨.LL_CTRL, 0x02E00000, [⟨2, 0x1000000, .first⟩, ⟨8, 0x100, .first⟩], 96⟩]

/-- Part 1 of the index of R599. -/
def Reg.rows1 : List Row := [
  ⟨.LL_STATUS, 0x01002104, [⟨96, 0x10000, .first⟩], 0⟩,
  ⟨.LL_STATUS, 0x02E00004, [⟨2, 0x1000000, .first⟩, ⟨8, 0x100, .first⟩], 96⟩,
  ⟨.LL_REPLAY, 0x01002108, [⟨96, 0x10000, .first⟩], 0⟩,
  ⟨.LL_REPLAY, 0x02E00008, [⟨2, 0x1000000, .first⟩, ⟨8, 0x100, .first⟩], 96⟩,
  ⟨.LL_ADV_REQ, 0x0100210C, [⟨96, 0x10000, .first⟩], 0⟩,
  ⟨.LL_ADV_REQ, 0x02E0000C, [⟨2, 0x1000000, .first⟩, ⟨8, 0x100, .first⟩], 96⟩,
  ⟨.LL_ADV_RSP, 0x01002110, [⟨96, 0x10000, .first⟩], 0⟩,
  ⟨.LL_ADV_RSP, 0x02E00010, [⟨2, 0x1000000, .first⟩, ⟨8, 0x100, .first⟩], 96⟩,
  ⟨.LL_AVAIL_REQ, 0x01002114, [⟨96, 0x10000, .first⟩], 0⟩,
  ⟨.LL_AVAIL_REQ, 0x02E00014, [⟨2, 0x1000000, .first⟩, ⟨8, 0x100, .first⟩], 96⟩,
  ⟨.LL_AVAIL_RSP, 0x01002118, [⟨96, 0x10000, .first⟩], 0⟩,
  ⟨.LL_AVAIL_RSP, 0x02E00018, [⟨2, 0x1000000, .first⟩, ⟨8, 0x100, .first⟩], 96⟩,
  ⟨.LL_COMPAT, 0x0100211C, [⟨96, 0x10000, .first⟩], 0⟩,
  ⟨.LL_ERR, 0x01002120, [⟨96, 0x10000, .first⟩], 0⟩,
  ⟨.LL_ERR, 0x02E00020, [⟨2, 0x1000000, .first⟩, ⟨8, 0x100, .first⟩], 96⟩,
  ⟨.LL_CRC_COUNT, 0x01002124, [⟨96, 0x10000, .first⟩], 0⟩,
  ⟨.LL_CRC_COUNT, 0x02E00024, [⟨2, 0x1000000, .first⟩, ⟨8, 0x100, .first⟩], 96⟩,
  ⟨.LL_REPLAY_COUNT, 0x01002128, [⟨96, 0x10000, .first⟩], 0⟩,
  ⟨.LL_REPLAY_COUNT, 0x02E00028, [⟨2, 0x1000000, .first⟩, ⟨8, 0x100, .first⟩], 96⟩,
  ⟨.LL_INJECT, 0x0100212C, [⟨96, 0x10000, .first⟩], 0⟩,
  ⟨.LL_INJECT, 0x02E0002C, [⟨2, 0x1000000, .first⟩, ⟨8, 0x100, .first⟩], 96⟩,
  ⟨.LL_INJECT_N, 0x01002130, [⟨96, 0x10000, .first⟩], 0⟩,
  ⟨.LL_INJECT_N, 0x02E00030, [⟨2, 0x1000000, .first⟩, ⟨8, 0x100, .first⟩], 96⟩,
  ⟨.LL_INJECT_MASK, 0x01002134, [⟨96, 0x10000, .first⟩], 0⟩,
  ⟨.LL_INJECT_MASK, 0x02E00034, [⟨2, 0x1000000, .first⟩, ⟨8, 0x100, .first⟩], 96⟩,
  ⟨.LL_INJECT_STATUS, 0x01002138, [⟨96, 0x10000, .first⟩], 0⟩,
  ⟨.LL_INJECT_STATUS, 0x02E00038, [⟨2, 0x1000000, .first⟩, ⟨8, 0x100, .first⟩], 96⟩,
  ⟨.BUF_CFG, 0x02000000, [⟨2, 0x1000000, .first⟩], 0⟩,
  ⟨.BUF_RSP_HEADROOM, 0x02000004, [⟨2, 0x1000000, .first⟩], 0⟩,
  ⟨.BUF_MGMT_RESERVE, 0x02000008, [⟨2, 0x1000000, .first⟩], 0⟩]

/-- Part 2 of the index of R599. -/
def Reg.rows2 : List Row := [
  ⟨.BUF_SEAM_RESERVE, 0x0200000C, [⟨2, 0x1000000, .first⟩], 0⟩,
  ⟨.BUF_ACTIVE_CELLS, 0x02000010, [⟨2, 0x1000000, .first⟩], 0⟩,
  ⟨.BUF_SHARED_SIZE, 0x02000014, [⟨2, 0x1000000, .first⟩], 0⟩,
  ⟨.BUF_SHARED_USED, 0x02000018, [⟨2, 0x1000000, .first⟩], 0⟩,
  ⟨.BUF_STATUS, 0x0200001C, [⟨2, 0x1000000, .first⟩], 0⟩,
  ⟨.HDR_FREE, 0x02000020, [⟨2, 0x1000000, .first⟩], 0⟩,
  ⟨.HDR_QUEUE_CAP, 0x02000024, [⟨2, 0x1000000, .first⟩], 0⟩,
  ⟨.CENSUS_CFG, 0x02000028, [⟨2, 0x1000000, .first⟩], 0⟩,
  ⟨.CENSUS_STATUS, 0x0200002C, [⟨2, 0x1000000, .first⟩], 0⟩,
  ⟨.LEAK_COUNT, 0x02000030, [⟨2, 0x1000000, .first⟩], 0⟩,
  ⟨.BUF_ERR, 0x02000034, [⟨2, 0x1000000, .first⟩], 0⟩,
  ⟨.BUF_CE_COUNT, 0x02000038, [⟨2, 0x1000000, .first⟩], 0⟩,
  ⟨.MIRROR_MAX, 0x0200003C, [⟨2, 0x1000000, .first⟩], 0⟩,
  ⟨.MIRROR_FLOOR, 0x02000040, [⟨2, 0x1000000, .first⟩], 0⟩,
  ⟨.WRITE_STALL_COUNT, 0x02000044, [⟨2, 0x1000000, .first⟩], 0⟩,
  ⟨.READ_DEFER_COUNT, 0x02000048, [⟨2, 0x1000000, .first⟩], 0⟩,
  ⟨.Q_RX_RESERVE, 0x02010000, [⟨2, 0x1000000, .first⟩, ⟨48, 0x40, .first⟩], 0⟩,
  ⟨.Q_MIN, 0x02010004, [⟨2, 0x1000000, .first⟩, ⟨48, 0x40, .first⟩], 0⟩,
  ⟨.Q_ALPHA, 0x02010008, [⟨2, 0x1000000, .first⟩, ⟨48, 0x40, .first⟩], 0⟩,
  ⟨.Q_OCC, 0x0201000C, [⟨2, 0x1000000, .first⟩, ⟨48, 0x40, .first⟩, ⟨4, 0x4, .second⟩], 0⟩,
  ⟨.Q_HOLD, 0x0201001C, [⟨2, 0x1000000, .first⟩, ⟨48, 0x40, .first⟩], 0⟩,
  ⟨.Q_RX_INFORCE, 0x02010020, [⟨2, 0x1000000, .first⟩, ⟨48, 0x40, .first⟩], 0⟩,
  ⟨.Q_ADMIT_WAIT, 0x02010024, [⟨2, 0x1000000, .first⟩, ⟨48, 0x40, .first⟩], 0⟩,
  ⟨.MIR_CTRL, 0x02020000, [⟨2, 0x1000000, .first⟩, ⟨8, 0x40, .second⟩], 0⟩,
  ⟨.MIR_MATCH, 0x02020004, [⟨2, 0x1000000, .first⟩, ⟨8, 0x40, .second⟩], 0⟩,
  ⟨.MIR_RING_BASE, 0x02020008, [⟨2, 0x1000000, .first⟩, ⟨8, 0x40, .second⟩], 0⟩,
  ⟨.MIR_RING_SIZE, 0x02020010, [⟨2, 0x1000000, .first⟩, ⟨8, 0x40, .second⟩], 0⟩,
  ⟨.MIR_PROD_ADDR, 0x02020018, [⟨2, 0x1000000, .first⟩, ⟨8, 0x40, .second⟩], 0⟩,
  ⟨.MIR_COUNT, 0x02020020, [⟨2, 0x1000000, .first⟩, ⟨8, 0x40, .second⟩], 0⟩,
  ⟨.MIR_DROP, 0x02020024, [⟨2, 0x1000000, .first⟩, ⟨8, 0x40, .second⟩], 0⟩]

/-- Part 3 of the index of R599. -/
def Reg.rows3 : List Row := [
  ⟨.MIR_OFFSET, 0x02020028, [⟨2, 0x1000000, .first⟩, ⟨8, 0x40, .second⟩], 0⟩,
  ⟨.BANK_CTRL, 0x02030000, [⟨2, 0x1000000, .first⟩, ⟨256, 0x10, .second⟩], 0⟩,
  ⟨.BANK_CE, 0x02030004, [⟨2, 0x1000000, .first⟩, ⟨256, 0x10, .second⟩], 0⟩,
  ⟨.BANK_UE, 0x02030008, [⟨2, 0x1000000, .first⟩, ⟨256, 0x10, .second⟩], 0⟩,
  ⟨.METER_CTRL, 0x02100000, [⟨2, 0x1000000, .first⟩, ⟨4096, 0x20, .second⟩], 0⟩,
  ⟨.METER_CIR, 0x02100004, [⟨2, 0x1000000, .first⟩, ⟨4096, 0x20, .second⟩], 0⟩,
  ⟨.METER_PIR, 0x02100008, [⟨2, 0x1000000, .first⟩, ⟨4096, 0x20, .second⟩], 0⟩,
  ⟨.METER_BURST, 0x0210000C, [⟨2, 0x1000000, .first⟩, ⟨4096, 0x20, .second⟩], 0⟩,
  ⟨.METER_LEVEL, 0x02100010, [⟨2, 0x1000000, .first⟩, ⟨4096, 0x20, .second⟩], 0⟩,
  ⟨.METER_GREEN, 0x02100014, [⟨2, 0x1000000, .first⟩, ⟨4096, 0x20, .second⟩], 0⟩,
  ⟨.METER_YELLOW, 0x02100018, [⟨2, 0x1000000, .first⟩, ⟨4096, 0x20, .second⟩], 0⟩,
  ⟨.METER_RED, 0x0210001C, [⟨2, 0x1000000, .first⟩, ⟨4096, 0x20, .second⟩], 0⟩,
  ⟨.BULK_SHAPE, 0x02120000, [⟨2, 0x1000000, .first⟩, ⟨48, 0x400, .first⟩], 0⟩,
  ⟨.BULK_CREDIT, 0x02120004, [⟨2, 0x1000000, .first⟩, ⟨48, 0x400, .first⟩], 0⟩,
  ⟨.BULK_STATUS, 0x02120008, [⟨2, 0x1000000, .first⟩, ⟨48, 0x400, .first⟩], 0⟩,
  ⟨.HIST_CTRL, 0x0212000C, [⟨2, 0x1000000, .first⟩, ⟨48, 0x400, .first⟩], 0⟩,
  ⟨.DEPTH_HIST, 0x02120100, [⟨2, 0x1000000, .first⟩, ⟨48, 0x400, .first⟩, ⟨5, 0x40, .second⟩, ⟨16, 0x4, .second⟩], 0⟩,
  ⟨.DELAY_HIST, 0x02120240, [⟨2, 0x1000000, .first⟩, ⟨48, 0x400, .first⟩, ⟨5, 0x40, .second⟩, ⟨16, 0x4, .second⟩], 0⟩,
  ⟨.WIN_BASE, 0x05000000, [⟨96, 0x2000, .first⟩, ⟨256, 0x10, .second⟩], 0⟩,
  ⟨.WIN_SIZE, 0x05000004, [⟨96, 0x2000, .first⟩, ⟨256, 0x10, .second⟩], 0⟩,
  ⟨.WIN_ATTR, 0x05000008, [⟨96, 0x2000, .first⟩, ⟨256, 0x10, .second⟩], 0⟩,
  ⟨.CHK_CTRL, 0x05001000, [⟨96, 0x2000, .first⟩], 0⟩,
  ⟨.CHK_HELD, 0x05001004, [⟨96, 0x2000, .first⟩], 0⟩,
  ⟨.CHK_NOMATCH, 0x05001008, [⟨96, 0x2000, .first⟩], 0⟩,
  ⟨.CHK_DENIED, 0x0500100C, [⟨96, 0x2000, .first⟩], 0⟩,
  ⟨.CHK_LAST_ADDR, 0x05001010, [⟨96, 0x2000, .first⟩], 0⟩,
  ⟨.DEC_CTRL, 0x05001400, [⟨96, 0x2000, .first⟩, ⟨32, 0x20, .second⟩], 0⟩,
  ⟨.DEC_BASE, 0x05001408, [⟨96, 0x2000, .first⟩, ⟨32, 0x20, .second⟩], 0⟩,
  ⟨.DEC_SIZE, 0x05001410, [⟨96, 0x2000, .first⟩, ⟨32, 0x20, .second⟩], 0⟩,
  ⟨.DEC_OFFSET, 0x05001414, [⟨96, 0x2000, .first⟩, ⟨32, 0x20, .second⟩], 0⟩]

/-- Part 4 of the index of R599. -/
def Reg.rows4 : List Row := [
  ⟨.DEC_STATE, 0x05001418, [⟨96, 0x2000, .first⟩, ⟨32, 0x20, .second⟩], 0⟩,
  ⟨.STALL_CTRL, 0x05400000, [⟨4096, 0x100, .first⟩], 0⟩,
  ⟨.STALL_BIND, 0x05400004, [⟨4096, 0x100, .first⟩], 0⟩,
  ⟨.STALL_LAYOUT, 0x05400008, [⟨4096, 0x100, .first⟩], 0⟩,
  ⟨.STALL_STATE, 0x0540000C, [⟨4096, 0x100, .first⟩], 0⟩,
  ⟨.STALL_SERIAL, 0x05400010, [⟨4096, 0x100, .first⟩], 0⟩,
  ⟨.STALL_DRAIN, 0x05400018, [⟨4096, 0x100, .first⟩], 0⟩,
  ⟨.STALL_OUTSTANDING, 0x0540001C, [⟨4096, 0x100, .first⟩], 0⟩,
  ⟨.STALL_SQUASHED, 0x05400020, [⟨4096, 0x100, .first⟩], 0⟩,
  ⟨.STALL_LATE, 0x05400024, [⟨4096, 0x100, .first⟩], 0⟩,
  ⟨.STALL_SLICE, 0x05400080, [⟨4096, 0x100, .first⟩, ⟨16, 0x8, .second⟩], 0⟩,
  ⟨.SCRUB_ACTIVE, 0x05600000, [], 0⟩,
  ⟨.SCRUB_QUARANTINED, 0x05600004, [], 0⟩,
  ⟨.EPOCH, 0x05800000, [], 0⟩,
  ⟨.COMMIT_ID, 0x05800004, [], 0⟩,
  ⟨.TXN_CTRL, 0x05800008, [], 0⟩,
  ⟨.COMMIT_STATUS, 0x0580000C, [], 0⟩,
  ⟨.TXSLOT_STATE, 0x05800010, [⟨4, 0x10, .first⟩], 0⟩,
  ⟨.SLOT_COUNT, 0x05800014, [⟨4, 0x10, .first⟩], 0⟩,
  ⟨.SLOT_BASE_EPOCH, 0x05800018, [⟨4, 0x10, .first⟩], 0⟩,
  ⟨.SLOT_LAST_ITEM, 0x0580001C, [⟨4, 0x10, .first⟩], 0⟩,
  ⟨.HALF_EPOCH, 0x05800100, [⟨2, 0x20, .first⟩], 0⟩,
  ⟨.HALF_COMMIT, 0x05800104, [⟨2, 0x20, .first⟩], 0⟩,
  ⟨.HALF_STATE, 0x05800108, [⟨2, 0x20, .first⟩], 0⟩,
  ⟨.HALF_STALE, 0x0580010C, [⟨2, 0x20, .first⟩], 0⟩,
  ⟨.JOURNAL_PHASE, 0x05800200, [⟨4, 0x10, .first⟩], 0⟩,
  ⟨.JOURNAL_EPOCH, 0x05800204, [⟨4, 0x10, .first⟩], 0⟩,
  ⟨.JOURNAL_ID, 0x05800208, [⟨4, 0x10, .first⟩], 0⟩,
  ⟨.REGION_CTRL, 0x02400000, [⟨2, 0x1000000, .shared⟩, ⟨256, 0x200, .first⟩], 0⟩,
  ⟨.REGION_LAYOUT, 0x02400004, [⟨2, 0x1000000, .shared⟩, ⟨256, 0x200, .first⟩], 0⟩]

/-- Part 5 of the index of R599. -/
def Reg.rows5 : List Row := [
  ⟨.REGION_STATUS, 0x02400008, [⟨2, 0x1000000, .shared⟩, ⟨256, 0x200, .first⟩], 0⟩,
  ⟨.SNOOP_ABSENT, 0x0240000C, [⟨2, 0x1000000, .first⟩, ⟨256, 0x200, .first⟩], 0⟩,
  ⟨.REGION_FENCED, 0x02400010, [⟨2, 0x1000000, .shared⟩, ⟨256, 0x200, .first⟩, ⟨3, 0x4, .second⟩], 0⟩,
  ⟨.REGION_SLICE, 0x02400080, [⟨2, 0x1000000, .shared⟩, ⟨256, 0x200, .first⟩, ⟨16, 0x10, .second⟩], 0⟩,
  ⟨.REGION_LEDGER, 0x02400088, [⟨2, 0x1000000, .shared⟩, ⟨256, 0x200, .first⟩, ⟨16, 0x10, .second⟩], 0⟩,
  ⟨.COH_CTRL, 0x02420000, [⟨2, 0x1000000, .first⟩], 0⟩,
  ⟨.COH_STATUS, 0x02420004, [⟨2, 0x1000000, .first⟩], 0⟩,
  ⟨.LEDGER_HIT, 0x02420008, [⟨2, 0x1000000, .first⟩], 0⟩,
  ⟨.LEDGER_MISS, 0x0242000C, [⟨2, 0x1000000, .first⟩], 0⟩,
  ⟨.SNOOPS_SENT, 0x02420010, [⟨2, 0x1000000, .first⟩], 0⟩,
  ⟨.SPEC_ISSUED, 0x02420014, [⟨2, 0x1000000, .first⟩], 0⟩,
  ⟨.SPEC_DISCARDED, 0x02420018, [⟨2, 0x1000000, .first⟩], 0⟩,
  ⟨.LEDGER_WRITEBACKS, 0x0242001C, [⟨2, 0x1000000, .first⟩], 0⟩,
  ⟨.COH_EVENTS, 0x02420020, [⟨2, 0x1000000, .first⟩], 0⟩,
  ⟨.COH_ERR, 0x02420024, [⟨2, 0x1000000, .first⟩], 0⟩,
  ⟨.LEDGER_GROUP, 0x02421000, [⟨2, 0x1000000, .first⟩, ⟨192, 0x4, .second⟩], 0⟩,
  ⟨.MKT_CREDITS, 0x01002200, [⟨96, 0x10000, .first⟩], 0⟩,
  ⟨.MKT_OUTSTANDING, 0x01002204, [⟨96, 0x10000, .first⟩], 0⟩,
  ⟨.CH_CTRL, 0x02500000, [⟨2, 0x1000000, .first⟩, ⟨14, 0x100, .first⟩], 0⟩,
  ⟨.CH_STATUS, 0x02500004, [⟨2, 0x1000000, .first⟩, ⟨14, 0x100, .first⟩], 0⟩,
  ⟨.CH_HEAD, 0x02500008, [⟨2, 0x1000000, .first⟩, ⟨14, 0x100, .first⟩], 0⟩,
  ⟨.CH_CUR, 0x02500010, [⟨2, 0x1000000, .first⟩, ⟨14, 0x100, .first⟩], 0⟩,
  ⟨.CH_DOORBELL, 0x02500018, [⟨2, 0x1000000, .first⟩, ⟨14, 0x100, .first⟩], 0⟩,
  ⟨.CH_SEEN, 0x0250001C, [⟨2, 0x1000000, .first⟩, ⟨14, 0x100, .first⟩], 0⟩,
  ⟨.CH_CFG, 0x02500020, [⟨2, 0x1000000, .first⟩, ⟨14, 0x100, .first⟩], 0⟩,
  ⟨.CH_PACE, 0x02500024, [⟨2, 0x1000000, .first⟩, ⟨14, 0x100, .first⟩], 0⟩,
  ⟨.CH_ERR, 0x02500028, [⟨2, 0x1000000, .first⟩, ⟨14, 0x100, .first⟩], 0⟩,
  ⟨.CH_ERR_ADDR, 0x02500030, [⟨2, 0x1000000, .first⟩, ⟨14, 0x100, .first⟩], 0⟩,
  ⟨.CH_DONE_COUNT, 0x02500038, [⟨2, 0x1000000, .first⟩, ⟨14, 0x100, .first⟩], 0⟩,
  ⟨.CH_CELLS, 0x0250003C, [⟨2, 0x1000000, .first⟩, ⟨14, 0x100, .first⟩], 0⟩]

/-- Part 6 of the index of R599. -/
def Reg.rows6 : List Row := [
  ⟨.PORTER_MAP, 0x02501000, [⟨2, 0x1000000, .first⟩], 0⟩,
  ⟨.PORTER_PHYS, 0x02501008, [⟨2, 0x1000000, .first⟩], 0⟩,
  ⟨.PORTER_RETIRE, 0x0250100C, [⟨2, 0x1000000, .first⟩], 0⟩,
  ⟨.RELOC_CTRL, 0x02600000, [⟨2, 0x1000000, .first⟩, ⟨4, 0x100, .first⟩], 0⟩,
  ⟨.RELOC_OBJECT, 0x02600004, [⟨2, 0x1000000, .first⟩, ⟨4, 0x100, .first⟩], 0⟩,
  ⟨.RELOC_SRC, 0x02600008, [⟨2, 0x1000000, .first⟩, ⟨4, 0x100, .first⟩], 0⟩,
  ⟨.RELOC_DST, 0x02600010, [⟨2, 0x1000000, .first⟩, ⟨4, 0x100, .first⟩], 0⟩,
  ⟨.RELOC_LEDGER, 0x02600018, [⟨2, 0x1000000, .first⟩, ⟨4, 0x100, .first⟩], 0⟩,
  ⟨.RELOC_STATE, 0x02600020, [⟨2, 0x1000000, .first⟩, ⟨4, 0x100, .first⟩], 0⟩,
  ⟨.RELOC_CHUNKS, 0x02600024, [⟨2, 0x1000000, .first⟩, ⟨4, 0x100, .first⟩], 0⟩,
  ⟨.RELOC_WATERMARK, 0x02600028, [⟨2, 0x1000000, .first⟩, ⟨4, 0x100, .first⟩], 0⟩,
  ⟨.RELOC_IN_COPY, 0x0260002C, [⟨2, 0x1000000, .first⟩, ⟨4, 0x100, .first⟩], 0⟩,
  ⟨.RELOC_HELD, 0x02600030, [⟨2, 0x1000000, .first⟩, ⟨4, 0x100, .first⟩], 0⟩,
  ⟨.RELOC_MIRRORED, 0x02600034, [⟨2, 0x1000000, .first⟩, ⟨4, 0x100, .first⟩], 0⟩,
  ⟨.RELOC_RETRIES, 0x02600038, [⟨2, 0x1000000, .first⟩, ⟨4, 0x100, .first⟩], 0⟩,
  ⟨.RELOC_REVERSE, 0x0260003C, [⟨2, 0x1000000, .first⟩, ⟨4, 0x100, .first⟩], 0⟩,
  ⟨.RELOC_PEER_WATERMARK, 0x02600800, [⟨2, 0x1000000, .first⟩, ⟨4, 0x8, .first⟩], 0⟩,
  ⟨.RELOC_PEER_IN_COPY, 0x02600804, [⟨2, 0x1000000, .first⟩, ⟨4, 0x8, .first⟩], 0⟩,
  ⟨.LC_STATE, 0x06000000, [], 0⟩,
  ⟨.ISO_STATUS, 0x06000004, [], 0⟩,
  ⟨.DEBUG_STATUS, 0x06000008, [], 0⟩,
  ⟨.DEBUG_CTRL, 0x0600000C, [], 0⟩,
  ⟨.TAMPER_STATUS, 0x06000010, [], 0⟩,
  ⟨.TAMPER_ACTIVE, 0x06000014, [], 0⟩,
  ⟨.BOOT_STATUS, 0x06000018, [], 0⟩,
  ⟨.FW_SECURITY, 0x0600001C, [], 0⟩,
  ⟨.WIPES, 0x06000020, [], 0⟩,
  ⟨.SEALED_DENIED, 0x06000024, [], 0⟩,
  ⟨.AUDIT_COUNT, 0x06000028, [], 0⟩,
  ⟨.CORE_ACTIVE, 0x00020000, [], 0⟩]

/-- Part 7 of the index of R599. -/
def Reg.rows7 : List Row := [
  ⟨.CORE_RETIRED, 0x00020004, [], 0⟩,
  ⟨.CORE_RETIRE, 0x00020008, [], 0⟩,
  ⟨.WDT_CTRL, 0x0002000C, [], 0⟩,
  ⟨.WDT_KICK, 0x00020010, [], 0⟩,
  ⟨.WDT_RESETS, 0x00020014, [], 0⟩,
  ⟨.SP_BANK_CTRL, 0x00020100, [⟨16, 0x10, .first⟩], 0⟩,
  ⟨.SP_BANK_CE, 0x00020104, [⟨16, 0x10, .first⟩], 0⟩,
  ⟨.SP_BANK_UE, 0x00020108, [⟨16, 0x10, .first⟩], 0⟩,
  ⟨.SP_REPAIR, 0x0002010C, [⟨16, 0x10, .first⟩], 0⟩,
  ⟨.SP_CONFLICT, 0x00020200, [⟨23, 0x4, .first⟩], 0⟩,
  ⟨.FLUE_STATUS, 0x00020400, [⟨2, 0x20, .first⟩], 0⟩,
  ⟨.FLUE_ERR, 0x00020404, [⟨2, 0x20, .first⟩], 0⟩,
  ⟨.FLUE_POSTED_ADDR, 0x00020408, [⟨2, 0x20, .first⟩], 0⟩,
  ⟨.FLUE_POSTED_COUNT, 0x00020410, [⟨2, 0x20, .first⟩], 0⟩,
  ⟨.FLUE_TIMEOUT_COUNT, 0x00020414, [⟨2, 0x20, .first⟩], 0⟩,
  ⟨.CM_EARLY_ACK, 0x00021000, [], 0⟩,
  ⟨.CM_IMPRECISE_COUNT, 0x00021004, [], 0⟩,
  ⟨.CM_IMPRECISE_ADDR, 0x00021008, [], 0⟩,
  ⟨.CM_IMPRECISE_CLR, 0x00021010, [], 0⟩,
  ⟨.CM_RESV_FAILS, 0x00021014, [], 0⟩,
  ⟨.FC_SRC, 0x04100000, [⟨1024, 0x4, .first⟩], 0⟩,
  ⟨.FC_STATUS, 0x04101000, [], 0⟩,
  ⟨.FC_DOUSED, 0x04101004, [], 0⟩,
  ⟨.FC_CLEAR, 0x04101008, [], 0⟩,
  ⟨.FC_RING_HEAD, 0x0410100C, [], 0⟩,
  ⟨.FC_RING_SEQ, 0x04101010, [], 0⟩,
  ⟨.FC_RECORD_LOST, 0x04101014, [], 0⟩,
  ⟨.FC_TIME, 0x04101018, [], 0⟩,
  ⟨.FC_LATCHED_MAP, 0x04101100, [⟨32, 0x4, .first⟩], 0⟩,
  ⟨.FEED_CFG, 0x04000000, [], 0⟩]

/-- Part 8 of the index of R599. -/
def Reg.rows8 : List Row := [
  ⟨.FEED_LEVELS, 0x04000004, [], 0⟩,
  ⟨.FEED_LEVELS2, 0x04000008, [], 0⟩,
  ⟨.FEED_STATUS, 0x0400000C, [], 0⟩,
  ⟨.FEED_V, 0x04000010, [], 0⟩,
  ⟨.FEED_ERR, 0x04000014, [], 0⟩,
  ⟨.FEED_EVENTS, 0x04000018, [], 0⟩,
  ⟨.FEED_CTRL, 0x0400001C, [], 0⟩,
  ⟨.SLOT_SUMMARY, 0x04000020, [⟨2, 0x4, .first⟩], 0⟩,
  ⟨.SLOT_CTRL, 0x04010000, [⟨48, 0x100, .first⟩], 0⟩,
  ⟨.SLOT_STATE, 0x04010004, [⟨48, 0x100, .first⟩], 0⟩,
  ⟨.SLOT_GATE, 0x04010008, [⟨48, 0x100, .first⟩], 0⟩,
  ⟨.SLOT_FEED, 0x0401000C, [⟨48, 0x100, .first⟩], 0⟩,
  ⟨.SLOT_FAST, 0x04010010, [⟨48, 0x100, .first⟩], 0⟩,
  ⟨.SLOT_CURVE, 0x04010020, [⟨48, 0x100, .first⟩, ⟨8, 0x4, .second⟩], 0⟩,
  ⟨.SLOT_I, 0x04010040, [⟨48, 0x100, .first⟩], 0⟩,
  ⟨.SLOT_V, 0x04010044, [⟨48, 0x100, .first⟩], 0⟩,
  ⟨.SLOT_ERR, 0x04010048, [⟨48, 0x100, .first⟩], 0⟩,
  ⟨.SLOT_TRIPS, 0x0401004C, [⟨48, 0x100, .first⟩], 0⟩,
  ⟨.PWR_STATE, 0x00030000, [], 0⟩,
  ⟨.PWR_CTRL, 0x00030004, [], 0⟩,
  ⟨.BANK_BUDGET, 0x00030008, [], 0⟩,
  ⟨.BANK_STATUS, 0x0003000C, [], 0⟩,
  ⟨.BANK_ERR, 0x00030010, [], 0⟩,
  ⟨.BANK_TIMES, 0x00030014, [], 0⟩,
  ⟨.BANK_SEAL_TIME, 0x00030018, [], 0⟩,
  ⟨.FLUSH_MISSED_HOST, 0x00030020, [⟨3, 0x4, .first⟩], 0⟩,
  ⟨.FLUSH_MISSED_PORT, 0x00030030, [⟨3, 0x4, .first⟩], 0⟩,
  ⟨.KEEP_CTRL, 0x00030040, [], 0⟩,
  ⟨.KEEP_BASE, 0x00030048, [], 0⟩,
  ⟨.KINDLE_STATUS, 0x00030050, [], 0⟩]

/-- Part 9 of the index of R599. -/
def Reg.rows9 : List Row := [
  ⟨.KINDLE_TIME, 0x00030054, [], 0⟩,
  ⟨.BANK_GENERATION, 0x00030058, [], 0⟩,
  ⟨.PMU_DIR, 0x04300000, [⟨229, 0x4, .first⟩], 0⟩,
  ⟨.PMU_CTRL, 0x04310000, [⟨229, 0x100, .first⟩], 0⟩,
  ⟨.PMU_OVF, 0x04310004, [⟨229, 0x100, .first⟩], 0⟩,
  ⟨.PMU_CYCLE, 0x04310008, [⟨229, 0x100, .first⟩], 0⟩,
  ⟨.PMU_EVSEL, 0x04310010, [⟨229, 0x100, .first⟩, ⟨8, 0x4, .second⟩], 0⟩,
  ⟨.PMU_COUNT, 0x04310040, [⟨229, 0x100, .first⟩, ⟨8, 0x8, .second⟩], 0⟩,
  ⟨.SNAP_CTRL, 0x04320000, [], 0⟩,
  ⟨.SNAP_RING_BASE, 0x04320008, [], 0⟩,
  ⟨.SNAP_RING_COUNT, 0x04320010, [], 0⟩,
  ⟨.SNAP_HEAD, 0x04320014, [], 0⟩,
  ⟨.SNAP_MISSED, 0x04320018, [], 0⟩,
  ⟨.PMU_GLOBAL, 0x04320020, [], 0⟩,
  ⟨.WEAR_LEDGER_CE, 0x04321000, [⟨2, 0x400, .first⟩, ⟨192, 0x4, .second⟩], 0⟩,
  ⟨.WEAR_SP_COLUMN, 0x04321800, [⟨16, 0x4, .first⟩], 0⟩,
  ⟨.WEAR_POLICY, 0x04321900, [], 0⟩,
  ⟨.STALL_RD, 0x04400000, [⟨2, 0x20000, .first⟩, ⟨4096, 0x20, .second⟩], 0⟩,
  ⟨.STALL_WR, 0x04400008, [⟨2, 0x20000, .first⟩, ⟨4096, 0x20, .second⟩], 0⟩,
  ⟨.STALL_IO, 0x04400010, [⟨2, 0x20000, .first⟩, ⟨4096, 0x20, .second⟩], 0⟩,
  ⟨.STALL_POISON, 0x04400018, [⟨2, 0x20000, .first⟩, ⟨4096, 0x20, .second⟩], 0⟩,
  ⟨.ID_DEVICE, 0x00000000, [], 0⟩,
  ⟨.ID_REVISION, 0x00000004, [], 0⟩,
  ⟨.ID_SERIAL, 0x00000008, [], 0⟩,
  ⟨.ID_GRADE, 0x00000010, [], 0⟩,
  ⟨.ID_EMULATED, 0x00000014, [], 0⟩,
  ⟨.ID_EMULATED2, 0x00000018, [], 0⟩,
  ⟨.ID_JTAG, 0x0000001C, [], 0⟩,
  ⟨.RST_CTRL, 0x00001000, [], 0⟩,
  ⟨.RST_STATUS, 0x00001004, [], 0⟩]

/-- Part 10 of the index of R599. -/
def Reg.rows10 : List Row := [
  ⟨.RST_CAUSE, 0x00001008, [], 0⟩,
  ⟨.RST_COUNT, 0x0000100C, [], 0⟩,
  ⟨.RST_REFUSED, 0x00001010, [], 0⟩,
  ⟨.CLK_STATUS, 0x00002000, [], 0⟩,
  ⟨.CLK_GROUP_LOCK, 0x00002004, [], 0⟩,
  ⟨.CLK_LOSS, 0x00002008, [], 0⟩,
  ⟨.CLK_KCLK_CAL, 0x0000200C, [], 0⟩,
  ⟨.IA_PENDING, 0x00010000, [⟨64, 0x4, .first⟩], 0⟩,
  ⟨.IA_ENABLE, 0x00010100, [⟨64, 0x4, .first⟩], 0⟩,
  ⟨.IA_SOFT, 0x00010200, [], 0⟩,
  ⟨.IA_CLAIM, 0x00010204, [], 0⟩,
  ⟨.IA_ROUTE, 0x00011000, [⟨2048, 0x4, .first⟩], 0⟩]

/-- The index of R599: every register with its addresses. -/
def Reg.rows : List Row :=
  Reg.rows0 ++ Reg.rows1 ++ Reg.rows2 ++ Reg.rows3 ++ Reg.rows4 ++ Reg.rows5 ++ Reg.rows6 ++ Reg.rows7 ++ Reg.rows8 ++ Reg.rows9 ++ Reg.rows10

/-- Default reactions of the per-port fault sources (R493) and of the global ones (R494). -/
def fcDefault (n : Nat) : Nat :=
  if n < 768 then
    match n % 8 with
    | 2 | 3 | 6 => 2
    | 4 => 1
    | _ => 0
  else if n < 772 then 1
  else if n < 774 then 3
  else if n < 776 then 1
  else if n < 778 then 0
  else if n < 783 then 1
  else if n = 783 then 2
  else if n = 784 then 0
  else if n < 792 then 1
  else if n < 794 then 3
  else if n < 960 then 0
  else if n < 1009 then 1
  else if n < 1023 then 0
  else 4

/-- PMU_DIR of unit u (R562, R563, R584). -/
def pmuDir (u : Nat) : Nat :=
  let e (ty clk snap idx : Nat) := ty * 2 ^ 24 + clk * 2 ^ 20 + snap * 2 ^ 19 + idx
  if u < 96 then e 0 0 0 u
  else if u < 192 then e 1 (if u - 96 < 48 then 1 else 2) 0 (u - 96)
  else if u < 216 then e 2 0 0 (u - 192)
  else if u < 218 then e 3 (u - 215) 1 (u - 216)
  else if u < 220 then e 4 (u - 217) 1 (u - 218)
  else if u < 222 then e 5 (u - 219) 1 (u - 220)
  else if u < 224 then e 6 (u - 221) 1 (u - 222)
  else if u < 226 then e 7 (u - 223) 0 (u - 224)
  else if u = 226 then e 8 3 0 0
  else if u = 227 then e 9 3 0 0
  else if u = 228 then e 10 3 0 0
  else 0

/-- SLOT_CURVE0 to SLOT_CURVE7 at reset (R539). -/
def curveReset (k : Nat) : Nat :=
  match k with
  | 0 => 0xF42403C0
  | 1 => 0x30D404B0
  | 2 => 0x0C3505A0
  | 3 => 0x02710780
  | 4 => 0x007D0960
  | 5 => 0x001F4B40
  | 6 => 0x00064D20
  | _ => 0x00014F00

/-- The reset value of a register (R18). Registers not named reset to 0. "fuse" is read as the value without fused
repair where the table gives one, and as 0 otherwise (DESIGN CHOICE, log entry 2). -/
def Reg.reset (r : Reg) (i j : Nat) : Nat :=
  match r with
  | .PHY_CTRL => 0x0CC40000
  | .MARGIN_CTRL => 0x003F0000
  | .LANE_RXEQ => 0x00000014
  | .PORT_CFG => 0x0000FE00
  | .CXL_TIMEOUT => 0x00320010
  | .LL_CTRL => if i < 96 then 0x00016420 else 0x00010404
  | .LL_REPLAY => 0x00000FFF
  | .LL_ADV_REQ => if i < 96 then 0x07F807F8 else 0x06000200
  | .LL_ADV_RSP => if i < 96 then 0x07F807F8 else 0x06000200
  | .LL_COMPAT => 0x00800200
  | .LL_INJECT_N => 0x00000001
  | .LL_INJECT_MASK => 0x00000001
  | .BUF_CFG => 0x00000032
  | .BUF_RSP_HEADROOM => 0x00001000
  | .BUF_MGMT_RESERVE => 0x00000400
  | .BUF_SEAM_RESERVE => 0x00002000
  | .BUF_ACTIVE_CELLS => 0x000BA000
  | .BUF_SHARED_SIZE => 0x000B7C00
  | .BUF_STATUS => 0x60000000
  | .HDR_FREE => 0x00039F00
  | .HDR_QUEUE_CAP => 0x00004000
  | .CENSUS_CFG => 0x0000000A
  | .MIRROR_MAX => 0x00004000
  | .MIRROR_FLOOR => 0x00008000
  | .Q_RX_RESERVE => 0x00000400
  | .Q_MIN => 0x04101000
  | .Q_ALPHA => 0x00004676
  | .MIR_MATCH => 0x00000001
  | .MIR_RING_SIZE => 0x0000000C
  | .BANK_CTRL => if j < 248 then 0xC00 else 0x20000000
  | .METER_PIR => 0x0003E800
  | .METER_BURST => 0x10000400
  | .BULK_SHAPE => 0x10000080
  | .HIST_CTRL => 0x00040010
  | .CHK_CTRL => 0x80000000
  | .STALL_DRAIN => 0x00000032
  | .EPOCH => 0x00000001
  | .TXN_CTRL => 0x00002710
  | .HALF_EPOCH => 0x00000001
  | .REGION_CTRL => 0x400000C8
  | .COH_CTRL => 0x806403E8
  | .COH_STATUS => 0x80000000
  | .LEDGER_GROUP => 0x0000FFFF
  | .MKT_CREDITS => 0x00000040
  | .CH_CTRL => 0x08000000
  | .PORTER_MAP => 0xDCBA9876543210
  | .PORTER_PHYS => 0x00003FFF
  | .RELOC_IN_COPY => 0xFFFFFFFF
  | .RELOC_PEER_IN_COPY => 0xFFFFFFFF
  | .ISO_STATUS => 0x00000008
  | .CORE_ACTIVE => 0x0000FFFF
  | .WDT_CTRL => 0x80000064
  | .SP_BANK_CTRL => 0x0000001F
  | .SP_REPAIR => 0x00000444
  | .CM_EARLY_ACK => 0x00000001
  | .FC_SRC => fcDefault i
  | .FEED_CFG => 0xF00000C8
  | .FEED_LEVELS => 0x33902A30
  | .FEED_LEVELS2 => 0x02581770
  | .SLOT_CTRL => 0x00600A14
  | .SLOT_GATE => 0x00000032
  | .SLOT_FEED => 0x0003000A
  | .SLOT_FAST => 0x00000FA0
  | .SLOT_CURVE => curveReset j
  | .PWR_CTRL => 0x70000064
  | .BANK_BUDGET => 0x0BB80BB8
  | .PMU_DIR => pmuDir i
  | .SNAP_CTRL => 0x000003E8
  | .SNAP_RING_COUNT => 0x00000001
  | .WEAR_POLICY => 0x00180001
  | .ID_DEVICE => 0x96801F6C
  | .ID_REVISION => 0x00000B00
  | .ID_EMULATED => 0x96829681
  | .ID_EMULATED2 => 0x00009683
  | .ID_JTAG => 0x19680547
  | .IA_ROUTE => if 326 ≤ i ∧ i ≤ 342 then i - 326 else 0x1F
  | _ => 0

end Sys2Proof.Machine
end

