-- ==== Sys2Proof/Machine/Tab.lean ====
section
/-!
DEFINITION. Sparse tables in one canonical form, the bit fields of a word, and the byte order of memory (R5).
A table lists only the keys whose value differs from the one an unlisted key has, with keys strictly rising.
-/
namespace Sys2Proof.Machine

/-- The value listed for a key. -/
def tabFind {κ α : Type} [DecidableEq κ] (k : κ) : List (κ × α) → Option α
  | [] => none
  | e :: t => if e.1 = k then some e.2 else tabFind k t

/-- The table without a key. -/
def tabErase {κ α : Type} [DecidableEq κ] (k : κ) (t : List (κ × α)) : List (κ × α) :=
  t.filter (fun e => decide (e.1 ≠ k))

/-- Insert before the first larger key. -/
def tabInsert {κ α : Type} (lt : κ → κ → Bool) (k : κ) (v : α) : List (κ × α) → List (κ × α)
  | [] => [(k, v)]
  | e :: t => if lt k e.1 then (k, v) :: e :: t else e :: tabInsert lt k v t

/-- Write a key: the value an unlisted key has removes the entry. -/
def tabPut {κ α : Type} [DecidableEq κ] [DecidableEq α] (lt : κ → κ → Bool) (dflt : α) (k : κ) (v : α)
    (t : List (κ × α)) : List (κ × α) :=
  if v = dflt then tabErase k t else tabInsert lt k v (tabErase k t)

/-- The order of tables keyed by numbers. -/
def natLt (a b : Nat) : Bool := decide (a < b)

/-- The value of a key in a table of numbers, with the value of an unlisted key. -/
def numGet {α : Type} (dflt : α) (k : Nat) (t : List (Nat × α)) : α := (tabFind k t).getD dflt

/-- Write a key of a table of numbers. -/
def numPut {α : Type} [DecidableEq α] (dflt : α) (k : Nat) (v : α) (t : List (Nat × α)) : List (Nat × α) :=
  tabPut natLt dflt k v t

/-- Bits `lo` to `lo + w - 1` of a word, as a number (R4). -/
def Word.bits (v : Word) (lo w : Nat) : Nat := v.toNat / 2 ^ lo % 2 ^ w

/-- The word with bits `lo` to `lo + w - 1` replaced by `x`, taken modulo `2 ^ w` (R4). -/
def Word.setBits (v : Word) (lo w x : Nat) : Word :=
  BitVec.ofNat 64 (v.toNat - Word.bits v lo w * 2 ^ lo + x % 2 ^ w * 2 ^ lo)

/-- The bytes of a number, lowest first (R5). -/
def leBytes : Nat → Nat → List Byte
  | 0, _ => []
  | n + 1, v => BitVec.ofNat 8 (v % 256) :: leBytes n (v / 256)

/-- The number that bytes spell, lowest first (R5). -/
def leNat : List Byte → Nat
  | [] => 0
  | b :: t => b.toNat + 256 * leNat t

/-- Signed reading of a 32-bit two's complement field (BULK_CREDIT, R225). -/
def signed32 (n : Nat) : Int := if n % 2 ^ 32 < 2 ^ 31 then (n % 2 ^ 32 : Nat) else (n % 2 ^ 32 : Nat) - (2 ^ 32 : Int)

/-- Two's complement of 32 bits (BULK_CREDIT, R225). -/
def toTwos32 (z : Int) : Nat := (z % (2 ^ 32 : Int)).toNat

end Sys2Proof.Machine
end

