-- ==== Sys2Proof/Machine/Crc.lean ====
section
/-!
DEFINITION. The cyclic redundancy checks of the spec, bit by bit: the CRC-32 of R197 and the CRC-64 of R119. The register is
shifted left and the most significant bit of each byte enters first, as R311 says for its CRC-8 (log entry 143).
-/
namespace Sys2Proof.Machine

/-- One bit into a register of `w` bits. -/
def crcBit (w poly reg : Nat) (b : Bool) : Nat :=
  let top := reg / 2 ^ (w - 1) % 2 == 1
  let sh := reg * 2 % 2 ^ w
  if top != b then Nat.xor sh poly else sh

/-- One byte, its most significant bit first. -/
def crcByte (w poly reg : Nat) (b : Byte) : Nat :=
  [7, 6, 5, 4, 3, 2, 1, 0].foldl (fun r i => crcBit w poly r (b.toNat / 2 ^ i % 2 == 1)) reg

/-- Bytes into a register, first to last. Each value is matched, so that Lean's kernel evaluates the register byte by byte. -/
def crcBytes (w poly : Nat) : Nat → List Byte → Nat
  | r, [] => r
  | r, b :: l =>
    match crcByte w poly r b with
    | 0 => crcBytes w poly 0 l
    | n + 1 => crcBytes w poly (n + 1) l

/-- A CRC with initial value all ones and a final inversion. -/
def crcOnes (w poly : Nat) (l : List Byte) : Nat := Nat.xor (crcBytes w poly (2 ^ w - 1) l) (2 ^ w - 1)

/-- The CRC-32 of a cell, a journal record, a section and an equalisation tag (R70, R197, R298, R394, R550). -/
def crc32 (l : List Byte) : Nat := crcOnes 32 0x04C11DB7 l

/-- The CRC-64 of a flit (R119): the ECMA-182 polynomial. -/
def crc64 (l : List Byte) : Nat := crcOnes 64 0x42F0E1EBA9EA3693 l

end Sys2Proof.Machine
end

