-- ==== Sys2Proof/Config.lean ====
section
/-!
DEFINITION. What the spec leaves open. Every constant here is opaque: no proof can see a value, and a claim that
mentions one holds for every value. A value that must be fresh each time is a function of the plain counter
`State.free` (log entry 3).
-/
namespace Sys2Proof.Config

/-- Random values: commit IDs (R288), device nonces (R436), unlock nonces (R417), drawn at the given draw. -/
opaque random : Nat → BitVec 256

/-- The coefficients of a preset of R66, in the layout of LANE_TXEQ (the base specification's, which the spec does not
repeat): whether it is one of Q0 to Q10, and its number. -/
opaque presetTaps : Bool → Nat → BitVec 32

/-- The set of the Ledger cache that a line belongs to (R314 gives no hash); taken modulo the number of sets. -/
opaque ledgerSet : Nat → Nat

/-- What the Hearth's scratchpad and Ember store give back for a byte that an uncorrectable error destroyed (R459). -/
opaque lostByte : Nat → BitVec 8

/-- The SECDED check bits of a data word (R163 gives the code no matrix). -/
opaque secded : BitVec 32 → BitVec 7

/-- The forward-error-correction parity of a ROLE 6 flit, six bytes (R119: the base specification's), of its first 250 bytes. -/
opaque fecParity : List (BitVec 8) → BitVec 48

/-- The content of an emulated configuration space at reset (R250 names the capabilities, not their places): whether a Stall
covers Market ranges (R98), the function (0 to 94 upstream port of a host, 95 + 64 h + v its virtual port v, 6175 + s Stall s)
and the offset. -/
opaque emuConfig : Bool → Nat → Nat → BitVec 32

/-- Offsets in an emulated configuration space that the spec does not give: Slot Capabilities, Slot Control and Status (R110),
Uncorrectable and Correctable Error Status (R114), the Data Object Exchange capability of a Stall (R99). -/
opaque slotCaps : Nat
opaque slotStatus : Nat
opaque aerUncorrectable : Nat
opaque aerCorrectable : Nat
opaque doeBase : Nat

/-- The data object with which a Stall's Data Object Exchange mailbox answers one (R99): the CDAT table among them. -/
opaque doeAnswer : Nat → List Nat → List Nat

/-- The bits of an emulated configuration register that a host may change (R250), by function and offset as above. -/
opaque emuMask : Nat → Nat → BitVec 32

/-- The Command Effects Log that the emulated mailbox returns (R252 names it, CXL defines it). -/
opaque effectsLog : Nat → BitVec 8

/-- Whether a source address matches an ACCEPT prefix (R434); both as the numbers that name them. -/
opaque acceptMatch : Nat → Nat → Bool

/-- The version of the boot ROM that measurement index 1 reports (R414). -/
opaque romVersion : BitVec 32

/-- The SHA-384 of the Wesis image of a slot that measurement index 2 reports (R414), 1 slot A, 2 slot B. -/
opaque imageHash : Nat → BitVec 384

/-- The bytes of a Stall state record (R258 names what it holds, not its layout), at most 16 KiB of them count, and what a
record of those bytes holds. -/
opaque recordBytes : List Nat → List (BitVec 8)
opaque recordParse : List (BitVec 8) → Option (List Nat)

/-- The version of the Wesis image of a slot that GET_IDENTITY reports (R451), 1 slot A, 2 slot B. -/
opaque wesisVersion : Nat → BitVec 32

end Sys2Proof.Config
end

