-- ==== Sys2Proof/Machine/State.lean ====
section
/-!
DEFINITION. The state of the device, as plain data. Every architectural register is in `regs`, one sparse register
file in canonical form (an unlisted register holds its reset value, R18); the rest is what the chapters give the
engines: messages in the buffers, link layers, tables in progress, sessions, slot channels, memory.
-/
namespace Sys2Proof.Machine

/-- Why the model stops with a fault. No command of the table does: the constructor exists so that a run that names
memory the spec does not give the machine has a name (safe: the machine stops where the hardware would answer). -/
inductive Fault where
  /-- Raised by no meaning at present: an access to memory that exists nowhere (safe). -/
  | noSuchMemory
deriving DecidableEq, Repr

/-- Why the model refuses a command. -/
inductive Refusal where
  /-- Raised by an arm of exec whose command has no meaning yet (safe: nothing can be proved of it). -/
  | notModelled (mnemonic : String)
deriving DecidableEq, Repr

/-- Meter colours (R210). -/
inductive Colour where
  | green | yellow | red
deriving DecidableEq, Repr

/-- The account of R171 that a message's cells are charged to. -/
inductive Charge where
  /-- no charge -/
  | none
  /-- the receive reserve of its port -/
  | receive
  /-- the Seam receive reserve -/
  | seam
  /-- the management reserve -/
  | mgmt
  /-- the minimum of its queue -/
  | queueMin
  /-- the shared pool -/
  | shared
  /-- an internal agent's own staging (R175) -/
  | staging
deriving DecidableEq, Repr

/-- Where a message is. -/
inductive Stage where
  /-- at the ingress, because the checker of its context is disabled (R237) -/
  | atChecker
  /-- on the hold list of its input for its egress port and class (R178) -/
  | held
  /-- sent on its Seam channel, not yet received (R183) -/
  | onSeam
  /-- on the receiving half's hold list of its Seam channel (R186) -/
  | seamHeld
  /-- in the queue of its egress port and class -/
  | queued
  /-- sent to a device behind its port, awaiting the response -/
  | atDevice
  /-- with the Hearth, awaiting firmware's answer (R29, R218) -/
  | atHearth
  /-- in the staging of its home engine (R317) -/
  | atHome
  /-- a Porter channel's access that came back and that the channel has yet to take (R354); squashed: it failed -/
  | returned
deriving DecidableEq, Repr

/-- What a message is, beyond its class. -/
inductive MsgOp where
  | memRead | memWrite | memInv
  | ioRead | ioWrite
  | cacheReq | cacheResp
  | memResp | ioCompl
  | snoop | snoopResp
  | bulkWrite | bulkRead
  | ledgerRead | ledgerWrite
  | mgmt
  | mirror
deriving DecidableEq, Repr

/-- One slice: a way of a Stall's layout or of a Market region's (R242, R305). -/
structure SliceRef where
  region : Bool
  obj : Nat
  way : Nat
  deriving DecidableEq, Repr

/-- ECP status codes (R443). -/
inductive Status where
  | ok | accepted | alreadyDone | busy | denied | invalid | overlap | staleEpoch | noResource
  | timeout | faulted | aborted | noSession | unknownOpcode | tooLarge
deriving DecidableEq, Repr

/-- The encodings of R443. -/
def Status.code : Status → Nat
  | .ok => 0x00
  | .accepted => 0x01
  | .alreadyDone => 0x02
  | .busy => 0x10
  | .denied => 0x20
  | .invalid => 0x21
  | .overlap => 0x22
  | .staleEpoch => 0x23
  | .noResource => 0x30
  | .timeout => 0x31
  | .faulted => 0x40
  | .aborted => 0x41
  | .noSession => 0x50
  | .unknownOpcode => 0x51
  | .tooLarge => 0x52

/-- A reply packet: opcode, status and result values (R442). -/
structure Reply where
  opcode : Nat
  status : Status
  values : List Nat
  deriving DecidableEq, Repr

/-- Return codes of an emulated mailbox (R252, R253) and of the fabric-manager API (R453). -/
inductive MailCode where
  | success | backgroundStarted | unsupported | mediaFailure | invalid | busy
  | securityState | exhausted | internal | aborted
deriving DecidableEq, Repr

/-- A message on a Cascade or Seam link (R123, R124): its header, its carried header, its cells, each 64 bytes with the CRC-32 that
travels with it (R197). -/
structure WireMsg where
  cls : Nat
  blocks : Nat
  poison : Bool
  src : Nat
  dst : Nat
  tag : Nat
  carried : List Byte
  cells : List (List Byte × Nat)
  deriving DecidableEq, Repr

/-- What a flit carries beside its link header. -/
inductive FlitBody where
  /-- TYPE 0 -/
  | null
  /-- TYPE 1: its part of the byte stream of messages (R123) -/
  | payload (bytes : List Byte)
  /-- TYPE 2 (R155): the lanes active after the switch, the flit periods left, and the ACK bit -/
  | retire (mask count : Nat) (ack : Bool)
  /-- TYPE 3 (R148): Request header and data totals, Response header and data totals, RX_READY, RETIRE_CAP -/
  | init (reqHdr reqData rspHdr rspData : Nat) (ready cap : Bool)
  /-- TYPE 4 to 15 (R122) -/
  | unused (type : Nat)
  deriving DecidableEq, Repr

/-- A flit (R119 to R121): the fields of its link header, and its body. -/
structure Flit where
  body : FlitBody
  seq : Nat := 0
  ackSeq : Nat := 4095
  ackNew : Bool := false
  replayReq : Bool := false
  version : Nat := 1
  reqHdr : Nat := 0
  reqData : Nat := 0
  rspHdr : Nat := 0
  rspData : Nat := 0
  nextMsg : Nat := 127
  reqXoff : Bool := false
  rspXoff : Bool := false
  deriving DecidableEq, Repr

/-- What the Hearth says to a port: the content of a class 9 message that it originates (R219). -/
inductive Said where
  /-- the completion of a configuration request, with its data -/
  | config (value : Nat)
  /-- the completion of a register access: its data, or Completer Abort -/
  | data (id : Nat) (bytes : List Byte)
  | abort (id : Nat)
  /-- a reply packet of ECP, an answer of the fabric-manager API -/
  | reply (source : Source) (session seq : Nat) (r : Reply)
  | fmReply (source : Source) (code : MailCode) (values : List Nat)
  /-- an SPDM measurement, an SPDM or key-management message answered: Data Object Exchange traffic -/
  | measurement (index : Nat) (content : List Nat)
  | spdm (accepted : Bool)
  /-- a mailbox command of a Stall answered -/
  | mailbox (stall opcode : Nat) (code : MailCode) (values : List Nat)
deriving DecidableEq, Repr

/-- A message inside the device (R123, R124, R169): header, marks of its meter, account and place. `input` is the
input of R179: a port 0 to 95, 96 + c the Porter channel c of R344, 124 and 125 the coherence engines, 126 the Flue
bridge. `dst` is an egress port, 124 + h the home engine of half h, 127 the Hearth. `cls` is the message class of R125. -/
structure Msg where
  id : Nat
  cls : Nat
  op : MsgOp
  input : Nat
  dst : Nat
  ctx : Nat := 127
  stall : Option Nat := none
  host : Option Nat := none
  addr : Nat := 0
  ld : Nat := 0
  dpa : Nat := 0
  len : Nat := 64
  blocks : Nat := 0
  data : List Byte := []
  poison : Bool := false
  colour : Colour := .green
  metered : Bool := false
  everRed : Bool := false
  belowHalf : Bool := false
  stage : Stage := .held
  half : Nat := 0
  charge : Charge := .none
  hdrMgmt : Bool := false
  cells : List Nat := []
  admitted : Nat := 0
  squashed : Bool := false
  answered : Bool := false
  session : Nat := 0
  direction : Bool := false
  /-- the other copy of a paired write (R379), and its place as the target's copy -/
  twin : Option Nat := none
  copy : Bool := false
  /-- the slice and the offset in it that the access reaches (R242, R308) -/
  slice : Option SliceRef := none
  off : Nat := 0
  /-- the relocation context whose chunk in copy holds this write (R380) -/
  wait : Option Nat := none
  /-- the window's DEVICE attribute (R231), and what a Market request asks -/
  device : Bool := false
  mkt : MktKind := .uncached
  /-- a writeback that the home treats as an uncached write (R320, R325) -/
  followed : Bool := false
  /-- a write of fewer than 64 bytes (MemWrPtl) -/
  partialWr : Bool := false
  /-- what it says, of a message that the Hearth originated (R219) -/
  said : Option Said := none
  /-- the port of the device behind a Cascade port that it goes to (R124) -/
  far : Option Nat := none
  /-- of a mirror copy: message header and carried header of the message copied (R196) -/
  copied : List Byte := []
  /-- its last cells that are still arriving, and those that can no longer arrive (R182) -/
  late : Nat := 0
  missing : Nat := 0
  deriving DecidableEq, Repr

/-- What leaves the device or is told to someone outside it: the log of outputs (log entry 4). -/
inductive Out where
  /-- a response to the host on a port: message id, what, data, poison, DevLoad (R101) -/
  | toHost (port id : Nat) (op : MsgOp) (data : List Byte) (poison : Bool) (devLoad : Nat)
  /-- a CXL.mem write completion -/
  | writeDone (port id : Nat) (devLoad : Nat)
  /-- a Completer Abort completion -/
  | completerAbort (port id : Nat)
  /-- Configuration Request Retry Status (R29) -/
  | configRetry (port id : Nat)
  /-- a configuration completion with its data -/
  | configDone (port : Nat) (value : Nat)
  /-- a message sent to the device or partner behind a port -/
  | toDevice (port : Nat) (m : Msg)
  /-- a mirror record written to the analysis port (R196), and the producer offset -/
  | mirrorRecord (port addr : Nat) (bytes : List Byte)
  | mirrorProducer (port addr offset : Nat)
  /-- a back-invalidate snoop answered invalid to a device (R100) -/
  | snoopInvalid (port addr : Nat)
  /-- an error response to a register access: Completer Abort or bus error (R11) -/
  | accessError
  /-- a value returned to a register read or a memory load -/
  | readData (value : Nat)
  /-- a flit sent on a Cascade port: the bytes that each active lane carries, in ascending lane order (R154) -/
  | flit (port : Nat) (lanes : List (Nat × List Byte))
  /-- what a port offers in Configuration (R93): the protocol, and 68-byte, 256-byte, latency-optimised flits -/
  | offer (port : Nat) (protocol : LinkProtocol) (flit68 flit256 flitLo : Bool)
  /-- the answer to a partner's request of equaliser coefficients (R66): port, lane, accepted or rejected -/
  | eqReply (port lane : Nat) (accepted : Bool)
  /-- the answer to a partner that margins a receiver of the device (R82): port, lane, step, errors -/
  | marginReply (port lane step errors : Nat)
  /-- a hot-plug event in an emulated slot status (R110, R255) -/
  | hotPlug (host vdsp : Nat) (present : Bool)
  /-- a reply packet of ECP to a source: session, sequence number, the reply (R426, R442) -/
  | reply (source : Source) (session seq : Nat) (r : Reply)
  /-- an answer of the fabric-manager API to a source: return code and values (R453) -/
  | fmReply (source : Source) (code : MailCode) (values : List Nat)
  /-- a management network frame answered: 0 ARP, 1 ICMP echo, 2 neighbour discovery, 3 ICMPv6 echo (R431) -/
  | netReply (kind : Nat)
  /-- an answer to an SPDM requester: the port or 96 + the MCTP medium, the measurement index, its content (R414) -/
  | measurement (requester index : Nat) (content : List Nat)
  /-- an SPDM or key-management message answered: accepted, or BUSY (R103, R422) -/
  | spdm (requester : Nat) (accepted : Bool)
  /-- a mailbox command of a Stall answered: its opcode, return code, values (R252) -/
  | mailbox (stall opcode : Nat) (code : MailCode) (values : List Nat)
  /-- a configuration request sent to the partner behind a port: logical device, register, value, write (R451) -/
  | partnerConfig (port ld addr value : Nat) (write : Bool)
  /-- a management command tunnelled to a memory device (R454) -/
  | tunnel (port : Nat) (data : List Byte)
  /-- an AER event generated on a virtual switch port (R451) -/
  | aer (port value : Nat) (data : List Byte)
  /-- a link error of a Host port, which firmware reports through its upstream switch port's error reporting (R114) -/
  | linkError (port : Nat)
  /-- a scrubbed MiB of a logical device: zeros with poison clear written to every 64-byte line, and its barrier (R268) -/
  | scrub (port ld dpa : Nat)
  /-- every Ledger entry of a recovered slice rewritten as unknown: region, way, coarse bits (R313, R336) -/
  | ledgerUnknown (region way : Nat) (holders : List Nat)
  /-- a GPF phase sent to a port (R544) -/
  | gpf (port phase : Nat)
  /-- a load of a Hearth core returned; a conditional-store reported; a barrier completed; a bus error (R473 to R481) -/
  | loaded (core value : Nat)
  | condStored (core : Nat) (ok : Bool)
  | fenced (core : Nat)
  | busError (core : Nat)
  /-- what became of a configuration message that a half received: its status code (R32, R33, R289) -/
  | configReport (half code : Nat)
  /-- what a JTAG instruction shifted out (R416) -/
  | jtag (value : Nat)
  /-- a record of the wear record or of telemetry written out to the ring at an address (R571, R451) -/
  | dumped (addr : Nat) (bytes : List Byte)
  deriving DecidableEq, Repr

/-- Why a port is held (R109). -/
inductive HoldCause where
  /-- the slot hold line: pin lost or channel not On (R34) -/
  | line
  /-- an Insecure stream (R105) -/
  | insecure
  /-- Viral received (R113) -/
  | viral
  /-- the Contain of a fault source -/
  | fault (source : Nat)
  /-- a command (HOLD_PORT) -/
  | command
  /-- a CXL or PCIe switch seen below a Device port (R100) -/
  | switchBelow
deriving DecidableEq, Repr

/-- A reaction of the fault collector that is carried out before the command ends (R503). -/
inductive Todo where
  | post (stall : Nat) (record : List Byte)
  | containPort (p source : Nat)
  | containStall (stall source : Nat)
  | douse (half : Nat)
  | ash
deriving DecidableEq, Repr


/-- What a long command's operation waits for (R445, R451). -/
inductive OpKind where
  | commit (slot : Nat)
  | resetPort (p : Nat)
  | resetWarm
  | resetHalf (h : Nat)
  | resetHearth
  | resetStall (s : Nat)
  | retireLane (p k : Nat)
  | marginLane (p : Nat)
  | recoverRegion (r : Nat)
  | unfence (r host : Nat)
  | clearQuarantine (port ld start len : Nat)
  | flushLedger (h : Nat)
  | chain (c : Nat)
  | relocStarting
  | relocation (x : Nat)
  | relocInbound (far : Nat)
  | freezeStall (s : Nat)
  | passThrough (host vdsp : Nat)
  | slotPower (n : Nat)
  | powerState (target : Nat)
  | firmware (slot : Nat)
  | telemetry
  | lifecycle
deriving DecidableEq, Repr

/-- An operation (R445): its ID, what it waits for, the session that started it, its status (`accepted` while it
runs), and whether an abort is held until its phase allows (R448). -/
structure Operation where
  id : Nat
  kind : OpKind
  session : Nat
  status : Status
  /-- the credential of the session that started it (R447) -/
  credential : Nat := 0
  deriving DecidableEq, Repr

/-- An event packet (R449, R450): opcode, number, status, parameters. -/
structure Event where
  opcode : Nat
  number : Nat
  status : Nat
  params : List Nat
  deriving DecidableEq, Repr

/-- The permissions of R406: Observe, Configure, Inspect, Unlock, Lifecycle. -/
structure Perms where
  observe : Bool := false
  configure : Bool := false
  inspect : Bool := false
  unlock : Bool := false
  lifecycle : Bool := false
  deriving DecidableEq, Repr

/-- An open session (R436 to R442, R449, R450). -/
structure Session where
  id : Nat
  credential : Nat
  perms : Perms
  source : Source
  high : Nat := 0
  record : List Nat := []
  cache : List (Nat × Reply) := []
  mask : Nat := 0
  eventCount : Nat := 0
  events : List Event := []
  replyLimit : Nat := 1440
  /-- SESSION_IDLE of the management configuration when it opened (R434) -/
  idle : Nat := 300
  /-- an ABORT_OPERATION that is held until its operation ends: operation, sequence number (R447) -/
  held : Option (Nat × Nat) := none
  /-- commands accepted behind it, at most 8, with their sequence numbers (R442) -/
  waiting : List (Nat × Instr) := []
  deriving DecidableEq, Repr

/-- A message whose queue or list is no longer trusted: its cells are left for the census (R198, R189). `missed` counts
the consecutive completed censuses that found them neither free nor referenced. -/
structure Orphan where
  half : Nat
  dst : Nat
  cls : Nat
  charge : Charge
  blocks : Nat
  cells : List Nat
  missed : Nat := 0
  deriving DecidableEq, Repr

/-- What the shared buffers hold beside the messages. -/
structure Buffer where
  /-- the write slots' rotating bank pointers (R166); key 120 h + slot -/
  pointers : List (Nat × Nat) := []
  /-- the cell store, by 2^20 × half + address (R164): the 17 words of a cell that is in use, each with its check bits (R163) -/
  store : List (Nat × List (BitVec 39)) := []
  /-- cells that wait in the skid for a bank: half, message, the cell with its CRC (R167) -/
  skid : List (Nat × Nat × (List Byte × Nat)) := []
  /-- cells and entries that a census has yet to find (R189) -/
  orphans : List Orphan := []
  /-- tokens missing from the two buckets of a meter, in 1/4,000 of a cell (R209); key 4,096 h + Stall; (committed, peak) -/
  deficits : List (Nat × (Nat × Nat)) := []
  /-- ports and egress classes whose head lacks the link credits of a CXL or PCIe partner (R205); key 4 p + class -/
  starved : List Nat := []
  /-- per mirroring session (8 h + s): copies dropped since its last record, records since the last producer write -/
  sessions : List (Nat × (Nat × Nat)) := []
  /-- halves whose requests for the other half are answered because the Seam stayed down for 10 µs (R46) -/
  seamRefused : List Nat := []
  deriving DecidableEq, Repr

/-- The link layer of one Cascade port or Seam channel endpoint, beyond its registers (R128 to R160). -/
structure Link where
  /-- unacknowledged payload flits, oldest first; the header of one that is sent again is built anew (R131, R133) -/
  replay : List Flit := []
  /-- flits of the replay in progress that have left (R133) -/
  replayed : Nat := 0
  /-- replays of the oldest flit (R134) -/
  replays : Nat := 0
  /-- a replay was requested since the expected sequence number last advanced (R129) -/
  requested : Bool := false
  /-- a replay request waits for the next outgoing flit (R129) -/
  wantReplay : Bool := false
  /-- flits accepted since the last acknowledgement event (R130) -/
  accepted : Nat := 0
  /-- the last ACK_SEQ sent (R130) -/
  lastAck : Nat := 4095
  /-- totals A that the partner advertised: Request header, Request data, Response header, Response data (R139) -/
  peerA : List Nat := [0, 0, 0, 0]
  /-- counts R that the partner returned (R139) -/
  peerR : List Nat := [0, 0, 0, 0]
  /-- counts C consumed toward the partner (R139) -/
  used : List Nat := [0, 0, 0, 0]
  /-- totals that this side advertised at its last initialisation (R142) -/
  ownA : List Nat := [0, 0, 0, 0]
  /-- counts this side has returned (R139) -/
  ownR : List Nat := [0, 0, 0, 0]
  /-- counts of credits the partner has consumed toward this side (R141) -/
  taken : List Nat := [0, 0, 0, 0]
  /-- consecutive good init flits received, RX_READY set here, RX_READY seen (R149) -/
  initGood : Nat := 0
  rxReady : Bool := false
  /-- XOFF bits last received (R144) -/
  reqXoff : Bool := false
  rspXoff : Bool := false
  /-- the XOFF bits this side sends (R144) -/
  ownReqXoff : Bool := false
  ownRspXoff : Bool := false
  /-- class 9 headers and cells sent while the Request channel is off (R145) -/
  floor : Nat × Nat := (0, 0)
  /-- the bytes of a message whose end has not arrived; the rest of the stream is discarded up to the next NEXT_MSG (R123, R127) -/
  stream : List Byte := []
  skip : Bool := false
  /-- bytes sent since the link started (R154) -/
  txBytes : Nat := 0
  /-- flits left until the injector acts, and the bytes of the flit that Reorder holds (R158) -/
  injectLeft : Nat := 0
  injectHeld : Option (List Byte) := none
  /-- flits on the wire toward this endpoint (Seam only) -/
  wire : List (List Byte) := []
  /-- messages extracted and not yet taken (Cascade ports) -/
  rx : List WireMsg := []
  /-- the input served last, per egress class (R207) -/
  served : List Nat := [0, 0, 0, 0]
  /-- failed re-alignments in a row (R152) -/
  realigns : Nat := 0
  /-- retirement: a request of ours awaits its answer; masks that a switch will bring; a restart is due (R155 to R157) -/
  retireAsked : Bool := false
  txMask : Nat := 255
  rxMask : Nat := 255
  switchTx : Option Nat := none
  switchRx : Option Nat := none
  retireDue : Bool := false
  deriving DecidableEq, Repr

/-- What the PHYs hold beyond their registers (R52 to R86); tables are keyed by the port, or by 8 × port + lane. -/
structure Lanes where
  /-- returns to Detect without L0 (R62) -/
  fails : List (Nat × Nat) := []
  /-- the rate a bring-up or step-up is heading for (R60, R63) -/
  target : List (Nat × Nat) := []
  /-- the highest rate at which the port last held L0 (R63) -/
  lastGood : List (Nat × Nat) := []
  /-- ports whose link is being brought up from Detect (R113) -/
  fromDetect : List Nat := []
  /-- ports whose bring-up takes the bypass of R71 -/
  bypassing : List Nat := []
  /-- elastic-buffer fill in units from nominal (R58) -/
  elastic : List (Nat × Int) := []
  /-- tags computed at the last training (R70) and coefficients last requested of the partner -/
  tags : List (Nat × Nat) := []
  partnerTx : List (Nat × Nat) := []
  /-- what the partner showed at the last training, by port -/
  training : List (Nat × Training) := []
  /-- equalisation phases complete at the rate being stepped to (R60) -/
  eqPhase : List (Nat × Nat) := []
  /-- ports whose width is settled anew at the next L0 (R63, R65, R85, R156) -/
  resize : List Nat := []
  /-- MAX_WIDTH as the last bring-up or RETRAIN took it (R65) -/
  widthCap : List (Nat × Nat) := []
  /-- full width of a port in L0p (R75) -/
  fullWidth : List (Nat × Nat) := []
  /-- lanes under boundary scan, 8 × port + lane (R54) -/
  scan : List Nat := []
  /-- error limit and steps of the margin run in progress (R82) -/
  margin : List (Nat × (Nat × Nat)) := []
  /-- ports whose Viral hold a reset or reseating lets retrain (R113) -/
  viralRetrain : List Nat := []
  /-- ports taken to Disabled by command (R79) -/
  disabled : List Nat := []
  deriving DecidableEq, Repr

/-- A Ledger cache entry (R310, R314). `st` is 0 Invalid, 1 Shared, 2 Exclusive; `holders` lists hosts, or coarse bits. -/
structure LedgerLine where
  half : Nat
  region : Nat
  way : Nat
  line : Nat
  cacheWay : Nat
  st : Nat := 0
  coarse : Bool := false
  holders : List Nat := []
  dirty : Bool := false
  busy : Bool := false
  /-- FC_TIME of the last Exclusive grant (R327) -/
  granted : Option Nat := none
  deriving DecidableEq, Repr

/-- Where a flow of the home engine stands (R318). -/
inductive FlowPhase where
  | fill | holdWait | snoop | grace | memory
deriving DecidableEq, Repr

/-- A flow (R318): it carries the id of its request (a recall has an id of its own), its line, the snoops that are out
(message id and host), the writeback it collected, the memory read that brings its data. -/
structure Flow where
  id : Nat
  half : Nat
  region : Nat
  way : Nat
  line : Nat
  phase : FlowPhase := .fill
  /-- holders were unknown: every host of the region is snooped (R313) -/
  blind : Bool := false
  forRecall : Option Nat := none
  snoops : List (Nat × Nat) := []
  /-- the Exclusive holder that was snooped, whether it kept the line Shared, whether it was never asked -/
  owner : Option Nat := none
  ownerKept : Bool := false
  data : Option (List Byte × Bool) := none
  spec : Option Nat := none
  specData : Option (List Byte × Bool) := none
  memId : Option Nat := none
  poisoned : Bool := false
  deriving DecidableEq, Repr

/-- The coherence engines beside their registers (R305 to R343). -/
structure Market where
  /-- cache entries, least recently used first -/
  cache : List LedgerLine := []
  flows : List Flow := []
  /-- misses that wait for a way of a full set, earliest first (R314) -/
  wayWaits : List Nat := []
  /-- halves whose home starts no new flow (R337) -/
  quiet : List Nat := []
  /-- slices being handed over by the old home, and slices whose new home awaits the end marker (R387) -/
  handing : List SliceRef := []
  awaiting : List SliceRef := []
  /-- ways in retirement: (192 h + group, way) (R315) -/
  retiring : List (Nat × Nat) := []
  /-- ways that have been retired, which are no spares (R315) -/
  gone : List (Nat × Nat) := []
  /-- lines whose recorded owner answered without a writeback within WB_GRACE: (half, region, way, line, host) (R325) -/
  late : List (Nat × Nat × Nat × Nat × Nat) := []
  /-- recalls under way: (region, host) (R332) -/
  recalls : List (Nat × Nat) := []
  deriving DecidableEq, Repr

/-- A released device range (R267 to R270), in MiB of one logical device, in the order of release. -/
structure DevRange where
  port : Nat
  ld : Nat
  start : Nat
  len : Nat
  /-- MiB journalled as scrubbed -/
  scrubbed : Nat := 0
  quarantined : Bool := false
  /-- the Stall whose deletion released it -/
  stall : Option Nat := none
  /-- the region whose deletion released it -/
  region : Option Nat := none
  /-- it is scrubbed for a Sanitize or Secure Erase of the Stall (R253) -/
  forErase : Bool := false
  deriving DecidableEq, Repr

/-- A memory device in the inventory (R264). Capacities are in MiB per logical device. -/
structure DeviceRecord where
  port : Nat
  serial : Nat
  capacities : List Nat
  persistent : Bool
  gpf : Bool := true
  deriving DecidableEq, Repr

/-- The step of R382 that a relocation context waits in. -/
inductive RelocStep where
  | copying | journal | publish | drain
deriving DecidableEq, Repr

/-- A relocation context beside its registers (R382 to R396). -/
structure RelocCtx where
  step : RelocStep := .copying
  /-- failures of the same chunk in a row (R385) -/
  fails : Nat := 0
  /-- the journalled W (R383) -/
  journalled : Nat := 0
  startEpoch : Nat := 0
  /-- the PHASE of the journal record (R394) -/
  phase : Nat := 0
  /-- it copies from the target back to the source (R391) -/
  back : Bool := false
  deriving DecidableEq, Repr

/-- A Porter descriptor (R346, R347). -/
structure Descriptor where
  src : Nat
  dst : Nat
  length : Nat
  ctrl : Nat
  next : Nat
  pattern : Nat
  deriving DecidableEq, Repr

/-- A source access of a Porter channel that is out (R353, R354): its address and bytes, the message that reads a
memory device, or none where the Flue link carries it; zeros for a denied part (R232). -/
structure PorterRead where
  addr : Nat
  len : Nat
  msg : Option Nat := none
  zeros : Bool := false
  deriving DecidableEq, Repr

/-- A Porter channel beside its registers (R346 to R370). -/
structure Channel where
  desc : Option Descriptor := none
  /-- a descriptor fetch is out (R349); the re-read of the tail is out (R362) -/
  fetching : Bool := false
  rereading : Bool := false
  /-- the descriptor in progress took its trigger and started -/
  started : Bool := false
  /-- source bytes asked for, bytes whose writes were issued (BYTES_DONE) -/
  asked : Nat := 0
  put : Nat := 0
  /-- source accesses that are out, in the order of issue; the packing register: its bytes, each with
  whether it is poisoned -/
  reads : List PorterRead := []
  pack : List (Byte × Bool) := []
  denied : Bool := false
  poisoned : Bool := false
  /-- the descriptor was refused: its STATUS (R350, R351), 0 otherwise -/
  refused : Nat := 0
  /-- destination bytes of denied parts, whose writes were not issued (R232) -/
  dropped : Nat := 0
  /-- descriptors completed: writes carry the number of their descriptor -/
  serial : Nat := 0
  /-- the access that failed ended the descriptor (R356) -/
  bad : Bool := false
  /-- a write error after completion: the next barrier ends Bad (R359) -/
  lateErr : Bool := false
  /-- the state to resume when a pause ends (R368) -/
  resume : Nat := 1
  /-- the operation that started the chain, and the worst status of its descriptors -/
  worst : Nat := 1
  deriving DecidableEq, Repr

/-- An emulated HDM decoder of a Stall (R246, R247): what the host programmed, and its Committed and Error bits. -/
structure Hdm where
  base : Nat := 0
  size : Nat := 0
  ways : Nat := 1
  committed : Bool := false
  error : Bool := false
  /-- firmware has yet to set Committed (R247 step 5) -/
  waiting : Bool := false
  deriving DecidableEq, Repr

/-- A record of a Stall's event log (R99, R110, R113): 1 memory device removed, 2 uncorrectable (Viral), 3 poison, 4 vendor event. -/
structure LogRecord where
  handle : Nat
  kind : Nat
  /-- of a vendor event: the redacted fault record (R510) -/
  record : List Byte := []
  deriving DecidableEq, Repr

/-- A Stall's emulated device, kept by firmware (R99, R250 to R253). -/
structure Emulated where
  log : List LogRecord := []
  nextHandle : Nat := 1
  poison : List Nat := []
  timestamp : Nat := 0
  /-- when the host set the timestamp -/
  stampAt : Option Nat := none
  hdm : List (Nat × Hdm) := []
  /-- registers of the configuration space that the host wrote -/
  config : List (Nat × Nat) := []
  /-- a mailbox command was accepted while the Hearth was in reset (R29) -/
  doorbell : Bool := false
  /-- a background operation: its opcode (R253), and whether the Stall was quenched before it -/
  background : Option Nat := none
  wasQuenched : Bool := false
  /-- a slice's scrub failed (R253) -/
  failed : Bool := false
  /-- the Stall in reset was Failed, or a port of its slices was held since: it ends Failed (R265) -/
  failsAfter : Bool := false
  /-- the Data Object Exchange mailbox (R99): the object being written, and what is left of the answer -/
  doeIn : List Nat := []
  doeOut : List Nat := []
  deriving DecidableEq, Repr

/-- How far one half is with an APPLY (R290). -/
inductive ApplyStep where
  | sent | closed | applied | failed | toldApplied | toldFailed
deriving DecidableEq, Repr

/-- What RELOC_START names (R376). -/
structure RelocStart where
  market : Bool
  remote : Bool
  obj : Nat
  way : Nat
  dst : Word
  dstLedger : Nat
  auto : Bool
deriving DecidableEq, Repr

/-- A transaction of firmware's own (R274): the items of an operation, and the Stall that it restores from a record (R258); the
decoder behind emulated HDM decoder k of a Stall placed at the host's base, or taken back to PENDING (R247); every placed decoder of a
Stall in reset taken back (R262); the start of a relocation by an operation (R376); the commit of a relocation (R388). -/
inductive FwTxn where
  | op (n : Nat) (items : List (Key × Word)) (restoring : Option Nat)
  | place (st k host : Nat)
  | unplace (st k host : Nat)
  | unplaceAll (st : Nat)
  | relocStart (n : Nat) (a : RelocStart)
  | relocCommit (x : Nat)
deriving DecidableEq, Repr

/-- A transaction slot beside its registers (R274 to R304). -/
structure TxSlot where
  /-- the session that began it, and whether that session holds Inspect -/
  owner : Nat := 0
  inspect : Bool := false
  /-- the shadow: registers in the order of their first write -/
  shadow : List (Key × Word) := []
  /-- registers written one by one, and the first registers of the table entries written (R277) -/
  writes : List Key := []
  entries : List Key := []
  /-- recalls of the commit that still run: (region, host) (R332), and the hosts it fenced -/
  recalls : List (Nat × Nat) := []
  fenced : List (Nat × Nat) := []
  /-- validations of the commit in progress (R285) -/
  validations : Nat := 0
  /-- the journal's lists: new values and old values (R298) -/
  redo : List (Key × Word) := []
  undo : List (Key × Word) := []
  /-- the halves that an APPLY concerns, and how far each is -/
  halves : List (Nat × ApplyStep) := []
  /-- what a transaction of firmware's own does, in slot 3 (R274) -/
  fw : Option FwTxn := none
  deriving DecidableEq, Repr

/-- Transactions beside their registers. -/
structure Txns where
  /-- transactions that wait for slot 3, in arrival order (R274) -/
  fw : List FwTxn := []
  slots : List (Nat × TxSlot) := []
  /-- the epoch that last wrote a register (R283) -/
  wroteAt : List (Key × Nat) := []
  /-- validated commits, in the order in which they will apply (R285) -/
  queue : List Nat := []
  /-- ports whose ingress an apply closed (R290) -/
  closed : List Nat := []
  /-- hot-plug reports that firmware still owes: host, virtual port, added or removed (R255) -/
  plugs : List (Nat × Nat × Bool) := []
  /-- halves cut off from the Hearth: their Flue link is lost (R33) -/
  lost : List Nat := []
  /-- halves to which CHARGE is on its way (R295) -/
  charge : List Nat := []
  /-- writes of CHK_CTRL.EN that take effect when the commit being applied is done (R237): context, value -/
  deferred : List (Nat × Bool) := []
  /-- contexts whose checker is about to be enabled (R238) -/
  enabling : List Nat := []
  /-- contexts with a direct window write since their last enable (ISO_STATUS.COMMITTED, R423) -/
  dirty : List Nat := []
  /-- no image was restored since the cold boot: a device entered for the first time is scrubbed (R269) -/
  scrubNew : Bool := true
  deriving DecidableEq, Repr

/-- The interrupt aggregator's rotation (R595): assigned sources, and the core that was assigned last. -/
structure Aggregator where
  assigned : List (Nat × Nat) := []
  last : Nat := 16
  deriving DecidableEq, Repr

/-- An operation of a Hearth core on control memory, in program order (R473 to R481). -/
inductive CoreOp where
  | load (addr len : Nat) (e : MemErr)
  | store (addr : Nat) (data : List Byte) (posted : Bool)
  | fence
  | reserveLoad (addr len : Nat) (e : MemErr)
  /-- interrupted: the core took an interrupt or exception since its reserve-load (R482), or lost its reservation otherwise (R483) -/
  | condStore (addr : Nat) (data : List Byte) (interrupted : Bool)
deriving DecidableEq, Repr

/-- An entry of a core's store buffer (R470). -/
structure StoreEntry where
  addr : Nat
  data : List Byte
  posted : Bool
  issued : Bool := false
  deriving DecidableEq, Repr

/-- A store that its target has queued (R475): whose it is, whether its entry has retired, and, for a half, whether the
target applied it and how it ended, until the far side's report (R464). -/
structure QueuedStore where
  core : Nat
  addr : Nat
  data : List Byte
  posted : Bool
  retired : Bool
  applied : Bool := false
  failed : Bool := false
  deriving DecidableEq, Repr

/-- A Hearth core: store buffer, operations that wait, reservation on a 64-byte granule of the scratchpad or the Ember
store, and whether debug halted it. -/
structure CoreUnit where
  buffer : List StoreEntry := []
  ops : List CoreOp := []
  reserved : Option Nat := none
  halted : Bool := false
  deriving DecidableEq, Repr

/-- The Hearth cluster beside its registers (R455 to R491). -/
structure Hearth where
  cores : List (Nat × CoreUnit) := []
  queued : List QueuedStore := []
  /-- semaphore entries: core and granule, oldest first (R467) -/
  sems : List (Nat × Nat) := []
  /-- cores marked for retirement (R456) -/
  retiring : List Nat := []
  /-- nanoseconds at which the watchdog was last started from zero (R457) -/
  kicked : Nat := 0
  /-- soft repairs in force: bank, column (R462) -/
  repairs : List (Nat × Nat) := []
  /-- banks accessed since the scratchpad was last powered up -/
  used : List Nat := []
  deriving DecidableEq, Repr

/-- A credential (R435). -/
structure Credential where
  key : Nat
  perms : Perms
  enabled : Bool
  deriving DecidableEq, Repr

/-- An entry of the audit log (R407). -/
structure AuditEntry where
  time : Nat
  session : Nat
  credential : Nat
  opcode : Nat
  objects : List Nat
  deriving DecidableEq, Repr

/-- An entry of the wear record (R577). -/
structure WearEntry where
  life : Nat
  kind : Nat
  action : Nat
  element : Nat
  value : Nat
  threshold : Nat
  epoch : Nat
  deriving DecidableEq, Repr

/-- What firmware keeps in flash (R407, R434, R435, R552, R577): it survives every reset. -/
structure Flash where
  credentials : List (Nat × Credential) := [(0, ⟨0, ⟨true, true, true, true, true⟩, true⟩)]
  audit : List AuditEntry := []
  /-- fields of the management configuration that were written, and the ACCEPT prefixes -/
  mgmt : List (Nat × Nat) := []
  accept : List Nat := []
  actions : List WearEntry := []
  samples : List WearEntry := []
  wrapped : Bool := false
  /-- nanoseconds of powered operation since manufacture (LIFE, R577) -/
  life : Nat := 0
  /-- PORT and LD fields of KEEP_CTRL, and KEEP_BASE, as a cold boot finds them (R552) -/
  keepPlace : Option (Nat × Nat) := none
  deriving DecidableEq, Repr

/-- Security beside its registers (R399 to R423). -/
structure Security where
  /-- the debug unlock nonce given out (R417) -/
  nonce : Option Nat := none
  /-- the device is in boot-recovery (R413) -/
  recovery : Bool := false
  /-- a firmware image being written: slot, bytes, bytes received (R451) -/
  fw : Option (Nat × Nat × List Byte) := none
  /-- the two image slots hold these bytes since they were last written -/
  images : List (Nat × List Byte) := []
  /-- SPDM sessions: ports, 96 SMBus, 97 I3C (R103, R411) -/
  spdm : List Nat := []
  /-- the lifecycle operation's fuse is burnt and its warm reset is due (R409) -/
  advancing : Bool := false
  deriving DecidableEq, Repr

/-- A pending session (R436). -/
structure PendingSession where
  id : Nat
  credential : Nat
  source : Source
  clientNonce : Nat
  deviceNonce : Nat
  deriving DecidableEq, Repr

/-- ECP beside its open sessions (R424 to R454). -/
structure Ecp where
  opening : List PendingSession := []
  /-- failed opens: source and time (R436), and sources that are locked out -/
  fails : List (Source × Nat) := []
  locked : List Source := []
  /-- the counts of GET_ECP_STATS (R451) -/
  malformed : Nat := 0
  authFails : Nat := 0
  openFails : Nat := 0
  replayed : Nat := 0
  uncached : Nat := 0
  /-- IP fragments of datagrams that are not complete: source address, identification (R431) -/
  fragments : List (Nat × Nat) := []
  /-- Stall state records: saved (R258), and staged by WRITE_STALL_RECORD -/
  records : List (Nat × List Byte) := []
  staging : List (Nat × List Byte) := []
  /-- background operations of fabric-manager sources, and their message limits (R452) -/
  fmOps : List (Source × Nat) := []
  fmLimits : List (Source × Nat) := []
  /-- the session whose waiting command is being run (R442) -/
  release : Option Nat := none
  deriving DecidableEq, Repr

/-- A range committed as the target of a relocation that comes over a Cascade port, and the operation at the far device (R396). -/
structure Inbound where
  cascade : Nat
  range : DevRange
  far : Nat
  deriving DecidableEq, Repr

/-- The part of the state that a bank image holds (R548): the committed image and journals at their epoch, the RWS
fields, equalisation records, Stall state, and the fault ring. -/
structure Image where
  regs : List (Key × Word) := []
  ring : List Host.Cell := []
  ranges : List DevRange := []
  relocs : List (Nat × RelocCtx) := []
  emulated : List (Nat × Emulated) := []
  vports : List (Nat × List (Nat × Nat)) := []
  passed : List (Nat × Nat × Nat) := []
  inbound : List Inbound := []
  inventory : List DeviceRecord := []
  nextOp : Nat := 1
  /-- LEDGER_CLEAN of East and West at the seal (R338) -/
  clean : Bool × Bool := (false, false)
  /-- ports taken to Disabled by command (R79) -/
  disabled : List Nat := []
  deriving DecidableEq, Repr

/-- Where the seal record stands (R550). -/
inductive Seal where
  | invalid | live | sealedImage
deriving DecidableEq, Repr

/-- The power ladder beside its registers (R540 to R561). `step` is the step of R543 in progress, 0 when no banking
runs. -/
structure Power where
  step : Nat := 0
  /-- nanoseconds at the reference, at the start of the phase in progress, and at the start of step 4 (R543) -/
  reference : Nat := 0
  phaseAt : Nat := 0
  /-- ports that have yet to answer the GPF phase in progress (R544) -/
  gpf : List Nat := []
  /-- halves whose Ledger write-back was cut off (R545) -/
  cutOff : List Nat := []
  /-- the seal record stands so, and whether equalisation was captured -/
  sealed : Seal := .invalid
  captured : Bool := false
  /-- the Keep copies on the memory device, by slot: its GENERATION and image (R553) -/
  copies : List (Nat × (Nat × Image)) := []
  keepWait : Bool := false
  /-- an exit from Glow or Smoulder has begun (R541) -/
  leaving : Bool := false
  /-- a commanded entry to Glow or Smoulder on its way (R541) -/
  entering : Option Nat := none
  /-- a warm reset that waits (R49, R302, R339): its cause; resets deferred by banking (R546) -/
  warmWaits : Option Nat := none
  douses : List Nat := []
  ashWaits : Bool := false
  /-- pins and supplies: RESET_N low, the main supplies good, VBANK good -/
  resetLow : Bool := false
  mains : Bool := true
  vbank : Bool := true
  /-- ports that fell back to full bring-up in this kindling (R559) -/
  fellBack : List Nat := []
  /-- a kindling awaits the background verification of Wesis (R555) -/
  verifying : Bool := false
  /-- the cold boot has ended (R560) -/
  booted : Bool := false
  deriving DecidableEq, Repr

/-- A slot power channel beside its registers (R512 to R537). -/
structure SlotUnit where
  /-- nanoseconds of the backoff deadline (R524) -/
  deadline : Option Nat := none
  /-- both pins stayed asserted since the channel entered Supply lost (R532) -/
  pinsKept : Bool := false
  /-- the feed that a switch in progress goes to (R529), and whether its 100 us check is still to come -/
  switching : Option Nat := none
  checking : Bool := false
  deriving DecidableEq, Repr

/-- Snapshots and the host view (R570 to R576). -/
structure Telemetry where
  /-- snapshot number, and the record that East latched and West has yet to complete: number, time, counters -/
  seq : Nat := 0
  latched : Option (Nat × Nat × List Nat) := none
  /-- per Stall: the baseline of R574 and the values last presented (R575) -/
  baseline : List (Nat × List Nat) := []
  shown : List (Nat × List Nat) := []
  /-- counters (8 u + i) whose selected condition held in the last cycle (EDGE, R564) -/
  held : List Nat := []
  /-- retirements of the wear record that wait until they may be issued (R579, R581) -/
  waits : List WearEntry := []
  deriving DecidableEq, Repr

/-- What a port received whose MAC is still to be checked (R104): a request, or the response to a request. -/
inductive Received where
  | request (r : ReqIn)
  | response (id : Nat) (data : List Byte) (poison : Bool)
deriving DecidableEq, Repr

/-- The whole state. -/
structure State where
  /-- every architectural register, in canonical form -/
  regs : List (Key × Word) := []
  /-- scratchpad and Ember store, in canonical form; an unlisted byte reads 0 (log entry 5) -/
  mem : List Host.Cell := []
  /-- the commands waiting, first in, first out -/
  pending : List Instr := []
  /-- what has left the device, oldest first -/
  out : List Out := []
  /-- reactions to carry out; empty between commands -/
  todo : List Todo := []
  /-- draws made of the free values (log entry 3); the model's own field -/
  free : Nat := 0
  /-- the next message id; the model's own field -/
  nextId : Nat := 1
  /-- messages in the device, oldest first in each place -/
  msgs : List Msg := []
  /-- hold causes of the ports -/
  holds : List (Nat × HoldCause) := []
  /-- the shared buffers -/
  buf : Buffer := {}
  /-- link layers, by link (R151, R162) -/
  links : List (Nat × Link) := []
  /-- the PHYs -/
  lanes : Lanes := {}
  /-- devices passed through whole (R97): (host, virtual port, Device port) -/
  passed : List (Nat × Nat × Nat) := []
  /-- the coherence engines -/
  market : Market := {}
  /-- released ranges, oldest first -/
  ranges : List DevRange := []
  /-- the device inventory -/
  inventory : List DeviceRecord := []
  /-- relocation contexts 0 to 7, and Porter channels 0 to 27, by number -/
  relocs : List (Nat × RelocCtx) := []
  channels : List (Nat × Channel) := []
  /-- emulated devices, by Stall; configuration registers of virtual switch ports, by 65 host + port (port 64 upstream) -/
  emulated : List (Nat × Emulated) := []
  vports : List (Nat × List (Nat × Nat)) := []
  /-- ranges committed as inbound relocation targets (R396) -/
  inbound : List Inbound := []
  /-- slices whose device came back with another serial number (R265, R266, R336) -/
  swapped : List SliceRef := []
  /-- ports whose receivers still check the old key set (R103) -/
  oldKeys : List Nat := []
  /-- data received in containment mode whose MAC has not been checked, by port, oldest first (R104) -/
  spans : List (Nat × Received) := []
  /-- requests whose completion time-out passed and whose response has not come: port, message id (R115) -/
  expired : List (Nat × Nat) := []
  /-- the Hearth is in a Hearth-only reset (R29, R40) -/
  hearthDown : Bool := false
  /-- ports and halves held in reset (R622) -/
  resetPorts : List Nat := []
  resetHalves : List Nat := []
  /-- (source, Stall): Stalls whose QUENCH a Contain set (R503) -/
  containQuench : List (Nat × Nat) := []
  /-- binding transactions -/
  txns : Txns := {}
  /-- the interrupt aggregator's rotation -/
  agg : Aggregator := {}
  /-- open ECP sessions -/
  sessions : List Session := []
  /-- operations, running and ended, oldest first -/
  ops : List Operation := []
  /-- the operation counter in the Ember store: the next ID (R445) -/
  nextOp : Nat := 1
  /-- the halves below Blaze, or on their way back to it (R541, R542) -/
  below : List Nat := []
  /-- per half, the values of shared tables that it applied in a commit not yet completed (R290) -/
  ahead : List (Nat × List (Key × Word)) := []
  /-- sources whose interrupt condition is a level held in no register: emulation queues, MAC and MCTP (R593) -/
  levels : List Nat := []
  /-- the Hearth's cores, store buffers, semaphores, repairs -/
  hearth : Hearth := {}
  /-- what flash holds -/
  flash : Flash := {}
  /-- security -/
  sec : Security := {}
  /-- ECP beside the open sessions -/
  ecp : Ecp := {}
  /-- power ladder, banking and kindling -/
  power : Power := {}
  /-- slot power channels, by number -/
  slots : List (Nat × SlotUnit) := []
  /-- snapshots and the host view -/
  telem : Telemetry := {}
  deriving DecidableEq, Repr

/-- The machine right after cold reset: every register at its reset value, nothing in memory, nothing in flight. -/
def State.reset : State := {}

end Sys2Proof.Machine
end

