-- ==== Sys2Proof/Machine/Ops.lean ====
section
/-!
DEFINITION. The named operations over registers, memory, interrupts, events, operations and the fault collector that
every family uses.
-/
namespace Sys2Proof.Machine

/-! ## Registers -/

/-- The reset value of a register as a word (R18). -/
def resetWord (k : Key) : Word := BitVec.ofNat 64 (k.reg.reset k.i k.j)

/-- The stored value of a register. -/
def State.rd (s : State) (r : Reg) (i : Nat := 0) (j : Nat := 0) : Word :=
  (tabFind ⟨r, i, j⟩ s.regs).getD (resetWord ⟨r, i, j⟩)

/-- Store a register, keeping the canonical form of the register file. -/
def State.wr (s : State) (r : Reg) (v : Word) (i : Nat := 0) (j : Nat := 0) : State :=
  { s with regs := tabPut Key.lt (resetWord ⟨r, i, j⟩) ⟨r, i, j⟩ v s.regs }

/-- The stored value of a field. -/
def State.get (s : State) (f : Fld) (i : Nat := 0) (j : Nat := 0) : Nat := Word.bits (s.rd f.reg i j) f.lo f.w

/-- Store a field (modulo its width). -/
def State.put (s : State) (f : Fld) (v : Nat) (i : Nat := 0) (j : Nat := 0) : State :=
  s.wr f.reg (Word.setBits (s.rd f.reg i j) f.lo f.w v) i j

/-- A field as a flag: whether it is not 0. -/
def State.flag (s : State) (f : Fld) (i : Nat := 0) (j : Nat := 0) : Bool := s.get f i j != 0

/-- Store a flag. -/
def State.putFlag (s : State) (f : Fld) (b : Bool) (i : Nat := 0) (j : Nat := 0) : State :=
  s.put f (if b then 1 else 0) i j

/-- Add to a counter field that wraps. -/
def State.bumpWrap (s : State) (f : Fld) (n : Nat) (i : Nat := 0) (j : Nat := 0) : State :=
  s.put f (s.get f i j + n) i j

/-- Return a register to its reset value. -/
def State.clearReg (s : State) (r : Reg) (i : Nat := 0) (j : Nat := 0) : State :=
  { s with regs := tabErase ⟨r, i, j⟩ s.regs }

/-! ## Outputs and free values -/

/-- Log an output. -/
def State.emit (s : State) (o : Out) : State := { s with out := s.out ++ [o] }

/-- Log several outputs. -/
def State.emits (s : State) (os : List Out) : State := { s with out := s.out ++ os }

/-- Draw a random value of `w` bits: a free value, fresh at each draw (log entry 3). -/
def State.draw (s : State) (w : Nat) : Nat × State :=
  ((Config.random s.free).toNat % 2 ^ w, { s with free := s.free + 1 })

/-! ## Memory of the Hearth: scratchpad and Ember store -/

/-- A byte of the scratchpad or the Ember store; one that nothing has written reads 0 (log entry 5). -/
def memByte (m : List Host.Cell) (a : Nat) : Byte := (tabFind a m).getD 0

/-- Write a byte, keeping the canonical form. -/
def memPutByte (m : List Host.Cell) (a : Nat) (v : Byte) : List Host.Cell := tabPut natLt 0 a v m

/-- Write bytes at rising addresses. -/
def memPut (m : List Host.Cell) (a : Nat) : List Byte → List Host.Cell
  | [] => m
  | b :: t => memPut (memPutByte m a b) (a + 1) t

/-- Read `n` bytes at rising addresses. -/
def memGet (m : List Host.Cell) (a : Nat) : Nat → List Byte
  | 0 => []
  | n + 1 => memByte m a :: memGet m (a + 1) n

/-- Drop every listed byte of a range. -/
def memZero (m : List Host.Cell) (lo hi : Nat) : List Host.Cell :=
  m.filter (fun c => decide (c.1 < lo ∨ hi < c.1))

/-- A store applies to the scratchpad or the Ember store: every reservation on its granules is lost (R481, R482). -/
def State.memStore (s : State) (a : Nat) (data : List Byte) : State :=
  let keeps (g : Nat) : Bool := decide (g < a / 64) || decide ((a + data.length - 1) / 64 < g)
  { s with mem := memPut s.mem a data,
           hearth := { s.hearth with cores := s.hearth.cores.map (fun (e : Nat × CoreUnit) =>
             (e.1, { e.2 with reserved := e.2.reserved.filter keeps })) } }

/-! ## Time -/

/-- Nanoseconds since cold reset (R509). -/
def State.now (s : State) : Nat := s.get F.FC_TIME_V

/-- FCLK cycles counted by the halves: two per nanosecond (R36; DEDUCED, log entry 6). -/
def State.fclk (s : State) : Nat := 2 * s.now

/-! ## Places -/

/-- The half that owns a port (R8): 0 East, 1 West. -/
def halfOf (p : Nat) : Nat := if p < 48 then 0 else 1

/-- The index of a half. -/
def hix : Half → Nat
  | .east => 0
  | .west => 1

/-- Whether a port is the first of a bonded pair, and whether it is the second, which then is no port of its own (R76, R91). -/
def State.bonded (s : State) (p : Nat) : Bool := p % 2 == 0 && s.flag F.BOND_CTRL_BOND_ACTIVE p
def State.bondedInto (s : State) (p : Nat) : Bool := p % 2 == 1 && s.flag F.BOND_CTRL_BOND_ACTIVE (p - 1)

/-- The port whose link the lanes of a block belong to (R76). -/
def State.linkPort (s : State) (p : Nat) : Nat := if s.bondedInto p then p - 1 else p

/-- The lanes of a port as block and lane: a bonded port has sixteen, the last eight in its partner's block (R76). -/
def State.portLanes (s : State) (p : Nat) : List (Nat × Nat) :=
  (List.range (if s.bonded p then 16 else 8)).map (fun k => (p + k / 8, k % 8))

/-- Fold over the lanes of a port. -/
def State.eachLane (s : State) (p : Nat) (f : State → Nat → Nat → State) : State :=
  (s.portLanes p).foldl (fun s e => f s e.1 e.2) s

/-- Tenths of GT/s of the rate codes (R52). -/
def rateTenths (code : Nat) : Nat := [25, 50, 80, 160, 320, 640, 1280].getD code 0

/-- The eight lanes of a block. -/
def laneList : List Nat := List.range 8

/-- The ports of a half. -/
def portsOf (h : Nat) : List Nat := (List.range 48).map (fun l => 48 * h + l)

/-! ## Interrupts (R593 to R597) -/

/-- Whether a source is one of the latched ones (R593). -/
def irqLatched (n : Nat) : Bool :=
  (96 ≤ n && n ≤ 191) || (220 ≤ n && n ≤ 255) || n == 261 || n == 267 || (277 ≤ n && n ≤ 324)
    || (326 ≤ n && n ≤ 342) || (1024 ≤ n && n ≤ 2047)

/-- The stored pending bit of a latched source. -/
def State.latchedBit (s : State) (n : Nat) : Bool := Word.bits (s.rd .IA_PENDING (n / 32)) (n % 32) 1 == 1

/-- Store the pending bit of a latched source. -/
def State.putLatched (s : State) (n : Nat) (b : Bool) : State :=
  s.wr .IA_PENDING (Word.setBits (s.rd .IA_PENDING (n / 32)) (n % 32) 1 (if b then 1 else 0)) (n / 32)

/-- How many sources are latched with APPLIED at Signal or graver (FC_STATUS, R511). -/
def State.signalled (s : State) : Nat :=
  (s.regs.filter (fun e => decide (e.1.reg = .FC_SRC) && Word.bits e.2 31 1 == 1 && decide (1 ≤ Word.bits e.2 24 3))).length

/-- Whether the condition of a level source holds (R593). -/
def State.levelNow (s : State) (n : Nat) : Bool :=
  if n < 96 then s.rd .PORT_ERR n != 0 || (s.rd .LL_ERR n != 0 && decide (6 ≤ s.get F.PORT_CFG_ROLE n))
  else if 192 ≤ n && n ≤ 219 then
    let c := n - 192
    (Word.bits (s.rd .CH_ERR c) 0 5 != 0 && s.flag F.CH_CTRL_ERR_IRQ_EN c) || s.get F.CH_STATUS_STATE c == 5
  else if n == 256 then s.signalled != 0
  else if n == 257 then s.rd .FLUE_ERR 0 != 0
  else if n == 258 then s.rd .FLUE_ERR 1 != 0
  else if n == 259 then s.flag F.FEED_STATUS_BANK_REQ
  else if n == 260 then s.flag F.TAMPER_STATUS_TAMPER_LATCHED
  else if n == 268 then s.flag F.SNAP_CTRL_SNAP_ERR
  else if n == 325 then s.rd .FEED_ERR != 0
  else if n == 262 || n == 263 then s.msgs.any (fun m => decide (m.stage = .atHearth) && halfOf m.input == n - 262)
  else if 343 ≤ n && n ≤ 571 then
    (List.range 8).any (fun i => Word.bits (s.rd .PMU_OVF (n - 343)) i 1 == 1 && s.flag F.PMU_EVSEL_OVF_IRQ (n - 343) i)
  else s.levels.contains n

/-- Whether a source is pending (R593). -/
def State.irqPending (s : State) (n : Nat) : Bool := if irqLatched n then s.latchedBit n else s.levelNow n

/-- Whether a physical core is active (R455). -/
def State.coreActive (s : State) (c : Nat) : Bool := Word.bits (s.rd .CORE_ACTIVE) c 1 == 1

/-- The next active core after `last` in physical core order, if any is active. -/
def State.nextCore (s : State) (last : Nat) : Option Nat :=
  ((List.range 17).map (fun k => (last + 1 + k) % 17)).find? (fun c => s.coreActive c)

/-- Whether a source is delivered by rotation: TARGET 31, or a core that is not active (R595). -/
def State.irqRotates (s : State) (n : Nat) : Bool :=
  let t := s.get F.IA_ROUTE_TARGET n
  !(326 ≤ n && n ≤ 342) && (decide (16 < t) || !s.coreActive t)

/-- Bring a source's assignment up to date after its condition may have changed: a source that becomes pending and
rotates is assigned to the next active core; the assignment ends when the source leaves pending (R595). -/
def State.irqTouch (s : State) (n : Nat) : State :=
  if s.irqPending n then
    if s.irqRotates n && !(s.agg.assigned.any (fun e => e.1 == n)) then
      match s.nextCore s.agg.last with
      | some c => { s with agg := { assigned := s.agg.assigned ++ [(n, c)], last := c } }
      | none => s
    else s
  else { s with agg := { s.agg with assigned := s.agg.assigned.filter (fun e => e.1 != n) } }

/-- An event of a latched source: it becomes pending (R593, R594). -/
def State.irqEvent (s : State) (n : Nat) : State := (s.putLatched n true).irqTouch n

/-- Set or clear a level source that no register shows. -/
def State.irqLevel (s : State) (n : Nat) (b : Bool) : State :=
  let rest := s.levels.filter (fun x => x != n)
  State.irqTouch { s with levels := (if b then rest ++ [n] else rest) } n

/-- The core that a pending source goes to (R595). -/
def State.irqTarget (s : State) (n : Nat) : Option Nat :=
  if 326 ≤ n && n ≤ 342 then some (n - 326)
  else if s.irqRotates n then
    match s.agg.assigned.find? (fun e => e.1 == n) with
    | some e => some e.2
    | none => s.nextCore s.agg.last
  else some (s.get F.IA_ROUTE_TARGET n)

/-! ## Counter units (R562 to R567) -/

/-- The half whose clock a counter unit counts in; none for the units of the Hearth (R562). -/
def pmuHalf (u : Nat) : Option Nat :=
  if u < 96 then some (halfOf u)
  else if u < 192 then some (halfOf (u - 96))
  else if u < 216 then some ((u - 192) / 12)
  else if u < 226 then some (u % 2)
  else none

/-- Whether the clock of a unit runs (R565): a half's stops in Glow and below. -/
def State.pmuClock (s : State) (u : Nat) : Bool :=
  match pmuHalf u with
  | some h => !s.below.contains h
  | none => true

/-- Whether a unit's counters may count (R565). -/
def State.pmuRuns (s : State) (u : Nat) : Bool :=
  s.pmuClock u && !s.flag F.PMU_CTRL_FREEZE u && !s.flag F.PMU_GLOBAL_FREEZE_ALL

/-- Add to one counter: it wraps at 2^48, sets its bit in PMU_OVF and touches the unit's interrupt (R566). -/
def State.pmuAdd (s : State) (u i n : Nat) : State :=
  let v := s.get F.PMU_COUNT_V u i + n
  let s := s.put F.PMU_COUNT_V v u i
  if v < 2 ^ 48 then s
  else (s.wr .PMU_OVF (Word.setBits (s.rd .PMU_OVF u) i 1 1) u).irqTouch (343 + u)

/-- The counters of a unit that select an event and are enabled: counter and EDGE (R564, R565). -/
def State.pmuSelects (s : State) (u code : Nat) : List (Nat × Bool) :=
  (s.regs.filter (fun e => decide (e.1.reg = .PMU_EVSEL) && e.1.i == u && Word.bits e.2 31 1 == 1 && Word.bits e.2 0 10 == code)).map
    (fun e => (e.1.j, Word.bits e.2 30 1 == 1))

/-- An event of a quantity: a counter at level adds it, one at edge adds 1 (R564; each command is a cycle of its own). -/
def State.count (s : State) (u code n : Nat) : State :=
  if n == 0 || !s.pmuRuns u then s
  else (s.pmuSelects u code).foldl (fun s e => s.pmuAdd u e.1 (if e.2 then 1 else n)) s

/-- The event that a step of a counter register is (R564). -/
def pmuEvent (r : Reg) (i : Nat) : Option (Nat × Nat) :=
  match r with
  | .LL_REPLAY_COUNT => if i < 96 then some (i, 4) else none
  | .LL_CRC_COUNT => if i < 96 then some (i, 3) else some (220 + (i - 96) / 8, 1)
  | .POISON_COUNT => some (i, 9)
  | .Q_ADMIT_WAIT => some (96 + i, 5)
  | .WRITE_STALL_COUNT => some (216 + i, 2)
  | .READ_DEFER_COUNT => some (216 + i, 3)
  | .BUF_CE_COUNT => some (216 + i, 4)
  | .MIR_DROP => some (216 + i, 7)
  | .LEDGER_HIT => some (218 + i, 1)
  | .LEDGER_MISS => some (218 + i, 2)
  | .SNOOPS_SENT => some (218 + i, 3)
  | .SPEC_ISSUED => some (218 + i, 7)
  | .SPEC_DISCARDED => some (218 + i, 8)
  | .METER_GREEN => some (224 + i, 2)
  | .METER_YELLOW => some (224 + i, 3)
  | .METER_RED => some (224 + i, 4)
  | .CH_DONE_COUNT => some (222 + i / 14, 2)
  | .CH_CELLS => some (222 + i / 14, 1)
  | .FLUE_TIMEOUT_COUNT => some (226, 2)
  | .SP_CONFLICT => some (227, 1)
  | .SP_BANK_CE => some (227, 2)
  | _ => none

/-- Add to a counter field that saturates (R13, the counters of every register table), and count the event. -/
def State.bump (s : State) (f : Fld) (n : Nat) (i : Nat := 0) (j : Nat := 0) : State :=
  let s := s.put f (min (2 ^ f.w - 1) (s.get f i j + n)) i j
  match pmuEvent f.reg i with
  | some (u, code) => s.count u code n
  | none => s

/-! ## Emulated switch ports (R97, R110, R114) -/

/-- A register of the upstream port (64) or a virtual downstream port of a host's switch. -/
def State.vpReg (s : State) (host v off : Nat) : Nat :=
  match tabFind off (numGet [] (65 * host + v) s.vports) with
  | some x => x
  | none => (Config.emuConfig false (if v = 64 then host else 95 + 64 * host + v) off).toNat

/-- Store it. -/
def State.vpSet (s : State) (host v off x : Nat) : State :=
  let l := numGet [] (65 * host + v) s.vports
  { s with vports := numPut [] (65 * host + v) (tabInsert natLt off x (tabErase off l)) s.vports }

/-- Set status bits of it. -/
def State.vpRaise (s : State) (host v off bits : Nat) : State := s.vpSet host v off (Nat.lor (s.vpReg host v off) bits)

/-- Presence Detect Changed and Data Link Layer State Changed, in the slot status above Slot Control (PRESUMED, PCI Express; log
entry 157). -/
def slotChanged : Nat := 2 ^ 19 + 2 ^ 24

/-- A hot-plug event of a virtual downstream port: its slot status, and the host's interrupt (R110, R255). -/
def State.plugEvent (s : State) (host v : Nat) (present : Bool) : State :=
  (s.vpRaise host v Config.slotStatus slotChanged).emit (.hotPlug host v present)

/-! ## What the Hearth says (R219) -/

/-- How a Hearth-originated message leaves its port. -/
def Said.out (p : Nat) : Said → Out
  | .config v => .configDone p v
  | .data id b => .toHost p id .ioCompl b false 0
  | .abort id => .completerAbort p id
  | .reply src id seq r => .reply src id seq r
  | .fmReply src c vs => .fmReply src c vs
  | .measurement i c => .measurement p i c
  | .spdm ok => .spdm p ok
  | .mailbox st op c vs => .mailbox st op c vs

/-- Whether it is Data Object Exchange traffic, which R106 and R109 let through. -/
def Said.isDoe : Said → Bool
  | .measurement _ _ => true
  | .spdm _ => true
  | _ => false

/-- The class 9 message that carries it: it waits in the Hearth's staging for the Management queue of its port (R175, R219; one data
block, log entry 158). -/
def hearthMsg (id p : Nat) (x : Said) : Msg :=
  { id := id, cls := 9, op := .mgmt, input := 127, dst := p, half := halfOf p, charge := .staging, blocks := 1, said := some x }

/-- The Hearth says something to a port; a receiver of another kind (96 and above) gets it outside the fabric. -/
def State.say (s : State) (p : Nat) (x : Said) : State :=
  if p < 96 then { s with msgs := s.msgs ++ [hearthMsg s.nextId p x], nextId := s.nextId + 1 } else s.emit (x.out p)

/-- The port of a source, 96 for one that is none. -/
def sourcePort : Source → Nat
  | .cxl p => p.val
  | _ => 96

/-! ## ECP events and operations -/

/-- Queue an event packet to one session, dropping the oldest of 64 (R449). -/
def Session.queue (x : Session) (opcode status : Nat) (params : List Nat) : Session :=
  let e : Event := { opcode := opcode, number := x.eventCount + 1, status := status, params := params }
  let q := if 64 ≤ x.events.length then x.events.drop 1 else x.events
  { x with eventCount := x.eventCount + 1, events := q ++ [e] }

/-- Whether a session runs over CXL.io. -/
def onCxl : Source → Bool
  | .cxl _ => true
  | _ => false

/-- Keep a reply among the last 32 of a session (R441). -/
def Session.keep (x : Session) (seq : Nat) (r : Reply) : Session :=
  { x with cache := (if 32 ≤ x.cache.length then x.cache.drop 1 else x.cache) ++ [(seq, r)] }

/-- A reply leaves to a source, and is kept by its session if that is open (R426, R441). -/
def State.answer (s : State) (src : Source) (id seq : Nat) (r : Reply) : State :=
  { s.say (sourcePort src) (.reply src id seq r) with
    sessions := s.sessions.map (fun x => if x.id == id && id != 0 then x.keep seq r else x) }

/-- The opcode of ABORT_OPERATION (R451). -/
def opAbort : Nat := 0x0008

/-- Aborts that are held until an operation ends are answered ALREADY_DONE with its RESULT (R447). -/
def State.answerAborts (s : State) (id : Nat) (st : Status) : State :=
  s.sessions.foldl (fun s x =>
    match x.held with
    | some (n, seq) =>
      if n == id then
        let s := s.answer x.source x.id seq { opcode := opAbort, status := .alreadyDone, values := [st.code] }
        { s with sessions := s.sessions.map (fun y => if y.id == x.id then { y with held := none } else y) }
      else s
    | none => s) s

/-- An event to every session that subscribed to its group and may observe (R450). Events that concern Stalls or hosts
are not sent over CXL.io. -/
def State.event (s : State) (opcode : Nat) (params : List Nat) : State :=
  let stallEvent := opcode == 0x02F0 || opcode == 0x02F1
  { s with sessions := s.sessions.map (fun x =>
      if x.mask / 2 ^ (opcode / 256) % 2 == 1 && x.perms.observe && !(stallEvent && onCxl x.source) then
        x.queue opcode 0 params
      else x) }

/-- The session's operation-done event (R450). -/
def State.opDoneEvent (s : State) (o : Operation) (st : Status) : State :=
  { s with sessions := s.sessions.map (fun x =>
      if x.id == o.session then x.queue 0x00F0 st.code [o.id, st.code] else x) }

/-- End one running operation with its terminal status, which never changes once it is set (R445). -/
def State.endOperation (s : State) (o : Operation) (st : Status) : State :=
  (State.opDoneEvent { s with ops := (s.ops.filter (fun x => x.id != o.id)) ++ [{ o with status := st }] } o st).answerAborts o.id st

/-- End a running operation by its ID. -/
def State.endById (s : State) (id : Nat) (st : Status) : State :=
  match s.ops.find? (fun o => o.id == id && decide (o.status = .accepted)) with
  | some o => s.endOperation o st
  | none => s

/-- The running operation of a kind, if any. -/
def State.runningOp (s : State) (k : OpKind) : Option Operation :=
  s.ops.find? (fun o => decide (o.kind = k) && decide (o.status = .accepted))

/-- End the running operation of a kind, if there is one. -/
def State.endOp (s : State) (k : OpKind) (st : Status) : State :=
  (s.ops.filter (fun o => decide (o.kind = k) && decide (o.status = .accepted))).foldl (fun s o => s.endOperation o st) s

/-! ## The fault collector (R492 to R508) -/

/-- What a raise tells the record (R508). -/
structure FaultInfo where
  cause : Nat := 0xFF
  stall : Option Nat := none
  host : Option Nat := none
  addr : Option Nat := none
  dpaLd : Option Nat := none
  deriving DecidableEq, Repr

/-- The first address of the record ring in bank 15 (R508). -/
def ringBase : Nat := 0x11E00000

/-- The 32 bytes of a record (R508). -/
def recordBytes (time source : Nat) (forced : Bool) (applied : Nat) (i : FaultInfo) (epoch seq : Nat) : List Byte :=
  let b (x : Bool) (n : Nat) : Nat := if x then 2 ^ n else 0
  leBytes 8 time ++ leBytes 2 source
    ++ leBytes 1 (b forced 7 + b i.stall.isSome 6 + b i.host.isSome 5 + b i.addr.isSome 4 + applied)
    ++ leBytes 1 i.cause ++ leBytes 2 (i.stall.getD 0) ++ leBytes 1 (i.host.getD 0)
    ++ leBytes 1 (match i.dpaLd with | some ld => 128 + ld | none => 0)
    ++ leBytes 8 (i.addr.getD 0) ++ leBytes 4 epoch ++ leBytes 4 seq

/-- Write one record at FC_RING_HEAD and advance the head (R508). -/
def State.writeRecord (s : State) (source : Nat) (forced : Bool) (applied : Nat) (i : FaultInfo) : State :=
  let seq := (s.get F.FC_RING_SEQ_SEQ + 1) % 2 ^ 32
  let head := s.get F.FC_RING_HEAD_V
  let bytes := recordBytes s.now source forced applied i (s.get F.EPOCH_V) seq
  let s := s.memStore (ringBase + 32 * head) bytes
  let s := match i.stall with
    | some st => { s with todo := s.todo ++ [Todo.post st bytes] }
    | none => s
  (s.put F.FC_RING_SEQ_SEQ seq).put F.FC_RING_HEAD_V (head + 1)

/-- The port that a slot power source acts on: the one tied to the slot by PORT_SLOT (R91, R495). -/
def State.portOfSlot (s : State) (n : Nat) : Option Nat :=
  (List.range 96).find? (fun p => s.flag F.PORT_SLOT_VALID p && s.get F.PORT_SLOT_SLOT p == n && !s.bondedInto p)

/-- The slot that a port is tied to, if any (R91, R108). -/
def State.slotOf (s : State) (p : Nat) : Option Nat :=
  if s.flag F.PORT_SLOT_VALID p && !s.bondedInto p then some (s.get F.PORT_SLOT_SLOT p) else none

/-- Whether the Grate asserts the hold line of a slot (R34): its long pin is lost, or its channel is not On (state 5). -/
def State.holdLine (s : State) (n : Nat) : Bool := !s.flag F.SLOT_STATE_LONG_PIN n || s.get F.SLOT_STATE_STATE n != 5

/-- The half that owns a source that may Douse (R494): the first of each pair belongs to East. -/
def sourceHalf (n : Nat) : Nat := n % 2

/-- The reactions that a latch starts (R503). They are carried out before the command ends. -/
def State.startReaction (s : State) (n applied : Nat) (i : FaultInfo) : State :=
  let s := if 1 ≤ applied then (s.event 0x08F0 [n]).irqTouch 256 else s
  if applied == 2 then
    if n < 768 then
      if n % 8 == 6 then
        match i.stall with
        | some st => { s with todo := s.todo ++ [.containStall st n] }
        | none => s
      else { s with todo := s.todo ++ [.containPort (n / 8) n] }
    else if 960 ≤ n && n ≤ 1007 then
      match s.portOfSlot (n - 960) with
      | some p => { s with todo := s.todo ++ [.containPort p n] }
      | none => s
    else s
  else if applied == 3 then { s with todo := s.todo ++ [.douse (sourceHalf n)] }
  else if applied == 4 then { s with todo := s.todo ++ [.ash] }
  else s

/-- Latch a source: LATCHED, COUNT 1, APPLIED, one record, and its reaction (R497). -/
def State.latch (s : State) (n : Nat) (i : FaultInfo) : State :=
  let applied := s.get F.FC_SRC_REACTION n
  let s := ((s.put F.FC_SRC_LATCHED 1 n).put F.FC_SRC_COUNT 1 n).put F.FC_SRC_APPLIED applied n
  let s := s.writeRecord n (s.flag F.FC_SRC_FORCE n) applied i
  s.startReaction n applied i

/-- Raise a source (R497): the first raise since it was cleared latches it, a further one counts. -/
def State.raise (s : State) (n : Nat) (i : FaultInfo := {}) : State :=
  if s.flag F.FC_SRC_LATCHED n then s.bump F.FC_SRC_COUNT 1 n else s.latch n i

/-- Set a W1C status bit of a port or link register and raise its source with the bit as the record's cause. -/
def State.setErr (s : State) (f : Fld) (i : Nat) (source : Nat) (info : FaultInfo := {}) : State :=
  (s.put f 1 i).raise source { info with cause := f.lo }

/-- A transfer over the Flue link of a half gets no answer within 2 ms (R35, R464): TIMEOUT, its interrupt, its count. -/
def State.flueTimedOut (s : State) (h : Nat) (addr : Option Nat) : State :=
  ((s.setErr F.FLUE_ERR_TIMEOUT h (780 + h) { addr := addr }).irqTouch (257 + h)).bump F.FLUE_TIMEOUT_COUNT_V 1 h

/-- Set a bit of PORT_ERR (R116): the family of R493, and the port's interrupt source. -/
def State.portErr (s : State) (f : Fld) (p : Nat) (info : FaultInfo := {}) : State :=
  let k := if f.lo == 7 then 3 else if f.lo == 6 then 2 else 1
  (s.setErr f p (8 * p + k) info).irqTouch p

end Sys2Proof.Machine
end

