-- ==== Sys2Proof/Machine/Buffer.lean ====
section
/-!
DEFINITION. The shared buffer's cells, header entries and accounts, and admission (Shared-Memory Switch Core).
-/
namespace Sys2Proof.Machine

/-- The egress class of a message class (R170): 0 Management, 1 Response, 2 Request, 3 Bulk. -/
def egressClass (cls : Nat) : Nat :=
  if cls == 9 then 0
  else if cls == 8 then 3
  else if cls == 0 || cls == 1 || cls == 4 || cls == 10 then 2
  else 1

/-- The queue of a message: its egress class, or 4 for a mirror copy (R170, R195). -/
def Msg.queueIx (m : Msg) : Nat := if m.op = .mirror then 4 else egressClass m.cls

/-- The role of a port: its committed ROLE, none while it is the second of a bonded pair (R89, R91). -/
def State.role (s : State) (p : Nat) : Nat := if s.bondedInto p then 0 else s.get F.PORT_CFG_ROLE p

/-- Whether a port is a Host port (R89). -/
def State.isHostPort (s : State) (p : Nat) : Bool := s.role p == 1 || s.role p == 2

/-- Whether a port is a Cascade port. -/
def State.isCascade (s : State) (p : Nat) : Bool := s.role p == 6 || s.role p == 7

/-- The port of a host, if one carries it (R90). -/
def State.hostPort (s : State) (host : Nat) : Option Nat :=
  (List.range 96).find? (fun p => s.isHostPort p && s.get F.PORT_CFG_HOST_ID p == host)

/-! ## Banks and cells (R163 to R166, R199) -/

/-- Cells of a half in active banks (BUF_ACTIVE_CELLS, R200). -/
def State.activeCells (s : State) (h : Nat) : Nat :=
  3072 * ((List.range 256).filter (fun b => s.get F.BANK_CTRL_STATE h b == 0)).length

/-- The next active bank with a free cell, from a write slot's pointer on (R166). -/
def State.nextBank (s : State) (h ptr : Nat) : Option Nat :=
  ((List.range 256).map (fun k => (ptr + k) % 256)).find?
    (fun b => s.get F.BANK_CTRL_STATE h b == 0 && s.get F.BANK_CTRL_FREE h b != 0)

/-- The write slots of an input (R165): the port's own, both of a bonded pair, the eight of the Seam channel that serves an egress
port, the eight of the internal agents. -/
def State.writeSlots (s : State) (input : Nat) (overSeam : Bool) (dst : Nat) : List Nat :=
  if overSeam then (List.range 8).map (fun k => 48 + 8 * (if dst < 96 then dst % 8 else 0) + k)
  else if input < 96 then (if s.bonded input then [input % 48, input % 48 + 1] else [input % 48])
  else (List.range 8).map (fun k => 112 + k)

/-- The bank and the row of a cell address (R164). -/
def cellBank (c : Nat) : Nat := c / 4096 % 256
def cellRow (c : Nat) : Nat := c % 4096

/-- Sixty-four zero bytes. -/
def zeros64 : List Byte := List.replicate 64 0

/-- A stored word: 32 data bits under 7 check bits (R163). -/
def storedWord (v : Nat) : BitVec 39 := Config.secded (BitVec.ofNat 32 v) ++ BitVec.ofNat 32 v

/-- The 17 words of a stored cell: its data and its CRC-32 (R163). -/
def cellWords (c : List Byte × Nat) : List (BitVec 39) :=
  (List.range 16).map (fun i => storedWord (leNat ((c.1.drop (4 * i)).take 4))) ++ [storedWord c.2]

/-- The data bits of a stored word. -/
def wordData (w : BitVec 39) : Nat := w.toNat % 2 ^ 32

/-- A cell as the store holds it: 64 bytes, and its CRC-32. -/
def State.cellAt (s : State) (h c : Nat) : List Byte × Nat :=
  match tabFind (2 ^ 20 * h + c) s.buf.store with
  | some ws => ((ws.take 16).flatMap (fun w => leBytes 4 (wordData w)), wordData (ws.getD 16 0))
  | none => (zeros64, 0)

/-- Data padded with zeros to a number of bytes. -/
def padTo (n : Nat) (b : List Byte) : List Byte := (b ++ List.replicate (n - b.length) 0).take n

/-- The cells of a message's data, a partial last one padded with zeros, each with the CRC-32 that the ingress computes (R197). -/
def Msg.dataCells (m : Msg) : List (List Byte × Nat) :=
  (List.range m.blocks).map (fun i => let c := padTo 64 (m.data.drop (64 * i)); (c, crc32 c))

/-- A free row of a bank: the lowest that holds no cell (R164: rows 0 to 3,071; the order of a free list is the model's choice, log
entry 161). -/
def State.freeRow (s : State) (h b : Nat) : Nat :=
  ((List.range 3072).find? (fun r => (tabFind (2 ^ 20 * h + 4096 * b + r) s.buf.store).isNone)).getD 0

/-- Write a cell into a bank for a write slot, whose pointer moves past it (R166): its address. -/
def State.writeCell (s : State) (h slot b : Nat) (c : List Byte × Nat) : Nat × State :=
  let a := 4096 * b + s.freeRow h b
  let s := (s.put F.BANK_CTRL_FREE (s.get F.BANK_CTRL_FREE h b - 1) h b).count (216 + h) 0 1
  (a, { s with buf := { s.buf with pointers := numPut 0 (120 * h + slot) ((b + 1) % 256) s.buf.pointers,
                                   store := numPut [] (2 ^ 20 * h + a) (cellWords c) s.buf.store } })

/-- The bank that a write slot takes next. -/
def State.slotBank (s : State) (h slot : Nat) : Option Nat := s.nextBank h (numGet 0 (120 * h + slot) s.buf.pointers)

/-- Write the cells of a message of a half by its slots in turn; one for which no bank is eligible waits in the skid and is counted
(R166, R167). -/
def State.takeCells (s : State) (h : Nat) (slots : List Nat) (id i : Nat) : List (List Byte × Nat) → List Nat × State
  | [] => ([], s)
  | c :: t =>
    let slot := slots.getD (i % slots.length) 0
    match s.slotBank h slot with
    | none =>
      let s := { s with buf := { s.buf with skid := s.buf.skid ++ [(120 * h + slot, id, c)] } }.bump F.WRITE_STALL_COUNT_V 1 h
      State.takeCells s h slots id (i + 1) t
    | some b =>
      let (a, s) := s.writeCell h slot b c
      let (cs, s) := State.takeCells s h slots id (i + 1) t
      (a :: cs, s)

/-- Whether some message still references a cell (R169, R194). -/
def State.cellUsed (s : State) (h c : Nat) : Bool :=
  s.msgs.any (fun m => m.half == h && m.cells.contains c) || s.buf.orphans.any (fun o => o.half == h && o.cells.contains c)

/-- A draining bank becomes retired when its last cell is freed (R199). -/
def State.bankDrained (s : State) (h b : Nat) : State :=
  let used := s.msgs.any (fun m => m.half == h && m.cells.any (fun c => cellBank c == b))
    || s.buf.orphans.any (fun o => o.half == h && o.cells.any (fun c => cellBank c == b))
  if s.get F.BANK_CTRL_STATE h b == 2 && !used then s.put F.BANK_CTRL_STATE 3 h b else s

/-- Cells of the skid are placed while banks are eligible (R167); those of a message that is gone are dropped. -/
def State.placeSkid (s : State) (h : Nat) : Nat → State
  | 0 => s
  | n + 1 =>
    match s.buf.skid.find? (fun e => e.1 / 120 == h) with
    | none => s
    | some e =>
      let t := { s with buf := { s.buf with skid := s.buf.skid.erase e } }
      match s.msgs.find? (fun m => m.id == e.2.1), s.slotBank h (e.1 % 120) with
      | none, _ => State.placeSkid t h n
      | some _, none => s
      | some m, some b =>
        let (a, t) := t.writeCell h (e.1 % 120) b e.2.2
        State.placeSkid { t with msgs := t.msgs.map (fun x => if x.id == m.id then { x with cells := x.cells ++ [a] } else x) } h n

/-- A cell that no message references any more goes back to its bank's free list, unless the bank drains (R199). -/
def State.freeCell (s : State) (h c : Nat) : State :=
  let b := cellBank c
  if s.cellUsed h c then s
  else
    let s := { s with buf := { s.buf with store := tabErase (2 ^ 20 * h + c) s.buf.store } }
    if s.get F.BANK_CTRL_STATE h b == 2 then s.bankDrained h b
    else s.put F.BANK_CTRL_FREE (s.get F.BANK_CTRL_FREE h b + 1) h b

/-- Free the cells of a message that is gone; cells of the skid take their place (R167). -/
def State.freeCells (s : State) (h : Nat) (cs : List Nat) : State :=
  let s := cs.foldl (fun s c => s.freeCell h c) s
  s.placeSkid h s.buf.skid.length

/-! ## Accounts (R171 to R177) -/

/-- Sum over the messages of a half that a test selects. -/
def State.sumBlocks (s : State) (h : Nat) (f : Msg → Bool) : Nat :=
  ((s.msgs.filter (fun m => m.half == h && f m)).map Msg.blocks).sum

/-- Cells charged to an account of a half, those left for the census included (R189). -/
def State.charged (s : State) (h : Nat) (c : Charge) : Nat :=
  s.sumBlocks h (fun m => decide (m.charge = c))
    + ((s.buf.orphans.filter (fun o => o.half == h && decide (o.charge = c))).map Orphan.blocks).sum

/-- Data and header totals that a link advertises (R142, R171): those of its last initialisation; while it is Down, those that the
next one will take. -/
def State.advertised (s : State) (l : Nat) : Nat × Nat :=
  if s.get F.LL_STATUS_STATE l == 0 then
    (s.get F.LL_ADV_REQ_DATA l + s.get F.LL_ADV_RSP_DATA l, s.get F.LL_ADV_REQ_HDR l + s.get F.LL_ADV_RSP_HDR l)
  else
    let a := (numGet {} l s.links : Link).ownA
    (a.getD 1 0 + a.getD 3 0, a.getD 0 0 + a.getD 2 0)

/-- The receive reserve of a port: cells and header entries (R171). -/
def State.receiveReserve (s : State) (p : Nat) : Nat × Nat :=
  let r := s.role p
  if r == 0 then (0, 0)
  else if r == 6 then s.advertised p
  else (s.get F.Q_RX_RESERVE_V p, s.get F.Q_RX_RESERVE_V p)

/-- Cells and header entries charged to the receive reserve of a port, those of messages that its Cascade link extracted and that
wait included (R174). -/
def State.reserveUsed (s : State) (p : Nat) : Nat × Nat :=
  let ms := s.msgs.filter (fun m => decide (m.charge = .receive) && m.input == p)
  let rx := (numGet {} p s.links : Link).rx
  ((ms.map Msg.blocks).sum + (rx.map WireMsg.blocks).sum, ms.length + rx.length)

/-- Whether the link credits that a port of ROLE 1 to 5 advertises cover a message: they fit within its reserve, of which 256 cells and
header entries are kept for the Response and Management classes (R173). Credits return as charges end (R174). -/
def State.linkRoom (s : State) (p cls blocks : Nat) : Bool :=
  let u := s.reserveUsed p
  let r := s.receiveReserve p
  let keep := if egressClass cls ≤ 1 then 0 else 256
  decide (u.1 + blocks + keep ≤ r.1) && decide (u.2 + 1 + keep ≤ r.2)

/-- The Seam receive reserve of a half (R171). -/
def State.seamReserve (s : State) (h : Nat) : Nat × Nat :=
  let a := (List.range 8).map (fun c => s.advertised (96 + 8 * h + c))
  ((a.map Prod.fst).sum, (a.map Prod.snd).sum)

/-- The minimum of a queue in cells (R171, Q_MIN in units of 16). -/
def State.queueMin (s : State) (p q : Nat) : Nat :=
  if s.role p == 0 then 0 else 16 * Word.bits (s.rd .Q_MIN p) (8 * q) 8

/-- The shared pool of a half in cells: what the other accounts leave (R171). -/
def State.sharedSize (s : State) (h : Nat) : Nat :=
  let ports := ((portsOf h).map (fun p => (s.receiveReserve p).1
    + s.queueMin p 0 + s.queueMin p 1 + s.queueMin p 2 + s.queueMin p 3)).sum
  s.activeCells h - (ports + (s.seamReserve h).1 + s.get F.BUF_MGMT_RESERVE_V h)

/-- The header entries of the shared pool (R171). -/
def State.sharedHeaders (s : State) (h : Nat) : Nat :=
  262144 - (((portsOf h).map (fun p => (s.receiveReserve p).2)).sum + (s.seamReserve h).2 + 256)

/-- Header entries of the shared pool in use. -/
def State.headersUsed (s : State) (h : Nat) : Nat :=
  (s.msgs.filter (fun m => m.half == h && (decide (m.stage = .queued) || (decide (m.stage = .atHearth) && decide (m.charge = .shared)))
      && !m.hdrMgmt)).length
    + (s.buf.orphans.filter (fun o => o.half == h)).length

/-- Free header entries of the shared pool (HDR_FREE). -/
def State.headersFree (s : State) (h : Nat) : Nat := s.sharedHeaders h - s.headersUsed h

/-- Shared-pool cells in use, mirror account included (BUF_SHARED_USED). -/
def State.sharedUsed (s : State) (h : Nat) : Nat := s.charged h .shared

/-- The yellow limit: YELLOW_PCT % of the shared pool, rounded down (R176). -/
def State.yellowLimit (s : State) (h : Nat) : Nat := s.sharedSize h * s.get F.BUF_CFG_YELLOW_PCT h / 100

/-- Whether the pool of a half is at or above its yellow limit (R184). -/
def State.poolClosed (s : State) (h : Nat) : Bool := decide (s.yellowLimit h ≤ s.sharedUsed h)

/-- The messages of a queue, head first. -/
def State.queue (s : State) (p q : Nat) : List Msg :=
  s.msgs.filter (fun m => decide (m.stage = .queued) && m.dst == p && m.queueIx == q)

/-- Cells of a queue in an account. -/
def State.queueCells (s : State) (p q : Nat) (c : Charge) : Nat :=
  (((s.queue p q).filter (fun m => decide (m.charge = c))).map Msg.blocks).sum
    + ((s.buf.orphans.filter (fun o => o.dst == p && o.cls == q && decide (o.charge = c))).map Orphan.blocks).sum

/-- A queue minimum was lowered below what its queue holds: the excess becomes shared-pool use, from the tail (R172). -/
def State.minExcess (s : State) (p q : Nat) : Nat → State
  | 0 => s
  | n + 1 =>
    if s.queueMin p q < s.queueCells p q .queueMin then
      match (s.queue p q).reverse.find? (fun m => decide (m.charge = .queueMin)) with
      | some m => State.minExcess { s with msgs := s.msgs.map (fun x => if x.id == m.id then { x with charge := .shared } else x) } p q n
      | none => s
    else s

/-- shared_ok of R176, with 2^c / 64 for alpha. -/
def State.sharedOk (s : State) (m : Msg) (h headroom : Nat) : Bool :=
  let free := s.sharedSize h - s.sharedUsed h
  let c := Word.bits (s.rd .Q_ALPHA m.dst) (4 * m.queueIx) 4
  decide (headroom + m.blocks ≤ free)
    && decide (64 * (s.queueCells m.dst m.queueIx .shared + m.blocks) ≤ 2 ^ c * free)

/-- The account that admission gives a message, or none where it refuses (R176, without R177). -/
def State.admitCells (s : State) (m : Msg) (colour : Colour) : Option Charge :=
  let h := halfOf m.dst
  let q := m.queueIx
  if q == 0 then
    if s.charged h .mgmt + m.blocks ≤ s.get F.BUF_MGMT_RESERVE_V h then some .mgmt
    else if s.sharedOk m h 0 then some .shared else none
  else match colour with
  | .red => none
  | .green =>
    if s.queueCells m.dst q .queueMin + m.blocks ≤ s.queueMin m.dst q then some .queueMin
    else if s.sharedOk m h (if q == 1 then 0 else s.get F.BUF_RSP_HEADROOM_V h) then some .shared else none
  | .yellow =>
    if s.yellowLimit h < s.sharedUsed h + m.blocks then none
    else if s.sharedOk m h (if q == 1 then 0 else s.get F.BUF_RSP_HEADROOM_V h) then some .shared else none

/-- The header entry of R177: some true from the management reserve, some false from the shared pool. -/
def State.admitHeader (s : State) (m : Msg) : Option Bool :=
  let h := halfOf m.dst
  if s.get F.HDR_QUEUE_CAP_V h ≤ (s.queue m.dst m.queueIx).length then none
  else if m.queueIx == 0 then
    if (s.msgs.filter (fun x => x.half == h && x.hdrMgmt)).length < 256 then some true
    else if 0 < s.headersFree h then some false else none
  else if 257 ≤ s.headersFree h then some false else none

/-- Management and Response messages, messages no meter colours and messages from the Seam are admitted as Green
(R176). -/
def Msg.admitColour (m : Msg) (overSeam : Bool) : Colour :=
  if m.queueIx == 0 || m.queueIx == 1 || !m.metered || overSeam then .green else m.colour

/-- Put a message at the tail of its stage, replacing its earlier place. -/
def State.place (s : State) (m : Msg) : State :=
  { s with msgs := s.msgs.filter (fun x => x.id != m.id) ++ [m] }

/-- Take a message out of the device and free its cells. -/
def State.remove (s : State) (m : Msg) : State :=
  State.freeCells { s with msgs := s.msgs.filter (fun x => x.id != m.id) } m.half m.cells

/-- Update a message where it stands. -/
def State.update (s : State) (m : Msg) : State :=
  { s with msgs := s.msgs.map (fun x => if x.id == m.id then m else x) }

/-! ## The message format (R123, R124, R170) -/

/-- Whether a message writes. -/
def Msg.writes (m : Msg) : Bool :=
  match m.op with
  | .memWrite | .ioWrite | .bulkWrite | .ledgerWrite => true
  | _ => false

/-- A port in a message header: its number, or 127 for an internal agent (R124). -/
def wirePort (p : Nat) : Nat := if p < 96 then p else 127

/-- The message header of R124. -/
def WireMsg.header (w : WireMsg) : Nat :=
  w.cls % 16 * 2 ^ 60 + w.carried.length / 4 % 16 * 2 ^ 56 + w.blocks % 128 * 2 ^ 49 + (if w.poison then 2 ^ 48 else 0)
    + w.src % 128 * 2 ^ 41 + w.dst % 128 * 2 ^ 34 + w.tag % 2 ^ 32

/-- The carried header, four words (DESIGN CHOICE, log entry 10): the address, the message's number, whether it writes. -/
def Msg.carried (m : Msg) : List Byte := leBytes 8 m.addr ++ leBytes 7 m.id ++ [if m.writes then 1 else 0]

/-- Words of the carried header. -/
def carriedWords : Nat := 4

/-- The message in the format of R123 and R124, with its cells: TAG is the epoch in class 9, the Stall in every other class. -/
def State.wire (s : State) (m : Msg) (dst : Nat) (cells : List (List Byte × Nat)) : WireMsg :=
  { cls := m.cls, blocks := m.blocks, poison := m.poison, src := wirePort m.input, dst := dst,
    tag := if m.cls == 9 then s.get F.HALF_EPOCH_V m.half else m.stall.getD 0 * 2 ^ 20,
    carried := m.carried, cells := cells }

/-! ## Mirroring (R192 to R195) -/

/-- Whether a session copies a message that joins a queue of its half (R192, R193). -/
def State.mirrorWants (s : State) (h n : Nat) (m : Msg) : Bool :=
  let src := s.get F.MIR_CTRL_SOURCE h n
  let port := s.get F.MIR_CTRL_PORT h n
  let sealedStall := match m.stall with | some st => s.flag F.STALL_CTRL_SEALED st | none => false
  s.flag F.MIR_CTRL_EN h n
    && Word.bits (s.rd .MIR_CTRL h n) (egressClass m.cls) 1 == 1
    && ((src == 0 && m.input == port) || (src == 1 && m.dst == port) || (src == 2 && (m.input == port || m.dst == port))
      || (src == 3 && m.stall == some (s.get F.MIR_MATCH_STALL h n)))
    && (!sealedStall || s.flag F.MIR_CTRL_INSPECT h n)

/-- Count a dropped copy (R194, R195). -/
def State.mirrorDrop (s : State) (h n : Nat) : State :=
  let c := numGet (0, 0) (8 * h + n) s.buf.sessions
  let s := s.bump F.MIR_DROP_V 1 h n
  { s with buf := { s.buf with sessions := numPut (0, 0) (8 * h + n) (min 65535 (c.1 + 1), c.2) s.buf.sessions } }

/-- The mirror account of a half in cells. -/
def State.mirrorUsed (s : State) (h : Nat) : Nat := s.sumBlocks h (fun m => decide (m.op = .mirror))

/-- One session's copy of an admitted message, or a drop (R194). A copy for which no header entry of the shared pool is free is not
made and is counted like the rest; one free entry is enough, since R177 asks for more only of messages that are admitted (DESIGN
CHOICE, log entry 163). -/
def State.mirrorOne (s : State) (h n : Nat) (m : Msg) : State :=
  if s.mirrorWants h n m then
    let snap := min (s.get F.MIR_MATCH_SNAP_CELLS h n) m.blocks
    let free := s.sharedSize h - s.sharedUsed h
    if s.mirrorUsed h + snap ≤ s.get F.MIRROR_MAX_V h && s.get F.MIRROR_FLOOR_V h + snap ≤ free
        && 0 < s.headersFree h then
      let c : Msg := { m with id := s.nextId, op := .mirror, dst := s.get F.MIR_CTRL_ANALYSIS h n,
                              blocks := snap, cells := m.cells.take snap, charge := .shared, hdrMgmt := false,
                              stage := .queued, session := n, admitted := s.fclk,
                              copied := (let w := s.wire m (wirePort m.dst) []; leBytes 8 w.header ++ w.carried),
                              direction := s.get F.MIR_CTRL_SOURCE h n == 1
                                || (s.get F.MIR_CTRL_SOURCE h n == 2 && m.input != s.get F.MIR_CTRL_PORT h n) }
      { s with nextId := s.nextId + 1, msgs := s.msgs ++ [c] }
    else s.mirrorDrop h n
  else s

/-- The copies of an admitted message, session by session (R192). -/
def State.mirrorCopies (s : State) (h : Nat) (m : Msg) : State :=
  (List.range 8).foldl (fun s n => s.mirrorOne h n m) s

/-- The oldest mirror copy of a half. -/
def State.mirrorHead (s : State) (h : Nat) : Option Msg :=
  s.msgs.find? (fun m => m.half == h && decide (m.op = .mirror))

/-- Discard copies from the head while fewer than MIRROR_FLOOR shared cells are free (R195). -/
def State.mirrorFloor (s : State) (h : Nat) : Nat → State
  | 0 => s
  | n + 1 =>
    if s.sharedSize h - s.sharedUsed h < s.get F.MIRROR_FLOOR_V h then
      match s.mirrorHead h with
      | none => s
      | some m => State.mirrorFloor ((s.remove m).mirrorDrop h m.session) h n
    else s

/-! ## Admission and hold lists (R174 to R178) -/

/-- Try to admit a message to its egress queue: some, with its charge moved to the queue's account, or none. -/
def State.tryAdmit (s : State) (m : Msg) (overSeam : Bool) : Option State :=
  match s.admitCells m (m.admitColour overSeam), s.admitHeader m with
  | some c, some hm =>
    let h := halfOf m.dst
    let (cs, s) := if m.cells.isEmpty && !s.buf.skid.any (fun e => e.2.1 == m.id) then
        s.takeCells h (s.writeSlots m.input false m.dst) m.id 0 m.dataCells
      else (m.cells, s)
    let m' := { m with stage := .queued, half := h, charge := c, hdrMgmt := hm, cells := cs, admitted := s.fclk }
    let s := (s.place m').mirrorCopies h m'
    some (s.mirrorFloor h s.msgs.length)
  | _, _ => none

/-- The messages ahead of a message on its own hold list: same input (same Seam channel, R186), egress port and class,
placed earlier. -/
def State.aheadOf (s : State) (m : Msg) : List Msg :=
  (s.msgs.takeWhile (fun x => x.id != m.id)).filter
    (fun x => decide (x.stage = m.stage) && (x.input == m.input || decide (m.stage = .seamHeld)) && x.dst == m.dst
      && x.queueIx == m.queueIx && x.half == m.half)

/-- Whether a message is the head of its hold list (R178). -/
def State.isHead (s : State) (m : Msg) : Bool := (s.aheadOf m).isEmpty

/-- Put a new message into a half with the cells its data takes, charged as said (R174); the CRC of each cell comes with it (R197). -/
def State.arriveWith (s : State) (m : Msg) (h : Nat) (c : Charge) (overSeam : Bool) (data : List (List Byte × Nat)) : Msg × State :=
  let (cs, s) := s.takeCells h (s.writeSlots m.input overSeam m.dst) m.id 0 data
  let m := { m with half := h, charge := c, cells := cs }
  (m, { s with msgs := s.msgs ++ [m] })

/-- A message that enters the device: the ingress computes its CRCs (R197). -/
def State.arrive (s : State) (m : Msg) (h : Nat) (c : Charge) : Msg × State := s.arriveWith m h c false m.dataCells

/-- What the store holds of a message's data: its cells with their CRCs; data that took no cells yet is its sender's (R175). -/
def State.msgCells (s : State) (m : Msg) : List (List Byte × Nat) :=
  if m.cells.isEmpty then m.dataCells else m.cells.map (fun c => s.cellAt m.half c)

/-- The data of a message as its cells hold it. -/
def State.msgData (s : State) (m : Msg) : List Byte := ((s.msgCells m).flatMap Prod.fst).take m.data.length

/-- Whether the CRC of each cell that leaves matches its data (R197). -/
def cellsMatch (cs : List (List Byte × Nat)) : Bool := cs.all (fun c => crc32 c.1 == c.2)

/-- A fresh message id. -/
def State.freshId (s : State) : Nat × State := (s.nextId, { s with nextId := s.nextId + 1 })

end Sys2Proof.Machine
end

