-- ==== Sys2Proof/Machine/Answers.lean ====
section
/-!
DEFINITION. How the device answers a requester: the responses of R101, the answers of a held port (R109), and the
answers of every rule that answers "as R109 answers a held port".
-/
namespace Sys2Proof.Machine

/-- The DevLoad code of a response (R101, R212): 0 Light Load, 1 Optimal Load, 2 Moderate Overload, 3 Severe Overload. -/
def Msg.devLoad (m : Msg) : Nat :=
  if m.everRed then 3
  else if !m.metered then 0
  else match m.colour with
    | .red => 3
    | .yellow => 2
    | .green => if m.belowHalf then 0 else 1

/-- The answer of R109 to a request's requester: a read gets poisoned data, a write or a MemInv a completion, a
non-posted CXL.io request Completer Abort; a posted write is dropped. Requests of internal agents are answered by the
rules of their agents. -/
def Msg.heldAnswer (m : Msg) : List Out :=
  if m.input < 96 && m.host.isSome then
    match m.op with
    | .memRead => [.toHost m.input m.id .memResp zeros64 true m.devLoad]
    | .memWrite | .memInv => [.writeDone m.input m.id m.devLoad]
    | .ioRead => [.completerAbort m.input m.id]
    | _ => []
  else []

/-- Whether a message is an access of a Porter channel. -/
def Msg.ofPorter (m : Msg) : Bool :=
  decide (96 ≤ m.input) && decide (m.input < 124) && (decide (m.op = .bulkRead) || decide (m.op = .bulkWrite))

/-- A Porter channel's access comes back to its channel: with its data, or failed (R354, R356). A write that succeeded is
known delivered (R358). -/
def State.porterBack (s : State) (m : Msg) (data : List Byte) (poison failed : Bool) : State :=
  let s := s.remove m
  if m.op = .bulkWrite && !failed then s
  else
    { s with msgs := s.msgs ++ [{ m with stage := .returned, squashed := failed, data := data, poison := poison, charge := .none,
                                         cells := [], hdrMgmt := false, blocks := 0, twin := none, wait := none }] }

/-- Read data goes to the host of a port poisoned or as zeros: the Stall's counter (R573). -/
def State.poisonedRead (s : State) (p : Nat) (m : Msg) : State :=
  match m.stall with
  | some st => s.bump F.STALL_POISON_V 1 (halfOf p) st
  | none => s

/-- A response to a forwarded request: the request's header toward its requester (R28). -/
def Msg.response (m : Msg) (data : List Byte) (poison : Bool) : Msg :=
  let io := m.op = .ioRead
  { m with op := (if io then .ioCompl else .memResp),
           cls := (if io then 5 else if data.isEmpty then 2 else 3),
           dst := m.input, input := m.dst, data := data, poison := poison,
           blocks := (data.length + 63) / 64, charge := .none, hdrMgmt := false, cells := [], squashed := false, late := 0,
           missing := 0 }

/-- The answer of R109 to a request that came over a Cascade port, as a message back to it: a read gets poisoned data, a write or a
MemInv a completion, a non-posted CXL.io request a completion without data (Completer Abort). -/
def State.answerCascade (s : State) (m : Msg) : State :=
  let send (data : List Byte) (poison : Bool) : State :=
    let a := { m.response data poison with id := s.nextId, stage := .held, half := halfOf m.input, charge := .staging, slice := none,
                                           wait := none, twin := none, copy := false }
    { s with nextId := s.nextId + 1, msgs := s.msgs ++ [a] }
  match m.op with
  | .memRead => send zeros64 true
  | .memWrite | .memInv | .ioRead => send [] false
  | _ => s

/-- Whether a request has a requester whom R109 answers: a host, or the partner of a Cascade port. -/
def State.answerable (s : State) (m : Msg) : Bool := m.host.isSome || (decide (m.input < 96) && s.isCascade m.input)

/-- Answer a request and take it out of the device; a Porter channel sees a bus error (R356). -/
def State.answerHeld (s : State) (m : Msg) : State :=
  if m.ofPorter then s.porterBack m [] false true
  else if m.input < 96 && m.host.isNone && s.isCascade m.input then (s.remove m).answerCascade m
  else
    let s := if m.op = .memRead && m.input < 96 && m.host.isSome then s.poisonedRead m.input m else s
    (s.remove m).emits m.heldAnswer

/-- The virtual port that carries the traffic of a message: of the device passed through on a port, or of its Stall (R97). -/
def State.vportOf (s : State) (m : Msg) (p : Nat) : Option (Nat × Nat) :=
  match s.passed.find? (fun e => e.2.2 == p) with
  | some e => some (e.1, e.2.1)
  | none => match m.host, m.stall with
    | some h, some st => some (h, s.get F.STALL_BIND_VDSP st)
    | _, _ => none

/-- An error of a binding's traffic, in the error registers of its virtual port (R114; bit positions PRESUMED, log entry 157). -/
def State.bindingError (s : State) (m : Msg) (p bit : Nat) : State :=
  match s.vportOf m p with
  | some e => s.vpRaise e.1 e.2 Config.aerUncorrectable (2 ^ bit)
  | none => s

/-- What a record about a message names (R508). -/
def Msg.info (m : Msg) (cause : Nat := 0xFF) : FaultInfo :=
  { cause := cause, stall := m.stall, host := m.host, addr := some m.addr }

/-- The cells of a port's messages that are still arriving can no longer arrive: the port is held or reset, or its link falls (R182,
log entry 164). -/
def State.cellsLost (s : State) (p : Nat) : State :=
  { s with msgs := s.msgs.map (fun m => if m.input == p && 0 < m.late then { m with missing := m.missing + m.late, late := 0 } else m) }

/-- The cells of a port's messages have arrived: data of a later message follow them. -/
def State.cellsCome (s : State) (p : Nat) : State :=
  { s with msgs := s.msgs.map (fun m => if m.input == p && 0 < m.late then { m with late := 0 } else m) }

/-- Answer a list of requests one after another. -/
def State.answerAll (s : State) (ms : List Msg) : State := ms.foldl (fun s m => s.answerHeld m) s

/-- Answer a list of requests forwarded to a port whose hold starts: a write's data is lost, and a fault is recorded
on family 7 of the port (R109). -/
def State.answerForwarded (s : State) (p : Nat) (ms : List Msg) : State :=
  ms.foldl (fun s m =>
    let s := s.answerHeld m
    if m.op = .memWrite then
      s.raise (8 * p + 7) { m.info with addr := some m.dpa, dpaLd := some m.ld }
    else s) s

/-- Messages of a place. -/
def State.inStage (s : State) (st : Stage) : List Msg := s.msgs.filter (fun m => decide (m.stage = st))

/-- Requests forwarded to a port that await a response. -/
def State.forwardedTo (s : State) (p : Nat) : List Msg :=
  s.msgs.filter (fun m => decide (m.stage = .atDevice) && m.dst == p && !m.squashed)

/-- Requests for a port that wait at an ingress (R178). -/
def State.waitingFor (s : State) (p : Nat) : List Msg :=
  s.msgs.filter (fun m => (decide (m.stage = .held) || decide (m.stage = .seamHeld)) && m.dst == p
    && (m.queueIx == 2 || m.queueIx == 3))

/-- A response that was lost: its request is still unanswered, awaiting a response that never comes (R198, R115). -/
def Msg.unanswered (m : Msg) : Msg :=
  { m with op := (match m.op with | .ioCompl => .ioRead | _ => if m.data.isEmpty then .memWrite else .memRead),
           cls := (match m.op with | .ioCompl => 4 | _ => 0), dst := m.input, input := m.dst, stage := .atDevice,
           charge := .none, hdrMgmt := false, cells := [] }

end Sys2Proof.Machine
end

