-- ==== Sys2Proof/Machine/LinkCore.lean ====
section
/-!
DEFINITION. The parts of the device link layer that other units use: the bytes of flits and messages, the states of a link, what it
does when its PHY leaves L0, its transmit side (R119 to R124, R128 to R133, R139, R140, R147, R150, R154, R158).
-/
namespace Sys2Proof.Machine

/-- The link layer of a link. -/
def State.link (s : State) (l : Nat) : Link := numGet {} l s.links

/-- Store a link layer. -/
def State.setLink (s : State) (l : Nat) (x : Link) : State := { s with links := numPut {} l x s.links }

/-- Whether a link is a Seam channel. -/
def isSeam (l : Nat) : Bool := decide (96 ≤ l)

/-- The half of a Seam endpoint. -/
def seamHalf (l : Nat) : Nat := (l - 96) / 8

/-- The other end of a Seam channel: the same channel in the other half (R151). -/
def seamPeer (l : Nat) : Nat := 96 + 8 * (1 - seamHalf l) + (l - 96) % 8

/-- The half in which a link ends. -/
def linkHalf (l : Nat) : Nat := if isSeam l then seamHalf l else halfOf l

/-- The register block of what a link transmits: a Seam block describes the flits that its half receives, so the block of the other
half (R162). -/
def txRegs (l : Nat) : Nat := if isSeam l then seamPeer l else l

/-- The fault source of a link: family 4 of its port, or the Seam source of its half (R493, R494). -/
def linkSource (l : Nat) : Nat := if isSeam l then 768 + seamHalf l else 8 * l + 4

/-- Set a bit of LL_ERR; bits 7 to 2 record a fault (R161). -/
def State.linkErr (s : State) (f : Fld) (l : Nat) : State :=
  let s := s.put f 1 l
  let s := if 2 ≤ f.lo then s.raise (linkSource l) { cause := f.lo } else s
  if isSeam l then s else s.irqTouch l

/-- The VERSION a link runs: 0 in compatibility mode, 1 native (R121, R143). -/
def State.linkVersion (s : State) (l : Nat) : Nat := if !isSeam l && s.role l == 7 then 0 else 1

/-- Replay buffer entries (R132). -/
def replaySize (l : Nat) : Nat := if isSeam l then 64 else 512

/-- The link-layer registers of a port block (R161). -/
def isLinkReg (r : Reg) : Bool :=
  match r with
  | .LL_CTRL | .LL_STATUS | .LL_REPLAY | .LL_ADV_REQ | .LL_ADV_RSP | .LL_AVAIL_REQ | .LL_AVAIL_RSP | .LL_COMPAT | .LL_ERR
  | .LL_CRC_COUNT | .LL_REPLAY_COUNT | .LL_INJECT | .LL_INJECT_N | .LL_INJECT_MASK | .LL_INJECT_STATUS => true
  | _ => false

/-- Whether a register is one of a port whose ROLE gives it no effect: it reads its reset value and ignores writes (R161: ROLE 6 or 7;
R343: ROLE 1). -/
def State.roleAbsent (s : State) (k : Key) : Bool :=
  (isLinkReg k.reg && decide (k.i < 96) && !s.isCascade k.i)
    || ((decide (k.reg = .MKT_CREDITS) || decide (k.reg = .MKT_OUTSTANDING)) && !s.isHostPort k.i)

/-! ## Flits as bytes (R119 to R121, R148, R155) -/

/-- Payload bytes of a flit. -/
def payloadBytes (l : Nat) : Nat := if isSeam l then 480 else 224

/-- The bytes of a flit that its CRC covers. -/
def coveredBytes (l : Nat) : Nat := if isSeam l then 504 else 240

/-- TYPE (R121). -/
def FlitBody.type : FlitBody → Nat
  | .null => 0
  | .payload _ => 1
  | .retire _ _ _ => 2
  | .init _ _ _ _ _ _ => 3
  | .unused t => t

/-- What a body puts into the payload bytes (R123, R148, R155). -/
def FlitBody.bytes : FlitBody → List Byte
  | .null | .unused _ => []
  | .payload b => b
  | .retire m c a => [BitVec.ofNat 8 m, BitVec.ofNat 8 c, if a then 1 else 0]
  | .init a b c d r k =>
    leBytes 2 a ++ leBytes 2 b ++ leBytes 2 c ++ leBytes 2 d ++ [BitVec.ofNat 8 ((if r then 1 else 0) + (if k then 2 else 0))]

/-- The link header (R121). -/
def Flit.header (f : Flit) : Nat :=
  let b (x : Bool) (i : Nat) := if x then 2 ^ i else 0
  f.body.type % 16 * 2 ^ 124 + f.seq % 4096 * 2 ^ 112 + f.ackSeq % 4096 * 2 ^ 100 + b f.ackNew 99 + b f.replayReq 98
    + f.version % 4 * 2 ^ 96 + f.reqHdr % 4096 * 2 ^ 84 + f.reqData % 4096 * 2 ^ 72 + f.rspHdr % 4096 * 2 ^ 60
    + f.rspData % 4096 * 2 ^ 48 + f.nextMsg % 128 * 2 ^ 41 + b f.reqXoff 40 + b f.rspXoff 39

/-- The covered bytes of a flit: header and payload; a Seam flit has eight reserved bytes after them (R119, R120). -/
def Flit.covered (f : Flit) (l : Nat) : List Byte := padTo (coveredBytes l) (leBytes 16 f.header ++ padTo (payloadBytes l) f.body.bytes)

/-- A flit with its CRC-64, before forward error correction (R119, R120). -/
def Flit.raw (f : Flit) (l : Nat) : List Byte :=
  let c := f.covered l
  c ++ leBytes 8 (crc64 c) ++ (if isSeam l then [] else [0, 0])

/-- The bytes on the wire: ROLE 6 adds the parity of the base specification, ROLE 7 zeros (R119). -/
def State.onWire (s : State) (l : Nat) (raw : List Byte) : List Byte :=
  if isSeam l then raw
  else if s.role l == 7 then raw.take 248 ++ List.replicate 8 0
  else raw ++ leBytes 6 (Config.fecParity raw).toNat

/-- Bits `lo` to `lo + w − 1` of a link header. -/
def headerBits (b : List Byte) (lo w : Nat) : Nat := leNat (b.take 16) / 2 ^ lo % 2 ^ w

/-- A flit read from its bytes (R121, R148, R155). -/
def readFlit (l : Nat) (b : List Byte) : Flit :=
  let pay := (b.drop 16).take (payloadBytes l)
  let byte (i : Nat) := (pay.getD i 0).toNat
  let pair (i : Nat) := byte i + 256 * byte (i + 1)
  let body : FlitBody := match headerBits b 124 4 with
    | 0 => .null
    | 1 => .payload pay
    | 2 => .retire (byte 0) (byte 1) (byte 2 % 2 == 1)
    | 3 => .init (pair 0) (pair 2) (pair 4) (pair 6) (byte 8 % 2 == 1) (byte 8 / 2 % 2 == 1)
    | t => .unused t
  { body := body, seq := headerBits b 112 12, ackSeq := headerBits b 100 12, ackNew := headerBits b 99 1 == 1,
    replayReq := headerBits b 98 1 == 1, version := headerBits b 96 2, reqHdr := headerBits b 84 12, reqData := headerBits b 72 12,
    rspHdr := headerBits b 60 12, rspData := headerBits b 48 12, nextMsg := headerBits b 41 7, reqXoff := headerBits b 40 1 == 1,
    rspXoff := headerBits b 39 1 == 1 }

/-- The CRC check of a flit (R119, R120). -/
def crcGood (l : Nat) (b : List Byte) : Bool := leNat ((b.drop (coveredBytes l)).take 8) == crc64 (b.take (coveredBytes l))

/-! ## Messages as bytes (R123, R124) -/

/-- The bytes of a message: its header, its carried header, each cell with its CRC-32. -/
def WireMsg.bytes (w : WireMsg) : List Byte :=
  leBytes 8 w.header ++ w.carried ++ w.cells.flatMap (fun c => padTo 64 c.1 ++ leBytes 4 c.2)

/-- The number that a carried header holds in some of its bytes. -/
def WireMsg.word (w : WireMsg) (lo n : Nat) : Nat := leNat ((w.carried.drop lo).take n)

/-- Payload flits that a message fills (R119, R120, R123). -/
def flitsOf (l hdrWords blocks : Nat) : Nat := (8 + 4 * hdrWords + 68 * blocks + payloadBytes l - 1) / payloadBytes l

/-! ## Sending flits (R130, R139, R144, R154, R158) -/

/-- Cells of a channel of a ROLE 7 port's receive reserve that are in use, and its header entries; of the Response channel, or of
the Request channel. The manual names no split of the reserve: each channel has the whole of it against its own messages (DESIGN
CHOICE, log entry 11). -/
def State.channelUsed (s : State) (p : Nat) (rsp : Bool) : Nat × Nat :=
  let ms := s.msgs.filter (fun m => decide (m.charge = .receive) && m.input == p && (egressClass m.cls == 1) == rsp)
  let rx := (s.link p).rx.filter (fun w => (egressClass w.cls == 1) == rsp)
  ((ms.map Msg.blocks).sum + (rx.map WireMsg.blocks).sum, ms.length + rx.length)

/-- Free cells of a channel, of the Request channel beside the four that are kept for class 9 (R144, R145). -/
def State.channelFree (s : State) (p : Nat) (rsp : Bool) : Nat :=
  s.get F.Q_RX_RESERVE_V p - (s.channelUsed p rsp).1 - (if rsp then 0 else 4)

/-- An XOFF bit with its hysteresis (R144). -/
def State.xoffLevel (s : State) (p : Nat) (rsp old : Bool) : Bool :=
  let free := s.channelFree p rsp
  let off := s.get F.LL_COMPAT_XOFF_THRESH p
  if free ≤ off then true else if off + s.get F.LL_COMPAT_XON_HYST p ≤ free then false else old

/-- The XOFF bits that a ROLE 7 receiver sends, channel by channel (R144). -/
def State.updateXoff (s : State) (p : Nat) : State :=
  if s.linkVersion p == 1 then s
  else
    let x := s.link p
    s.setLink p { x with ownReqXoff := s.xoffLevel p false x.ownReqXoff, ownRspXoff := s.xoffLevel p true x.ownRspXoff }

/-- A flit with the header that every outgoing flit carries (R121, R130, R139, R144). -/
def State.flitHeader (s : State) (l : Nat) (x : Link) (b : FlitBody) (seq ack : Nat) (new : Bool) (next : Nat := 127) : Flit :=
  let native := s.linkVersion l == 1
  let r (i : Nat) : Nat := if native then x.ownR.getD i 0 else 0
  { body := b, seq := seq, ackSeq := ack, ackNew := new, replayReq := x.wantReplay, version := s.linkVersion l,
    reqHdr := r 0, reqData := r 1, rspHdr := r 2, rspData := r 3, nextMsg := next,
    reqXoff := !native && x.ownReqXoff, rspXoff := !native && x.ownRspXoff }

/-- The lanes that a port transmits on, in ascending logical order (R154). -/
def State.txLanes (s : State) (p : Nat) : List Nat :=
  let mask := (s.link p).txMask
  let act := (List.range 16).filter (fun k => mask / 2 ^ k % 2 == 1)
  (List.range 128).flatMap (fun n => act.filter (fun k => s.get F.LANE_STATUS_LOGICAL (p + k / 8) (k % 8) == n))

/-- The bytes that each lane carries: byte i of the stream goes to the (i mod m)-th lane (R154). -/
def stripe (lanes : List Nat) (start : Nat) (b : List Byte) : List (Nat × List Byte) :=
  let m := lanes.length
  (List.range m).map (fun j =>
    (lanes.getD j 0, ((List.range b.length).filter (fun i => (start + i) % m == j)).map (fun i => b.getD i 0)))

/-- Put the raw bytes of a flit on their way: on the wire to the other half, or out of a Cascade port, lane by lane. -/
def State.launch (s : State) (l : Nat) (raw : List Byte) : State :=
  let b := s.onWire l raw
  if isSeam l then
    let q := s.link (seamPeer l)
    s.setLink (seamPeer l) { q with wire := q.wire ++ [b] }
  else
    let x := s.link l
    (s.setLink l { x with txBytes := x.txBytes + b.length }).emit (.flit l (stripe (s.txLanes l) x.txBytes b))

/-- The null flit that takes the place of a dropped one (R158). -/
def Flit.asNull (f : Flit) : Flit := { f with body := .null, seq := 0, nextMsg := 127 }

/-- XOR a mask into a 4-byte word (R158). -/
def xorWord (b : List Byte) (word mask : Nat) : List Byte :=
  b.take (4 * word) ++ leBytes 4 (Nat.xor (leNat ((b.drop (4 * word)).take 4)) mask) ++ b.drop (4 * word + 4)

/-- Whether test injection is allowed: Manufacturing or Returned, or debug unlocked (R159, R408; log entry 12). -/
def State.debugAllowed (s : State) : Bool := s.get F.LC_STATE_V != 1 || s.flag F.DEBUG_STATUS_UNLOCKED

/-- Act of the injector on one outgoing flit (R158): the raw flits that leave instead, and the injector afterwards. A flit that
Reorder held leaves directly after the next payload flit, which counts like every other. -/
def State.inject (s : State) (l : Nat) (f : Flit) : List (List Byte) × State :=
  let x := s.link l
  let payload := match f.body with | .payload _ => true | _ => false
  let held := match x.injectHeld with | some g => if payload then [g] else [] | none => []
  let s := if held.isEmpty then s else s.setLink l { x with injectHeld := none }
  let x := s.link l
  let raw := f.raw l
  if s.debugAllowed && s.flag F.LL_INJECT_ARM l && (payload || s.flag F.LL_INJECT_KIND l) then
    if x.injectLeft ≤ 1 then
      let mode := s.get F.LL_INJECT_MODE l
      let rep := s.flag F.LL_INJECT_REPEAT l
      let mask := (s.rd .LL_INJECT_MASK l).toNat
      let s := s.setLink l { x with injectLeft := (if rep then s.get F.LL_INJECT_N_N l else 0),
                                    injectHeld := if mode == 4 then some raw else x.injectHeld }
      let s := if rep then s else s.put F.LL_INJECT_ARM 0 l
      let s := if mode == 0 then s else s.bump F.LL_INJECT_STATUS_V 1 l
      let sent := match mode with
        | 1 => [f.asNull.raw l]
        | 2 => [xorWord raw (s.get F.LL_INJECT_WORD l) mask]
        | 3 => [xorWord raw (coveredBytes l / 4) mask]
        | 4 => []
        | _ => [raw]
      (sent ++ held, s)
    else (raw :: held, s.setLink l { x with injectLeft := x.injectLeft - 1 })
  else (raw :: held, s)

/-- Send one flit through the injector. The replay buffer keeps the unaltered flit (R158). -/
def State.sendFlit (s : State) (l : Nat) (f : Flit) : State :=
  let (fs, s) := s.inject l f
  let s := if isSeam l then s else s.count l 1 1
  fs.foldl (fun s g => s.launch l g) s

/-- Build a flit with the header of this moment and send it; a replay request that waits rides it (R129). -/
def State.transmit (s : State) (l : Nat) (b : FlitBody) (seq ack : Nat) (new : Bool) (next : Nat := 127) : State :=
  let s := s.updateXoff l
  let x := s.link l
  (s.setLink l { x with lastAck := ack, wantReplay := false }).sendFlit l (s.flitHeader l x b seq ack new next)

/-- A null flit: what both directions send in a flit period in which they have nothing else to send (R122, R132). -/
def State.sendNull (s : State) (l : Nat) : State := s.transmit l .null 0 (s.link l).lastAck false

/-- The last payload flit that was accepted in order (R129, R130). -/
def State.ackNow (s : State) (l : Nat) : Nat := (s.get F.LL_STATUS_EXPECTED l + 4095) % 4096

/-- An acknowledgement event (R130): ACK_SEQ becomes e − 1, sent with ACK_NEW in the next outgoing flit, here a null flit. -/
def State.ackEvent (s : State) (l : Nat) : State :=
  (s.setLink l { s.link l with accepted := 0 }).transmit l .null 0 (s.ackNow l) true

/-! ## States, initialisation, pause (R147 to R150) -/

abbrev linkDownState : Nat := 0
abbrev linkInit : Nat := 1
abbrev linkActive : Nat := 2
abbrev linkReplay : Nat := 3
abbrev linkPaused : Nat := 4

/-- Whether a link transfers: Active, or in a replay (R147). -/
def State.sending (s : State) (l : Nat) : Bool :=
  s.get F.LL_STATUS_STATE l == linkActive || s.get F.LL_STATUS_STATE l == linkReplay

/-- The four totals that a side advertises (R139, R148); 0 in compatibility mode. -/
def State.ownTotals (s : State) (l : Nat) : List Nat :=
  if s.linkVersion l == 1 then
    [s.get F.LL_ADV_REQ_HDR l, s.get F.LL_ADV_REQ_DATA l, s.get F.LL_ADV_RSP_HDR l, s.get F.LL_ADV_RSP_DATA l]
  else [0, 0, 0, 0]

/-- Send an init flit, with the totals of this initialisation (R142, R148). -/
def State.sendInit (s : State) (l : Nat) (ready : Bool) : State :=
  let t (i : Nat) := (s.link l).ownA.getD i 0
  s.transmit l (.init (t 0) (t 1) (t 2) (t 3) ready true) 0 (s.link l).lastAck false

/-- The lanes of a port that are in use, as a mask (R64, R154). -/
def State.inUseMask (s : State) (p : Nat) : Nat :=
  ((s.portLanes p).map (fun e => if s.flag F.LANE_STATUS_IN_USE e.1 e.2 then 2 ^ (8 * (e.1 - p) + e.2) else 0)).sum

/-- Enter Init (R147, R149): new totals take effect; sequence numbers, credits and the stream restart unless the link was
re-aligned. -/
def State.linkStart (s : State) (l : Nat) (keep : Bool) : State :=
  let s := s.put F.LL_STATUS_STATE linkInit l
  let x := s.link l
  let x := if keep then { x with initGood := 0, rxReady := false, ownA := s.ownTotals l }
    else { x with replay := [], replayed := 0, replays := 0, requested := false, wantReplay := false, accepted := 0,
                  lastAck := 4095, peerR := [0, 0, 0, 0], used := [0, 0, 0, 0], ownA := s.ownTotals l, ownR := [0, 0, 0, 0],
                  taken := [0, 0, 0, 0], initGood := 0, rxReady := false, reqXoff := false, rspXoff := false, floor := (0, 0),
                  stream := [], skip := false, txBytes := 0 }
  let m := s.inUseMask l
  let x := if isSeam l then x else { x with txMask := m, rxMask := m }
  let s := s.setLink l x
  if keep then s
  else ((s.put F.LL_STATUS_SEQ 0 (txRegs l)).put F.LL_STATUS_EXPECTED 0 l).put F.LL_REPLAY_LAST_ACK 4095 (txRegs l)

/-- A Cascade port enters Down (R150): unacknowledged flits are lost, and every request forwarded over the port that awaits a
response is answered as a held port answers, a lost write with its fault. -/
def State.linkDown (s : State) (l : Nat) : State :=
  let s := s.put F.LL_STATUS_STATE linkDownState l
  let x := s.link l
  let s := s.setLink l { x with replay := [], replayed := 0, replays := 0, injectHeld := none, wire := [], stream := [], skip := false }
  if isSeam l then s else s.answerForwarded l (s.forwardedTo l)

/-- The PHY left L0 for Recovery, or the Seam channel re-aligns: the link pauses and keeps what it holds (R147). -/
def State.linkPause (s : State) (l : Nat) : State :=
  if s.sending l then s.put F.LL_STATUS_STATE linkPaused l else s

/-- Begin a replay of every unacknowledged flit (R133, R134, R147); with none the link is Active. -/
def State.beginReplay (s : State) (l : Nat) : State :=
  let x := s.link l
  if x.replay.isEmpty then s.put F.LL_STATUS_STATE linkActive l
  else
    let s := s.setLink l { x with replays := x.replays + 1, replayed := 0 }
    (s.bump F.LL_REPLAY_COUNT_V 1 (txRegs l)).put F.LL_STATUS_STATE linkReplay l

/-- Send the next flit of a replay; after the last one the link is Active again (R133). Replayed flits keep sequence number and
content. -/
def State.replayNext (s : State) (l : Nat) : State :=
  let x := s.link l
  match x.replay[x.replayed]? with
  | some f =>
    let s := (s.setLink l { x with replayed := x.replayed + 1 }).transmit l f.body f.seq x.lastAck false f.nextMsg
    if x.replayed + 1 = x.replay.length then s.put F.LL_STATUS_STATE linkActive l else s
  | none => (s.put F.LL_STATUS_STATE linkActive l).sendNull l

/-- Send the four copies of a retire-control flit (R155). -/
def State.sendRetire (s : State) (p mask : Nat) (ack : Bool) : State :=
  [16, 15, 14, 13].foldl (fun s c => s.transmit p (.retire mask c ack) 0 (s.link p).lastAck false) s

/-! ## Sending messages (R138 to R140, R144, R145) -/

/-- Credits available of the four types: limit (A + R) less consumed C, modulo 4,096 (R139). -/
def Link.available (x : Link) (i : Nat) : Nat :=
  (x.peerA.getD i 0 + x.peerR.getD i 0 + 4096 - x.used.getD i 0) % 4096

/-- Whether a message may be sent now: the credits of its virtual channel and the floor of class 9 (R139, R140); in compatibility
mode XOFF of the channel, and for class 9 the partner's floor of four headers and four cells (R144, R145). -/
def State.mayAsk (s : State) (l cls blocks : Nat) : Bool :=
  let x := s.link l
  let rsp := egressClass cls == 1
  if s.linkVersion l == 1 then
    if rsp then decide (1 ≤ x.available 2) && decide (blocks ≤ x.available 3)
    else if cls == 9 then decide (1 ≤ x.available 0) && decide (blocks ≤ x.available 1)
    else decide (5 ≤ x.available 0) && decide (blocks + 4 ≤ x.available 1)
  else if rsp then !x.rspXoff
  else !x.reqXoff || (cls == 9 && decide (x.floor.1 + 1 ≤ 4) && decide (x.floor.2 + blocks ≤ 4))

/-- Number, keep and send payload flits, each with the offset of the first message that begins in it (R121, R128, R131). -/
def State.sendPayload (s : State) (l : Nat) : List (List Byte × Nat) → State
  | [] => s
  | (b, next) :: t =>
    let s := s.updateXoff l
    let x := s.link l
    let n := s.get F.LL_STATUS_SEQ (txRegs l)
    let f := s.flitHeader l x (.payload b) n x.lastAck false next
    let s := s.setLink l { x with replay := x.replay ++ [f], wantReplay := false }
    let s := s.put F.LL_STATUS_SEQ ((n + 1) % 4096) (txRegs l)
    State.sendPayload (s.sendFlit l f) l t

/-- The payloads of a message: it begins a flit of its own (log entry 7), whose NEXT_MSG is 0; 127 in those it continues into. -/
def payloadsOf (l : Nat) (w : WireMsg) : List (List Byte × Nat) :=
  let n := payloadBytes l
  (List.range (flitsOf l (w.carried.length / 4) w.cells.length)).map (fun i =>
    (padTo n (w.bytes.drop (n * i)), if i = 0 then 0 else 127))

/-- Credits that a message consumes toward the partner, or its use of the floor while the Request channel is off (R139, R145). -/
def Link.consume (x : Link) (native : Bool) (w : WireMsg) : Link :=
  let rsp := egressClass w.cls == 1
  if native then
    let (a, b) := if rsp then (2, 3) else (0, 1)
    let u := x.used.set a ((x.used.getD a 0 + 1) % 4096)
    { x with used := u.set b ((u.getD b 0 + w.blocks) % 4096) }
  else if !rsp && x.reqXoff then { x with floor := (x.floor.1 + 1, x.floor.2 + w.blocks) } else x

/-- Send one message: its flits enter the replay buffer and its credits are consumed (R128, R139). -/
def State.sendWire (s : State) (l : Nat) (w : WireMsg) : State :=
  (s.setLink l ((s.link l).consume (s.linkVersion l == 1) w)).sendPayload l (payloadsOf l w)

/-- Whether the replay buffer has room for a message (R132). -/
def State.replayRoom (s : State) (l hdrWords blocks : Nat) : Bool :=
  decide ((s.link l).replay.length + flitsOf l hdrWords blocks ≤ replaySize l)

/-- Return link credits for a message that left the receiver's buffer (R139, R174). -/
def State.returnCredits (s : State) (l cls blocks : Nat) : State :=
  let x := s.link l
  let (a, b) := if egressClass cls == 1 then (2, 3) else (0, 1)
  let r := x.ownR.set a ((x.ownR.getD a 0 + 1) % 4096)
  let r := r.set b ((r.getD b 0 + blocks) % 4096)
  s.setLink l { x with ownR := r }

/-- The Seam channel that carries a message out of a half, at the sending endpoint (R151). -/
def seamLink (h dst : Nat) : Nat := 96 + 8 * h + (if dst < 96 then dst % 8 else 0)

/-- Whether the Seam is up: all 16 channels Active, or in the Replay that leads back to it (R153, log entry 165). -/
def State.seamUp (s : State) : Bool :=
  (List.range 16).all (fun c => s.sending (96 + c))

end Sys2Proof.Machine
end

