-- ==== Sys2Proof/Machine/PortCore.lean ====
section
/-!
DEFINITION. The parts of the ports that other units use: leaving L0, Detect and Disabled, margining interrupted, and
when a port may carry traffic (R83, R96, R105, R106, R109, R147).
-/
namespace Sys2Proof.Machine

/-! Link states of PHY_STATUS.LINK_STATE (R87). -/
abbrev lsDetect : Nat := 0x00
abbrev lsPolling : Nat := 0x01
abbrev lsConfig : Nat := 0x02
abbrev lsL0 : Nat := 0x03
abbrev lsRecovery : Nat := 0x04
abbrev lsRecoveryEq : Nat := 0x05
abbrev lsL0p : Nat := 0x06
abbrev lsL1 : Nat := 0x07
abbrev lsOff : Nat := 0x08
abbrev lsLoopLead : Nat := 0x09
abbrev lsLoopFollow : Nat := 0x0A
abbrev lsDisabled : Nat := 0x0B
abbrev lsHotReset : Nat := 0x0C
abbrev lsPattern : Nat := 0x0D
abbrev lsScan : Nat := 0x0E

/-- The link state of a port. -/
def State.linkState (s : State) (p : Nat) : Nat := s.get F.PHY_STATUS_LINK_STATE p

/-- Margining stops with INTERRUPTED when the port leaves L0 (R83). -/
def State.marginInterrupt (s : State) (p : Nat) : State :=
  if s.flag F.MARGIN_STATUS_BUSY p then
    State.endOp ((s.put F.MARGIN_STATUS_BUSY 0 p).put F.MARGIN_STATUS_INTERRUPTED 1 p) (.marginLane p) .aborted
  else s

/-- A change of LINK_STATE: margining stops where the port leaves L0 (R83); entering or leaving L0 raises the port's latched
source and PORT_CHANGED (R593, R450). -/
def State.setLinkState (s : State) (p v : Nat) : State :=
  let old := s.linkState p
  let s := if old == lsL0 && v != lsL0 then s.marginInterrupt p else s
  let s := s.put F.PHY_STATUS_LINK_STATE v p
  let s := if (old == lsL0) != (v == lsL0) then s.irqEvent (96 + p) else s
  if old == v then s else s.event 0x01F0 [p, (s.rd .PHY_STATUS p).toNat]

/-- At 2.5 and 5 GT/s the DFE of a lane is off and its CTLE holds its preset, unless FREEZE holds both (R68). -/
def State.eqOff (s : State) (p k : Nat) : State :=
  if s.flag F.LANE_RXEQ_FREEZE p k then s
  else (((s.clearReg .LANE_RXEQ p k).clearReg .LANE_DFE0 p k).clearReg .LANE_DFE1 p k).clearReg .LANE_DFE2 p k

/-- What the PHY of a port holds of a link is gone. -/
def Lanes.dropLink (x : Lanes) (p : Nat) : Lanes :=
  { x with target := tabErase p x.target, lastGood := tabErase p x.lastGood, eqPhase := tabErase p x.eqPhase,
           fullWidth := tabErase p x.fullWidth, bypassing := x.bypassing.filter (fun q => q != p),
           resize := x.resize.filter (fun q => q != p), fromDetect := x.fromDetect.filter (fun q => q != p) }

/-- The link returns to Detect, or to another state outside L0 and Recovery: margining stops, negotiated state is
lost, and a Cascade link layer goes Down (R83, R116, R147, R150). -/
def State.linkFalls (s : State) (p v : Nat) : State :=
  let s := s.setLinkState p v
  let s := ((s.put F.PHY_STATUS_CUR_RATE 0 p).put F.PHY_STATUS_CUR_WIDTH 0 p)
  let s := ((s.put F.PORT_STATUS_CXL_ACTIVE 0 p).put F.PORT_STATUS_LOW_RATE 0 p)
  let s := ((s.put F.PORT_STATUS_FLIT 0 p).put F.PORT_STATUS_BI_SUPPORTED 0 p).put F.PORT_STATUS_PARTNER_LDS 0 p
  let s := { s.cellsLost p with lanes := s.lanes.dropLink p, spans := s.spans.filter (fun e => e.1 != p) }.eachLane p State.eqOff
  if s.isCascade p && s.get F.LL_STATUS_STATE p != linkDownState then s.linkDown p else s

/-- Clear VALID in every record of a port (R72, R73). -/
def State.clearRecords (s : State) (p : Nat) : State :=
  s.eachLane p (fun s q j =>
    s.wr .LANE_EQ_RECORD (Word.setBits (s.rd .LANE_EQ_RECORD q (8 * j + 1)) 31 1 0) q (8 * j + 1))

/-- Store the rate that a port heads for; no equalisation phase has run at it yet (R60). -/
def State.aimRate (s : State) (p r : Nat) : State :=
  { s with lanes := { s.lanes with target := numPut 0 p r s.lanes.target, eqPhase := tabErase p s.lanes.eqPhase } }

/-- The link goes to Recovery, to come back at its rate: margining stops, a Cascade link layer pauses, and a retirement
under way starts again at the next L0 (R63, R83, R147, R157). -/
def State.toRecovery (s : State) (p : Nat) : State :=
  let s := (s.setLinkState p lsRecovery).count (192 + p / 4) 4 1
  let s := s.aimRate p (s.get F.PHY_STATUS_CUR_RATE p)
  if s.isCascade p then
    let x := s.link p
    (if x.retireAsked || x.switchTx.isSome || x.switchRx.isSome then
        s.setLink p { x with retireAsked := false, retireDue := true, switchTx := none, switchRx := none }
      else s).linkPause p
  else s

/-- Whether a lane of a port is under boundary scan (R54). -/
def State.scanned (s : State) (p : Nat) : Bool := (s.portLanes p).any (fun e => s.lanes.scan.contains (8 * e.1 + e.2))

/-- Where a port rests when its bring-up may not start: boundary scan (R54), Disabled by command or by ROLE 0 (R79, R89),
Detect otherwise. -/
def State.restState (s : State) (p : Nat) : Nat :=
  if s.scanned p then lsScan else if s.role p == 0 || s.lanes.disabled.contains p then lsDisabled else lsDetect

/-! ## Tests (R79) -/

/-- Return a port from a test to Disabled (R79). -/
def State.leaveTest (s : State) (p : Nat) : State :=
  if s.linkState p == lsLoopLead || s.linkState p == lsPattern || s.linkState p == lsLoopFollow then
    (s.setLinkState p lsDisabled).put F.PHY_STATUS_CUR_RATE 0 p
  else s

/-- A reset leaves any test that a port taken to Disabled is in (R79). -/
def State.dropTest (s : State) (p : Nat) : State :=
  (((s.leaveTest p).put F.PHY_CTRL_TEST_MODE 0 p).clearReg .LOOPBACK_CTRL p).clearReg .TEST_CTRL p

/-- The hold causes of a port. -/
def State.holdCauses (s : State) (p : Nat) : List HoldCause :=
  (s.holds.filter (fun e => e.1 == p)).map Prod.snd

/-- Whether a port is held (R109). -/
def State.isHeld (s : State) (p : Nat) : Bool := s.holds.any (fun e => e.1 == p)

/-- The IDE causes: an Insecure stream, and the Contain of the port's family 2 (R109). -/
def ideCause (p : Nat) : HoldCause → Bool
  | .insecure => true
  | .fault n => n == 8 * p + 2
  | _ => false

/-- Whether a hold has only IDE causes, so that the link stays in L0 (R109). -/
def State.onlyIde (s : State) (p : Nat) : Bool := (s.holdCauses p).all (fun c => ideCause p c)

/-- Whether both streams of a port read Secure (R105). -/
def State.secure (s : State) (p : Nat) : Bool := s.get F.IDE_STATUS_RX p == 2 && s.get F.IDE_STATUS_TX p == 2

/-- Whether an IDE_REQUIRED port still waits for keys (R106). -/
def State.awaitsKeys (s : State) (p : Nat) : Bool := s.flag F.PORT_CFG_IDE_REQUIRED p && !s.secure p

/-! ## Shared tables as a half sees them (R290) -/

/-- A register of a shared table as half `h` sees it: the value it applied in a commit still under way, or the
committed one. -/
def State.hrd (s : State) (h : Nat) (r : Reg) (i : Nat := 0) (j : Nat := 0) : Word :=
  match (s.ahead.filter (fun e => e.1 == h)).findSome? (fun e => tabFind ⟨r, i, j⟩ e.2) with
  | some v => v
  | none => s.rd r i j

/-- A field of a shared table as half `h` sees it. -/
def State.hget (s : State) (h : Nat) (f : Fld) (i : Nat := 0) (j : Nat := 0) : Nat := Word.bits (s.hrd h f.reg i j) f.lo f.w

/-- A flag of a shared table as half `h` sees it. -/
def State.hflag (s : State) (h : Nat) (f : Fld) (i : Nat := 0) (j : Nat := 0) : Bool := s.hget h f i j != 0

/-! ## SPLIT (R297) -/

/-- The port of a valid slice entry. -/
def slicePort (v : Word) : Option Nat := if Word.bits v 63 1 == 1 then some (Word.bits v 48 7) else none

/-- The Device ports that a decoder of a context reaches, in the tables of half `h`. -/
def State.decoderPorts (s : State) (h c d : Nat) : List Nat :=
  if !s.hflag h F.DEC_CTRL_VALID c d then []
  else
    let slices (r : Reg) (i : Nat) := (List.range 16).filterMap (fun w => slicePort (s.hrd h r i w))
    match s.hget h F.DEC_CTRL_TYPE c d with
    | 0 => slices .STALL_SLICE (s.hget h F.DEC_CTRL_STALL c d)
    | 1 => slices .REGION_SLICE (s.hget h F.DEC_CTRL_REGION c d)
    | _ => [s.hget h F.DEC_CTRL_STALL c d / 16]

/-- The ports that SPLIT affects (R297): Host ports whose context holds a decoder that reaches the other half, in the tables of either
half, and the Device ports that such a decoder reaches. -/
def State.splitPorts (s : State) : List Nat :=
  ((List.range 96).filter (fun p => s.isHostPort p)).flatMap (fun p =>
    let c := s.get F.PORT_CFG_HOST_ID p
    let far := ((List.range 32).flatMap (fun d => s.decoderPorts 0 c d ++ s.decoderPorts 1 c d)).filter (fun q => halfOf q != halfOf p)
    if far.isEmpty then [] else p :: far)

/-- Whether the Contain of source 783 is in force (R496). -/
def State.splitContained (s : State) : Bool :=
  (s.flag F.HALF_STATE_SPLIT 0 || s.flag F.HALF_STATE_SPLIT 1)
    && decide (2 ≤ s.get F.FC_SRC_APPLIED 783)

/-- Whether SPLIT contains a port: its traffic is answered as R109 answers a held port (R297). -/
def State.splitHolds (s : State) (p : Nat) : Bool := s.splitContained && s.splitPorts.contains p

/-- Whether requests bound for a port are answered at ingress: it is held, it is contained by SPLIT, or it is in
LOW_RATE (R96, R109, R297). -/
def State.refuses (s : State) (p : Nat) : Bool := s.isHeld p || s.flag F.PORT_STATUS_LOW_RATE p || s.splitHolds p

end Sys2Proof.Machine
end

