-- ==== Sys2Proof/Machine/TrafficCore.lean ====
section
/-!
DEFINITION. Meters, the tries of hold-list heads, the Bulk credit and the egress (R178, R204 to R217): the parts other
units use.
-/
namespace Sys2Proof.Machine

/-- Whether a half is at Blaze (R541). -/
def State.atBlaze (s : State) (h : Nat) : Bool := !s.below.contains h

/-! ## Meters (R208 to R215) -/

/-- Token units in a cell: CIR and PIR in MB/s are exactly the units gained in 16 ns (R209). -/
def tokenUnits : Nat := 4000

/-- Tokens missing from the committed and the peak bucket. -/
def State.missing (s : State) (h st : Nat) : Nat × Nat := numGet (0, 0) (4096 * h + st) s.buf.deficits

/-- Store the missing tokens. -/
def State.setMissing (s : State) (h st : Nat) (d : Nat × Nat) : State :=
  { s with buf := { s.buf with deficits := numPut (0, 0) (4096 * h + st) d s.buf.deficits } }

/-- The committed and the peak token level in units (R209). -/
def State.tokens (s : State) (h st : Nat) : Nat × Nat :=
  let d := s.missing h st
  (tokenUnits * s.get F.METER_BURST_CBS h st - d.1, tokenUnits * s.get F.METER_BURST_PBS h st - d.2)

/-- One refill of every meter of a half: both buckets gain 16 ns of their rates (R209). -/
def State.refill (s : State) (h : Nat) : State :=
  s.buf.deficits.foldl (fun s e =>
    if e.1 / 4096 == h then
      let st := e.1 % 4096
      s.setMissing h st (e.2.1 - s.get F.METER_CIR_CIR h st, e.2.2 - s.get F.METER_PIR_PIR h st)
    else s) s

/-- Every bucket of a half full (R209). -/
def State.fillMeters (s : State) (h : Nat) : State :=
  { s with buf := { s.buf with deficits := s.buf.deficits.filter (fun e => e.1 / 4096 != h) } }

/-- The cost of a message in cells (R208). -/
def Msg.meterCost (m : Msg) : Nat :=
  match m.op with
  | .memRead | .memInv => 1
  | .ioRead => max 1 ((m.len + 63) / 64)
  | _ => max 1 m.blocks

/-- Whether a message passes its Stall's meter entry (R208). -/
def State.passesMeter (s : State) (m : Msg) : Bool :=
  m.queueIx == 2 && decide (m.input < 96) && s.isHostPort m.input && m.stall.isSome && m.host.isSome

/-- Whether a message meets QUENCH (R215), or its Stall reads Quenched, Resetting or Frozen, whose requests are answered
in the same way (R253, R258, R259). -/
def State.quenched (s : State) (m : Msg) : Bool :=
  let st := s.get F.STALL_STATE_STATE (m.stall.getD 0)
  s.passesMeter m && (s.flag F.METER_CTRL_QUENCH (halfOf m.input) (m.stall.getD 0) || st == 3 || st == 4 || st == 6)

/-- Answer a message under R215. -/
def State.answerQuenched (s : State) (m : Msg) : State :=
  (s.bump F.METER_CTRL_QUENCHED 1 (halfOf m.input) (m.stall.getD 0)).answerHeld m

/-- Meter a message (R210, R212): the message with its colour and marks, and the meter afterwards. -/
def State.meter (s : State) (m : Msg) : Msg × State :=
  let h := halfOf m.input
  let st := m.stall.getD 0
  if s.passesMeter m && s.flag F.METER_CTRL_EN h st then
    let d := s.missing h st
    let t := s.tokens h st
    let c := tokenUnits * m.meterCost
    if t.2 < c then
      let s := if m.everRed then s else s.bump F.METER_RED_V 1 h st
      ({ m with metered := true, colour := .red, everRed := true, belowHalf := false }, s)
    else if t.1 < c then
      ({ m with metered := true, colour := .yellow, belowHalf := false }, s.setMissing h st (d.1, d.2 + c))
    else
      ({ m with metered := true, colour := .green,
                belowHalf := decide (tokenUnits * s.get F.METER_BURST_CBS h st ≤ 2 * (t.1 - c)) },
       s.setMissing h st (d.1 + c, d.2 + c))
  else ({ m with metered := false, colour := .green }, s)

/-- A Yellow message that admission refuses, or that R185 stops, returns its peak tokens and becomes Red (R211). -/
def State.yellowBack (s : State) (m : Msg) : State :=
  if m.colour = .yellow then
    let h := halfOf m.input
    let st := m.stall.getD 0
    let d := s.missing h st
    let s := s.setMissing h st (d.1, d.2 - tokenUnits * m.meterCost)
    let s := if m.everRed then s else s.bump F.METER_RED_V 1 h st
    s.update { m with colour := .red, everRed := true }
  else s

/-- Count an admitted request of a host in its Stall's counters, in the half of the port it entered (R573). -/
def State.countStall (s : State) (m : Msg) : State :=
  match m.stall with
  | some st =>
    if m.input < 96 && m.host.isSome && !m.copy then
      let h := halfOf m.input
      match m.op with
      | .memRead => s.bump F.STALL_RD_V 1 h st
      | .memWrite => s.bump F.STALL_WR_V 1 h st
      | .ioRead | .ioWrite => s.bump F.STALL_IO_V 1 h st
      | _ => s
    else s
  | none => s

/-- Count an admitted message: of a Stall (R573), and of a meter (METER_GREEN, METER_YELLOW). -/
def State.countColour (s : State) (m : Msg) : State :=
  let s := s.countStall m
  if m.metered then
    s.bump (if m.colour = .yellow then F.METER_YELLOW_V else F.METER_GREEN_V) 1 (halfOf m.input) (m.stall.getD 0)
  else s

/-! ## Tries of hold-list heads (R174, R178, R186) -/

/-- The link credits of a message that left its receive reserve go back to its partner (R174). -/
def State.creditsBack (s : State) (m : Msg) : State :=
  if m.charge = .receive && decide (m.input < 96) && s.isCascade m.input then s.returnCredits m.input m.cls m.blocks
  else if m.charge = .seam then s.returnCredits (seamPeer (seamLink (1 - m.half) m.dst)) m.cls m.blocks
  else s

/-- A message for the Hearth goes by the management reserve (R176, R218), or the shared pool after it; sessions of its half copy it
like any other (R192). -/
def State.toHearth (s : State) (m : Msg) : Option State :=
  let h := m.half
  let room := decide ((s.msgs.filter (fun x => x.half == h && x.hdrMgmt)).length < 256)
  let take (x : Msg) : State :=
    let s := ((s.place x).count 226 1 1).mirrorCopies h x
    s.mirrorFloor h s.msgs.length
  if room && decide (s.charged h .mgmt + m.blocks ≤ s.get F.BUF_MGMT_RESERVE_V h) then
    some (take { m with stage := .atHearth, charge := .mgmt, hdrMgmt := true })
  else if decide (0 < s.headersFree h) && decide (m.blocks ≤ s.sharedSize h - s.sharedUsed h) then
    some (take { m with stage := .atHearth, charge := .shared })
  else none

/-- A message for the Hearth over a lost Flue link: no response comes within 2 ms (R24, R33, R35). -/
def State.flueLost (s : State) (m : Msg) : State :=
  (((s.creditsBack m).remove m).flueTimedOut m.half (some m.addr)).emits m.heldAnswer

/-- The half of a message's destination: its egress port's, its home engine's (destination 124 and 125), or its own
for the Hearth (127). -/
def Msg.dstHalf (m : Msg) : Nat :=
  if m.dst < 96 then halfOf m.dst else if m.dst == 124 || m.dst == 125 then m.dst - 124 else m.half

/-- Try a metered head: admit it here, or leave it waiting for its Seam channel (R178, R183). -/
def State.offer (s : State) (m : Msg) (overSeam : Bool) : State :=
  if m.colour = .red then
    if overSeam || decide (96 ≤ m.input) then s else s.bump F.Q_ADMIT_WAIT_V 1 m.input
  else if m.dst == 127 && !s.hearthDown && s.txns.lost.contains m.half then s.flueLost m
  else if m.dst == 127 then
    match s.toHearth m with
    | some t => t.creditsBack m
    | none => if m.input < 96 then s.bump F.Q_ADMIT_WAIT_V 1 m.input else s
  else if decide (96 ≤ m.dst) || m.dstHalf != m.half then s
  else
    match s.tryAdmit m overSeam with
    | some t => (t.creditsBack m).countColour m
    | none =>
      let s := if overSeam || decide (96 ≤ m.input) then s else s.bump F.Q_ADMIT_WAIT_V 1 m.input
      if overSeam then s else s.yellowBack m

/-- Answer a request bound for a port that refuses it; a write lost on a hold of the port is a fault of its family 7
(R96, R109, R297). -/
def State.answerRefused (s : State) (m : Msg) : State :=
  let s := s.creditsBack m
  if s.isHeld m.dst then s.answerForwarded m.dst [m] else s.answerHeld m

/-- Try the head of a hold list (R178): QUENCH and the answers of held ports come first, a Red message is metered
again (R211, R213). -/
def State.tryHead (s : State) (m : Msg) : State :=
  if m.stage = .seamHeld then
    if s.refuses m.dst && s.answerable m && m.queueIx != 1 then s.answerRefused m else s.offer m true
  else if m.stage = .held then
    if s.quenched m then (s.creditsBack m).answerQuenched m
    else if decide (m.dst < 96) && s.answerable m && m.queueIx != 1 && s.refuses m.dst then s.answerRefused m
    else if m.colour = .red then
      let (m, s) := s.meter m
      (s.update m).offer m false
    else s.offer m false
  else s

/-! ## The Bulk shaper (R216, R217) -/

/-- The Bulk credit of a port in sixteenths of a byte. -/
def State.bulkCredit (s : State) (p : Nat) : Int := signed32 (s.get F.BULK_CREDIT_V p)

/-- Store the Bulk credit. -/
def State.setBulkCredit (s : State) (p : Nat) (z : Int) : State := s.put F.BULK_CREDIT_V (toTwos32 z) p

/-- HI_CREDIT in sixteenths of a byte. -/
def State.bulkHigh (s : State) (p : Nat) : Int := (16 * s.get F.BULK_SHAPE_HI_CREDIT p : Nat)

/-- The credit after `n` FCLK cycles (R216), and the promotion that reaching HI_CREDIT starts (R217). -/
def State.bulkAccrue (s : State) (p n : Nat) : State :=
  let z := s.bulkCredit p
  let busy := !(s.queue p 3).isEmpty
  if busy || decide (z < 0) then
    let hi := s.bulkHigh p
    let z' := max z (min hi (z + (n * s.get F.BULK_SHAPE_IDLE_SLOPE p : Nat)))
    let s := s.setBulkCredit p z'
    if busy && decide (hi ≤ z') then s.put F.BULK_STATUS_PROMOTED 1 p else s
  else s

/-- After a Bulk message left: an empty queue drops positive credit and the promotion ends (R216, R217). -/
def State.bulkSettle (s : State) (p : Nat) : State :=
  let empty := (s.queue p 3).isEmpty
  let s := if empty && decide (0 < s.bulkCredit p) then s.setBulkCredit p 0 else s
  if (empty || decide (s.bulkCredit p < 0)) && s.flag F.BULK_STATUS_PROMOTED p then s.put F.BULK_STATUS_PROMOTED 0 p else s

/-- The Bulk credit at a reset that reaches the port, or a commit that changes BULK_SHAPE (R216). -/
def State.bulkZero (s : State) (p : Nat) : State := s.setBulkCredit p 0

/-! ## The egress (R204, R205) -/

/-- The queues of a port in the order of service (R204, R217). -/
def State.serviceOrder (s : State) (p : Nat) : List Nat :=
  if s.flag F.BULK_STATUS_PROMOTED p then [0, 1, 3, 2, 4] else [0, 1, 2, 3, 4]

/-- Whether the head of a queue has the partner's link credits (R205, R139). The Mirror class has no credits of its own: its head
shares the Bulk class's (DESIGN CHOICE, log entry 26). -/
def State.headCredits (s : State) (p q : Nat) (m : Msg) : Bool :=
  if s.isCascade p then
    s.get F.LL_STATUS_STATE p == linkActive && s.mayAsk p m.cls m.blocks && s.replayRoom p carriedWords m.blocks
  else !s.buf.starved.contains (4 * p + min q 3)

/-- Whether a port may send a message now: it is not held and its streams are Secure where they must be; Data Object Exchange traffic
passes an IDE hold, and the wait for keys (R106, R109). -/
def State.portSends (s : State) (p : Nat) (m : Msg) : Bool :=
  let doe := match m.said with | some x => x.isDoe | none => false
  if doe then s.onlyIde p else !s.isHeld p && !s.awaitsKeys p

/-- The head that a queue may start, if it is eligible (R205). -/
def State.eligible (s : State) (p q : Nat) : Option Msg :=
  match (s.queue p q).head? with
  | none => none
  | some m =>
    if !s.portSends p m || (q == 3 && decide (s.bulkCredit p < 0)) || !s.headCredits p q m then none else some m

/-- The message that a port starts next (R204). -/
def State.nextStart (s : State) (p : Nat) : Option Msg := (s.serviceOrder p).findSome? (fun q => s.eligible p q)

/-- Whether a message may leave its port cut-through (R181): the ingress delivers at least as fast as the egress sends, and the egress
runs a flit framing. The Seam is faster than every port; an internal agent has the whole message before (R175). -/
def State.cutsThrough (s : State) (p : Nat) (m : Msg) : Bool :=
  let speed (q : Nat) := rateTenths (s.get F.PHY_STATUS_CUR_RATE q) * s.get F.PHY_STATUS_CUR_WIDTH q
  decide (m.op ≠ .mirror) && decide (m.input < 96) && (halfOf m.input != halfOf p || decide (speed p ≤ speed m.input))
    && (s.isCascade p || decide (2 ≤ s.get F.PORT_STATUS_FLIT p))

/-! ### Mirror records (R196) -/

/-- The bytes of a record. -/
def State.mirrorBytes (s : State) (m : Msg) (drops snap : Nat) : List Byte :=
  leBytes 8 m.admitted ++ m.copied.take 8 ++ leBytes 2 (32 + 4 * carriedWords + 64 * snap)
    ++ leBytes 1 ((if snap * 64 < m.data.length then 128 else 0) + (if m.direction then 64 else 0) + m.session % 8)
    ++ leBytes 1 (egressClass m.cls) ++ leBytes 2 drops ++ List.replicate 10 0
    ++ m.copied.drop 8 ++ ((s.msgCells m).flatMap Prod.fst).take (64 * snap)

/-- The pad record that fills a ring to its end: class byte 0xFF (R196). A gap of fewer than 20 bytes holds as much of it as fits; a
record longer than the ring is written whole from its start (DESIGN CHOICE, log entry 162). -/
def padRecord (n : Nat) : List Byte :=
  ((List.replicate 16 (0 : Byte)) ++ leBytes 2 n ++ [0, 0xFF] ++ List.replicate (n - 20) 0).take n

/-- Write the producer offset (R196). -/
def State.mirrorProduce (s : State) (h n : Nat) : State :=
  let c := numGet (0, 0) (8 * h + n) s.buf.sessions
  let s := { s with buf := { s.buf with sessions := numPut (0, 0) (8 * h + n) (c.1, 0) s.buf.sessions } }
  s.emit (.mirrorProducer (s.get F.MIR_CTRL_ANALYSIS h n) (8 * s.get F.MIR_PROD_ADDR_V h n) (s.get F.MIR_OFFSET_V h n))

/-- Write one copy into its ring (R196). -/
def State.mirrorWrite (s : State) (m : Msg) : State :=
  let h := m.half
  let n := m.session
  let c := numGet (0, 0) (8 * h + n) s.buf.sessions
  let bytes := s.mirrorBytes m c.1 m.blocks
  let s := s.remove m
  let size := 2 ^ s.get F.MIR_RING_SIZE_LOG2 h n
  let base := 4096 * s.get F.MIR_RING_BASE_V h n
  let off := s.get F.MIR_OFFSET_V h n
  let wraps := decide (size < off + bytes.length)
  let s := if wraps then s.emit (.mirrorRecord m.dst (base + off) (padRecord (size - off))) else s
  let off := if wraps then 0 else off
  let s := s.emit (.mirrorRecord m.dst (base + off) bytes)
  let s := (s.put F.MIR_OFFSET_V ((off + bytes.length) % size) h n).bump F.MIR_COUNT_V 1 h n
  let s := { s with buf := { s.buf with sessions := numPut (0, 0) (8 * h + n) (0, c.2 + 1) s.buf.sessions } }
  if 64 ≤ c.2 + 1 then s.mirrorProduce h n else s

/-! ### Leaving the port -/

/-- Whether a message sent to a device awaits a response (R28). -/
def Msg.awaits (m : Msg) : Bool :=
  match m.op with
  | .memRead | .memWrite | .memInv | .ioRead | .cacheReq | .snoop | .bulkRead | .bulkWrite | .ledgerRead | .ledgerWrite => true
  | _ => false

/-- Whether a message is a response to a host (R28). -/
def Msg.isAnswer (m : Msg) : Bool :=
  match m.op with
  | .memResp | .ioCompl => true
  | _ => false

/-- A message at its device, awaiting the response (R28). -/
def State.await (s : State) (m : Msg) : State :=
  if m.awaits then { s with msgs := s.msgs ++ [{ m with stage := .atDevice, charge := .none, cells := [], hdrMgmt := false }] } else s

/-- Cells that can no longer arrive leave as 64 zero bytes, poisoned, and a fault of the input port is recorded (R182, log entry 164).
-/
def State.fillMissing (s : State) (m : Msg) : Msg × State :=
  if m.missing == 0 || decide (96 ≤ m.input) then (m, s)
  else ({ m with poison := true }, s.raise (8 * m.input + 7) m.info)

/-- The cells that leave: those that never came are zeros (R182). -/
def Msg.sentCells (m : Msg) (cs : List (List Byte × Nat)) : List (List Byte × Nat) :=
  cs.take (cs.length - m.missing) ++ List.replicate (min m.missing cs.length) (zeros64, crc32 zeros64)

/-- The egress check of the cells' CRCs (R197, R198): a mismatch leaves poisoned. -/
def State.egressCheck (s : State) (m : Msg) : Msg × State :=
  if cellsMatch (s.msgCells m) then (m, s)
  else ({ m with poison := true }, s.setErr F.BUF_ERR_CRC_MISMATCH m.half (770 + m.half) m.info)

/-- A message leaves the buffer: its cells are read and freed, and the egress counts it (R225, R564). -/
def State.leaves (s : State) (p : Nat) (m : Msg) : Msg × List (List Byte × Nat) × State :=
  let cut := s.cutsThrough p m
  let (m, s) := s.egressCheck m
  let (m, s) := s.fillMissing m
  let cells := m.sentCells (s.msgCells m)
  let m := { m with data := (cells.flatMap Prod.fst).take m.data.length, late := 0, missing := 0 }
  let s := if m.queueIx == 3 then s.setBulkCredit p (s.bulkCredit p - (1024 * m.blocks : Nat)) else s
  let s := s.remove m
  let s := ((s.count (96 + p) m.queueIx m.blocks).count (96 + p) (if cut then 8 else 9) 1).count (216 + m.half) 1 m.cells.length
  (m, cells, if m.queueIx == 3 then s.bulkSettle p else s)

/-- Send a message out of its port (R28, R204). -/
def State.depart (s : State) (p : Nat) (m : Msg) : State :=
  if m.op = .mirror then
    (((s.mirrorWrite m).count (96 + p) 4 m.blocks).count (96 + p) 9 1).count (216 + m.half) 1 m.cells.length
  else
    let (m, cells, s) := s.leaves p m
    match m.said with
    | some x => s.emit (x.out p)
    | none =>
      if s.isCascade p then (s.sendWire p (s.wire m (m.far.getD 127) cells)).await m
      else if m.isAnswer && s.isHostPort p then
        let s := if m.poison then s.poisonedRead p m else s
        if m.op = .memResp && m.data.isEmpty then s.emit (.writeDone p m.id m.devLoad)
        else s.emit (.toHost p m.id m.op m.data m.poison m.devLoad)
      else ((s.emit (.toDevice p m)).count p 7 (if m.queueIx == 2 || m.queueIx == 3 then 1 else 0)).await m

end Sys2Proof.Machine
end

