-- ==== Sys2Proof/Machine/Route.lean ====
section
/-!
DEFINITION. From an offset in a Stall or region to a device: layouts (R242, R308), the watermarks of a relocation
(R378 to R381), and how an internal agent sends (R175).
-/
namespace Sys2Proof.Machine

/-! ## Layouts (R242, R243, R308) -/

/-- The ways of a WAYS code (R243). -/
def waysOf (code : Nat) : Nat :=
  match code with
  | 0 => 1 | 1 => 2 | 2 => 4 | 3 => 8 | 4 => 16 | 5 => 3 | 6 => 6 | 7 => 12 | _ => 1

/-- The granularity of an IG code in bytes (R242). -/
def granule (ig : Nat) : Nat := 256 * 2 ^ ig

/-- Ways and granularity of a Stall or a region, as half `h` sees its layout. -/
def State.layoutOf (s : State) (h : Nat) (region : Bool) (obj : Nat) : Nat × Nat :=
  if region then (waysOf (s.hget h F.REGION_LAYOUT_WAYS obj), granule (s.hget h F.REGION_LAYOUT_IG obj))
  else (waysOf (s.hget h F.STALL_LAYOUT_WAYS obj), granule (s.hget h F.STALL_LAYOUT_IG obj))

/-- The slice and the offset in it of an offset in the space (R242). -/
def State.resolve (s : State) (h : Nat) (region : Bool) (obj o : Nat) : SliceRef × Nat :=
  let (w, g) := s.layoutOf h region obj
  let c := o / g
  (⟨region, obj, c % w⟩, c / w * g + o % g)

/-- The slice entry in force: port, logical device, base in bytes (R242). -/
def State.sliceOf (s : State) (h : Nat) (r : SliceRef) : Nat × Nat × Nat :=
  let v := if r.region then s.hrd h .REGION_SLICE r.obj r.way else s.hrd h .STALL_SLICE r.obj r.way
  (Word.bits v 48 7, Word.bits v 40 4, Word.bits v 0 24 * 2 ^ 28)

/-- The half that homes a region's slice (R23, R308). -/
def State.homeOf (s : State) (h : Nat) (r : SliceRef) : Nat := halfOf (s.sliceOf h r).1

/-! ## Relocation (R378 to R381) -/

/-- The states of a relocation context (R397). -/
abbrev rlFree : Nat := 0
abbrev rlCopying : Nat := 1
abbrev rlPaused : Nat := 2
abbrev rlSynced : Nat := 3
abbrev rlHandover : Nat := 4
abbrev rlCommitting : Nat := 5
abbrev rlRollingBack : Nat := 6
abbrev rlReverse : Nat := 7
abbrev rlStopped : Nat := 8

/-- The state of a context. -/
def State.rlState (s : State) (x : Nat) : Nat := s.get F.RELOC_STATE_STATE x

/-- The slice a context moves. -/
def State.rlSlice (s : State) (x : Nat) : SliceRef :=
  ⟨s.flag F.RELOC_OBJECT_MARKET x, s.get F.RELOC_OBJECT_OBJECT x, s.get F.RELOC_OBJECT_WAY x⟩

/-- The context that relocates a slice, if one does. -/
def State.relocOf (s : State) (r : SliceRef) : Option Nat :=
  (List.range 8).find? (fun x => s.rlState x != rlFree && s.flag F.RELOC_OBJECT_VALID x && decide (s.rlSlice x = r))

/-- Whether the slice entry in force in half `h` is still the source of a context: once it is not, every access goes to the target
alone (R388). -/
def State.rlOnSource (s : State) (h x : Nat) : Bool :=
  let v := s.rd .RELOC_SRC x
  decide (s.sliceOf h (s.rlSlice x) = (Word.bits v 48 7, Word.bits v 40 4, Word.bits v 0 24 * 2 ^ 28))

/-- The watermark that half `h` holds for a context (R378, R398). -/
def State.wmark (s : State) (h x : Nat) : Nat :=
  if x / 4 == h then s.get F.RELOC_WATERMARK_W x else s.get F.RELOC_PEER_WATERMARK_W (4 * h + x % 4)

/-- The value of C for no chunk. -/
def noChunk : Nat := 2 ^ 32 - 1

/-- The chunk in copy that half `h` holds for a context (R378, R398). -/
def State.inCopy (s : State) (h x : Nat) : Nat :=
  if x / 4 == h then s.get F.RELOC_IN_COPY_C x else s.get F.RELOC_PEER_IN_COPY_C (4 * h + x % 4)

/-- Where an access to a relocated slice goes (R378). -/
inductive Route where
  | source | target | both | held
deriving DecidableEq, Repr

/-- The row of R378 for chunk `k`. While a context copies back, a write to the chunk that it copies back is held too (R391). -/
def State.routeChunk (s : State) (h x k : Nat) (write : Bool) : Route :=
  if k < s.wmark h x then (if write then (if k = s.inCopy h x then .held else .both) else .target)
  else if k = s.inCopy h x then (if write then .held else .source)
  else .source

/-- The context of a slice and the route of an access at an offset in it. -/
def State.route (s : State) (h : Nat) (r : SliceRef) (off : Nat) (write : Bool) : Option (Nat × Route) :=
  ((s.relocOf r).filter (fun x => s.rlOnSource h x)).map (fun x => (x, s.routeChunk h x (off / 2 ^ 20) write))

/-- The target of a context: port, logical device, base in bytes (R375). -/
def State.rlTarget (s : State) (x : Nat) : Nat × Nat × Nat :=
  (s.get F.RELOC_DST_PORT x, s.get F.RELOC_DST_LD x, s.get F.RELOC_DST_DPA_BASE x * 2 ^ 28)

/-- Whether a message accesses a Ledger entry. -/
def Msg.isLedger (m : Msg) : Bool := decide (m.op = .ledgerRead) || decide (m.op = .ledgerWrite)

/-- The Ledger slice of a region's way: port, logical device, base in bytes (R305, R308). -/
def State.ledgerOf (s : State) (h : Nat) (r : SliceRef) : Nat × Nat × Nat :=
  let e := s.sliceOf h r
  (e.1, e.2.1, s.hget h F.REGION_LEDGER_LEDGER_BASE r.obj r.way * 2 ^ 25)

/-- The Ledger slice at the target of a context (R375). -/
def State.rlLedger (s : State) (x : Nat) : Nat × Nat × Nat :=
  (s.get F.RELOC_DST_PORT x, s.get F.RELOC_DST_LD x, s.get F.RELOC_LEDGER_DST_LEDGER_BASE x * 2 ^ 25)

/-- Point a message at a device place; a Ledger entry is 8 bytes per line (R308), and is read with the 64-byte line that holds it
(R314). -/
def Msg.at (m : Msg) (place : Nat × Nat × Nat) : Msg :=
  let off := if m.op = .ledgerRead then m.off / 512 * 64 else if m.op = .ledgerWrite then m.off / 64 * 8 else m.off
  { m with dst := place.1, ld := place.2.1, dpa := place.2.2 + off }

/-- Aim an access to a slice as half `h` routes it: the message, and the target's copy of a paired write (R379). -/
def State.aim (s : State) (h : Nat) (m : Msg) : Msg × Option Msg :=
  match m.slice with
  | none => (m, none)
  | some r =>
    let src := m.at (if m.isLedger then s.ledgerOf h r else s.sliceOf h r)
    let tgt (x : Nat) := m.at (if m.isLedger then s.rlLedger x else s.rlTarget x)
    match s.route h r m.off m.writes with
    | none | some (_, .source) => ({ src with wait := none }, none)
    | some (x, .target) => ({ tgt x with wait := none }, none)
    | some (x, .held) => ({ src with wait := some x }, none)
    | some (x, .both) => ({ src with wait := none }, some { tgt x with wait := none, copy := true })

/-! ## Market credits (R316) -/

/-- Whether a Market request is a writeback or a clean eviction that the home treats as one (R316, R320). -/
def Msg.gives (m : Msg) : Bool :=
  match m.mkt with
  | .evict | .write _ => true
  | _ => false

/-- Whether a Market request counts against MKT_CREDITS: all but writebacks and clean evictions (R316). -/
def Msg.counted (m : Msg) : Bool := !m.gives && !m.followed

/-- Counted Market requests of a port that have left its ingress and have no completion yet (MKT_OUTSTANDING). -/
def State.marketOut (s : State) (p : Nat) : Nat :=
  (s.msgs.filter (fun m => m.input == p && (m.dst == 124 || m.dst == 125) && m.counted && decide (m.stage ≠ .held))).length

/-! ## Placing messages (R174, R175, R178, R379) -/

/-- Put a message at the tail of its hold list in a half, with cells in the buffer if its charge is a receive reserve. -/
def State.enqueue (s : State) (m : Msg) (h : Nat) (c : Charge) : Msg × State :=
  let (id, s) := if m.id == 0 then s.freshId else (m.id, s)
  let m := { m with id := id, stage := .held, half := h, charge := c, cells := [], hdrMgmt := false }
  if c = .receive then s.arrive m h c else (m, { s with msgs := s.msgs ++ [m] })

/-- The first twin of a pair is charged; the copy shares its cells by reference (R169, R379). -/
def State.enqueuePair (s : State) (m copy : Msg) (h : Nat) (c : Charge) : State :=
  let (m, s) := s.enqueue m h c
  let (id, s) := s.freshId
  let copy := { copy with id := id, stage := .held, half := h, charge := .none, cells := m.cells, hdrMgmt := false,
                          twin := some m.id, admitted := m.admitted }
  let s := s.update { m with twin := some id }
  let x := (s.relocOf (m.slice.getD ⟨false, 0, 0⟩)).getD 0
  let s := s.bump F.RELOC_MIRRORED_V 1 x
  { s with msgs := s.msgs ++ [copy] }

/-- Admission of a pair: both copies or neither (R379). -/
def State.offerPair (s : State) (m copy : Msg) : State :=
  if halfOf m.dst != m.half || halfOf copy.dst != copy.half then s.offer m false
  else
    match s.tryAdmit m false with
    | none => if m.input < 96 then (s.bump F.Q_ADMIT_WAIT_V 1 m.input).yellowBack m else s
    | some t =>
      match t.tryAdmit copy false with
      | none => if m.input < 96 then (s.bump F.Q_ADMIT_WAIT_V 1 m.input).yellowBack m else s
      | some u => (u.creditsBack m).countColour m

/-- Offer a message that has just joined its hold list, if it heads it and nothing holds it. -/
def State.offerNew (s : State) (m : Msg) (overSeam : Bool) : State :=
  match s.msgs.find? (fun x => x.id == m.id) with
  | none => s
  | some m =>
    if s.isHead m && m.wait.isNone then
      match m.twin with
      | some t => match s.msgs.find? (fun x => x.id == t) with
        | some c => s.offerPair m c
        | none => s.offer m overSeam
      | none => s.offer m overSeam
    else s

/-- Try the head of a hold list again (R178): a write that a relocation holds stays (R380), a pair goes together. -/
def State.retry (s : State) (m : Msg) : State :=
  if m.wait.isSome then s
  else if m.stage = .held && m.twin.isSome && !s.quenched m && !s.refuses m.dst then
    let (m, s) := if m.colour = .red then (let (m, s) := s.meter m; (m, s.update m)) else (m, s)
    if m.colour = .red then s.offer m false else s.offerNew m false
  else s.tryHead m

/-- An internal agent sends a message from half `h`: it waits in the agent's own staging until admission accepts it
(R175). -/
def State.agentSend (s : State) (h : Nat) (m : Msg) : Nat × State :=
  match s.aim h m with
  | (m, none) =>
    let (m, s) := s.enqueue m h .staging
    (m.id, s.offerNew m false)
  | (m, some c) =>
    let (id, s) := s.freshId
    let s := s.enqueuePair { m with id := id } c h .staging
    (id, s.offerNew { m with id := id } false)

/-- Re-aim the writes that a half held for a context, after its watermark moved (R382). -/
def State.releaseHeld (s : State) (h x : Nat) : State :=
  (s.msgs.filter (fun m => m.half == h && m.wait == some x)).foldl (fun s m =>
    match s.aim h m with
    | (m', none) =>
      let s := s.update m'
      s.offerNew m' false
    | (m', some c) =>
      let (id, s) := s.freshId
      let s := s.update { m' with twin := some id }
      let s := { s with msgs := s.msgs ++ [{ c with id := id, stage := .held, half := h, charge := .none, cells := m'.cells,
                                                    twin := some m'.id }] }
      (s.bump F.RELOC_MIRRORED_V 1 x).offerNew m' false) s

end Sys2Proof.Machine
end

