-- ==== Sys2Proof/Machine/HomeCore.lean ====
section
/-!
DEFINITION. Market Regions and the Ledger: the Ledger's encoding, the cache, and the flows of the home engine
(R305 to R331), as operations other units use.
-/
namespace Sys2Proof.Machine

/-! ## Ledger entries (R310 to R313) -/

/-- One bit of the CRC-8 with polynomial 0x07, most significant bit first (R311). -/
def crc8Bit (c : Nat) : Nat := if 128 ≤ c then Nat.xor (c * 2 % 256) 7 else c * 2 % 256

/-- The CRC-8 of bytes (R311). -/
def crc8 (bs : List Nat) : Nat :=
  bs.foldl (fun c b => (List.range 8).foldl (fun c _ => crc8Bit c) (Nat.xor c b)) 0

/-- The CHECK of an entry: bytes 0 to 5 and 7, then the line index (R311). -/
def ledgerCheck (w line : Nat) : Nat :=
  crc8 ([0, 1, 2, 3, 4, 5, 7].map (fun i => w / 256 ^ i % 256) ++ (List.range 4).map (fun i => line / 256 ^ i % 256))

/-- The 48 bits of HOLDERS (R310). -/
def holderBits (coarse : Bool) (hs : List Nat) : Nat :=
  if coarse then (hs.map (fun j => 2 ^ j)).sum
  else ((List.range hs.length).map (fun i => hs.getD i 0 * 2 ^ (7 * i))).sum

/-- The 64 bits of an entry in memory; Invalid is all zeros (R310, R311). -/
def ledgerWord (st : Nat) (coarse : Bool) (hs : List Nat) (line : Nat) : Nat :=
  if st = 0 then 0
  else
    let w := st * 2 ^ 62 + (if coarse then 2 ^ 61 else hs.length * 2 ^ 58) + holderBits coarse hs
    w + ledgerCheck w line * 2 ^ 48

/-- An entry as read (R310, R311): STATE, coarse or not, holders, and whether it is bad. -/
def ledgerDecode (w line : Nat) (poison : Bool) : Nat × Bool × List Nat × Bool :=
  let st := w / 2 ^ 62 % 4
  let coarse := w / 2 ^ 61 % 2 == 1
  let n := w / 2 ^ 58 % 8
  let hs := if coarse then (List.range 48).filter (fun j => w / 2 ^ j % 2 == 1)
    else (List.range n).map (fun i => w / 2 ^ (7 * i) % 128)
  let bad := poison || (w != 0 && (decide (w / 2 ^ 48 % 256 ≠ ledgerCheck (w - w / 2 ^ 48 % 256 * 2 ^ 48) line)
    || decide (5 ≤ n) || (!coarse && hs.any (fun x => decide (95 ≤ x)))))
  (st, coarse, hs, bad)

/-- The hosts an entry may name. -/
def holderHosts (coarse : Bool) (hs : List Nat) : List Nat :=
  if coarse then (hs.flatMap (fun j => [2 * j, 2 * j + 1])).filter (fun x => decide (x ≤ 94)) else hs

/-- Add a holder: the fifth turns the entry coarse (R312). -/
def addHolder (coarse : Bool) (hs : List Nat) (x : Nat) : Bool × List Nat :=
  if coarse then (true, if hs.contains (x / 2) then hs else hs ++ [x / 2])
  else if hs.contains x then (false, hs)
  else if hs.length < 4 then (false, hs ++ [x])
  else (true, (hs ++ [x]).foldl (fun a y => if a.contains (y / 2) then a else a ++ [y / 2]) [])

/-! ## Regions (R307, R322, R323) -/

/-- The hosts of a region: those whose context holds a valid TYPE 1 decoder naming it (R307). -/
def State.regionHosts (s : State) (r : Nat) : List Nat :=
  (List.range 95).filter (fun c => (List.range 32).any (fun d =>
    s.flag F.DEC_CTRL_VALID c d && s.get F.DEC_CTRL_TYPE c d == 1 && s.get F.DEC_CTRL_REGION c d == r))

/-- Whether a host is fenced for a region. -/
def State.fenced (s : State) (r host : Nat) : Bool := Word.bits (s.rd .REGION_FENCED r (host / 32)) (host % 32) 1 == 1

/-- REGION_STATUS as a read shows it: the state, the hold, the hosts, the recovering slices (R343). -/
def State.regionView (s : State) (r : Nat) : Word :=
  let hold := s.get F.REGION_CTRL_HOLD_MODE r == 1 || decide (16 < (s.regionHosts r).length)
  Word.setBits (Word.setBits (s.rd .REGION_STATUS r) 16 7 (s.regionHosts r).length) 27 1 (if hold then 1 else 0)

/-- Set the state of a region; the change is reported to subscribed sessions (R450). -/
def State.setRegion (s : State) (r v : Nat) : State :=
  if s.get F.REGION_STATUS_STATE r == v then s
  else
    let s := s.put F.REGION_STATUS_STATE v r
    s.event 0x04F0 [r, (s.regionView r).toNat]

/-- Fence a host for a region, or lift its fence. -/
def State.setFence (s : State) (r host : Nat) (b : Bool) : State :=
  s.wr .REGION_FENCED (Word.setBits (s.rd .REGION_FENCED r (host / 32)) (host % 32) 1 (if b then 1 else 0)) r (host / 32)

/-- Whether the device answers a snoop itself (R322). -/
def State.snoopAbsent (s : State) (r host : Nat) (byRecall : Bool) : Bool :=
  match s.hostPort host with
  | none => true
  | some p => s.isHeld p || !(s.linkState p == lsL0 || s.linkState p == lsL0p) || (s.fenced r host && !byRecall)
      || !(s.regionHosts r).contains host

/-- Whether a slice is recovering (R335). -/
def State.recovering (s : State) (r w : Nat) : Bool := s.get F.REGION_STATUS_RECOVERING r / 2 ^ w % 2 == 1

/-- The minimum hold in force: HOSTS above 16, or HOLD_MODE 1 (R327). -/
def State.holdActive (s : State) (r : Nat) : Bool :=
  s.get F.REGION_CTRL_HOLD_MODE r == 1 || decide (16 < (s.regionHosts r).length)

/-! ## The Ledger cache (R314, R315) -/

/-- The set of a line (R314: a hash of region and line index; opaque). -/
def ledgerSet (r w line : Nat) : Nat := Config.ledgerSet ((r * 16 + w) * 2 ^ 32 + line) % 196608

/-- Active ways of a set's group that take new entries. -/
def State.openWays (s : State) (h set : Nat) : List Nat :=
  let g := set / 1024
  (List.range 18).filter (fun k => s.get F.LEDGER_GROUP_ACTIVE h g / 2 ^ k % 2 == 1
    && !(s.market.retiring.contains (192 * h + g, k)))

/-- Update the market. -/
def State.withMarket (s : State) (f : Market → Market) : State := { s with market := f s.market }

/-- Whether a cache entry is that of a line. -/
def LedgerLine.isAt (e : LedgerLine) (h r w line : Nat) : Bool := e.half == h && e.region == r && e.way == w && e.line == line

/-- The cached entry of a line. -/
def State.ledgerFind (s : State) (h r w line : Nat) : Option LedgerLine := s.market.cache.find? (fun e => e.isAt h r w line)

/-- Store an entry as the most recently used. -/
def State.ledgerStore (s : State) (e : LedgerLine) : State :=
  s.withMarket (fun m => { m with cache := m.cache.filter (fun x => !x.isAt e.half e.region e.way e.line) ++ [e] })

/-- Drop an entry. -/
def State.ledgerDrop (s : State) (e : LedgerLine) : State :=
  s.withMarket (fun m => { m with cache := m.cache.filter (fun x => !x.isAt e.half e.region e.way e.line) })

/-- A message of the home engine of half `h` to the device of a slice. -/
def homeMsg (h : Nat) (op : MsgOp) (r w off : Nat) (data : List Byte) (poison : Bool) : Msg :=
  { id := 0, cls := (if data.isEmpty then 0 else 1), op := op, input := 124 + h, dst := 0, slice := some ⟨true, r, w⟩,
    off := off, addr := off, len := 64, blocks := (data.length + 63) / 64, data := data, poison := poison,
    partialWr := decide (0 < data.length ∧ data.length < 64) }

/-- Write a dirty entry back to its Ledger slice (R314). -/
def State.ledgerWriteback (s : State) (e : LedgerLine) : State :=
  let w := ledgerWord e.st e.coarse e.holders e.line
  let s := s.bump F.LEDGER_WRITEBACKS_V 1 e.half
  (s.agentSend e.half (homeMsg e.half .ledgerWrite e.region e.way (64 * e.line) (leBytes 8 w) false)).2

/-- Whether the writeback of an entry would be held by a relocation: it waits in the home's staging, the entry stays dirty (R386). -/
def State.ledgerHeld (s : State) (e : LedgerLine) : Bool :=
  match s.route e.half ⟨true, e.region, e.way⟩ (64 * e.line) true with
  | some (_, .held) => true
  | _ => false

/-- Write back every dirty entry that a test selects, but for those whose writeback is held (R386). -/
def State.ledgerFlush (s : State) (f : LedgerLine → Bool) : State :=
  s.market.cache.foldl (fun s e =>
    if e.dirty && !e.busy && f e && !s.ledgerHeld e then (s.ledgerWriteback e).ledgerStore { e with dirty := false } else s) s

/-- A way for a new entry of a set: a free one, or that of the least recently used entry not Busy (R314). -/
def State.ledgerWay (s : State) (h set : Nat) : Option (Nat × Option LedgerLine) :=
  let ls := s.market.cache.filter (fun e => e.half == h && ledgerSet e.region e.way e.line == set)
  let ways := s.openWays h set
  match ways.find? (fun k => !(ls.any (fun e => e.cacheWay == k))) with
  | some k => some (k, none)
  | none => match ls.find? (fun e => !e.busy && ways.contains e.cacheWay && !(e.dirty && s.ledgerHeld e)) with
    | some e => some (e.cacheWay, some e)
    | none => none

/-- Take a way for a line, writing back the entry it evicts (R314). -/
def State.ledgerAlloc (s : State) (h r w line : Nat) : Option State :=
  match s.ledgerWay h (ledgerSet r w line) with
  | none => none
  | some (k, old) =>
    let s := match old with
      | some e => (if e.dirty then s.ledgerWriteback e else s).ledgerDrop e
      | none => s
    some (s.ledgerStore { half := h, region := r, way := w, line := line, cacheWay := k, busy := true })

/-! ## Flows (R318) -/

/-- The flow of a line. -/
def State.flowAt (s : State) (h r w line : Nat) : Option Flow :=
  s.market.flows.find? (fun f => f.half == h && f.region == r && f.way == w && f.line == line)

/-- The flow with an id. -/
def State.flow (s : State) (id : Nat) : Option Flow := s.market.flows.find? (fun f => f.id == id)

/-- Store a flow. -/
def State.setFlow (s : State) (f : Flow) : State :=
  s.withMarket (fun m => { m with flows := m.flows.filter (fun x => x.id != f.id) ++ [f] })

/-- Remove a flow. -/
def State.dropFlow (s : State) (id : Nat) : State :=
  s.withMarket (fun m => { m with flows := m.flows.filter (fun x => x.id != id) })

/-- The line index of a message: its offset in its slice over 64 (R308). -/
def Msg.line (m : Msg) : Nat := m.off / 64

/-- The region and way of a Market request. -/
def Msg.regionWay (m : Msg) : Nat × Nat := match m.slice with | some r => (r.obj, r.way) | none => (0, 0)

/-- The request of a flow. -/
def State.flowReq (s : State) (f : Flow) : Option Msg := s.msgs.find? (fun m => m.id == f.id)

/-- Answer a Market request: its completion goes back through the Response class, and the request is gone (R316). -/
def State.homeAnswer (s : State) (h : Nat) (m : Msg) (data : List Byte) (poison : Bool) : State :=
  let s := s.remove m
  if m.ofPorter then s.porterBack m data poison false
  else if m.input < 96 && m.op ≠ .ioWrite then
    let a := { m.response data poison with id := m.id, slice := none, wait := none, twin := none, input := 124 + h }
    (s.agentSend h a).2
  else s

/-- Answer a Market request as R109 answers a held port; a lost writeback is a fault of family 6 (R335). -/
def State.homeRefuse (s : State) (m : Msg) : State :=
  let s := s.answerHeld m
  if m.writes && decide (m.input < 96) then s.raise (8 * m.input + 6) m.info else s

/-- Count a message that breaks the protocol (R324): COH_EVENTS, COH_ERR, and family 6 of the host's port. -/
def State.homeProto (s : State) (h p : Nat) (info : FaultInfo) : State :=
  ((s.bump F.COH_EVENTS_PROTO 1 h).put F.COH_ERR_PROTO 1 h).raise (8 * p + 6) info

/-- Send the snoops of a flow; absent hosts are answered by the device, which counts those recorded Exclusive (R322,
log entry 28). -/
def State.sendSnoops (s : State) (f : Flow) (hosts : List Nat) : Flow × State :=
  hosts.foldl (fun (f, s) x =>
    if s.snoopAbsent f.region x f.forRecall.isSome then
      (f, if f.owner == some x then s.bump F.SNOOP_ABSENT_V 1 (256 * f.half + f.region) else s)
    else
      let m : Msg := { id := 0, cls := 6, op := .snoop, input := 124 + f.half, dst := (s.hostPort x).getD 0, host := some x,
                       session := f.id, len := 0 }
      let (id, s) := (s.bump F.SNOOPS_SENT_V 1 f.half).agentSend f.half m
      ({ f with snoops := f.snoops ++ [(id, x)] }, s)) (f, s)

/-- The hosts that a request snoops, by its kind and the entry (R318). An uncached write by the host that holds the line
Exclusive snoops that host too (log entry 14). -/
def snoopTargets (k : MktKind) (write : Bool) (host : Option Nat) (st : Nat) (hosts : List Nat) : List Nat :=
  let others := hosts.filter (fun x => some x != host)
  let owner := st == 2 && others.isEmpty
  match k, write with
  | .write _, _ => if st == 0 || owner then [] else hosts
  | _, true => if st == 0 then [] else hosts
  | .own, _ => if st == 0 then [] else others
  | .share, _ | .uncached, _ => if st == 2 then others else []
  | .evict, _ => []

/-- End a flow: the new entry, its Busy mark gone (R318). -/
def State.flowEntry (s : State) (f : Flow) (m : Option Msg) (e : LedgerLine) : LedgerLine :=
  let now := s.now
  let e := if f.blind then { e with st := 0, coarse := false, holders := [] } else e
  let keep := match f.owner with | some x => if f.ownerKept then [x] else [] | none => []
  match m with
  | none =>
    match f.forRecall with
    | some x =>
      if e.coarse then { e with busy := false }
      else
        let hs := e.holders.filter (fun y => y != x)
        if hs.isEmpty then { e with st := 0, holders := [], busy := false, dirty := true }
        else { e with holders := hs, busy := false, dirty := true }
    | none => { e with busy := false }
  | some m =>
    let h := m.host.getD 0
    if m.writes then { e with st := 0, coarse := false, holders := [], busy := false, dirty := true }
    else match m.mkt with
      | .own => { e with st := 2, coarse := false, holders := [h], busy := false, dirty := true, granted := some now }
      | .share =>
        if e.st == 1 then
          let (c, hs) := addHolder e.coarse e.holders h
          { e with st := 1, coarse := c, holders := hs, busy := false, dirty := true }
        else
          { e with st := 1, coarse := false, holders := h :: keep.filter (fun x => x != h), busy := false, dirty := true }
      | _ => if f.blind then { e with busy := false, dirty := true } else { e with busy := false }

/-- Whether a request asks for data. -/
def Msg.wantsData (m : Msg) : Bool := decide (m.op = .memRead) || decide (m.op = .ioRead)

/-- Merge a partial write into a line. -/
def mergeLine (line data : List Byte) (at_ : Nat) : List Byte :=
  (line.take at_ ++ data ++ line.drop (at_ + data.length)).take 64

/-- The flow has everything: write memory where it writes, store the entry, complete (R318). -/
def State.flowComplete (s : State) (f : Flow) (data : List Byte) (poison : Bool) : State :=
  let s := s.dropFlow f.id
  match s.ledgerFind f.half f.region f.way f.line with
  | none => s
  | some e =>
    let m := s.flowReq f
    let s := s.ledgerStore (s.flowEntry f m e)
    match m with
    | none => s
    | some m =>
      if m.writes then
        let bytes := match f.data with
          | some d => if m.partialWr then (mergeLine d.1 m.data (m.off % 64), m.poison || d.2) else (m.data, m.poison)
          | none => (m.data, m.poison)
        let off := if f.data.isSome && m.partialWr then 64 * f.line else m.off
        let s := (s.agentSend f.half (homeMsg f.half .memWrite f.region f.way off bytes.1 bytes.2)).2
        s.homeAnswer f.half m [] false
      else s.homeAnswer f.half m (if m.wantsData then data else []) (poison || f.poisoned)

/-- Go on with a flow once nothing it waits for is out (R318, R325, R329): data comes from the writeback it collected,
from a confirmed speculative read, or from memory. -/
def State.flowAdvance (s : State) (f : Flow) : State :=
  if f.phase = .grace || !f.snoops.isEmpty then s.setFlow f
  else
    match s.flowReq f with
    | none => s.flowComplete f [] false
    | some m =>
      if m.wantsData then
        match f.data with
        | some d => s.flowComplete f d.1 d.2
        | none =>
          match f.specData with
          | some d => s.flowComplete f d.1 d.2
          | none =>
            match f.spec with
            | some id => s.setFlow { f with phase := .memory, memId := some id }
            | none =>
              let (id, s) := s.agentSend f.half (homeMsg f.half .memRead f.region f.way (64 * f.line) [] false)
              s.setFlow { f with phase := .memory, memId := some id }
      else s.flowComplete f [] false

/-- Discard a speculative read that the entry does not confirm (R329). -/
def State.discardSpec (s : State) (f : Flow) : Flow × State :=
  match f.spec with
  | none => (f, s)
  | some id =>
    ({ f with spec := none, specData := none },
     { (s.bump F.SPEC_DISCARDED_V 1 f.half) with msgs := s.msgs.map (fun m => if m.id == id then { m with squashed := true } else m) })

/-- Snoop as the entry requires (R318, R313); the minimum hold may make the flow wait first (R327). -/
def State.flowSnoop (s : State) (f : Flow) (m : Option Msg) (e : LedgerLine) : State :=
  let all := holderHosts e.coarse e.holders
  let hosts := if f.blind then s.regionHosts f.region else match m, f.forRecall with
    | none, some x => if all.contains x then [x] else []
    | some m, _ => snoopTargets m.mkt m.writes m.host e.st all
    | none, none => []
  let owner := if e.st == 2 && !f.blind then hosts.head? else none
  let (f, s) := s.sendSnoops { f with phase := .snoop, owner := owner } hosts
  s.flowAdvance f

/-- Whether the minimum hold keeps a flow from snooping the holder (R327). -/
def State.heldByGrant (s : State) (f : Flow) (m : Option Msg) (e : LedgerLine) : Bool :=
  f.forRecall.isNone && e.st == 2 && !f.blind && s.holdActive f.region && !s.market.quiet.contains f.half
    && (match e.granted with | some t => decide (s.now < t + s.get F.REGION_CTRL_HOLD_NS f.region) | none => false)
    && (match m with | some m => !(snoopTargets m.mkt m.writes m.host 2 (holderHosts e.coarse e.holders)).isEmpty | none => false)

/-- The entry of a flow's line is known (R318, R329). -/
def State.flowGo (s : State) (f : Flow) (e : LedgerLine) : State :=
  let m := s.flowReq f
  let s := s.ledgerStore { e with busy := true }
  let foreign := e.st == 2 && !(match m with | some m => some (e.holders.headD 127) == m.host | none => false)
  let (f, s) := if f.blind || foreign then s.discardSpec f else (f, s)
  if s.heldByGrant f m e then s.setFlow { f with phase := .holdWait } else s.flowSnoop f m e

/-- Whether a request may be speculated on (R328). -/
def State.maySpeculate (s : State) (h : Nat) (m : Msg) : Bool :=
  let (r, _) := m.regionWay
  !m.device && m.wantsData && decide (m.mkt ≠ .uncached) && decide (m.input < 96)
    && s.hflag h F.REGION_CTRL_SPEC_EN r && s.flag F.COH_CTRL_SPEC_EN h

/-- A miss with a way: its entry is read from memory, and the line too where that may be speculated (R314, R328). -/
def State.flowMiss (s : State) (f : Flow) (m : Msg) : State :=
  let (id, s) := s.agentSend f.half (homeMsg f.half .ledgerRead f.region f.way (64 * f.line) [] false)
  let f := { f with memId := some id }
  if s.maySpeculate f.half m then
    let (id, s) := (s.bump F.SPEC_ISSUED_V 1 f.half).agentSend f.half (homeMsg f.half .memRead f.region f.way (64 * f.line) [] false)
    s.setFlow { f with spec := some id }
  else s.setFlow f

/-- Start the flow of a request (R314, R318). -/
def State.flowStart (s : State) (h : Nat) (m : Msg) : State :=
  let (r, w) := m.regionWay
  let f : Flow := { id := m.id, half := h, region := r, way := w, line := m.line }
  let s := s.count (218 + h) 0 1
  match s.ledgerFind h r w m.line with
  | some e => (s.bump F.LEDGER_HIT_V 1 h).flowGo f e
  | none =>
    let s := s.bump F.LEDGER_MISS_V 1 h
    let set := ledgerSet r w m.line
    let behind := s.market.wayWaits.any (fun id => match s.msgs.find? (fun x => x.id == id) with
      | some x => x.dst == 124 + h && ledgerSet x.regionWay.1 x.regionWay.2 x.line == set
      | none => false)
    match (if behind then none else s.ledgerAlloc h r w m.line) with
    | some s => s.flowMiss f m
    | none => s.withMarket (fun k => { k with wayWaits := k.wayWaits ++ [m.id] })

/-! ## Writebacks and clean evictions (R318, R320, R324) -/

/-- A host leaves the holders of a Shared entry (R312). -/
def dropHolder (e : LedgerLine) (x : Nat) : LedgerLine :=
  if e.coarse then e
  else
    let hs := e.holders.filter (fun y => y != x)
    { e with holders := hs, st := (if hs.isEmpty then 0 else e.st), dirty := e.dirty || e.holders.contains x }

/-- The bytes of a writeback go to memory (R318). -/
def State.homeWrite (s : State) (h : Nat) (m : Msg) : State :=
  (s.agentSend h (homeMsg h .memWrite m.regionWay.1 m.regionWay.2 m.off m.data m.poison)).2

/-- A clean eviction: the host leaves the holders; one of a line held Exclusive by another host breaks the protocol (R318, R324). -/
def State.homeEvict (s : State) (h : Nat) (m : Msg) (e : LedgerLine) : State :=
  let x := m.host.getD 127
  let s :=
    if e.st == 2 then
      if e.holders == [x] then s.ledgerStore { e with st := 0, holders := [], dirty := true }
      else (s.ledgerStore e).homeProto h m.input m.info
    else s.ledgerStore (dropHolder e x)
  s.homeAnswer h m [] false

/-- Apply a writeback or clean eviction to a line with no flow in progress, whose entry is known (R318, R320). -/
def State.homeApply (s : State) (h : Nat) (m : Msg) (e : LedgerLine) : State :=
  let x := m.host.getD 127
  match m.mkt with
  | .evict => s.homeEvict h m { e with busy := false }
  | .write keep =>
    if e.st == 2 && e.holders == [x] then
      let e' := if keep then { e with st := 1, dirty := true, busy := false } else { e with st := 0, holders := [], dirty := true, busy := false }
      ((s.ledgerStore e').homeWrite h m).homeAnswer h m [] false
    else if e.st == 0 then ((s.ledgerStore { e with busy := false }).homeWrite h m).homeAnswer h m [] false
    else s.flowGo { id := m.id, half := h, region := e.region, way := e.way, line := e.line } e
  | _ => s.flowGo { id := m.id, half := h, region := e.region, way := e.way, line := e.line } e

/-- Whether a flow snoops a host, or is about to (R320). -/
def State.flowSnoops (s : State) (f : Flow) (x : Nat) : Bool :=
  f.snoops.any (fun e => e.2 == x) || f.owner == some x || (decide (f.phase = .holdWait) &&
    (match s.ledgerFind f.half f.region f.way f.line with
      | some e => (holderHosts e.coarse e.holders).contains x
      | none => false))

/-- A flow takes a writeback or clean eviction of a host that it snoops (R320): the data becomes the flow's, the memory
write is issued, the sender leaves the holders, its completion goes out at once. -/
def State.flowTakes (s : State) (f : Flow) (m : Msg) : State :=
  let x := m.host.getD 127
  let whole := m.writes && !m.partialWr
  let s := (if m.writes then s.homeWrite f.half m else s).homeAnswer f.half m [] false
  let (f, s) := (if m.writes then s.count (218 + f.half) 4 1 else s).discardSpec f
  let f := { f with data := (if whole then some (m.data, m.poison) else if m.writes then none else f.data),
                    owner := (if f.owner == some x then none else f.owner) }
  match s.ledgerFind f.half f.region f.way f.line with
  | none => s.setFlow f
  | some e =>
    let e := dropHolder (if e.st == 2 && e.holders == [x] then { e with st := 0, coarse := false, holders := [], dirty := true } else e) x
    let s := s.ledgerStore e
    match f.phase with
    | .holdWait => s.flowSnoop f (s.flowReq f) e
    | .grace => s.flowAdvance { f with phase := .snoop }
    | _ => s.setFlow f

/-- Put a writeback that a flow does not snoop directly after that flow: before the other requests to its line that wait (R320). -/
def State.placeAfter (s : State) (f : Flow) (m : Msg) : State :=
  let m := { m with mkt := .uncached, followed := true }
  let rest := s.msgs.filter (fun x => x.id != m.id)
  let later (x : Msg) : Bool := decide (x.stage = .atHome) && x.dst == m.dst && x.regionWay == m.regionWay && x.line == m.line
    && x.id != f.id && !x.followed
  { s with msgs := rest.takeWhile (fun x => !later x) ++ [m] ++ rest.dropWhile (fun x => !later x) }

/-- A writeback or clean eviction meets a flow whose entry is known (R320): taken by the flow that snoops its sender; otherwise a
writeback follows the flow as an uncached write, and a clean eviction is applied at once. A fenced host's is taken only by such a
flow (R332, R334). -/
def State.homeMeets (s : State) (f : Flow) (m : Msg) : State :=
  let x := m.host.getD 127
  if s.flowSnoops f x then s.flowTakes f m
  else if s.fenced f.region x then s.homeRefuse m
  else if m.writes then s.placeAfter f m
  else match s.ledgerFind f.half f.region f.way f.line with
    | some e => s.homeEvict f.half m e
    | none => s

/-- A writeback or clean eviction in the staging acts (R320): on the flow of its line once its entry is known, or on the entry. -/
def State.homeSettle (s : State) (h : Nat) (m : Msg) : State :=
  let (r, w) := m.regionWay
  match s.flowAt h r w m.line with
  | some f => if f.phase = .fill then s else s.homeMeets f m
  | none =>
    if s.market.handing.contains ⟨true, r, w⟩ then s
    else if s.fenced r (m.host.getD 127) then s.homeRefuse m
    else match s.ledgerFind h r w m.line with
    | some e => (s.bump F.LEDGER_HIT_V 1 h).homeApply h m e
    | none => s.flowStart h m

/-- The entry of a line was read from memory (R311, R313, R314): a bad entry is counted, a bad or unknown one is met blind.
Writebacks to the line that wait for its entry are applied in their order. -/
def State.ledgerFill (s : State) (f : Flow) (word : Nat) (poison : Bool) : State :=
  let (st, coarse, holders, bad) := ledgerDecode word f.line poison
  let s := if bad then (s.bump F.COH_EVENTS_ENTRY_BAD 1 f.half).setErr F.COH_ERR_ENTRY_BAD f.half (774 + f.half) else s
  let blind := bad || st == 3
  match s.ledgerFind f.half f.region f.way f.line with
  | none => s
  | some old =>
    let e := { old with st := (if blind then 0 else st), coarse := !blind && coarse, holders := (if blind then [] else holders) }
    let f := { f with blind := blind, memId := none }
    let s := match s.flowReq f with
      | some m =>
        if !blind && !m.counted then (s.dropFlow f.id).homeApply f.half m e
        else s.flowGo f e
      | none => s.flowGo f e
    let waiting := s.msgs.filter (fun m => decide (m.stage = .atHome) && m.dst == 124 + f.half && m.gives && m.id != f.id
      && m.regionWay == (f.region, f.way) && m.line == f.line)
    waiting.foldl (fun s m => s.homeSettle f.half m) s

/-! ## Recovering slices (R335) -/

/-- End the flows of a slice: their requests are answered as R109 answers a held port. -/
def State.endFlows (s : State) (f : Flow → Bool) : State :=
  (s.market.flows.filter f).foldl (fun s x =>
    let s := s.dropFlow x.id
    match s.flowReq x with
    | some m => s.homeRefuse m
    | none => s) s

/-- Mark a slice recovering: its bit, COH_ERR.RECOVERING and its fault, its cached entries discarded, the requests to
its lines answered (R335). -/
def State.markRecovering (s : State) (r w : Nat) : State :=
  let h := s.homeOf 0 ⟨true, r, w⟩
  let s := s.put F.REGION_STATUS_RECOVERING (s.get F.REGION_STATUS_RECOVERING r
    + (if s.recovering r w then 0 else 2 ^ w)) r
  let s := s.setRegion r 3
  let s := s.withMarket (fun m => { m with cache := m.cache.filter (fun e => !(e.region == r && e.way == w)) })
  let s := s.endFlows (fun f => f.region == r && f.way == w)
  let waiting := s.msgs.filter (fun m => decide (m.stage = .atHome) && m.slice == some ⟨true, r, w⟩)
  let s := waiting.foldl (fun s m => s.homeRefuse m) s
  s.setErr F.COH_ERR_RECOVERING h (774 + h)

/-- The slices of valid regions. -/
def State.regionSlices (s : State) : List SliceRef :=
  ((List.range 256).filter (fun r => s.flag F.REGION_CTRL_VALID r)).flatMap (fun r =>
    ((List.range 16).filter (fun w => Word.bits (s.rd .REGION_SLICE r w) 63 1 == 1)).map (fun w => ⟨true, r, w⟩))

end Sys2Proof.Machine
end

