-- ==== Sys2Proof/Machine/RelocCore.lean ====
section
/-!
DEFINITION. The parts of Live Relocation and of the scrubber that other units use: publishing a watermark, rolling back,
failing (R382, R390 to R393), releasing ranges (R267, R268), the state of Stalls and regions.
-/
namespace Sys2Proof.Machine

/-! ## Released ranges (R267 to R270) -/

/-- SCRUB_ACTIVE and SCRUB_QUARANTINED follow the list of ranges. -/
def State.setRanges (s : State) (l : List DevRange) : State :=
  (({ s with ranges := l }).put F.SCRUB_ACTIVE_V (l.filter (fun (r : DevRange) => !r.quarantined && !r.forErase)).length).put F.SCRUB_QUARANTINED_V
    (l.filter (fun (r : DevRange) => r.quarantined)).length

/-- A range that is quarantined: its scrub starts again from its start, and an erase no longer waits for it (R270). -/
def DevRange.quarantine (r : DevRange) : DevRange := { r with quarantined := true, scrubbed := 0, forErase := false }

/-- Release a range: it is scrubbed after those released before it on its port (R268). -/
def State.releaseRange (s : State) (r : DevRange) : State := if r.len = 0 then s else s.setRanges (s.ranges ++ [r])

/-- The MiB of a slice entry: DPA_BASE and the units that each slice holds (R242). -/
def sliceRange (v : Word) (units : Nat) (stall : Option Nat) : DevRange :=
  { port := Word.bits v 48 7, ld := Word.bits v 40 4, start := 256 * Word.bits v 0 24, len := 256 * units, stall := stall }

/-! ## Relocation contexts -/

/-- Set the state of a context: its interrupt and its event (R450, R593). -/
def State.setRl (s : State) (x v : Nat) : State :=
  if s.rlState x == v then s
  else
    let s := (s.put F.RELOC_STATE_STATE v x).irqEvent (248 + x)
    s.event 0x05F0 [x, (s.rd .RELOC_STATE x).toNat]

/-- A context beside its registers. -/
def State.reloc (s : State) (x : Nat) : RelocCtx := numGet {} x s.relocs

/-- Store a context. -/
def State.setReloc (s : State) (x : Nat) (r : RelocCtx) : State := { s with relocs := numPut {} x r s.relocs }

/-- Half `h` takes W and C of a context, and releases the writes it held (R382). -/
def State.takeMark (s : State) (h x w c : Nat) : State :=
  let s := if x / 4 == h then (s.put F.RELOC_WATERMARK_W w x).put F.RELOC_IN_COPY_C c x
    else (s.put F.RELOC_PEER_WATERMARK_W w (4 * h + x % 4)).put F.RELOC_PEER_IN_COPY_C c (4 * h + x % 4)
  s.releaseHeld h x

/-- Both halves take W and C in one publication (R390, R392). -/
def State.publishBoth (s : State) (x w c : Nat) : State := (s.takeMark (x / 4) x w c).takeMark (1 - x / 4) x w c

/-- The units of the slice that a context moves. -/
def State.rlUnits (s : State) (x : Nat) : Nat := s.get F.RELOC_CHUNKS_N x / 256

/-- The target range of a context. -/
def State.rlTargetRange (s : State) (x : Nat) : DevRange :=
  let t := s.rlTarget x
  { port := t.1, ld := t.2.1, start := t.2.2 / 2 ^ 20, len := s.get F.RELOC_CHUNKS_N x }

/-- The Ledger range at the target of a Market relocation. -/
def State.rlLedgerRange (s : State) (x : Nat) : DevRange :=
  let t := s.rlLedger x
  { port := t.1, ld := t.2.1, start := t.2.2 / 2 ^ 20, len := s.get F.RELOC_CHUNKS_N x / 8 }

/-- A region reads Relocating only while one of its slices moves (R376). -/
def State.regionSettles (s : State) (x : Nat) : State :=
  if s.flag F.RELOC_OBJECT_MARKET x then
    let r := s.get F.RELOC_OBJECT_OBJECT x
    if s.get F.REGION_STATUS_STATE r == 4 then s.setRegion r 1 else s
  else s

/-- Free a context. -/
def State.rlFreeCtx (s : State) (x : Nat) : State :=
  let s := (s.regionSettles x).setRl x rlFree
  let s := (s.put F.RELOC_STATE_TAINTED 0 x).put F.RELOC_OBJECT_VALID 0 x
  s.setReloc x {}

/-- Start to roll a context back (R390): W = 0 and C = none go to both halves in one publication; held writes go to the source. -/
def State.rlRollback (s : State) (x : Nat) : State :=
  ((s.setRl x rlRollingBack).setReloc x { s.reloc x with step := .publish, phase := 5, journalled := 0, back := false }).takeMark
    (x / 4) x 0 noChunk

/-- Pairs of a context's slice that are under way (R379). -/
def State.rlPairs (s : State) (x : Nat) : Bool :=
  s.msgs.any (fun (m : Msg) => m.slice == some (s.rlSlice x) && (m.copy || m.twin.isSome))

/-- A context is rolled back (R390): the target range is released and scrubbed, the start operation ends, the context is free. -/
def State.rlRolled (s : State) (x : Nat) : State :=
  let s := if s.flag F.RELOC_OBJECT_REMOTE x then s else s.releaseRange (s.rlTargetRange x)
  let s := if s.flag F.RELOC_OBJECT_MARKET x then s.releaseRange (s.rlLedgerRange x) else s
  (s.endOp (.relocation x) .aborted).rlFreeCtx x

/-- The rollback is over once both halves hold W = 0 and the pairs already issued have completed (R390). -/
def State.rlRolledCheck (s : State) (x : Nat) : State :=
  if s.rlState x == rlRollingBack && decide ((s.reloc x).step = .drain) && !s.rlPairs x then s.rlRolled x else s

/-- Whether a rollback must first copy back (R391). -/
def State.rlNeedsReverse (s : State) (x : Nat) : Bool := s.flag F.RELOC_STATE_TAINTED x && decide (1 ≤ s.wmark (x / 4) x)

/-- The target fails or is held (R392): W = 0 in both halves at once; a tainted relocation ends FAULTED. -/
def State.rlTargetFails (s : State) (x : Nat) : State :=
  let tainted := s.flag F.RELOC_STATE_TAINTED x
  let s := (s.publishBoth x 0 noChunk).raise (778 + x / 4)
  let s := (s.msgs.filter (fun (m : Msg) => m.copy && m.slice == some (s.rlSlice x))).foldl (fun s m => s.remove m) s
  let s := { s with msgs := s.msgs.map (fun (m : Msg) => if m.slice == some (s.rlSlice x) then { m with twin := none } else m) }
  let s := s.endOp (.relocation x) (if tainted then .faulted else .aborted)
  s.rlRolled x

/-- Whether a failure of its target still rolls a relocation back (R392): its slice is on the source, and no commit of it is being
applied. -/
def State.rlTargetCounts (s : State) (x : Nat) : Bool :=
  s.rlState x != rlFree && s.rlOnSource 2 x && (s.rlState x != rlCommitting || decide (s.get F.TXSLOT_STATE_STATE 3 < 4))

/-- A context stops (R385, R393). -/
def State.rlStop (s : State) (x : Nat) : State :=
  let s := (s.setRl x rlStopped).setReloc x { s.reloc x with phase := 7 }
  let s := s.publishBoth x (s.wmark (x / 4) x) noChunk
  s.endOp (.relocation x) .faulted

/-- Mark a context TAINTED if it holds a watermark (R391). -/
def State.rlTaint (s : State) (x : Nat) : State :=
  if s.rlState x != rlFree && decide (1 ≤ s.wmark (x / 4) x) then s.put F.RELOC_STATE_TAINTED 1 x else s

/-- The contexts that are not Free. -/
def State.rlActive (s : State) : List Nat := (List.range 8).filter (fun x => s.rlState x != rlFree)

/-! ## Stalls -/

/-- The states of a Stall (R248). -/
abbrev stFree : Nat := 0
abbrev stDefined : Nat := 1
abbrev stBound : Nat := 2
abbrev stQuenched : Nat := 3
abbrev stResetting : Nat := 4
abbrev stFailed : Nat := 5
abbrev stFrozen : Nat := 6
abbrev stReleasing : Nat := 7

/-- The state of a Stall. -/
def State.stall (s : State) (st : Nat) : Nat := s.get F.STALL_STATE_STATE st

/-- Set the state of a Stall; the change is reported to subscribed sessions. -/
def State.setStall (s : State) (st v : Nat) : State :=
  if s.stall st == v then s else (let s := s.put F.STALL_STATE_STATE v st; s.event 0x02F0 [st, (s.rd .STALL_STATE st).toNat])

/-- The Stalls and the ways of the slices that lie on a port. -/
def State.slicesOn (s : State) (p : Nat) : List (Nat × Nat) :=
  (s.regs.filter (fun e => decide (e.1.reg = .STALL_SLICE) && Word.bits e.2 63 1 == 1 && Word.bits e.2 48 7 == p)).map
    (fun e => (e.1.i, e.1.j))

/-- The Stalls that are defined. -/
def State.stallsDefined (s : State) : List Nat :=
  (s.regs.filter (fun e => decide (e.1.reg = .STALL_CTRL) && Word.bits e.2 31 1 == 1)).map (fun e => e.1.i)

/-- The Stalls bound to a host. -/
def State.stallsOf (s : State) (host : Nat) : List Nat :=
  s.stallsDefined.filter (fun st => s.flag F.STALL_BIND_BOUND st && s.get F.STALL_BIND_HOST st == host)

/-- The Stall through which a host reaches a region: the STALL of its first decoder of it (R240). -/
def State.stallToRegion (s : State) (host r : Nat) : Option Nat :=
  ((List.range 32).find? (fun d => s.flag F.DEC_CTRL_VALID host d && s.get F.DEC_CTRL_TYPE host d == 1
    && s.get F.DEC_CTRL_REGION host d == r)).map (fun d => s.get F.DEC_CTRL_STALL host d)

/-- QUENCH of a Stall in its meter entry in force (R213, R215). -/
def State.quenchSet (s : State) (st : Nat) : Bool :=
  s.flag F.METER_CTRL_QUENCH (match s.hostPort (s.get F.STALL_BIND_HOST st) with | some p => halfOf p | none => 0) st

/-- Messages of a Stall in the device: its transfers (STALL_OUTSTANDING). -/
def State.stallMsgs (s : State) (st : Nat) : List Msg :=
  s.msgs.filter (fun m => m.stall == some st && decide (m.op ≠ .mirror) && !m.copy)

end Sys2Proof.Machine
end

