-- ==== Sys2Proof/Machine/Records.lean ====
section
/-!
DEFINITION. The emulated device of a Stall as storage (R99, R250), its event log, and the redacted copies of fault records
that firmware posts there (R510).
-/
namespace Sys2Proof.Machine

/-- The emulated device of a Stall. -/
def State.emul (s : State) (st : Nat) : Emulated := numGet {} st s.emulated

/-- Whether a Sanitize or Secure Erase of a Stall runs (R253). -/
def State.erasing (s : State) (st : Nat) : Bool := (s.emul st).background.isSome

/-- Store it. -/
def State.setEmul (s : State) (st : Nat) (e : Emulated) : State := { s with emulated := numPut {} st e s.emulated }

/-- Post a record in a Stall's own event log (R99, R110, R113). -/
def State.postLog (s : State) (st kind : Nat) (record : List Byte := []) : State :=
  let e := s.emul st
  s.setEmul st { e with log := e.log ++ [{ handle := e.nextHandle, kind := kind, record := record }], nextHandle := e.nextHandle + 1 }

/-- Post a record in every Stall backed by the device on a port. -/
def State.postPort (s : State) (p kind : Nat) : State :=
  ((s.slicesOn p).map Prod.fst).eraseDups.foldl (fun s st => s.postLog st kind) s

/-- The offset in a Stall's space of an offset in one of its slices (R242). -/
def State.stallOffset (s : State) (r : SliceRef) (off : Nat) : Nat :=
  let (n, g) := s.layoutOf 2 false r.obj
  (off / g * n + r.way) * g + off % g

/-- The offset in a Stall's space of a device physical address, if it lies in one of the Stall's slices. -/
def State.offsetOfDpa (s : State) (st p ld addr : Nat) : Option Nat :=
  let n := (s.layoutOf 2 false st).1
  let len := s.get F.STALL_LAYOUT_CAP st * 2 ^ 28 / n
  (List.range n).findSome? (fun w =>
    let (q, l, base) := s.sliceOf 2 ⟨false, st, w⟩
    if q == p && l == ld && decide (base ≤ addr) && decide (addr < base + len) then some (s.stallOffset ⟨false, st, w⟩ (addr - base)) else none)

/-- The copy of a record that host `h` sees (R510). -/
def State.redact (s : State) (st h : Nat) (b : List Byte) : List Byte :=
  let byte (n : Nat) : Nat := leNat ((b.drop n).take 1)
  let source := leNat ((b.drop 8).take 2)
  let flags := byte 10
  let addr := leNat ((b.drop 16).take 8)
  let dpa := 128 ≤ byte 15
  let kept : Option Nat :=
    if flags / 16 % 2 == 0 then none
    else if source < 768 ∧ source % 8 = 5 then some addr
    else if dpa then s.offsetOfDpa st (source / 8) (byte 15 % 16) addr
    else if flags / 32 % 2 == 1 ∧ byte 14 = h then some addr
    else none
  let flags := if kept.isSome then flags else flags - flags / 16 % 2 * 16
  b.take 8 ++ leBytes 2 0 ++ leBytes 1 flags ++ (b.drop 11).take 3 ++ leBytes 1 h ++ leBytes 1 0 ++ leBytes 8 (kept.getD 0)
    ++ leBytes 4 0 ++ leBytes 4 0

/-- Firmware posts a record that names a Stall to the host that the Stall is bound to (R510). -/
def State.postRecord (s : State) (st : Nat) (b : List Byte) : State :=
  if s.flag F.STALL_BIND_BOUND st then s.postLog st 4 (s.redact st (s.get F.STALL_BIND_HOST st) b) else s

end Sys2Proof.Machine
end

