-- ==== Sys2Proof/Machine/React.lean ====
section
/-!
DEFINITION. What several causes start: the hold of a port and its release (R109), resets of registers (R16, R18), a
port reset, a Stall reset, a half reset (R40 to R48), and the reactions of the fault collector (R503, R504).
-/
namespace Sys2Proof.Machine

/-! ## Which reset reaches which register (R16, R18, R40) -/

/-- The first address of a register. -/
def Reg.base (r : Reg) : Nat := match Reg.rows.find? (fun w => decide (w.reg = r)) with | some w => w.base | none => 0

/-- How many keys of the first index one half holds. -/
def Row.perHalf (w : Row) : Nat :=
  (((w.dims.drop 1).filter (fun d => decide (d.axis = .first))).map Dim.n).foldl (fun a b => a * b) 1

/-- The port whose block holds a key. -/
def keyPort (k : Key) : Option Nat :=
  let b := k.reg.base
  if 0x01000000 ≤ b ∧ b < 0x02000000 ∧ k.i < 96 then some k.i else none

/-- The half that holds a key: of the port's block, of a Seam endpoint, or of the half block. -/
def keyHalf (k : Key) : Option Nat :=
  let b := k.reg.base
  if 0x01000000 ≤ b ∧ b < 0x02000000 then some (if k.i < 96 then halfOf k.i else seamHalf k.i)
  else if 0x02000000 ≤ b ∧ b < 0x03000000 then
    match Reg.rows.find? (fun w => decide (w.reg = k.reg)) with
    | some w => match w.dims with
      | d :: _ => if d.n = 2 ∧ d.axis = .first then some (k.i / w.perHalf) else if k.reg = .SNOOP_ABSENT then some (k.i / 256) else none
      | [] => none
    | none => none
  else none

/-- Whether a key lies in the block of the Hearth's cores, scratchpad, Flue bridge and control memory. -/
def keyHearth (k : Key) : Bool := decide (0x00020000 ≤ k.reg.base) && decide (k.reg.base < 0x00030000)

/-- Fields that keep their value though they are neither RWS nor RWT (R18), and the watermark tables, which are
reloaded from the contexts (R395). -/
def resetKeeps (r : Reg) : Bool :=
  match r with
  | .STALL_STATE | .DEC_STATE | .REGION_STATUS | .REGION_FENCED | .RELOC_STATE | .SCRUB_ACTIVE | .SCRUB_QUARANTINED
  | .RELOC_CHUNKS | .RELOC_WATERMARK | .RELOC_IN_COPY | .RELOC_REVERSE | .RELOC_PEER_WATERMARK | .RELOC_PEER_IN_COPY => true
  | _ => false

/-- Whether a field survives a reset that reaches its block. -/
def keptField (r : Reg) (f : FSpec) : Bool :=
  decide (f.acc = .RWS) || decide (f.acc = .RWT) || (decide (r = .CHK_CTRL) && f.lo == F.CHK_CTRL_EN.lo)

/-- A register after a reset that reaches it. -/
def resetOne (k : Key) (v : Word) : Word :=
  if resetKeeps k.reg then v
  else (Reg.fields k.reg).foldl (fun a f => if keptField k.reg f then Word.setBits a f.lo f.w (Word.bits v f.lo f.w) else a)
    (resetWord k)

/-- Reset the registers that a test selects, keeping the canonical form. -/
def State.resetRegs (s : State) (sel : Key → Bool) : State :=
  { s with regs := s.regs.filterMap (fun e =>
      let v := if sel e.1 then resetOne e.1 e.2 else e.2
      if v = resetWord e.1 then none else some (e.1, v)) }

/-! ## Holds (R105, R109, R113, R265, R322, R335, R392) -/

/-- Every Stall with a slice on a port reads Failed, unless it is in reset or being deleted (R265); that is a fault of
family 7 of the port (R493, log entry 139). -/
def State.failStalls (s : State) (p : Nat) : State :=
  let all := ((s.slicesOn p).map Prod.fst).eraseDups
  let lost := all.filter (fun st => s.stall st == stDefined || s.stall st == stBound || s.stall st == stQuenched || s.stall st == stFrozen)
  let s := lost.foldl (fun s st => s.setStall st stFailed) s
  let s := (all.filter (fun st => s.stall st == stResetting)).foldl (fun s st => s.setEmul st { s.emul st with failsAfter := true }) s
  if lost.isEmpty then s else s.raise (8 * p + 7)

/-- Slices of regions on a port are recovering (R335). -/
def State.recoverPort (s : State) (p : Nat) : State :=
  (s.regionSlices.filter (fun r => (s.sliceOf 0 r).1 == p)).foldl (fun s r => s.markRecovering r.obj r.way) s

/-- Relocations whose target or source port is held (R392, R393). -/
def State.relocPort (s : State) (p : Nat) : State :=
  s.rlActive.foldl (fun s x =>
    if s.rlState x == rlFree then s
    else if s.get F.RELOC_DST_PORT x == p && !s.flag F.RELOC_OBJECT_REMOTE x then (if s.rlTargetCounts x then s.rlTargetFails x else s)
    else if s.get F.RELOC_SRC_PORT x == p && s.rlTargetCounts x && s.rlState x != rlStopped && s.rlState x != rlRollingBack then s.rlStop x else s) s

/-- A snoop that is out is resolved: answered by the host, or by the device (R318, R322). The line then goes on. -/
def State.snoopDone (s : State) (f : Flow) (id : Nat) (host : Nat) (kept absent : Bool) : State :=
  let f := { f with snoops := f.snoops.filter (fun e => e.1 != id) }
  let f := if f.owner == some host then { f with ownerKept := kept } else f
  let waits := f.owner == some host && !kept && !absent && f.data.isNone
  s.flowAdvance (if waits then { f with phase := .grace } else f)

/-- The snoops that are out to a host's port are answered by the device (R322). -/
def State.snoopsAbsent (s : State) (p : Nat) : State :=
  (s.msgs.filter (fun m => decide (m.op = .snoop) && m.dst == p)).foldl (fun s m =>
    let s := s.remove m
    match s.flow m.session with
    | some f =>
      let s := if f.owner == m.host then s.bump F.SNOOP_ABSENT_V 1 (256 * f.half + f.region) else s
      s.snoopDone f m.id (m.host.getD 127) false true
    | none => s) s

/-- What starts with the first cause of a hold (R109). -/
def State.holdStarts (s : State) (p : Nat) : State :=
  let s := s.cellsLost p
  if s.isHostPort p then
    let s := (s.msgs.filter (fun m => m.isAnswer && m.dst == p)).foldl (fun s m => s.remove m) s
    s.snoopsAbsent p
  else
    let sent := s.msgs.filter (fun m => m.dst == p && (decide (m.stage = .atDevice) || decide (m.stage = .queued))
      && decide (m.op ≠ .mirror) && !m.isAnswer && !m.copy)
    let hosts := sent.filter (fun m => s.answerable m && decide (m.input < 96))
    let s := s.answerForwarded p (hosts.filter (fun m => !m.squashed))
    let s := (hosts.filter (fun m => m.squashed)).foldl (fun s m => s.remove m) s
    let s := (s.waitingFor p).foldl (fun s m =>
      if m.ofPorter then s.answerHeld m else if s.answerable m then s.answerRefused m else s) s
    let s := (sent.filter (fun m => !(s.answerable m && decide (m.input < 96)))).foldl (fun s m => if m.ofPorter then s.answerHeld m else s.remove m) s
    ((s.failStalls p).recoverPort p).relocPort p

/-- Hold a port for one cause (R109): the link goes to Detect unless only IDE causes hold it. -/
def State.holdPort (s : State) (p : Nat) (c : HoldCause) : State :=
  if s.holds.contains (p, c) then s
  else
    let was := s.isHeld p
    let s := ({ s with holds := s.holds ++ [(p, c)] }).put F.PORT_STATUS_HELD 1 p
    let s := if ideCause p c || s.linkState p == lsDisabled || s.linkState p == lsDetect then s else s.linkFalls p (s.restState p)
    if was then s else s.holdStarts p

/-- End some causes of a port's hold; it is released when none remains (R109). -/
def State.unhold (s : State) (p : Nat) (f : HoldCause → Bool) : State :=
  let s := { s with holds := s.holds.filter (fun e => !(e.1 == p && f e.2)) }
  s.putFlag F.PORT_STATUS_HELD (s.isHeld p) p

/-- A port tied to a slot whose hold line the Grate asserts is held (R34); one that no asserted line names is not held for it. -/
def State.lineCheck (s : State) (p : Nat) : State :=
  if (match s.slotOf p with | some n => s.holdLine n | none => false) then s.holdPort p .line
  else s.unhold p (fun c => decide (c = .line))

/-! ## Port reset (R40, R107, R622) -/

/-- The messages of a port's queues and hold lists, and what was forwarded to it: requests are answered as R109 answers a held
port, with its fault for a write that was forwarded; responses in a Host port's queue are lost with its link (R40). -/
def State.portSweep (s : State) (p : Nat) : State :=
  let s := if s.isHostPort p then
      ((s.msgs.filter (fun m => (m.isAnswer || m.said.isSome) && m.dst == p)).foldl (fun s m => s.remove m) s).snoopsAbsent p
    else
      let sent := s.msgs.filter (fun m => m.dst == p && (decide (m.stage = .atDevice) || decide (m.stage = .queued)))
      let s := (sent.filter (fun m => m.squashed)).foldl (fun s m => s.remove m) s
      s.answerForwarded p (sent.filter (fun m => !m.squashed))
  s.answerAll (s.msgs.filter (fun m => m.input == p && !m.isAnswer && (decide (m.stage = .held) || decide (m.stage = .atChecker))))

/-- What a reset of a port ends beside its registers: old keys, tests, a hold for an Insecure stream or for a switch below it; a
Viral hold may now end through training (R79, R100, R105, R107, R113). REFCLK_LOST shows the PLL, which no such reset reaches (R56). -/
def State.portForgets (s : State) (p : Nat) (lost : Nat) : State :=
  let gone (c : HoldCause) : Bool := decide (c = .insecure) || decide (c = .switchBelow)
  let s := { s with oldKeys := s.oldKeys.filter (fun x => x != p),
                    expired := s.expired.filter (fun e => e.1 != p), links := tabErase p s.links,
                    holds := s.holds.filter (fun e => !(e.1 == p && gone e.2)),
                    lanes := { s.lanes with viralRetrain := s.lanes.viralRetrain.filter (fun x => x != p) ++ [p] } }
  let s := (s.put F.PHY_STATUS_REFCLK_LOST lost p).put F.PHY_STATUS_LINK_STATE (s.restState p) p
  s.putFlag F.PORT_STATUS_HELD (s.isHeld p) p

/-- A port enters reset: its link falls, its streams lose their keys, its block returns to its reset values (R40, R107). -/
def State.portResetStart (s : State) (p : Nat) : State :=
  let lost := s.get F.PHY_STATUS_REFCLK_LOST p
  let s := s.linkFalls p (s.restState p)
  let s := (((s.portSweep p).resetRegs (fun k => keyPort k == some p)).bulkZero p).portForgets p lost
  { s with resetPorts := s.resetPorts.filter (fun x => x != p) ++ [p] }

/-- A port leaves reset: Detect, or Disabled (R622). -/
def State.portResetEnd (s : State) (p : Nat) : State :=
  let s := { s with resetPorts := s.resetPorts.filter (fun x => x != p) }
  s.setLinkState p (s.restState p)

/-! ## Stall reset (R259 to R263) -/

/-- Start a Stall reset; a Failed Stall is Failed again after it, since only the resume command ends that (R265; DEDUCED, log
entry 171). -/
def State.stallResetStart (s : State) (st : Nat) : State :=
  if s.stall st == stResetting then s
  else
    let s := s.setEmul st { s.emul st with failsAfter := s.stall st == stFailed }
    let s := s.setStall st stResetting
    s.rlActive.foldl (fun s x => if decide (s.rlSlice x = ⟨false, st, (s.rlSlice x).way⟩) then s.rlTaint x else s) s

/-- QUENCH in one half: QUENCHED clears when it changes from 0 to 1 (R215). -/
def State.quenchHalf (s : State) (h st : Nat) (b : Bool) : State :=
  let s := if b && !s.flag F.METER_CTRL_QUENCH h st then s.put F.METER_CTRL_QUENCHED 0 h st else s
  s.putFlag F.METER_CTRL_QUENCH b h st

/-- QUENCH of a Stall in both halves' meter entries; QUENCHED clears when it is set (R215). -/
def State.setQuench (s : State) (st : Nat) (b : Bool) : State :=
  let s := (s.quenchHalf 0 st b).quenchHalf 1 st b
  if b && s.stall st == stBound then s.setStall st stQuenched
  else if !b && s.stall st == stQuenched && !s.erasing st then s.setStall st stBound else s

/-- The erase of a Stall loses a range to quarantine: it will end with Media Failure (R253, R270). -/
def State.eraseFails (s : State) (r : DevRange) : State :=
  match r.stall with
  | some st => if r.forErase then s.setEmul st { s.emul st with failed := true } else s
  | none => s

/-! ## Half reset (R40, R46, R335, R369) -/

/-- A completion that the reset half was holding toward the other half: its request is answered to its requester as the rest are
(R46). -/
def State.answerLost (s : State) (h : Nat) : State :=
  (s.msgs.filter (fun m => m.isAnswer && (m.half == h || decide (m.stage = .onSeam)) && decide (m.dst < 124)
      && (if m.dst < 96 then halfOf m.dst else (m.dst - 96) / 14) != h && (decide (96 ≤ m.dst) || m.host.isSome))).foldl
    (fun s m =>
      let r := m.unanswered
      let s := (s.remove m).answerHeld r
      if r.writes && decide (r.input < 96) then s.raise (768 + (1 - h)) r.info else s) s

/-- Requests of the surviving half that are in the reset half, on the Seam or at its devices: answered at once, each
dropped write a fault on the Seam source of the survivor (R46). -/
def State.answerSurvivor (s : State) (h : Nat) : State :=
  ((s.answerLost h).msgs.filter (fun m => ((decide (m.input < 96) && halfOf m.input != h && m.host.isSome) || (m.ofPorter && (m.input - 96) / 14 != h))
      && !m.isAnswer && decide (m.op ≠ .mirror) && decide (m.stage ≠ .returned) && (m.half == h || decide (m.stage = .onSeam) || (decide (m.dst < 96) && halfOf m.dst == h && decide (m.stage = .atDevice))))).foldl
    (fun s m =>
      if m.squashed then s.remove m
      else
        let s := s.answerHeld m
        if m.writes && decide (m.input < 96) then s.raise (768 + (1 - h)) m.info else s) (s.answerLost h)

/-- Whether a message leaves the device with a half that is reset. -/
def Msg.purged (m : Msg) (h : Nat) : Bool :=
  m.half == h || (decide (m.input < 96) && halfOf m.input == h)
    || (decide (m.dst < 96) && halfOf m.dst == h && (m.isAnswer || decide (m.stage = .onSeam))) || m.input == 124 + h
    || decide (m.stage = .onSeam)

/-- Everything else of the reset half leaves the device; what it held in the other half's buffer is freed there. -/
def State.purgeHalf (s : State) (h : Nat) : State :=
  let gone := s.msgs.filter (fun m => m.purged h && m.half != h)
  let s := { s with
    msgs := s.msgs.filter (fun m => !m.purged h),
    buf := { s.buf with pointers := s.buf.pointers.filter (fun e => e.1 / 120 != h),
                        store := s.buf.store.filter (fun e => e.1 / 2 ^ 20 != h),
                        skid := s.buf.skid.filter (fun e => e.1 / 120 != h),
                        orphans := s.buf.orphans.filter (fun o => o.half != h),
                        deficits := s.buf.deficits.filter (fun e => e.1 / 4096 != h),
                        starved := s.buf.starved.filter (fun n => halfOf (n / 4) != h),
                        sessions := s.buf.sessions.filter (fun e => e.1 / 8 != h) },
    links := s.links.filter (fun e => linkHalf e.1 != h || isSeam e.1),
    spans := s.spans.filter (fun e => halfOf e.1 != h),
    channels := s.channels.filter (fun e => e.1 / 14 != h) }
  gone.foldl (fun s m => s.freeCells m.half m.cells) s

/-- The home engine of a half loses its cache; slices that it homes are recovering if its Ledger was not clean (R335,
R339). -/
def State.homeLost (s : State) (h : Nat) (recover : Bool) : State :=
  let s := if recover then
      (s.regionSlices.filter (fun r => s.homeOf 0 r == h)).foldl (fun s r => s.markRecovering r.obj r.way) s
    else s
  s.withMarket (fun m => { m with cache := m.cache.filter (fun e => e.half != h), flows := m.flows.filter (fun f => f.half != h),
                                  retiring := m.retiring.filter (fun e => e.1 / 192 != h),
                                  gone := m.gone.filter (fun e => e.1 / 192 != h), late := m.late.filter (fun e => e.1 != h) })

/-- The Seam is down: both ends of every channel (R46, R152). -/
def State.seamAllDown (s : State) : State := (List.range 16).foldl (fun s c => s.linkDown (96 + c)) s

/-- Registers that a half holds outside its own blocks: counter units, Stall counters, Ledger wear counts (R567, R573,
R584), and the checkers of the hosts on its ports. -/
def State.keyUnit (s : State) (h : Nat) (k : Key) : Bool :=
  match k.reg with
  | .PMU_CTRL | .PMU_OVF | .PMU_CYCLE | .PMU_EVSEL | .PMU_COUNT => pmuHalf k.i == some h
  | .STALL_RD | .STALL_WR | .STALL_IO | .STALL_POISON | .WEAR_LEDGER_CE => k.i == h
  | .CHK_CTRL | .CHK_NOMATCH | .CHK_DENIED | .CHK_LAST_ADDR =>
    match s.hostPort k.i with | some p => halfOf p == h | none => false
  | _ => false

/-- What a half loses in any reset that reaches it (R40): engines, messages, links, registers. -/
def State.halfClear (s : State) (h : Nat) (recover : Bool) : State :=
  let s := (s.homeLost h recover).purgeHalf h
  let s := s.rlActive.foldl (fun s x => s.rlTaint x) s
  let s := (portsOf h).foldl (fun s p => s.linkFalls p (s.restState p)) s
  let lost := (portsOf h).map (fun p => (p, s.get F.PHY_STATUS_REFCLK_LOST p))
  let s := s.resetRegs (fun k => keyHalf k == some h || s.keyUnit h k)
  let s := lost.foldl (fun s e => s.portForgets e.1 e.2) s
  let ops := (portsOf h).filter (fun p => s.resetPorts.contains p)
  let s := ops.foldl (fun s p => s.endOp (.resetPort p) .aborted) s
  let s := (List.range 14).foldl (fun s c => s.endOp (.chain (14 * h + c)) .aborted) s
  { s with txns := { s.txns with closed := s.txns.closed.filter (fun p => halfOf p != h) },
           resetHalves := s.resetHalves.filter (fun x => x != h) ++ [h], resetPorts := s.resetPorts.filter (fun p => halfOf p != h) }

/-- A half enters reset (R40, R46). -/
def State.halfResetStart (s : State) (h : Nat) : State :=
  if s.resetHalves.contains h then s else (s.seamAllDown.answerSurvivor h).halfClear h true

/-- The Hearth reloads a half and releases its ports (R46, R622): the committed configuration at the current epoch,
both buckets of every meter full (R209); the slot hold lines act (R34). -/
def State.halfReload (s : State) (h : Nat) : State :=
  let s := (s.put F.HALF_EPOCH_V (s.get F.EPOCH_V) h).put F.HALF_COMMIT_V (s.get F.COMMIT_ID_V) h
  let s := { s with resetHalves := s.resetHalves.filter (fun x => x != h), ahead := s.ahead.filter (fun e => e.1 != h),
                    buf := { s.buf with seamRefused := [] } }
  let s := s.fillMeters h
  (portsOf h).foldl (fun s p => (s.setLinkState p (s.restState p)).lineCheck p) s

/-! ## Reactions (R503, R504) -/

/-- Ash (R504): both halves in reset, every Porter channel and relocation context stopped, FAULT_N low. -/
def State.enterAsh (s : State) : State :=
  if s.flag F.FC_STATUS_ASH then s
  else
    let s := s.put F.FC_STATUS_ASH 1
    let s := (s.halfResetStart 0).halfResetStart 1
    let s := s.rlActive.foldl (fun s x => if s.rlState x == rlStopped then s else s.rlStop x) s
    let s := (s.put F.BANK_STATUS_LEDGER_CLEAN_E 0).put F.BANK_STATUS_LEDGER_CLEAN_W 0
    s.irqTouch 256

/-- Carry out one reaction (R503). -/
def State.react (s : State) : Todo → State
  | .post st b => s.postRecord st b
  | .containPort p n => s.holdPort p (.fault n)
  | .containStall st n =>
    let s := if s.quenchSet st && !s.containQuench.any (fun e => e.2 == st) then s
      else { (s.setQuench st true) with containQuench := s.containQuench ++ [(n, st)] }
    s.stallResetStart st
  | .douse h =>
    if s.get F.PWR_STATE_STATE == 5 then { s with power := { s.power with douses := s.power.douses.filter (fun x => x != h) ++ [h] } }
    else (s.halfResetStart h).wr .FC_DOUSED (Word.setBits (s.rd .FC_DOUSED) h 1 1)
  | .ash =>
    if s.get F.PWR_STATE_STATE == 5 && !s.flag F.FC_SRC_LATCHED 1023 then { s with power := { s.power with ashWaits := true } }
    else s.enterAsh

/-- Carry out the reactions that faults have started, and those that these start in turn. Each source latches once
(R497), so there are at most 1,024 of them, each with at most one record to post. -/
def State.settleN (s : State) : Nat → State
  | 0 => { s with todo := [] }
  | n + 1 =>
    match s.todo with
    | [] => s
    | t :: rest => State.settleN (State.react { s with todo := rest } t) n

/-- The reactions of a command, all carried out. -/
def State.settle (s : State) : State := s.settleN 2048

end Sys2Proof.Machine
end

