-- ==== Sys2Proof/Machine/Settle.lean ====
section
/-!
DEFINITION. The end of every command: the reactions that its faults started are carried out (R503), and the next
state is answered.
-/
namespace Sys2Proof.Machine

/-- The outcome of a command whose effect is a state. -/
def done (s : State) : Host.Outcome State Fault Refusal := .next s.settle

end Sys2Proof.Machine
end

