-- ==== Sys2Proof/Machine/Parts.lean ====
section
/-!
DEFINITION. Access to the parts of the state that several chapters share: Hearth, power ladder, security, ECP, flash,
slot channels, Porter channels, telemetry.
-/
namespace Sys2Proof.Machine

def State.withHearth (s : State) (f : Hearth → Hearth) : State := { s with hearth := f s.hearth }
def State.withPower (s : State) (f : Power → Power) : State := { s with power := f s.power }
def State.withSec (s : State) (f : Security → Security) : State := { s with sec := f s.sec }
def State.withEcp (s : State) (f : Ecp → Ecp) : State := { s with ecp := f s.ecp }
def State.withFlash (s : State) (f : Flash → Flash) : State := { s with flash := f s.flash }
def State.withTelem (s : State) (f : Telemetry → Telemetry) : State := { s with telem := f s.telem }

/-- A core beside its registers. -/
def State.core (s : State) (c : Nat) : CoreUnit := numGet {} c s.hearth.cores
def State.setCore (s : State) (c : Nat) (x : CoreUnit) : State := s.withHearth (fun h => { h with cores := numPut {} c x h.cores })

/-- A slot channel beside its registers. -/
def State.slot (s : State) (n : Nat) : SlotUnit := numGet {} n s.slots
def State.setSlot (s : State) (n : Nat) (x : SlotUnit) : State := { s with slots := numPut {} n x s.slots }

/-- A Porter channel beside its registers. -/
def State.chan (s : State) (c : Nat) : Channel := numGet {} c s.channels
def State.setChan (s : State) (c : Nat) (x : Channel) : State := { s with channels := numPut {} c x s.channels }

/-! ## The rungs of the ladder (R540, R561) -/
abbrev rungBlaze : Nat := 0
abbrev rungGlow : Nat := 1
abbrev rungSmoulder : Nat := 2
abbrev rungBanked : Nat := 3
abbrev rungEmber : Nat := 4
abbrev rungBanking : Nat := 5
abbrev rungKindling : Nat := 6

/-- The power state. Banked and Ember are stored as 3 and 4, which no agent is there to read (R561). -/
def State.rung (s : State) : Nat := s.get F.PWR_STATE_STATE

/-- Enter a power state: its interrupt and its event (R450, R593). -/
def State.setRung (s : State) (v : Nat) : State :=
  if s.rung == v then s else ((s.put F.PWR_STATE_STATE v).irqEvent 261).event 0x07F0 [v]

/-- An exit cause of Glow or Smoulder (R541): the return to Blaze begins; a commanded entry on its way ends ABORTED. -/
def State.exitCause (s : State) : State :=
  let s := match s.power.entering with
    | some t => (s.withPower (fun p => { p with entering := none })).endOp (.powerState t) .aborted
    | none => s
  if s.rung == rungGlow || s.rung == rungSmoulder then s.withPower (fun p => { p with leaving := true }) else s

/-! ## Scratchpad (R410, R458, R461) -/

/-- The scratchpad bank of an address: 2 MiB each, in ascending order (R458). -/
def bankOf (a : Nat) : Nat := (a - 0x10000000) / 0x200000

/-- Whether an address lies in the sealed part (R410). -/
def inSealed (a : Nat) : Bool := decide (0x11F00000 ≤ a) && decide (a < 0x12000000)

/-- A denied access to the sealed part (R410). -/
def State.sealedDenied (s : State) (a : Nat) : State := (s.bump F.SEALED_DENIED_V 1).raise 788 { addr := some a }

/-- An access to a scratchpad bank wakes it from retention (R461); counter unit 227 counts it. -/
def State.touchBank (s : State) (a : Nat) : State :=
  let b := bankOf a
  let s := s.count 227 0 1
  let s := if s.flag F.SP_BANK_CTRL_RETAINED b then (s.put F.SP_BANK_CTRL_RETAINED 0 b).count 227 3 1 else s
  s.withHearth (fun h => { h with used := h.used.filter (fun x => x != b) ++ [b] })

/-- The group of spare columns that a column belongs to, as the field of its free spares (R462). -/
def spareField (col : Nat) : Fld :=
  if col < 256 then F.SP_REPAIR_SPARES0 else if col < 512 then F.SP_REPAIR_SPARES1 else F.SP_REPAIR_SPARES2

/-- REPAIR (R462). -/
def State.softRepair (s : State) (b col : Nat) : State :=
  if s.flag F.SP_BANK_CTRL_REPAIR_BUSY b || 623 < col then s
  else if s.get (spareField col) b == 0 then s.raise 785
  else
    let s := (s.put (spareField col) (s.get (spareField col) b - 1) b).withHearth (fun h => { h with repairs := h.repairs ++ [(b, col)] })
    if s.hearth.used.contains b then s.put F.SP_BANK_CTRL_REPAIR_BUSY 1 b else s

/-- Microseconds since a moment. -/
def State.since (s : State) (t : Nat) : Nat := (s.now - t) / 1000

end Sys2Proof.Machine
end

