-- ==== Sys2Proof/Machine/Lanes.lean ====
section
/-!
DEFINITION. Lanes, Equalisation and Bring-Up: clocks of the port groups, training, equalisation and its records,
bonding, loopbacks and patterns, margining, lane retirement (R52 to R88).
-/
namespace Sys2Proof.Machine

/-- Fold over the four ports of a group (R55). -/
def State.eachGroupPort (s : State) (g : Nat) (f : State → Nat → State) : State :=
  [4 * g, 4 * g + 1, 4 * g + 2, 4 * g + 3].foldl f s

/-! ## Reference clocks (R56) -/

/-- Whether a link is in a state that losing its clock takes to Detect. -/
def State.hasLink (s : State) (p : Nat) : Bool :=
  s.linkState p != lsDisabled && s.linkState p != lsDetect && s.linkState p != lsOff

/-- A link error: family 0 of the port, and at a Host port the report to its host by the error registers of its upstream switch
port: Receiver Error (R114; bit position PRESUMED, log entries 141 and 157). -/
def State.linkError (s : State) (p : Nat) : State :=
  (if s.isHostPort p && !s.hearthDown then
      (s.vpRaise (s.get F.PORT_CFG_HOST_ID p) 64 Config.aerCorrectable 1).emit (.linkError p)
    else s).raise (8 * p)

/-- A port's part of a lock loss (R56). -/
def State.portLockLoss (s : State) (p : Nat) : State :=
  let s := s.put F.PHY_STATUS_REFCLK_LOST 1 p
  let s := if s.hasLink p then s.linkFalls p (s.restState p) else s
  s.linkError p

def State.pllLockLoss (s : State) (g : Nat) : State :=
  let v := s.rd .CLK_GROUP_LOCK
  let s := (s.wr .CLK_GROUP_LOCK (Word.setBits v g 1 0)).bump F.CLK_LOSS_GROUPS 1
  let s := s.count (192 + g) 0 1
  s.eachGroupPort g State.portLockLoss

/-- PLL_LOCK_LOSS (R56). -/
def execPllLockLoss (g : Fin 24) (s : State) : Host.Outcome State Fault Refusal := done (s.pllLockLoss g.val)

/-- A port's part of a relock: REFCLK_LOST clears and bring-up begins again without any command (R56). -/
def State.portRelock (s : State) (p : Nat) : State :=
  let s := s.put F.PHY_STATUS_REFCLK_LOST 0 p
  if s.linkState p == lsDetect then s.setLinkState p (s.restState p) else s

def State.pllRelock (s : State) (g : Nat) : State :=
  let s := s.wr .CLK_GROUP_LOCK (Word.setBits (s.rd .CLK_GROUP_LOCK) g 1 1)
  s.eachGroupPort g State.portRelock

/-- PLL_RELOCK (R56). -/
def execPllRelock (g : Fin 24) (s : State) : Host.Outcome State Fault Refusal := done (s.pllRelock g.val)

/-! ## Skip ordered sets (R58, R59) -/

/-- One unit of skip content toward the nominal fill, if the set carries enough (R58, R59). -/
def skipAdjust (fill : Int) (enough : Bool) : Int :=
  if fill < 0 then fill + 1 else if 0 < fill ∧ enough then fill - 1 else fill

/-- The fill after the drift since the last set and this set's adjustment. -/
def State.elasticAfter (s : State) (p k : Nat) (drift : Int) (enough : Bool) : Int :=
  skipAdjust (numGet 0 (8 * p + k) s.lanes.elastic + drift) enough

/-- A set's adjustment; `errors` are the code, disparity and sync-header errors and corrected symbols that the lane saw since
the last set (R59, R87). -/
def State.skpOrderedSet (s : State) (p k : Nat) (drift : Int) (enough : Bool) (errors : Nat) : State :=
  let fill := s.elasticAfter p k drift enough
  let s := if errors = 0 then s else (s.bump F.LANE_ERR_V errors p k).count p 2
      (if 5 ≤ s.get F.PHY_STATUS_CUR_RATE (s.linkPort p) then errors else 0)
  if fill < -32 ∨ 32 < fill then
    let s := { s with lanes := { s.lanes with elastic := numPut 0 (8 * p + k) 0 s.lanes.elastic } }
    let s := ((s.bump F.LANE_ERR_V 1 p k).put F.LANE_STATUS_ELASTIC_ERR 1 p k).count (192 + p / 4) 1 1
    let p := s.linkPort p
    if s.linkState p == lsL0 || s.linkState p == lsL0p then s.toRecovery p else s
  else { s with lanes := { s.lanes with elastic := numPut 0 (8 * p + k) fill s.lanes.elastic } }

/-- SKP_ORDERED_SET (R58): `drift` is what the clocks drifted since the last set, in units. -/
def execSkpOrderedSet (p : Port) (k : Lane) (drift : Int) (set : SkipSet) (s : State) : Host.Outcome State Fault Refusal :=
  done (s.skpOrderedSet p.val k.val drift set.enough set.errors.val)

/-! ## Bring-up (R60 to R64, R70, R71, R93 to R95) -/

/-- What the partner of a port showed at its last training. -/
def State.trainingOf (s : State) (p : Nat) : Option Training := tabFind p s.lanes.training

/-- The port's highest rate: MAX_RATE, capped at 32 GT/s for ROLE 7 (R60, R92). -/
def State.rateCap (s : State) (p : Nat) : Nat :=
  if s.role p == 7 then min 4 (s.get F.PHY_CTRL_MAX_RATE p) else s.get F.PHY_CTRL_MAX_RATE p

/-- Whether a role speaks CXL (R89). -/
def cxlRole (r : Nat) : Bool := r == 1 || r == 3 || r == 4

/-- The framing that a link takes at a rate, as PORT_STATUS.FLIT codes it: 0 non-flit, 1 68-byte, 2 256-byte, 3
latency-optimised; none where the role and the partner have no framing at that rate (R52, R92, R95). -/
def State.framing (s : State) (p : Nat) (t : Training) (rate : Nat) : Option Nat :=
  let r := s.role p
  if r == 6 || r == 7 then (if 2 ≤ rate ∧ (r = 6 ∨ rate ≤ 4) then some 2 else none)
  else if rate < 2 then some 0
  else if cxlRole r then
    if t.flitLo && s.flag F.PORT_CFG_LO_FLIT_EN p then some 3
    else if t.flit256 then some 2
    else if t.flit68 && s.flag F.PORT_CFG_FLIT68_EN p && decide (rate ≤ 4) then some 1 else none
  else if t.flitPcie then some 2
  else if rate ≤ 4 then some 0 else none

/-- Whether a rate may be tried: the partner advertises it, it is within the cap, it has a framing, and neither it nor a lower
rate has failed since the last RETRAIN (R52, R60, R63). -/
def State.rateOpen (s : State) (p r : Nat) : Bool :=
  decide (r ≤ s.rateCap p) && Word.bits (s.rd .PARTNER_RATES p) r 1 == 1
    && (match s.trainingOf p with | some t => (s.framing p t r).isSome | none => true)
    && (List.range (r + 1)).all (fun k => Word.bits (s.rd .PHY_STATUS p) (8 + k) 1 == 0)

/-- The next rate of the step-up above `r`: from 8 GT/s in turn; 5 GT/s only where the partner stops there (R60). -/
def State.nextRate (s : State) (p r : Nat) : Option Nat :=
  match ([2, 3, 4, 5, 6].filter (fun x => decide (r < x))).find? (fun x => s.rateOpen p x) with
  | some x => some x
  | none => if r == 0 && s.rateOpen p 1 then some 1 else none

/-- The lanes that a width of `n` uses out of `total`, with or without reversal (R64, R77). -/
def widthLanes (total n : Nat) (reversed : Bool) : List Nat :=
  (List.range n).map (fun i => if reversed then total - 1 - i else i)

/-- How many lanes a port has (R76). -/
def State.laneCount (s : State) (p : Nat) : Nat := if s.bonded p then 16 else 8

/-- Whether lanes of a port are usable: trained and not retired (R64). -/
def State.lanesOk (s : State) (p : Nat) (t : Training) (ls : List Nat) : Bool :=
  ls.all (fun k => t.trained.toNat / 2 ^ k % 2 == 1 && Word.bits (s.rd .LANE_RETIRE (p + k / 8)) (k % 8) 1 == 0)

/-- The widths in the order of R64 and R77: lanes, the bit of the partner's support, the MAX_WIDTH codes that permit it. -/
def widthOrder : List (Nat × Nat × Nat) := [(16, 4, 0), (8, 3, 0), (4, 2, 1), (2, 1, 2), (1, 0, 3)]

/-- Whether the port's lanes may run in an orientation: one end reverses where the lanes are crossed, or where a width needs it
(R53, R64; log entry 144). -/
def State.turnOk (s : State) (p : Nat) (t : Training) (reversed : Bool) : Bool :=
  if reversed then s.flag F.PHY_CTRL_LANE_REV_EN p && (t.crossed || t.reversal) else !t.crossed || t.reversal

/-- The width and reversal a port settles at within a MAX_WIDTH code, if any (R64, R77): widest first, and at one width the
orientation that the lanes show before the other. -/
def State.settleAt (s : State) (p cap : Nat) (t : Training) : Option (Nat × Bool) :=
  let total := s.laneCount p
  let fits (n : Nat) (r : Bool) : Bool := s.turnOk p t r && s.lanesOk p t (widthLanes total n r)
  (widthOrder.filter (fun e => decide (e.1 ≤ total) && decide (cap ≤ e.2.2) && t.widths.toNat / 2 ^ e.2.1 % 2 == 1)).findSome?
    (fun e => if fits e.1 t.crossed then some (e.1, t.crossed) else if fits e.1 (!t.crossed) then some (e.1, !t.crossed) else none)

/-- The width and reversal of a bring-up or RETRAIN, under MAX_WIDTH as it stands (R64, R65). -/
def State.settleWidth (s : State) (p : Nat) (t : Training) : Option (Nat × Bool) :=
  s.settleAt p (s.get F.PHY_CTRL_MAX_WIDTH p) t

/-- The protocol that a role offers and requires (R89, R93). -/
def roleProtocol (r : Nat) : LinkProtocol :=
  if r == 1 || r == 4 then .cxl true true else if r == 3 then .cxl false true else if r == 6 || r == 7 then .cascade else .pcie

/-- Whether the partner's answer carries what the role requires (R93 to R95): the CXL.mem of a root port or memory device, some
CXL sub-protocol of an accelerator, and a flit that the port may run. -/
def State.protocolOk (s : State) (p : Nat) (t : Training) : Bool :=
  match roleProtocol (s.role p), t.answer with
  | .cxl _ _, .cxl cache mem =>
    (mem || (s.role p == 4 && cache)) && (s.framing p t 2).isSome
  | .cascade, .cascade => true
  | .pcie, .pcie => true
  | _, _ => false

/-- What a port offers in Configuration (R93). -/
def State.offerLink (s : State) (p : Nat) : State :=
  let cxl := cxlRole (s.role p)
  s.emit (.offer p (roleProtocol (s.role p)) cxl cxl (cxl && s.flag F.PORT_CFG_LO_FLIT_EN p))

/-- The tag of a lane (R70): the CRC-32 of the partner's training sets, then of a byte with polarity in bit 0 and reversal in
bit 1 (log entry 145). -/
def tagOf (t : Training) (k : Nat) (reversed : Bool) : Nat :=
  crc32 (t.sets.getD k [] ++ [BitVec.ofNat 8 (t.inverted.toNat / 2 ^ k % 2 + 2 * reversed.toNat)])

/-- The settled rate code that every record of the lanes names, when bypass may be used (R63, R71). -/
def State.bypassRate (s : State) (p : Nat) (t : Training) (ls : List Nat) : Option Nat :=
  let word (k n : Nat) := s.rd .LANE_EQ_RECORD (p + k / 8) (8 * (k % 8) + n)
  let rate (k : Nat) := Word.bits (word k 1) 8 3
  match ls with
  | [] => none
  | k0 :: _ =>
    if s.flag F.PHY_CTRL_EQ_BYPASS_EN p && t.bypass && ls.all (fun k => Word.bits (word k 1) 31 1 == 1)
        && ls.all (fun k => rate k == rate k0) && ls.all (fun k => numGet 0 (8 * p + k) s.lanes.tags == (word k 0).toNat)
        && s.rateOpen p (rate k0) then
      some (rate k0)
    else none

/-- The lanes in use, their logical numbers, the width and the reversal (R64, R76). -/
def State.recordWidth (s : State) (p : Nat) (w : Nat × Bool) : State :=
  let total := s.laneCount p
  let ls := widthLanes total w.1 w.2
  let s := s.eachLane p (fun s q j =>
    let k := 8 * (q - p) + j
    (s.putFlag F.LANE_STATUS_IN_USE (ls.contains k) q j).put F.LANE_STATUS_LOGICAL (if w.2 then total - 1 - k else k) q j)
  (s.put F.PHY_STATUS_CUR_WIDTH w.1 p).putFlag F.PHY_STATUS_REVERSED w.2 p

/-- A port that was in L0p is back at its full width (R75). -/
def State.widen (s : State) (p : Nat) : State :=
  match numGet 0 p s.lanes.fullWidth with
  | 0 => s
  | w => State.recordWidth { s with lanes := { s.lanes with fullWidth := numPut 0 p 0 s.lanes.fullWidth } } p (w, s.flag F.PHY_STATUS_REVERSED p)

/-- Record what training settled: partner rates, polarity, tags, logical lane numbers, width, reversal, protocol. -/
def State.recordTraining (s : State) (p : Nat) (t : Training) (w : Nat × Bool) : State :=
  let s := { s with lanes := { s.lanes with training := tabErase p s.lanes.training ++ [(p, t)],
                                            widthCap := numPut 0 p (s.get F.PHY_CTRL_MAX_WIDTH p) s.lanes.widthCap } }
  let s := s.put F.PARTNER_RATES_V t.rates.toNat p
  let s := s.eachLane p (fun s q j =>
    let k := 8 * (q - p) + j
    let s := s.put F.LANE_STATUS_POL_INV (t.inverted.toNat / 2 ^ k % 2) q j
    { s with lanes := { s.lanes with tags := numPut 0 (8 * p + k) (tagOf t k w.2) s.lanes.tags } })
  let s := s.recordWidth p w
  let s := s.putFlag F.PORT_STATUS_BI_SUPPORTED t.backInvalidate p
  s.putFlag F.PORT_STATUS_CXL_ACTIVE (s.role p != 2 && s.role p != 5) p

/-- A return to Detect that counts toward R62: after each eight, one fault of the port. -/
def State.countFail (s : State) (p : Nat) : State :=
  let n := numGet 0 p s.lanes.fails + 1
  let s := { s with lanes := { s.lanes with fails := numPut 0 p n s.lanes.fails } }
  if n % 8 == 0 then s.linkError p else s

/-- A hold that lets the link train: an IDE cause keeps it in L0 (R109), and a Viral hold ends only through training after a
reset or reseating (R113). -/
def State.trainable (s : State) (p : Nat) (c : HoldCause) : Bool :=
  ideCause p c || (decide (c = .viral) && s.lanes.viralRetrain.contains p)

/-- Whether a port may be brought up: its group PLL is locked, no hold keeps it in Detect, its slot reports seating and power
good, no lane is under boundary scan, and neither port nor half is in reset (R54, R56, R60, R74, R109). -/
def State.mayLeaveDetect (s : State) (p : Nat) : Bool :=
  Word.bits (s.rd .CLK_GROUP_LOCK) (p / 4) 1 == 1 && !s.flag F.PHY_STATUS_REFCLK_LOST p
    && (s.holdCauses p).all (fun c => s.trainable p c) && !(match s.slotOf p with | some n => s.holdLine n | none => false)
    && s.role p != 0 && !s.scanned p && !s.lanes.disabled.contains p && !s.resetPorts.contains p && !s.resetHalves.contains (halfOf p)

/-- Whether a port's bring-up may start: it rests in Detect. -/
def State.mayTrain (s : State) (p : Nat) : Bool := s.linkState p == lsDetect && s.mayLeaveDetect p

/-- Polling ended: what Configuration settles (R53, R60, R64, R71, R93 to R95). -/
def State.configure (s : State) (p : Nat) (t : Training) : State :=
  let s := s.put F.PARTNER_RATES_V t.rates.toNat p
  match s.settleWidth p t with
  | none => s.linkFalls p lsDetect
  | some w =>
    let s := (s.setLinkState p lsConfig).offerLink p
    if s.protocolOk p t then
      let s := s.recordTraining p t w
      let fast := s.bypassRate p t (widthLanes (s.laneCount p) w.1 w.2)
      let rest := s.lanes.bypassing.filter (fun x => x != p)
      { s with lanes := { s.lanes with target := numPut 0 p (fast.getD 0) s.lanes.target,
                                       bypassing := (if fast.isSome then rest ++ [p] else rest),
                                       fromDetect := s.lanes.fromDetect.filter (fun x => x != p) ++ [p] } }
    else ((s.linkFalls p lsDetect).portErr F.PORT_ERR_NEG_FAIL p).countFail p

/-- The receiver is found: Polling; with what the partner shows there, Configuration (R60, R61). -/
def State.receiverDetected (s : State) (p : Nat) (t : Option Training) : State :=
  if s.mayTrain p || s.linkState p == lsPolling then
    match t with
    | none => s.setLinkState p lsPolling
    | some t => s.configure p t
  else s

/-- RECEIVER_DETECTED (R60): Polling, and Configuration once the partner has answered there; none: it has not yet. -/
def execReceiverDetected (p : Port) (t : Option Training) (s : State) : Host.Outcome State Fault Refusal :=
  done (s.receiverDetected p.val t)

/-- DETECT_QUIET_TIMER (R61): the next receiver-detect attempt is made from Detect; attempts are not limited. -/
def execDetectQuietTimer (p : Port) (s : State) : Host.Outcome State Fault Refusal :=
  done (if s.linkState p.val == lsDetect then s.setLinkState p.val (s.restState p.val) else s)

def State.trainingTimeout (s : State) (p : Nat) : State :=
  if s.linkState p == lsPolling || s.linkState p == lsConfig then
    ((s.bump F.DETECT_FAILS_V 1 p).linkFalls p lsDetect).countFail p
  else s

/-- TRAINING_TIMEOUT (R61, R62). -/
def execTrainingTimeout (p : Port) (s : State) : Host.Outcome State Fault Refusal := done (s.trainingTimeout p.val)

/-! ## Equalisation records (R69 to R73, R88) -/

/-- Capture the record of lane `j` in block `q` of port `p`: tag, VALID, TJ, RATE, logical lane, polarity, coefficients,
receiver (R69, R76, R88). TJ is measured (R618), so it is free (log entry 20). -/
def State.captureLane (s : State) (p q j : Nat) : State :=
  let (tj, s) := s.draw 8
  let w1 : Nat := 2 ^ 31 + tj * 2 ^ 16 + s.get F.PHY_STATUS_CUR_RATE p * 2 ^ 8
    + s.get F.LANE_STATUS_LOGICAL q j * 2 + s.get F.LANE_STATUS_POL_INV q j
  let put (s : State) (n v : Nat) := s.wr .LANE_EQ_RECORD (BitVec.ofNat 64 v) q (8 * j + n)
  let s := put s 0 (numGet 0 (8 * q + j) s.lanes.tags)
  let s := put s 1 w1
  let s := put s 2 (s.rd .LANE_TXEQ q j).toNat
  let s := put s 3 (numGet 0 (8 * q + j) s.lanes.partnerTx)
  let s := put s 4 ((s.rd .LANE_RXEQ q j).toNat % 2 ^ 31)
  let s := put s 5 (s.rd .LANE_DFE0 q j).toNat
  let s := put s 6 (s.rd .LANE_DFE1 q j).toNat
  put s 7 (s.rd .LANE_DFE2 q j).toNat

/-- Capture the records of the lanes in use (R69). -/
def State.captureRecords (s : State) (p : Nat) : State :=
  s.eachLane p (fun s q j => if s.flag F.LANE_STATUS_IN_USE q j then s.captureLane p q j else s)

/-- Load a record into both transmitters and the receiver (R71). -/
def State.loadRecord (s : State) (q j : Nat) : State :=
  let r (n : Nat) := s.rd .LANE_EQ_RECORD q (8 * j + n)
  let fz := s.get F.LANE_RXEQ_FREEZE q j
  let s := s.wr .LANE_TXEQ (r 2) q j
  let s := { s with lanes := { s.lanes with partnerTx := numPut 0 (8 * q + j) (r 3).toNat s.lanes.partnerTx } }
  let s := (s.wr .LANE_RXEQ (r 4) q j).put F.LANE_RXEQ_FREEZE fz q j
  ((s.wr .LANE_DFE0 (r 5) q j).wr .LANE_DFE1 (r 6) q j).wr .LANE_DFE2 (r 7) q j

/-- Load the records of the lanes in use that are usable at the port's rate (R71, R85). -/
def State.loadRecords (s : State) (p : Nat) : State :=
  s.eachLane p (fun s q j =>
    let w := s.rd .LANE_EQ_RECORD q (8 * j + 1)
    if s.flag F.LANE_STATUS_IN_USE q j && Word.bits w 31 1 == 1 && Word.bits w 8 3 == s.get F.PHY_STATUS_CUR_RATE p then
      s.loadRecord q j
    else s)

/-! ## Lane retirement on a Cascade link (R155) -/

/-- The lanes of a port that stay active: those that its link transmits on, less the retired ones (R155). -/
def State.activeMask (s : State) (p : Nat) : Nat :=
  Nat.land ((s.link p).txMask % 256) (255 - s.get F.LANE_RETIRE_RETIRED p)

/-- Start a retirement on a Cascade link: four retire-control flits with COUNT 16 to 13 (R155). -/
def State.retireStart (s : State) (p : Nat) : State :=
  let m := s.activeMask p
  let x := s.link p
  let s := s.setLink p { x with retireAsked := true, switchTx := some m, retireDue := false }
  let s := (s.put F.LANE_RETIRE_RETIRE_BUSY 1 p).put F.LL_STATUS_RETIRING 1 p
  s.sendRetire p m false

/-! ## L0 (R60, R63, R69, R72, R96, R113, R147) -/

/-- Training from Detect without Viral ends a Viral hold; with Viral the hold keeps the link in Detect (R113). -/
def State.viralSettle (s : State) (p : Nat) (viral : Bool) : State :=
  let s := { s with lanes := { s.lanes with viralRetrain := s.lanes.viralRetrain.filter (fun x => x != p) } }
  if viral then (if s.holds.contains (p, .viral) then s.linkFalls p (s.restState p) else s)
  else s.unhold p (fun c => decide (c = .viral))

/-- LOW_RATE of a CXL role that settles below 8 GT/s (R96). -/
def State.lowRate (s : State) (p rate : Nat) : State :=
  if cxlRole (s.role p) && decide (rate < 2) then (s.put F.PORT_STATUS_LOW_RATE 1 p).portErr F.PORT_ERR_LOW_RATE p
  else s.put F.PORT_STATUS_LOW_RATE 0 p

/-- Settle the width anew after a RETRAIN or a retirement (R64, R65, R85); none where no width is left. -/
def State.resettleWidth (s : State) (p : Nat) : Option State :=
  if s.lanes.resize.contains p then
    let s := { s with lanes := { s.lanes with resize := s.lanes.resize.filter (fun x => x != p) } }
    match s.trainingOf p with
    | some t => (s.settleAt p (numGet 0 p s.lanes.widthCap) t).map (fun w => s.recordWidth p w)
    | none => some s
  else some s

/-- The link holds L0 at a rate (R52, R60, R68): its framing; below 8 GT/s the receivers at their presets. -/
def State.holdsL0 (s : State) (p rate : Nat) : State :=
  let s := s.put F.PHY_STATUS_CUR_RATE rate p
  let s := match s.trainingOf p with
    | some t => s.put F.PORT_STATUS_FLIT ((s.framing p t rate).getD 0) p
    | none => s
  let s := { s with lanes := { s.lanes with lastGood := numPut 0 p rate s.lanes.lastGood } }
  if rate < 2 then s.eachLane p State.eqOff else s

/-- What a port does when it settles in L0 at its final rate. -/
def State.settleL0 (s : State) (p rate : Nat) (viral : Bool) (full : Bool) : State :=
  let s := (s.aimRate p rate).widen p
  let s := s.setLinkState p lsL0
  let s := s.eachLane p (fun s q j => s.put F.LANE_STATUS_ELASTIC_ERR 0 q j)
  let s := s.lowRate p rate
  let s := if full then s.captureRecords p else s
  let fresh := s.lanes.fromDetect.contains p
  let s := { s with lanes := { s.lanes with fromDetect := s.lanes.fromDetect.filter (fun x => x != p) } }
  let s := s.putFlag F.PORT_STATUS_HELD (s.isHeld p) p
  let s := if s.isCascade p then
      let s := if s.get F.LL_STATUS_STATE p == linkPaused then s.beginReplay p
        else if s.get F.LL_STATUS_STATE p == linkDownState then s.linkStart p false else s
      if (s.link p).retireDue then s.retireStart p else s
    else s
  if fresh then s.viralSettle p viral else s

/-- Leave L0 for the next rate of the step-up (R60): equalising from 8 GT/s, Recovery alone for 5 GT/s. -/
def State.stepTo (s : State) (p r : Nat) : State := (s.aimRate p r).setLinkState p (if r < 2 then lsRecovery else lsRecoveryEq)

/-- A Cascade port below 8 GT/s is never in L0: it stays in Configuration (R92, R96). -/
def State.tooSlow (s : State) (p rate : Nat) : Bool := s.isCascade p && decide (rate < 2)

/-- The link came up at a rate: the next one of the step-up, or L0 for good. `full`: all phases ran at this rate. -/
def State.reachRate (s : State) (p rate : Nat) (viral step full : Bool) : State :=
  let s := s.holdsL0 p rate
  match (if step then s.nextRate p rate else none) with
  | some r => (if s.tooSlow p rate then s else s.setLinkState p lsL0).stepTo p r
  | none => if s.tooSlow p rate then (s.aimRate p rate).setLinkState p lsConfig else s.settleL0 p rate viral full

/-- Whether the link may come up now: from Configuration, from Recovery, or after phases 0 to 3 of the rate (R60). -/
def State.mayReachL0 (s : State) (p : Nat) : Bool :=
  let st := s.linkState p
  st == lsConfig || st == lsRecovery || (st == lsRecoveryEq && numGet 0 p s.lanes.eqPhase == 4)

def State.linkReachesL0 (s : State) (p : Nat) (viral : Bool) : State :=
  if s.mayReachL0 p then
    let st := s.linkState p
    let rate := numGet 0 p s.lanes.target
    let bypass := s.lanes.bypassing.contains p
    let reload := bypass || (st == lsRecovery && s.lanes.resize.contains p)
    match s.resettleWidth p with
    | none => s.linkFalls p (s.restState p)
    | some s =>
      let s := { s with lanes := { s.lanes with bypassing := s.lanes.bypassing.filter (fun x => x != p) } }
      let s := if st == lsConfig then (s.putFlag F.PHY_STATUS_BYPASS_USED bypass p).count (192 + p / 4) 2 (if bypass then 1 else 0) else s
      let s := if st == lsConfig && !s.tooSlow p rate then { s with lanes := { s.lanes with fails := numPut 0 p 0 s.lanes.fails } } else s
      let s := s.put F.PHY_STATUS_CUR_RATE rate p
      let s := if reload then s.loadRecords p else s
      s.reachRate p rate viral (!bypass && st != lsRecovery) (st == lsRecoveryEq)
  else s

/-- LINK_REACHES_L0 (R60): `viral` is whether the partner still signals Viral. -/
def execLinkReachesL0 (p : Port) (viral : Bool) (s : State) : Host.Outcome State Fault Refusal :=
  done (s.linkReachesL0 p.val viral)

/-! ## Equalisation phases (R60, R63, R66) -/

/-- Whether a coefficient request is within FS = 63 and LF = 21: three taps at 8 to 32 GT/s and four above, their sum full
swing, the low-frequency limit kept, the pre-cursor at most a quarter (R66; the sums are the base specification's, PRESUMED,
log entry 8). -/
def coefficientsOk (rate : Nat) (c : BitVec 32) : Bool :=
  let m2 := c.toNat / 2 ^ 24 % 64
  let m1 := c.toNat / 2 ^ 16 % 64
  let c0 := c.toNat / 2 ^ 8 % 64
  let p1 := c.toNat % 64
  decide (m2 + m1 + c0 + p1 = 63) && decide (21 + m2 + m1 + p1 ≤ c0) && decide (4 * m1 ≤ 63) && (decide (5 ≤ rate) || m2 == 0)

/-- The coefficients that a request asks for at a rate, if it is accepted: presets P0 to P10 at 8 to 32 GT/s, Q0 to Q10 above
(R66). -/
def requestTaps (rate : Nat) : EqRequest → Option (BitVec 32)
  | .coefficients c => if coefficientsOk rate c then some (c &&& 0x3F3F3F3F) else none
  | .preset n => if n.val ≤ 10 then some (Config.presetTaps (decide (5 ≤ rate)) n.val &&& 0x3F3F3F3F) else none

/-- One lane in a phase: the partner's request of its transmitter is answered, and what the lane asks of the partner's. -/
def State.eqLane (s : State) (p rate : Nat) (own : List EqRequest) (partner : List (BitVec 32)) (q j : Nat) : State :=
  let k := 8 * (q - p) + j
  let s := match own[k]? with
    | some r =>
      let s := s.emit (.eqReply p k (requestTaps rate r).isSome)
      match requestTaps rate r with
      | some c => s.wr .LANE_TXEQ (BitVec.ofNat 64 c.toNat) q j
      | none => s
    | none => s
  match partner[k]? with
  | some c => { s with lanes := { s.lanes with partnerTx := numPut 0 (8 * q + j) (c.toNat % 2 ^ 32) s.lanes.partnerTx } }
  | none => s

def State.eqPhaseComplete (s : State) (p : Nat) (own : List EqRequest) (partner : List (BitVec 32)) : State :=
  let n := numGet 0 p s.lanes.eqPhase
  if s.linkState p == lsRecoveryEq && decide (n < 4) then
    let s := s.eachLane p (fun s q j => s.eqLane p (numGet 0 p s.lanes.target) own partner q j)
    { s with lanes := { s.lanes with eqPhase := numPut 0 p (n + 1) s.lanes.eqPhase } }
  else s

/-- EQ_PHASE_COMPLETE (R60, R66): the phases of a rate complete in turn, 0 to 3; `own` are the partner's requests of the own
transmitters, `partner` what the device asks of the partner's. -/
def execEqPhaseComplete (p : Port) (own : List EqRequest) (partner : List (BitVec 32)) (s : State) :
    Host.Outcome State Fault Refusal := done (s.eqPhaseComplete p.val own partner)

/-- A rate failed (R63): RATE_FAILED and a fault; back to L0 at the highest rate at which the port last held L0. Under bypass no
rate has been held: the port comes up at 2.5 GT/s and steps up by R60 (log entry 146). -/
def State.rateFails (s : State) (p : Nat) : State :=
  let t := numGet 0 p s.lanes.target
  let good := numGet 0 p s.lanes.lastGood
  let fast := s.lanes.bypassing.contains p
  let s := { s with lanes := { s.lanes with bypassing := s.lanes.bypassing.filter (fun x => x != p),
                                            resize := s.lanes.resize.filter (fun x => x != p) } }
  let s := (s.wr .PHY_STATUS (Word.setBits (s.rd .PHY_STATUS p) (8 + t) 1 1) p).linkError p
  if fast then s.reachRate p 0 true true false else s.reachRate p good true false false

/-- A speed change under way: to a rate whose first phase has not run, or to the recorded rate of a bypass (R61). -/
def State.changingRate (s : State) (p : Nat) : Bool :=
  let st := s.linkState p
  (st == lsConfig && s.lanes.bypassing.contains p)
    || ((st == lsRecovery || st == lsRecoveryEq) && numGet 0 p s.lanes.eqPhase == 0
      && numGet 0 p s.lanes.target != s.get F.PHY_STATUS_CUR_RATE p)

/-- SPEED_CHANGE_TIMEOUT (R61, R63). -/
def execSpeedChangeTimeout (p : Port) (s : State) : Host.Outcome State Fault Refusal :=
  done (if s.changingRate p.val then s.rateFails p.val else s)

/-- EQ_PHASE_TIMEOUT (R61, R63): a phase 1, 2 or 3 in progress. -/
def execEqPhaseTimeout (p : Port) (s : State) : Host.Outcome State Fault Refusal :=
  done (let n := numGet 0 p.val s.lanes.eqPhase
    if s.linkState p.val == lsRecoveryEq && decide (1 ≤ n) && decide (n < 4) then s.rateFails p.val else s)

/-- Errors after a bypass (R72). BYPASS_USED then reads 0 (log entry 147). -/
def State.eqBypassFallback (s : State) (p : Nat) : State :=
  if s.flag F.PHY_STATUS_BYPASS_USED p && s.linkState p == lsL0 then
    let s := ((s.clearRecords p).put F.PHY_STATUS_BYPASS_USED 0 p).count (192 + p / 4) 3 1
    let s := s.toRecovery p
    s.stepTo p ((s.nextRate p 0).getD (s.get F.PHY_STATUS_CUR_RATE p))
  else s

/-- EQ_BYPASS_FALLBACK (R72). -/
def execEqBypassFallback (p : Port) (s : State) : Host.Outcome State Fault Refusal := done (s.eqBypassFallback p.val)

/-- One sign-sign step of a code within its range (R67, R68). -/
def stepCode (lo hi v d : Int) : Int := max lo (min hi (v + (if d < 0 then -1 else if 0 < d then 1 else 0)))

/-- A DFE tap code as a signed number, and back (R67). -/
def tapSigned (b : Nat) : Int := if b < 128 then (b : Int) else (b : Int) - 256
def tapByte (z : Int) : Nat := (z % 256).toNat

/-- One update of four taps. -/
def State.adaptTaps (s : State) (r : Reg) (p k : Nat) (d : List Int) : State :=
  [0, 1, 2, 3].foldl (fun s n =>
    let v := Word.bits (s.rd r p k) (8 * n) 8
    s.wr r (Word.setBits (s.rd r p k) (8 * n) 8 (tapByte (stepCode (-127) 127 (tapSigned v) (d.getD n 0)))) p k) s

def State.adaptationUpdate (s : State) (p k : Nat) (signs : List Int) : State :=
  let q := s.linkPort p
  if s.linkState q == lsL0 && decide (2 ≤ s.get F.PHY_STATUS_CUR_RATE q) && !s.flag F.LANE_RXEQ_FREEZE p k then
    let ctle := stepCode 0 36 (s.get F.LANE_RXEQ_CTLE p k : Nat) (signs.getD 0 0)
    let lf := stepCode 0 6 (s.get F.LANE_RXEQ_LF p k : Nat) (signs.getD 1 0)
    let s := (s.put F.LANE_RXEQ_CTLE ctle.toNat p k).put F.LANE_RXEQ_LF lf.toNat p k
    let s := s.adaptTaps .LANE_DFE0 p k (signs.drop 2)
    let s := s.adaptTaps .LANE_DFE1 p k (signs.drop 6)
    s.adaptTaps .LANE_DFE2 p k (signs.drop 10)
  else s

/-- ADAPTATION_UPDATE (R68): the signs of the update for CTLE peaking, low-frequency gain and taps 1 to 12. -/
def execAdaptationUpdate (p : Port) (k : Lane) (signs : List Int) (s : State) : Host.Outcome State Fault Refusal :=
  done (s.adaptationUpdate p.val k.val signs)

/-! ## Commands of PHY_CTRL (R63, R65, R69) -/

/-- Clear RATE_FAILED. -/
def State.clearRateFailed (s : State) (p : Nat) : State := s.put F.PHY_STATUS_RATE_FAILED 0 p

/-- The rate at which a RETRAIN equalises where no higher one is left: the current one, or the highest that MAX_RATE still
permits below it (R63, R65; log entry 148). -/
def State.heldRate (s : State) (p cur : Nat) : Nat :=
  if s.rateOpen p cur then cur
  else (([6, 5, 4, 3, 2, 1, 0].filter (fun r => decide (r < cur))).find? (fun r => s.rateOpen p r)).getD cur

/-- The width is settled anew, under MAX_WIDTH as it stands, when the link next comes up (R65). -/
def State.settleAnew (s : State) (p : Nat) : State :=
  { s with lanes := { s.lanes with resize := s.lanes.resize.filter (fun x => x != p) ++ [p],
                                   widthCap := numPut 0 p (s.get F.PHY_CTRL_MAX_WIDTH p) s.lanes.widthCap } }

def State.retrain (s : State) (p : Nat) : State :=
  let st := s.linkState p
  if st == lsL0 || st == lsL0p || st == lsL1 then
    let cur := s.get F.PHY_STATUS_CUR_RATE p
    let s := ((s.clearRateFailed p).toRecovery p).settleAnew p
    s.stepTo p ((s.nextRate p cur).getD (s.heldRate p cur))
  else if st == lsDetect || st == lsPolling || st == lsConfig then s.clearRateFailed p
  else s

/-- RETRAIN (R63, R65). -/
def execRetrain (p : Port) (s : State) : Host.Outcome State Fault Refusal := done (s.retrain p.val)

/-- SAVE_EQ captures the records of a port in L0, which is left for every rate short of the final one (R60, R69). -/
def State.saveEq (s : State) (p : Nat) : State := if s.linkState p == lsL0 then s.captureRecords p else s

/-- SAVE_EQ (R69). -/
def execSaveEq (p : Port) (s : State) : Host.Outcome State Fault Refusal := done (s.saveEq p.val)

/-- BOND (R77): a write of BOND of an even port takes effect only while both ports are Disabled; ports of unequal ROLE do not
bond (R91; log entry 149). -/
def State.bondWrite (s : State) (p : Nat) (b : Bool) : State :=
  if p % 2 == 0 && s.linkState p == lsDisabled && s.linkState (p + 1) == lsDisabled
      && (!b || s.get F.PORT_CFG_ROLE p == s.get F.PORT_CFG_ROLE (p + 1)) then
    (s.putFlag F.BOND_CTRL_BOND b p).putFlag F.BOND_CTRL_BOND_ACTIVE b p
  else s

/-- BOND (R77). -/
def execBond (p : Port) (b : Bool) (s : State) : Host.Outcome State Fault Refusal := done (s.bondWrite p.val b)

/-! ## Loopbacks and patterns (R78 to R81) -/

/-- A test begins. It runs at MAX_RATE, since a port in Disabled has negotiated no rate (log entry 150). -/
def State.startTest (s : State) (p st : Nat) : State := (s.setLinkState p st).put F.PHY_STATUS_CUR_RATE (s.rateCap p) p

/-- LOOPBACK_CTRL. Each of the three loopbacks that the device starts reads as loopback lead in LINK_STATE: the spec lists no
state of its own for the near-end ones (log entry 151). Writing MODE 0 ends a loopback that the device follows as well. -/
def State.loopbackCtrlWrite (s : State) (p : Nat) (v : Nat) : State :=
  let s := if v / 2 ^ 31 % 2 == 1 then s.put F.LOOPBACK_CTRL_REFUSED 0 p else s
  let mode := v % 4
  let follow := v / 4 % 2
  if s.linkState p == lsLoopFollow && mode == 0 then (s.leaveTest p).put F.LOOPBACK_CTRL_FOLLOW_EN follow p
  else if mode == s.get F.LOOPBACK_CTRL_MODE p && follow == s.get F.LOOPBACK_CTRL_FOLLOW_EN p then s
  else if (s.linkState p == lsDisabled || s.linkState p == lsLoopLead) && s.get F.PHY_CTRL_TEST_MODE p == 2 then
    let s := (s.put F.LOOPBACK_CTRL_MODE mode p).put F.LOOPBACK_CTRL_FOLLOW_EN follow p
    if mode == 0 then s.leaveTest p else s.startTest p lsLoopLead
  else s.put F.LOOPBACK_CTRL_REFUSED 1 p

/-- LOOPBACK_CTRL_WRITE (R79). A write that changes neither MODE nor FOLLOW_EN enters nothing and is no refused entry
(DEDUCED, log entry 9). -/
def execLoopbackCtrlWrite (p : Port) (v : BitVec 32) (s : State) : Host.Outcome State Fault Refusal :=
  done (s.loopbackCtrlWrite p.val v.toNat)

/-- Whether a port's rate is one of the PAM4 rates (R52): the one in force, or outside a link the one that a test would take. -/
def State.pam4 (s : State) (p : Nat) : Bool :=
  decide (5 ≤ (if s.linkState p == lsDisabled then s.rateCap p else s.get F.PHY_STATUS_CUR_RATE p))

/-- TEST_CTRL. A write that clears both enables ends the test: with neither the generator nor the checker on, none runs (log
entry 152). -/
def State.testCtrlWrite (s : State) (p : Nat) (v : Nat) : State :=
  let pat := v % 8
  let rest := v / 8 % 4
  if (s.linkState p == lsDisabled || s.linkState p == lsPattern) && s.get F.PHY_CTRL_TEST_MODE p == 1 then
    let s := if 5 ≤ pat || (pat == 4 && !s.pam4 p) then s else s.put F.TEST_CTRL_PATTERN pat p
    let s := (s.put F.TEST_CTRL_GEN_EN (rest % 2) p).put F.TEST_CTRL_CHK_EN (rest / 2) p
    if rest == 0 then s.leaveTest p else s.startTest p lsPattern
  else s.put F.LOOPBACK_CTRL_REFUSED 1 p

/-- TEST_CTRL_WRITE (R79, R80). -/
def execTestCtrlWrite (p : Port) (v : BitVec 32) (s : State) : Host.Outcome State Fault Refusal :=
  done (s.testCtrlWrite p.val v.toNat)

/-- PARTNER_LOOPBACK_REQUEST (R78): followed only with FOLLOW_EN set, from the training sets of Configuration or
Recovery; ignored otherwise. -/
def execPartnerLoopbackRequest (p : Port) (s : State) : Host.Outcome State Fault Refusal :=
  done (let p := p.val
    if s.flag F.LOOPBACK_CTRL_FOLLOW_EN p && (s.linkState p == lsConfig || s.linkState p == lsPolling
        || s.linkState p == lsRecovery || s.linkState p == lsRecoveryEq) then s.linkFalls p lsLoopFollow
    else s)

/-- A write of SLIP_POS (R81). -/
def State.slipWrite (s : State) (p k pos : Nat) : State :=
  let q := s.linkPort p
  let m := s.get F.PHY_CTRL_TEST_MODE q
  if m == 1 || m == 2 then
    if s.pam4 q && decide (63 < pos) then s else s.put F.LANE_SLIP_SLIP_POS pos p k
  else s.put F.LOOPBACK_CTRL_REFUSED 1 q

/-- LANE_SLIP_WRITE (R81). -/
def execLaneSlipWrite (p : Port) (k : Lane) (pos : Fin 128) (s : State) : Host.Outcome State Fault Refusal :=
  done (s.slipWrite p.val k.val pos.val)

/-! ## Margining (R82, R83) -/

/-- The fields of MARGIN_CTRL: a value that the axis does not use leaves its field (R20, R87). -/
def State.marginFields (s : State) (p lane axis dir limit steps : Nat) : State :=
  let s := ((s.put F.MARGIN_CTRL_LANE lane p).put F.MARGIN_CTRL_AXIS axis p).put F.MARGIN_CTRL_DIRECTION dir p
  let s := if limit == 0 then s else s.put F.MARGIN_CTRL_ERR_LIMIT limit p
  if steps == 0 || (axis == 0 && decide (32 < steps)) then s else s.put F.MARGIN_CTRL_STEPS steps p

/-- The steps of a run: STEPS, at most 32 on the timing axis (R82). -/
def State.marginLength (s : State) (p : Nat) : Nat :=
  if s.get F.MARGIN_CTRL_AXIS p == 0 then min 32 (s.get F.MARGIN_CTRL_STEPS p) else s.get F.MARGIN_CTRL_STEPS p

/-- A start while margining runs is discarded, fields and all (R83); the run keeps the limit and the steps it began with (log
entry 153). -/
def State.marginStart (s : State) (p : Nat) (lane axis dir limit steps : Nat) : State :=
  if s.flag F.MARGIN_STATUS_BUSY p then s
  else
    let s := s.marginFields p lane axis dir limit steps
    let s := (s.put F.MARGIN_STATUS_LAST_STEP 0 p).put F.MARGIN_STATUS_ERRORS 0 p
    let s := (s.put F.MARGIN_STATUS_INTERRUPTED 0 p).put F.MARGIN_STATUS_BUSY 1 p
    let run := (s.get F.MARGIN_CTRL_ERR_LIMIT p, s.marginLength p)
    let s := { s with lanes := { s.lanes with margin := numPut (0, 0) p run s.lanes.margin } }
    if s.linkState p == lsL0 then s else s.marginInterrupt p

/-- MARGIN_START (R82): the written fields; an unused value leaves its field (R20). -/
def execMarginStart (p : Port) (lane : Lane) (axis dir : Bool) (limit steps : Fin 64) (s : State) :
    Host.Outcome State Fault Refusal :=
  done (s.marginStart p.val lane.val axis.toNat dir.toNat limit.val steps.val)

/-- A step ends: at its dwell, or early once its errors reach the limit (R82); the run ends with its last step. -/
def State.marginStepEnd (s : State) (p errors : Nat) : State :=
  if s.flag F.MARGIN_STATUS_BUSY p then
    let run := numGet (0, 0) p s.lanes.margin
    let n := s.get F.MARGIN_STATUS_LAST_STEP p + 1
    let s := (s.put F.MARGIN_STATUS_LAST_STEP n p).put F.MARGIN_STATUS_ERRORS (min errors run.1) p
    if run.2 ≤ n then (s.put F.MARGIN_STATUS_BUSY 0 p).endOp (.marginLane p) .ok else s
  else s

/-- MARGIN_STEP_END (R82): the errors counted in the step. -/
def execMarginStepEnd (p : Port) (errors : Nat) (s : State) : Host.Outcome State Fault Refusal :=
  done (s.marginStepEnd p.val errors)

/-- The margin sampler of a lane goes to a step that its partner asks for: 32 at most in time, 63 in voltage (R82). -/
def State.partnerMargin (s : State) (p k : Nat) (voltage : Bool) (step errors : Nat) : State :=
  if s.linkState p == lsL0 && (voltage || decide (step ≤ 32)) then s.emit (.marginReply p k step errors) else s

/-- PARTNER_MARGIN_REQUEST (R82): the device answers with the step it took on its margin sampler, which disturbs
nothing; a step beyond the sampler's range is not taken. -/
def execPartnerMarginRequest (p : Port) (k : Lane) (step : MarginStep) (errors : Fin 64) (s : State) :
    Host.Outcome State Fault Refusal := done (s.partnerMargin p.val k.val step.voltage step.step.val errors.val)

/-! ## Lane retirement (R84 to R86, R155) -/

/-- Lanes retired in a block. -/
def State.retiredCount (s : State) (p : Nat) : Nat :=
  (laneList.filter (fun k => Word.bits (s.rd .LANE_RETIRE p) k 1 == 1)).length

/-- Retire one lane (R84, R85): on a Cascade link the lane leaves without retraining; elsewhere the port settles its width anew. -/
def State.retireLane (s : State) (p k : Nat) : State :=
  let q := s.linkPort p
  if Word.bits (s.rd .LANE_RETIRE p) k 1 == 1 then s
  else if s.isCascade q && decide (2 ≤ s.retiredCount p) then s
  else
    let s := s.wr .LANE_RETIRE (Word.setBits (s.rd .LANE_RETIRE p) k 1 1) p
    if s.isCascade q then
      if s.linkState q == lsL0 then s.retireStart q
      else if s.linkState q == lsRecovery || s.linkState q == lsRecoveryEq then
        (s.setLink q { s.link q with retireDue := true }).put F.LANE_RETIRE_RETIRE_BUSY 1 q
      else s
    else if s.linkState q == lsL0 then
      let s := s.toRecovery q
      { s with lanes := { s.lanes with resize := s.lanes.resize.filter (fun x => x != q) ++ [q] } }
    else s

/-- The lanes that a write of LANE_RETIRE leaves retired: set bits add; a bit is cleared only while Disabled (R84, R86). -/
def State.retiredAfter (s : State) (p mask : Nat) : List Nat :=
  laneList.filter (fun k => mask / 2 ^ k % 2 == 1
    || (s.linkState (s.linkPort p) != lsDisabled && Word.bits (s.rd .LANE_RETIRE p) k 1 == 1))

/-- A write of LANE_RETIRE; one that would retire a third lane of a Cascade port is discarded (R84 to R86). -/
def State.laneRetireWrite (s : State) (p mask : Nat) : State :=
  if s.isCascade (s.linkPort p) && decide (2 < (s.retiredAfter p mask).length) then s
  else
    let s := if s.linkState (s.linkPort p) == lsDisabled then
        s.put F.LANE_RETIRE_RETIRED (Nat.land (s.get F.LANE_RETIRE_RETIRED p) mask) p
      else s
    (laneList.filter (fun k => mask / 2 ^ k % 2 == 1)).foldl (fun s k => s.retireLane p k) s

/-- LANE_RETIRE (R84, R85, R86). -/
def execLaneRetire (p : Port) (mask : BitVec 8) (s : State) : Host.Outcome State Fault Refusal :=
  done (s.laneRetireWrite p.val mask.toNat)

/-! ## A link leaves L0 (R83, R147) -/

def State.portLeavesL0 (s : State) (p : Nat) (k : LeaveKind) : State :=
  if s.linkState p == lsL0 || s.linkState p == lsL0p || s.linkState p == lsL1 then
    match k with
    | .recovery => s.toRecovery p
    | .hotReset => s.linkFalls p lsHotReset
    | .detect => s.linkFalls p (s.restState p)
  else s

/-- PORT_LEAVES_L0 (R147). -/
def execPortLeavesL0 (p : Port) (k : LeaveKind) (s : State) : Host.Outcome State Fault Refusal :=
  done (s.portLeavesL0 p.val k)

end Sys2Proof.Machine
end

