-- ==== Sys2Proof/Machine/Link.lean ====
section
/-!
DEFINITION. Cascade and Seam Link Layer: receiving flits, acknowledgements, replay, credits, initialisation, the Seam
channels, lane retirement without retraining, the injector (R119 to R162); the pool state (R184, R185).
-/
namespace Sys2Proof.Machine

/-! ## Errors of a link -/

/-- The link re-trains after an error: a Cascade port enters Recovery, both ends of a Seam channel re-align (R131, R134, R152). -/
def State.linkRetrain (s : State) (l : Nat) : State :=
  if isSeam l then (s.linkPause l).linkPause (seamPeer l)
  else s.toRecovery l

/-- A failed flit: counted, CRC set, discarded whole (R122, R135). -/
def State.flitFailed (s : State) (l : Nat) : State := (s.bump F.LL_CRC_COUNT_V 1 l).linkErr F.LL_ERR_CRC l

/-- Whether a flit counts as failed (R122): by its CRC, TYPE, VERSION or NEXT_MSG. -/
def State.flitBad (s : State) (l : Nat) (b : List Byte) : Bool :=
  let f := readFlit l b
  !crcGood l b || decide (4 ≤ f.body.type) || decide (f.version ≠ s.linkVersion l)
    || (decide (payloadBytes l / 4 ≤ f.nextMsg) && decide (f.nextMsg ≤ 126))

/-- Start a replay, unless the oldest flit was already replayed four times (R133, R134). -/
def State.startReplay (s : State) (l : Nat) : State :=
  let x := s.link l
  if x.replay.isEmpty then s
  else if 4 ≤ x.replays then (s.linkErr F.LL_ERR_REPLAY_LIMIT (txRegs l)).linkRetrain l
  else s.beginReplay l

/-- Apply an acknowledgement (R131): some with the entries freed, none where it is impossible. -/
def State.applyAck (s : State) (l ack : Nat) : Option State :=
  let a := s.get F.LL_REPLAY_LAST_ACK (txRegs l)
  let n := s.get F.LL_STATUS_SEQ (txRegs l)
  let k := (ack + 4096 - a) % 4096
  if k ≤ (n + 8191 - a) % 4096 then
    let x := s.link l
    let s := s.setLink l { x with replay := x.replay.drop k, replayed := x.replayed - k, replays := if k = 0 then x.replays else 0 }
    some (s.put F.LL_REPLAY_LAST_ACK ack (txRegs l))
  else none

/-- One credit return (R139, R141): taken, or refused with PROTO where it would exceed the advertised total. -/
def State.applyCredit (s : State) (l i r : Nat) : State :=
  let x := s.link l
  let avail := (x.peerA.getD i 0 + r + 4096 - x.used.getD i 0) % 4096
  if x.peerA.getD i 0 < avail then s.linkErr F.LL_ERR_PROTO (txRegs l) else s.setLink l { x with peerR := x.peerR.set i r }

/-- The header fields of a good flit: XOFF in compatibility mode, where the floor is whole again once the Request channel is on;
credits in native mode (R139, R144, R145). -/
def State.applyHeader (s : State) (l : Nat) (f : Flit) : State :=
  if s.linkVersion l == 0 then
    let x := s.link l
    s.setLink l { x with reqXoff := f.reqXoff, rspXoff := f.rspXoff, floor := if f.reqXoff then x.floor else (0, 0) }
  else
    let s := s.applyCredit l 0 f.reqHdr
    let s := s.applyCredit l 1 f.reqData
    let s := s.applyCredit l 2 f.rspHdr
    s.applyCredit l 3 f.rspData

/-! ## The messages of a payload -/

/-- A message header of eight bytes: CLASS, words of the carried header, DATA_BLOCKS, POISON, SRC_PORT, DST_PORT, TAG (R124). -/
def headerMsg (b : List Byte) : WireMsg × Nat :=
  let v := leNat (b.take 8)
  ({ cls := v / 2 ^ 60 % 16, blocks := v / 2 ^ 49 % 128, poison := v / 2 ^ 48 % 2 == 1, src := v / 2 ^ 41 % 128,
     dst := v / 2 ^ 34 % 128, tag := v % 2 ^ 32, carried := [], cells := [] }, v / 2 ^ 56 % 16)

/-- Whether a message header uses only used encodings (R124, R125); classes 10 and 11 cross the Seam only (R126). -/
def wireOk (l : Nat) (w : WireMsg) (words : Nat) : Bool :=
  decide (w.cls < 12) && (isSeam l || decide (w.cls < 10)) && decide (words ≤ 8) && decide (w.blocks ≤ 64)
    && (decide (w.src < 96) || w.src == 127) && (decide (w.dst < 96) || w.dst == 127)

/-- The data blocks of a message: 64 bytes and their CRC-32 each (R123). -/
def blocksOf (n : Nat) (b : List Byte) : List (List Byte × Nat) :=
  (List.range n).map (fun i => ((b.drop (68 * i)).take 64, leNat ((b.drop (68 * i + 64)).take 4)))

/-- What a stretch of the byte stream holds: whole messages, the bytes of one that goes on in the next flit, and whether an unused
encoding ended it (R123, R127). -/
structure Parsed where
  msgs : List WireMsg := []
  rest : List Byte := []
  bad : Bool := false
deriving DecidableEq, Repr

/-- Read the messages of a stretch that begins with a message, if `first` is set; zeros where a further message would begin are the
end of the payload (R123, log entry 159). -/
def parse (l : Nat) (first : Bool) : Nat → List Byte → Parsed
  | 0, _ => {}
  | n + 1, b =>
    if b.isEmpty || (!first && (b.take 8).all (fun x => x == 0)) then {}
    else if b.length < 8 then { rest := b }
    else
      let (w, words) := headerMsg b
      let len := 8 + 4 * words + 68 * w.blocks
      if !wireOk l w words then { bad := true }
      else if b.length < len then { rest := b }
      else
        let m := { w with carried := (b.drop 8).take (4 * words), cells := blocksOf w.blocks (b.drop (8 + 4 * words)) }
        let p := parse l false n (b.drop len)
        { p with msgs := m :: p.msgs }

/-- The messages that a payload completes (R123, R127): a message under way goes on; after an unused encoding the bytes up to the next
NEXT_MSG are discarded. -/
def Link.read (x : Link) (l next : Nat) (pay : List Byte) : Parsed × Link :=
  let fresh : Parsed := if next == 127 then {} else parse l true 64 (pay.drop (4 * next))
  if x.skip then (fresh, { x with stream := fresh.rest, skip := fresh.bad || next == 127 })
  else if x.stream.isEmpty then (fresh, { x with stream := fresh.rest, skip := fresh.bad })
  else
    let p := parse l true 64 (x.stream ++ pay)
    if p.bad && p.msgs.isEmpty && next != 127 then ({ fresh with bad := true }, { x with stream := fresh.rest, skip := fresh.bad })
    else (p, { x with stream := p.rest, skip := p.bad })

/-- Take the credits of a received message: none where it has no credit outstanding (R141). -/
def Link.take (x : Link) (w : WireMsg) : Option Link :=
  let (a, b) := if egressClass w.cls == 1 then (2, 3) else (0, 1)
  let left (i : Nat) := (x.ownA.getD i 0 + x.ownR.getD i 0 + 4096 - x.taken.getD i 0) % 4096
  if left a = 0 ∨ left b < w.blocks then none
  else
    let t := x.taken.set a ((x.taken.getD a 0 + 1) % 4096)
    some { x with taken := t.set b ((t.getD b 0 + w.blocks) % 4096) }

/-- Take the credits of the messages of one payload. -/
def Link.takeAll (x : Link) : List WireMsg → Option Link
  | [] => some x
  | w :: t => match x.take w with
    | some y => Link.takeAll y t
    | none => none

/-- A status message of the other half (R184, R296): the pool state, or, told apart by POISON (log entry 160), the epoch mark. A mark
of the own epoch with another commit ID raises source 783 and sets SPLIT. Its header entry is freed at once: its credit returns. -/
def State.seamStatus (s : State) (l : Nat) (w : WireMsg) : State :=
  let h := seamHalf l
  let s := (s.count (220 + h) 4 1).returnCredits l 9 0
  if !w.poison then (s.put F.BUF_STATUS_PEER_CLOSED (w.word 0 4 % 2) h).put F.BUF_STATUS_PEER_STALE 0 h
  else if w.tag == s.get F.HALF_EPOCH_V h && w.word 0 4 != s.get F.HALF_COMMIT_V h then
    ((s.put F.HALF_STATE_SPLIT 1 h).put F.HALF_STATE_HOLD 1 h).raise 783
  else s

/-- A message that crossed the Seam (R183, R186, R197): its cells with their CRCs, charged to the Seam receive reserve of the half it
reached; it is tried if it heads its hold list. -/
def State.seamArrive (s : State) (l : Nat) (w : WireMsg) : State :=
  if w.carried.length == 4 then s.seamStatus l w
  else
    match s.msgs.find? (fun m => m.id == w.word 8 7 && decide (m.stage = .onSeam)) with
    | some m =>
      let s := { s with msgs := s.msgs.filter (fun x => x.id != m.id) }
      let m := { m with stage := .seamHeld, poison := w.poison, late := 0, missing := 0,
                        data := (w.cells.flatMap Prod.fst).take m.data.length }
      let (m, s) := s.arriveWith m (seamHalf l) .seam true w.cells
      if s.isHead m then s.retry m else s
    | none => s

/-- Take the messages of an accepted payload (R127). -/
def State.takeMessages (s : State) (l : Nat) (p : Parsed) : State :=
  let s := if p.bad then s.linkErr F.LL_ERR_MSG_BAD l else s
  if isSeam l then p.msgs.foldl (fun s w => s.seamArrive l w) s
  else s.setLink l { s.link l with rx := (s.link l).rx ++ p.msgs }

/-- Ask for a replay once per advance of e: a flit with REPLAY_REQ and ACK_SEQ = e − 1 (R129). It is no acknowledgement event: ACK_NEW
is 0 and the flits accepted since the last one go on counting (R130). -/
def State.askReplay (s : State) (l : Nat) : State :=
  let x := s.link l
  if x.requested then s
  else
    let s := if isSeam l then s.count (220 + seamHalf l) 2 1 else s
    (s.setLink l { x with requested := true, wantReplay := true }).transmit l .null 0 (s.ackNow l) false

/-! ## Compatibility-mode flow control (R144 to R146) -/

/-- Whether a ROLE 7 receiver has the cells and header entries of a message: those of its channel; on the Request channel four of each
are kept for class 9 (R138, R145, R146). -/
def State.compatRoom (s : State) (p : Nat) (w : WireMsg) : Bool :=
  let rsp := egressClass w.cls == 1
  let keep := if rsp || w.cls == 9 then 0 else 4
  let u := s.channelUsed p rsp
  let n := s.get F.Q_RX_RESERVE_V p
  decide (u.1 + w.blocks + keep ≤ n) && decide (u.2 + 1 + keep ≤ n)

/-- Whether there is room for every message of a payload, one after another. -/
def State.compatRooms (s : State) (p : Nat) : List WireMsg → Bool
  | [] => true
  | w :: t => s.compatRoom p w && State.compatRooms (s.setLink p { s.link p with rx := (s.link p).rx ++ [w] }) p t

/-! ## Receiving a flit (R129, R149) -/

/-- Accept the payload flit that was expected (R129): its messages, and where the byte stream stands. -/
def State.acceptPayload (s : State) (l : Nat) (p : Parsed) (x : Link) : State :=
  let e := s.get F.LL_STATUS_EXPECTED l
  let s := s.put F.LL_STATUS_EXPECTED ((e + 1) % 4096) l
  (s.setLink l { x with accepted := x.accepted + 1, requested := false }).takeMessages l p

/-- A good payload flit in Active or Replay (R129, R141, R146). -/
def State.payloadFlit (s : State) (l : Nat) (f : Flit) (pay : List Byte) : State :=
  let e := s.get F.LL_STATUS_EXPECTED l
  let d := (f.seq + 4096 - e) % 4096
  if d = 0 then
    let (p, x) := (s.link l).read l f.nextMsg pay
    if s.linkVersion l == 1 then
      match x.takeAll p.msgs with
      | some x => s.acceptPayload l p x
      | none => (s.askReplay l).linkErr F.LL_ERR_PROTO l
    else if s.compatRooms l p.msgs then s.acceptPayload l p x
    else (s.askReplay l).linkErr F.LL_ERR_OVERRUN l
  else if d ≤ 2047 then (s.linkErr F.LL_ERR_SEQ_GAP l).askReplay l
  else s.ackEvent l

/-- Enter Active from Init (R149); after a re-alignment the unacknowledged flits are replayed (R147, R152). -/
def State.enterActive (s : State) (l : Nat) : State :=
  (if isSeam l then s.setLink l { s.link l with realigns := 0 } else s).beginReplay l

/-- Both sides are ready: four more init flits with RX_READY, then Active (R149). -/
def State.linkActivate (s : State) (l : Nat) : State :=
  ([0, 1, 2, 3].foldl (fun s _ => s.sendInit l true) s).enterActive l

/-- A good init flit in Init (R148, R149). -/
def State.initFlitIn (s : State) (l : Nat) (ready : Bool) : State :=
  let x := s.link l
  let n := x.initGood + 1
  let set := x.rxReady || decide (2 ≤ n)
  let s := s.setLink l { x with initGood := n, rxReady := set }
  if set && ready then s.linkActivate l else s

/-- The transmit mask after a switch to the lanes of a mask of eight. -/
def Link.newMask (old mask : Nat) : Nat := old / 256 * 256 + mask % 256

/-- Answer or schedule a retirement (R155, R157). -/
def State.retireControl (s : State) (p mask : Nat) (ack : Bool) : State :=
  let x := s.link p
  if ack then
    if x.retireAsked then s.setLink p { x with retireAsked := false, switchRx := some mask } else s
  else if x.switchRx == some mask then s
  else
    let s := laneList.foldl (fun s k =>
      if mask / 2 ^ k % 2 == 0 && x.txMask / 2 ^ k % 2 == 1 then s.wr .LANE_RETIRE (Word.setBits (s.rd .LANE_RETIRE p) k 1 1) p else s) s
    let s := s.setLink p { s.link p with switchRx := some mask, switchTx := some mask }
    let s := (s.put F.LANE_RETIRE_RETIRE_BUSY 1 p).put F.LL_STATUS_RETIRING 1 p
    s.sendRetire p mask true

/-- The body of a good flit by the link's state. -/
def State.flitBody (s : State) (l : Nat) (f : Flit) : State :=
  let st := s.get F.LL_STATUS_STATE l
  match f.body with
  | .payload b =>
    if s.sending l then s.payloadFlit l f b
    else if st == linkInit && (s.link l).rxReady then (s.enterActive l).payloadFlit l f b
    else s
  | .init _ _ _ _ ready _ => if st == linkInit then s.initFlitIn l ready else s
  | .retire mask _ ack => if !isSeam l && s.sending l then s.retireControl l mask ack else s
  | _ => s

/-- The totals that an init flit advertises take effect (R139, R148). -/
def State.initTotals (s : State) (l : Nat) (f : Flit) : State :=
  match f.body with
  | .init a b c d _ _ =>
    if s.get F.LL_STATUS_STATE l == linkInit then s.setLink l { s.link l with peerA := [a, b, c, d] } else s
  | _ => s

/-- The acknowledgement, credits, body and replay request of a good flit (R129 to R133, R139). -/
def State.goodFlit (s : State) (l : Nat) (f : Flit) : State :=
  let s := if isSeam l then s.count (220 + seamHalf l) 0 1 else s.count l 0 1
  let s := s.initTotals l f
  match s.applyAck l f.ackSeq with
  | some s =>
    let s := (s.applyHeader l f).flitBody l f
    if f.replayReq && s.sending l then s.startReplay l else s
  | none => (((s.linkErr F.LL_ERR_PROTO (txRegs l)).applyHeader l f).flitBody l f).linkRetrain l

/-- Change bytes on the wire. -/
def noisy (b : List Byte) (noise : List (Fin 512 × Byte)) : List Byte :=
  noise.foldl (fun b e => b.set e.1.val ((b.getD e.1.val 0) ^^^ e.2)) b

/-- The flit that arrives, taken off the wire where it crosses the Seam. -/
def State.takeFlit (s : State) (l : Nat) : FlitIn → Option (List Byte) × State
  | .fromPartner b => (some (padTo 256 b), s)
  | .fromWire noise =>
    match (s.link l).wire with
    | b :: t => (some (noisy b noise), s.setLink l { s.link l with wire := t })
    | [] => (none, s)

/-- A flit arrives; `deferrals` writes of its cells waited for a bank (R167). -/
def State.flitReceive (s : State) (l : Nat) (i : FlitIn) (deferrals : Nat) : State :=
  match s.takeFlit l i with
  | (none, s) => s
  | (some b, s) =>
    let s := s.bump F.WRITE_STALL_COUNT_V deferrals (linkHalf l)
    if s.get F.LL_STATUS_STATE l == linkDownState || s.get F.LL_STATUS_STATE l == linkPaused then s
    else if s.flitBad l b then
      let s := if s.get F.LL_STATUS_STATE l == linkInit then s.setLink l { s.link l with initGood := 0 } else s
      s.flitFailed l
    else s.goodFlit l (readFlit l b)

/-- FLIT_RECEIVE (R119 to R122, R129 to R133, R139 to R149): the bytes of a flit arrive on link `l`. -/
def execFlitReceive (l : LinkId) (f : FlitIn) (deferrals : Nat) (s : State) : Host.Outcome State Fault Refusal :=
  done (s.flitReceive l.val f deferrals)

/-! ## Acknowledgement events and timers (R130, R133) -/

/-- ACK_COALESCE_REACHED (R130): an event once ACK_COALESCE flits were accepted. -/
def execAckCoalesceReached (l : LinkId) (s : State) : Host.Outcome State Fault Refusal :=
  done (if s.sending l.val && decide (s.get F.LL_CTRL_ACK_COALESCE l.val ≤ (s.link l.val).accepted) then s.ackEvent l.val else s)

/-- ACK_TIMER_EXPIRY (R130): an event if a flit was accepted since the last one. -/
def execAckTimerExpiry (l : LinkId) (s : State) : Host.Outcome State Fault Refusal :=
  done (if s.sending l.val && decide (0 < (s.link l.val).accepted) then s.ackEvent l.val else s)

/-- REPLAY_TIMER_EXPIRY (R133). -/
def execReplayTimerExpiry (l : LinkId) (s : State) : Host.Outcome State Fault Refusal :=
  done (if s.sending l.val then s.startReplay l.val else s)

/-! ## Sending messages (R138 to R140, R183, R185, R207) -/

/-- Whether a half may send Yellow messages over the Seam (R185). -/
def State.peerOpen (s : State) (h : Nat) : Bool :=
  !s.flag F.BUF_STATUS_PEER_CLOSED h && !s.flag F.BUF_STATUS_PEER_STALE h && s.seamUp

/-- Whether MKT_CREDITS let a message go to its home (R316); other messages always may. -/
def State.marketMay (s : State) (m : Msg) : Bool :=
  !(decide (m.input < 96) && (m.dst == 124 || m.dst == 125) && m.counted)
    || decide (s.marketOut m.input < s.get F.MKT_CREDITS_V m.input)

/-- The heads that wait for a Seam channel, in the class order of R204; within a class the inputs take turns, the first turn going to
the input after input 0 (DESIGN CHOICE, log entry 24). -/
def State.seamHeads (s : State) (l : Nat) : List Msg :=
  let h := seamHalf l
  let w := s.msgs.filter (fun m => decide (m.stage = .held) && m.half == h && m.dstHalf != h && seamLink h m.dst == l
    && s.isHead m && decide (m.colour ≠ .red)
    && m.wait.isNone && s.marketMay m)
  [0, 1, 2, 3].flatMap (fun q =>
    let last := (s.link l).served.getD q 0
    let inClass := w.filter (fun m => m.queueIx == q)
    (List.range 128).flatMap (fun k => inClass.filter (fun m => m.input == (last + 1 + k) % 128)))

/-- Send one head over its Seam channel (R183): its receive-reserve charge ends. Cells that can no longer arrive leave as zeros
(R182). -/
def State.seamSend (s : State) (l : Nat) (m : Msg) : State :=
  let (m, s) := s.fillMissing m
  let cells := m.sentCells (s.msgCells m)
  let s := s.creditsBack m
  let x := s.link l
  let s := s.setLink l { x with served := x.served.set m.queueIx m.input }
  let s := { s with msgs := s.msgs.filter (fun (y : Msg) => y.id != m.id)
                      ++ [{ m with stage := .onSeam, charge := .none, cells := [], late := 0, missing := 0 }] }
  (s.freeCells m.half m.cells).sendWire l (s.wire m (wirePort m.dst) cells)

/-- Whether R185 stops a head: a Yellow message while the other half's pool is closed or unknown, or the Seam is down. -/
def State.stopsYellow (s : State) (l : Nat) (m : Msg) : Bool := decide (m.colour = .yellow) && !s.peerOpen (seamHalf l)

/-- Yellow heads that R185 stops turn Red (R211). -/
def State.yellowsBack (s : State) (l : Nat) : State :=
  ((s.seamHeads l).filter (fun m => s.stopsYellow l m)).foldl (fun s m => s.yellowBack m) s

/-- A Seam channel sends the first head that may go, or a null flit. -/
def State.seamServe (s : State) (l : Nat) : State :=
  match (s.seamHeads l).find? (fun m => s.mayAsk l m.cls m.blocks && s.replayRoom l carriedWords m.blocks && !s.stopsYellow l m) with
  | some m => s.seamSend l m
  | none => (s.yellowsBack l).sendNull l

/-- What an Active link sends in a flit period: a message, or a null flit (R122, R183, R204). -/
def State.sendNext (s : State) (l : Nat) : State :=
  if isSeam l then s.seamServe l
  else match s.nextStart l with
    | some m => s.depart l m
    | none => s.sendNull l

/-- One flit period of a link (R122, R133, R147, R149): init flits in Init, the flits of a replay, a message or a null flit; nothing
while Down or Paused (log entry 166). -/
def State.flitPeriod (s : State) (l : Nat) : State :=
  let st := s.get F.LL_STATUS_STATE l
  if st == linkInit then s.sendInit l (s.link l).rxReady
  else if st == linkReplay then s.replayNext l
  else if st == linkActive then s.sendNext l
  else if isSeam l then s.yellowsBack l else s

/-- LINK_MESSAGE_SEND (R139, R183, R204): one flit period of a Cascade port or Seam channel. -/
def execLinkMessageSend (l : LinkId) (s : State) : Host.Outcome State Fault Refusal :=
  done (if isSeam l.val || s.isCascade l.val then s.flitPeriod l.val else s)

/-! ## Initialisation limits, Down, the Seam (R149 to R153) -/

/-- Messages on a Seam that goes down: those whose flits are lost. A request stays known, awaiting the response that
never comes; anything else is gone. -/
def State.seamLost (s : State) : State :=
  { s with msgs := (s.msgs.filter (fun m => decide (m.stage ≠ .onSeam) || m.awaits)).map (fun m =>
      if m.stage = .onSeam then { m with stage := .atDevice } else m) }

/-- All 16 channels go to Down (R152). -/
def State.seamDown (s : State) : State :=
  ((List.range 16).foldl (fun s c => s.linkDown (96 + c)) s).seamLost

/-- A channel cannot be brought back: the surviving side records a Seam fault and the Seam goes down (R152). -/
def State.seamFails (s : State) (h : Nat) : State := (s.raise (768 + h)).seamDown

/-- INIT_TIMEOUT (R149). -/
def execInitTimeout (l : LinkId) (s : State) : Host.Outcome State Fault Refusal :=
  done (if s.get F.LL_STATUS_STATE l.val == linkInit then
      let s := s.linkErr F.LL_ERR_INIT_TIMEOUT l.val
      if isSeam l.val then (s.put F.LL_STATUS_STATE linkPaused l.val).linkPause (seamPeer l.val)
      else s.linkFalls l.val (s.restState l.val)
    else s)

/-- LINK_LAYER_DOWN (R150). -/
def execLinkLayerDown (p : Port) (s : State) : Host.Outcome State Fault Refusal :=
  done (if s.isCascade p.val && s.get F.LL_STATUS_STATE p.val != linkDownState then s.linkDown p.val else s)

def State.seamRealign (s : State) (l : Nat) (ok : Bool) : State :=
  let st := s.get F.LL_STATUS_STATE l
  if st == linkPaused || st == linkDownState then
    let s := s.bump F.CLK_LOSS_SEAM 1
    if ok then s.linkStart l (st == linkPaused)
    else
      let n := (s.link l).realigns + 1
      let s := s.setLink l { s.link l with realigns := n }
      if 3 ≤ n then s.seamFails (seamHalf l) else s
  else s

/-- SEAM_REALIGN (R152): channel `c` of the endpoint in half `h`; `ok` is whether the wires deskewed. -/
def execSeamRealign (h : Half) (c : Fin 8) (ok : Bool) (s : State) : Host.Outcome State Fault Refusal :=
  done (s.seamRealign (96 + 8 * hix h + c.val) ok)

/-- SEAM_ACTIVE_TIMEOUT (R152). -/
def execSeamActiveTimeout (h : Half) (s : State) : Host.Outcome State Fault Refusal :=
  done (if s.seamUp then s else s.seamFails (hix h))

/-! ## Lane retirement (R155 to R157) -/

/-- RETIRE_CONTROL_FLIT (R155): NEW_MASK and ACK of a received retire-control flit. -/
def execRetireControlFlit (p : Port) (mask : BitVec 8) (ack : Bool) (s : State) : Host.Outcome State Fault Refusal :=
  done (if s.isCascade p.val && s.sending p.val then s.retireControl p.val mask.toNat ack else s)

/-- End every retirement operation of a port. -/
def State.endRetires (s : State) (p : Nat) (st : Status) : State :=
  laneList.foldl (fun s k => s.endOp (.retireLane p k) st) s

/-- The receiver has switched: RETIRE_BUSY clears, the lanes left out are out of use (R155). -/
def State.retireReceiver (s : State) (p mask : Nat) : State :=
  let s := s.setLink p { s.link p with rxMask := Link.newMask (s.link p).rxMask mask, switchRx := none }
  let s := (s.put F.LANE_RETIRE_RETIRE_BUSY 0 p).put F.LL_STATUS_RETIRING 0 p
  let s := laneList.foldl (fun s k => if mask / 2 ^ k % 2 == 0 then s.put F.LANE_STATUS_IN_USE 0 p k else s) s
  let s := s.put F.PHY_STATUS_CUR_WIDTH ((laneList.filter (fun k => mask / 2 ^ k % 2 == 1)).length) p
  s.endRetires p .ok

/-- RETIRE_SWITCH (R155): the flit boundary at which a direction switches, the transmitter or the receiver. -/
def execRetireSwitch (p : Port) (receiver : Bool) (s : State) : Host.Outcome State Fault Refusal :=
  done (let x := s.link p.val
    if receiver then
      match x.switchRx with
      | some m => s.retireReceiver p.val m
      | none => s
    else
      match x.switchTx with
      | some m => s.setLink p.val { x with txMask := Link.newMask x.txMask m, switchTx := none }
      | none => s)

/-- RETIRE_ACK_TIMEOUT (R156). -/
def execRetireAckTimeout (p : Port) (s : State) : Host.Outcome State Fault Refusal :=
  done (if (s.link p.val).retireAsked then
      let s := s.linkErr F.LL_ERR_RETIRE_FAIL p.val
      let s := s.setLink p.val { s.link p.val with retireAsked := false, switchTx := none }
      let s := (s.put F.LANE_RETIRE_RETIRE_BUSY 0 p.val).put F.LL_STATUS_RETIRING 0 p.val
      let s := { s with lanes := { s.lanes with resize := s.lanes.resize.filter (fun x => x != p.val) ++ [p.val] } }
      (s.linkRetrain p.val).endRetires p.val .faulted
    else s)

/-! ## The injector (R158 to R160) -/

/-- Every injector is disarmed (R159). -/
def State.disarm (s : State) : State :=
  (s.regs.filter (fun e => decide (e.1.reg = .LL_INJECT))).foldl (fun s e => s.put F.LL_INJECT_ARM 0 e.1.i) s

/-- A write of LL_INJECT (R158 to R160). -/
def State.llInjectArm (s : State) (l v : Nat) : State :=
  let mode := v % 8
  let word := v / 2 ^ 16 % 128
  let kind := v / 2 ^ 28 % 2
  let last := if isSeam l then 125 else 59
  if !s.debugAllowed || decide (5 ≤ mode) || (mode == 2 && decide (last < word)) || (mode == 4 && kind == 1) then s
  else
    let s := ((s.put F.LL_INJECT_MODE mode l).put F.LL_INJECT_WORD word l).put F.LL_INJECT_KIND kind l
    let s := (s.put F.LL_INJECT_REPEAT (v / 2 ^ 30) l).put F.LL_INJECT_ARM (v / 2 ^ 31) l
    s.setLink l { s.link l with injectLeft := s.get F.LL_INJECT_N_N l, injectHeld := none }

/-- LL_INJECT_ARM (R158 to R160). -/
def execLlInjectArm (l : LinkId) (v : BitVec 32) (s : State) : Host.Outcome State Fault Refusal :=
  done (if isSeam l.val || s.isCascade l.val then s.llInjectArm l.val v.toNat else s)

def State.injectorFire (s : State) (l : Nat) : State :=
  if s.debugAllowed && s.flag F.LL_INJECT_ARM l then
    let s := s.setLink l { s.link l with injectLeft := 1 }
    if s.flag F.LL_INJECT_KIND l && s.sending l then s.sendNull l else s.flitPeriod l
  else s

/-- INJECTOR_FIRE (R158): the N-th flit is the next that counts. With KIND = 1 a null flit leaves at once; otherwise a flit period
passes, whose first payload flit the injector acts on. -/
def execInjectorFire (l : LinkId) (s : State) : Host.Outcome State Fault Refusal := done (s.injectorFire l.val)

/-! ## The pool state of the halves (R184, R185) -/

/-- Send a status message on Seam channel 0, if the channel is Active and has the credit: one carried word, told apart by POISON (R184,
R296, log entry 160). -/
def State.sendStatus (s : State) (h : Nat) (mark : Bool) (value : Nat) : State :=
  let l := 96 + 8 * h
  let w : WireMsg := { cls := 9, blocks := 0, poison := mark, src := 127, dst := 127, tag := s.get F.HALF_EPOCH_V h,
                       carried := leBytes 4 value, cells := [] }
  if s.get F.LL_STATUS_STATE l == linkActive && s.mayAsk l 9 0 && s.replayRoom l 1 0 then s.sendWire l w else s

/-- A pool-state message (R184). -/
def State.sendPoolState (s : State) (h : Nat) : State :=
  let c := s.poolClosed h
  (s.putFlag F.BUF_STATUS_OWN_CLOSED c h).sendStatus h false (if c then 1 else 0)

/-- POOL_STATE_SEND (R184): at Blaze only. -/
def execPoolStateSend (h : Half) (s : State) : Host.Outcome State Fault Refusal :=
  done (if s.atBlaze (hix h) then s.sendPoolState (hix h) else s)

/-- POOL_STATE_STALE (R185): only time at Blaze counts. -/
def execPoolStateStale (h : Half) (s : State) : Host.Outcome State Fault Refusal :=
  done (if s.atBlaze (hix h) then s.put F.BUF_STATUS_PEER_STALE 1 (hix h) else s)

/-- An epoch mark (R296). -/
def State.sendEpochMark (s : State) (h : Nat) : State :=
  s.sendStatus h true (s.get F.HALF_COMMIT_V h)

/-- EPOCH_MARK_SEND (R296): at Blaze only. -/
def execEpochMarkSend (h : Half) (s : State) : Host.Outcome State Fault Refusal :=
  done (if s.atBlaze (hix h) then s.sendEpochMark (hix h) else s)

end Sys2Proof.Machine
end

