-- ==== Sys2Proof/Machine/Home.lean ====
section
/-!
DEFINITION. Market Regions and Coherence: what the home engines do with requests, Ledger reads, snoop responses, timers,
retirements and flushes (R313 to R342).
-/
namespace Sys2Proof.Machine

/-! ## Acceptance (R316, R317, R319, R320) -/

/-- The first message that may enter the staging of a half's home engine: a head of its hold list, not Red, within its
port's MKT_CREDITS (R178, R316). -/
def State.homeNext (s : State) (h : Nat) (counted : Bool) : Option Msg :=
  s.msgs.find? (fun m => (decide (m.stage = .held) || decide (m.stage = .seamHeld)) && m.half == h && m.dst == 124 + h
    && m.counted == counted && s.isHead m && m.wait.isNone && decide (m.colour ≠ .red) && s.marketMay m
    && !(match m.slice with | some r => s.market.awaiting.contains r | none => false))

/-- Take a message into the staging: its place in the buffer is free again (R174, R317). -/
def State.homeTake (s : State) (m : Msg) : Msg × State :=
  let s := (s.creditsBack m).countColour m
  let m' := { m with stage := .atHome, charge := .none, cells := [], hdrMgmt := false }
  (m', (s.place m').freeCells m.half m.cells)

/-- Whether a message meets a fence of its region, or a recovering slice (R323, R334, R335). -/
def State.homeBars (s : State) (m : Msg) : Bool :=
  let (r, w) := m.regionWay
  s.recovering r w || s.fenced r (m.host.getD 127)

/-- Requests in the staging of a home: the counted ones, or the writebacks and clean evictions (R317). -/
def State.staged (s : State) (h : Nat) (counted : Bool) : Nat :=
  (s.msgs.filter (fun m => decide (m.stage = .atHome) && m.dst == 124 + h && m.counted == counted)).length

/-- The next message that the staging has an entry for (R317). -/
def State.homeTakes (s : State) (h : Nat) (counted : Bool) : Option Msg :=
  if s.staged h counted < (if counted then 24576 else 1024) then s.homeNext h counted else none

/-- A counted Market request is accepted (R316). -/
def State.homeRequest (s : State) (h : Nat) : State :=
  match s.homeTakes h true with
  | none => s
  | some m =>
    let (m, s) := s.homeTake m
    if s.homeBars m then s.homeRefuse m else s

/-- HOME_REQUEST (R316). -/
def execHomeRequest (h : Half) (s : State) : Host.Outcome State Fault Refusal := done (s.homeRequest (hix h))

/-- A writeback of a line whose recorded owner was given up counts as late (R325): an uncached write. -/
def State.lateWrite (s : State) (h : Nat) (m : Msg) : Msg × State :=
  let (r, w) := m.regionWay
  let k := (h, r, w, m.line, m.host.getD 127)
  if m.writes && s.market.late.contains k then
    let m := { m with mkt := .uncached, followed := true }
    (m, ((s.bump F.COH_EVENTS_LATE_WB 1 h).withMarket (fun x => { x with late := x.late.filter (fun e => e != k) })).update m)
  else (m, s)

/-- A writeback or clean eviction is accepted (R320, R325, R335). -/
def State.homeWriteback (s : State) (h : Nat) (m : Msg) : State :=
  if s.recovering m.regionWay.1 m.regionWay.2 then s.homeRefuse m
  else let (m, s) := s.lateWrite h m; s.homeSettle h m

/-- HOME_WRITEBACK (R320). -/
def execHomeWriteback (h : Half) (s : State) : Host.Outcome State Fault Refusal :=
  done (match s.homeTakes (hix h) false with
    | none => s
    | some m =>
      let (m, s) := s.homeTake m
      s.homeWriteback (hix h) m)

/-! ## Flows (R314, R317 to R329) -/

/-- The first request in the staging whose line has no flow and no earlier request: those that were writebacks come first,
since they follow the flow they met directly (R319, R320). -/
def State.flowNext (s : State) (h : Nat) : Option Msg :=
  let staged := s.msgs.filter (fun m => decide (m.stage = .atHome) && m.dst == 124 + h && !s.market.wayWaits.contains m.id
    && !(match m.slice with | some r => s.market.handing.contains r | none => false))
  staged.find? (fun m =>
    (s.flowAt h m.regionWay.1 m.regionWay.2 m.line).isNone
      && !(s.msgs.any (fun x => s.market.wayWaits.contains x.id && x.regionWay == m.regionWay && x.line == m.line))
      && ((staged.filter (fun x => x.regionWay == m.regionWay && x.line == m.line)).head?.map (fun (x : Msg) => x.id)) == some m.id)

/-- What the check bits of a Ledger cache lookup report (R341, R584). -/
def State.ledgerEcc (s : State) (h : Nat) (m : Msg) (ecc : Ecc) : State :=
  match s.ledgerFind h m.regionWay.1 m.regionWay.2 m.line with
  | none => s
  | some e =>
    let g := ledgerSet e.region e.way e.line / 1024
    match ecc with
    | .good => s
    | .corrected => (s.bump F.WEAR_LEDGER_CE_COUNT 1 h g).put F.WEAR_LEDGER_CE_LAST_WAY e.cacheWay h g
    | .uncorrectable => s.setErr F.COH_ERR_LEDGER_UE h (774 + h)

/-- Start the flow of a staged request (R318); an uncorrectable entry is met blind (R313, R341). -/
def State.homeFlow (s : State) (h : Nat) (ecc : Ecc) : State :=
  if s.market.quiet.contains h || decide (4096 ≤ (s.market.flows.filter (fun f => f.half == h)).length) then s
  else
    match s.flowNext h with
    | none => s
    | some m =>
      let s := s.ledgerEcc h m ecc
      match ecc, s.ledgerFind h m.regionWay.1 m.regionWay.2 m.line with
      | .uncorrectable, some e =>
        (s.bump F.LEDGER_HIT_V 1 h).flowGo { id := m.id, half := h, region := e.region, way := e.way, line := e.line, blind := true }
          { e with st := 0, coarse := false, holders := [] }
      | _, some e => if m.counted then s.flowStart h m else (s.bump F.LEDGER_HIT_V 1 h).homeApply h m e
      | _, none => s.flowStart h m

/-- HOME_FLOW_START (R318). -/
def execHomeFlowStart (h : Half) (ecc : Ecc) (s : State) : Host.Outcome State Fault Refusal := done (s.homeFlow (hix h) ecc)

/-- An entry that the walk of a recall read from memory and that records the recalled host (R332): a flow for it. -/
def State.recallEntry (s : State) (h r w line : Nat) (word : Nat) : State :=
  match s.market.recalls.find? (fun e => e.1 == r) with
  | none => s
  | some (_, x) =>
    let (st, coarse, holders, _) := ledgerDecode word line false
    if (s.ledgerFind h r w line).isSome || !(holderHosts coarse holders).contains x || s.homeOf 0 ⟨true, r, w⟩ != h then s
    else
      match s.ledgerAlloc h r w line with
      | none => s
      | some s =>
        let (id, s) := s.freshId
        match s.ledgerFind h r w line with
        | some e => s.flowGo { id := id, half := h, region := r, way := w, line := line, forRecall := some x }
            { e with st := st, coarse := coarse, holders := holders }
        | none => s

/-- LEDGER_FILL (R314, R332): the read that a flow waits for, or an entry that a recall's walk found. -/
def execLedgerFill (h : Half) (what : LedgerRead) (entry : BitVec 64) (s : State) : Host.Outcome State Fault Refusal :=
  done (match what with
    | .reply id poison =>
      match s.msgs.find? (fun m => m.id == id && m.input == 124 + hix h && decide (m.op = .ledgerRead) && decide (m.stage = .atDevice)) with
      | none => s
      | some m =>
        let s := s.remove m
        match s.market.flows.find? (fun f => f.memId == some id) with
        | some f => s.ledgerFill f entry.toNat poison
        | none => s
    | .walk r w line => s.recallEntry (hix h) r.val w.val line.toNat entry.toNat)

/-- A way is free again: the waiting miss accepted first takes it (R314). -/
def State.wayFreed (s : State) (h : Nat) : State :=
  let waiting := s.market.wayWaits.filterMap (fun id => s.msgs.find? (fun m => m.id == id && m.dst == 124 + h))
  match waiting.find? (fun m => (s.ledgerWay h (ledgerSet m.regionWay.1 m.regionWay.2 m.line)).isSome) with
  | none => s
  | some m =>
    match s.ledgerAlloc h m.regionWay.1 m.regionWay.2 m.line with
    | none => s
    | some s =>
      let s := s.withMarket (fun k => { k with wayWaits := k.wayWaits.filter (fun x => x != m.id) })
      s.flowMiss { id := m.id, half := h, region := m.regionWay.1, way := m.regionWay.2, line := m.line } m

/-- LEDGER_WAY_FREED (R314). -/
def execLedgerWayFreed (h : Half) (s : State) : Host.Outcome State Fault Refusal := done (s.wayFreed (hix h))

/-- A snoop that is out: sent or still on its way to its port. -/
def State.snoopOut (s : State) (id : Nat) : Option Msg := s.msgs.find? (fun m => m.id == id && decide (m.op = .snoop))

/-- SNOOP_RESPONSE (R318, R324): the response of the host on a port to snoop `id` of the engine of half `h`: BIRspS where
`kept`, BIRspI otherwise. -/
def execSnoopResponse (p : Port) (h : Half) (id : Nat) (kept : Bool) (s : State) : Host.Outcome State Fault Refusal :=
  done (match s.msgs.find? (fun m => m.id == id && decide (m.op = .snoop) && m.dst == p.val && decide (m.stage = .atDevice)) with
    | none => s.homeProto (hix h) p.val {}
    | some m =>
      let s := s.exitCause.remove m
      match s.flow m.session with
      | some f => s.snoopDone f id (m.host.getD 127) kept false
      | none => s.homeProto (hix h) p.val {})

/-- The device answers a snoop whose response did not arrive (R323). -/
def State.snoopTimeout (s : State) (h : Nat) (m : Msg) (f : Flow) : State :=
  let x := m.host.getD 127
  let lost := f.owner == some x
  let s := s.remove m
  let s := if lost then s.bump F.SNOOP_ABSENT_V 1 (256 * h + f.region) else s
  let s := (s.setFence f.region x true).bump F.COH_EVENTS_SNOOP_TIMEOUT 1 h
  let s := (s.put F.COH_ERR_SNOOP_TIMEOUT 1 h).raise (8 * m.dst + 6)
    { cause := 1, host := some x, stall := s.stallToRegion x f.region }
  let s := if lost then (s.agentSend h (homeMsg h .memWrite f.region f.way (64 * f.line) zeros64 true)).2 else s
  let f := if lost then { f with poisoned := true, data := some (zeros64, true) } else f
  s.snoopDone f m.id x false true

/-- SNOOP_TIMEOUT (R323). -/
def execSnoopTimeout (h : Half) (id : Nat) (s : State) : Host.Outcome State Fault Refusal :=
  done (match s.snoopOut id with
    | none => s
    | some m => match s.flow m.session with
      | some f => if f.half == hix h then s.snoopTimeout (hix h) m f else s
      | none => s)

/-- WB_GRACE_EXPIRY (R325): the flow goes on with memory data. -/
def execWbGraceExpiry (h : Half) (id : Nat) (s : State) : Host.Outcome State Fault Refusal :=
  done (match s.flow id with
    | some f =>
      if f.half == hix h && decide (f.phase = .grace) then
        let s := match f.owner with
          | some x => s.withMarket (fun m => { m with late := m.late ++ [(f.half, f.region, f.way, f.line, x)] })
          | none => s
        s.flowAdvance { f with phase := .snoop }
      else s
    | none => s)

/-- MIN_HOLD_EXPIRY (R327): the flow may snoop the holder. -/
def execMinHoldExpiry (h : Half) (id : Nat) (s : State) : Host.Outcome State Fault Refusal :=
  done (match s.flow id with
    | some f =>
      if f.half == hix h && decide (f.phase = .holdWait) then
        match s.ledgerFind f.half f.region f.way f.line with
        | some e => s.flowSnoop f (s.flowReq f) e
        | none => s
      else s
    | none => s)

/-! ## Retirement of ways (R315) -/

/-- The active ways of a set group. -/
def State.groupWays (s : State) (h g : Nat) : List Nat :=
  (List.range 18).filter (fun k => Word.bits (s.rd .LEDGER_GROUP h g) k 1 == 1)

/-- A way that is neither active nor retired (R315). -/
def State.groupSpare (s : State) (h g : Nat) : Option Nat :=
  (List.range 18).find? (fun k => !(s.groupWays h g).contains k && !s.market.gone.contains (192 * h + g, k))

/-- LEDGER_WAY_RETIRE (R315, R342). -/
def State.wayRetire (s : State) (h g way : Nat) : State :=
  if s.flag F.LEDGER_GROUP_RETIRING h g || !(s.groupWays h g).contains way then s
  else if (s.groupSpare h g).isNone && decide ((s.groupWays h g).length ≤ 12) then s.raise (774 + h)
  else (s.put F.LEDGER_GROUP_RETIRING 1 h g).withMarket (fun m => { m with retiring := m.retiring ++ [(192 * h + g, way)] })

def execLedgerWayRetire (h : Half) (g : Fin 192) (way : Fin 32) (s : State) : Host.Outcome State Fault Refusal :=
  done (s.wayRetire (hix h) g.val way.val)

/-- The entries of a way of a set group. -/
def LedgerLine.inWay (e : LedgerLine) (h g way : Nat) : Bool :=
  e.half == h && e.cacheWay == way && ledgerSet e.region e.way e.line / 1024 == g

/-- Once no entry of the way is Busy: write back, invalidate, bring in a spare, clear RETIRING (R315). -/
def State.wayRetired (s : State) (h g : Nat) : State :=
  match s.market.retiring.find? (fun e => e.1 == 192 * h + g) with
  | none => s
  | some (_, way) =>
    if s.market.cache.any (fun e => e.inWay h g way && (e.busy || (e.dirty && s.ledgerHeld e))) then s
    else
      let s := s.ledgerFlush (fun e => e.inWay h g way)
      let s := s.withMarket (fun m => { m with cache := m.cache.filter (fun e => !e.inWay h g way),
                                               retiring := m.retiring.filter (fun e => e.1 != 192 * h + g),
                                               gone := m.gone ++ [(192 * h + g, way)] })
      let active := s.get F.LEDGER_GROUP_ACTIVE h g - 2 ^ way
      let active := match s.groupSpare h g with | some k => active + 2 ^ k | none => active
      (s.put F.LEDGER_GROUP_ACTIVE active h g).put F.LEDGER_GROUP_RETIRING 0 h g

/-- LEDGER_WAY_RETIRE_DONE (R315). -/
def execLedgerWayRetireDone (h : Half) (g : Fin 192) (s : State) : Host.Outcome State Fault Refusal :=
  done (s.wayRetired (hix h) g.val)

/-! ## Recovery and flush (R336, R341) -/

/-- The coarse bits that an unknown line of a region is written with: those of every host of the region (R313). -/
def State.unknownHolders (s : State) (r : Nat) : List Nat := ((s.regionHosts r).map (fun x => x / 2)).eraseDups

/-- REGION_RECOVERY_DONE (R336): every entry of each recovering slice of the region was rewritten as unknown. -/
def execRegionRecoveryDone (r : Fin 256) (s : State) : Host.Outcome State Fault Refusal :=
  done (match s.runningOp (.recoverRegion r.val) with
    | none => s
    | some o =>
      let s := ((List.range 16).filter (fun w => s.recovering r.val w)).foldl (fun s w =>
        s.emit (.ledgerUnknown r.val w (s.unknownHolders r.val))) s
      let s := s.put F.REGION_STATUS_RECOVERING 0 r.val
      let s := if s.get F.REGION_STATUS_STATE r.val == 3 then s.setRegion r.val 1 else s
      s.endOperation o .ok)

/-- Start the write-back of every dirty entry of a half (R341). -/
def State.cohFlush (s : State) (h : Nat) : State :=
  if s.flag F.COH_STATUS_FLUSHING h then s else (s.put F.COH_STATUS_FLUSHING 1 h).ledgerFlush (fun e => e.half == h)

/-- COH_FLUSH (R341): COH_CTRL.FLUSH. -/
def execCohFlush (h : Half) (s : State) : Host.Outcome State Fault Refusal := done (s.cohFlush (hix h))

/-- Whether a half's Ledger cache holds a dirty entry (LEDGER_CLEAN, R341). -/
def State.ledgerDirty (s : State) (h : Nat) : Bool := s.market.cache.any (fun e => e.half == h && e.dirty)

/-- The home engines start no new flow; those that wait for a minimum hold go on, since R327 does not apply now (R337). -/
def State.homeQuiet (s : State) : State :=
  let s := s.withMarket (fun m => { m with quiet := [0, 1] })
  (s.market.flows.filter (fun f => decide (f.phase = .holdWait))).foldl (fun s f =>
    match s.ledgerFind f.half f.region f.way f.line with
    | some e => s.flowSnoop f (s.flowReq f) e
    | none => s) s

/-! ## Recall (R332) -/

/-- Flows for the cached entries of a region that record a host, if no flow is on them. -/
def State.recallCached (s : State) (r x : Nat) : State :=
  (s.market.cache.filter (fun e => e.region == r && !e.busy && (holderHosts e.coarse e.holders).contains x)).foldl (fun s e =>
    let (id, s) := s.freshId
    s.flowGo { id := id, half := e.half, region := r, way := e.way, line := e.line, forRecall := some x } e) s

/-- A recall starts: the region reads Recalling, the host is fenced, the walk begins (R332). -/
def State.recallStart (s : State) (r x : Nat) : State :=
  let s := (s.setRegion r 2).setFence r x true
  (s.withMarket (fun m => { m with recalls := m.recalls ++ [(r, x)] })).recallCached r x

/-- Whether a recall's flows have all ended, and no cached entry still points at the host (R332). -/
def State.recallIdle (s : State) (r x : Nat) : Bool :=
  !(s.market.flows.any (fun f => f.region == r && f.forRecall == some x))
    && !(s.market.cache.any (fun e => e.region == r && !e.coarse && e.holders.contains x))

/-- Flows for the cached entries that still record a recalled host, where its recall is not at its end (R332). -/
def State.recallRest (s : State) (l : List (Nat × Nat)) : State :=
  (l.filter (fun e => !s.recallIdle e.1 e.2)).foldl (fun s e => s.recallCached e.1 e.2) s

/-- A recall is over (R332, R333): the region no longer reads Recalling. -/
def State.recallEnd (s : State) (r x : Nat) : State :=
  let s := s.withMarket (fun m => { m with recalls := m.recalls.filter (fun e => e != (r, x)),
                                           flows := m.flows.filter (fun f => !(f.region == r && f.forRecall == some x)) })
  if s.market.recalls.any (fun e => e.1 == r) || s.get F.REGION_STATUS_STATE r != 2 then s
  else s.setRegion r (if s.get F.REGION_STATUS_RECOVERING r == 0 then 1 else 3)

end Sys2Proof.Machine
end

