-- ==== Sys2Proof/Machine/IngressCore.lean ====
section
/-!
DEFINITION. The window checkers and decoders (R227 to R245), and what happens to a request at the ingress (R26) and to
a response (R28), as operations.
-/
namespace Sys2Proof.Machine

/-! ## Windows (R229, R230, R235, R245) -/

/-- Whether a window takes part in matching (R229), as half `h` sees it. -/
def State.windowLive (s : State) (h c w : Nat) : Bool :=
  let d := s.hget h F.WIN_ATTR_DECODER c w
  s.hflag h F.WIN_BASE_VALID c w && s.hget h F.WIN_SIZE_SIZE c w != 0
    && decide (s.hget h F.WIN_BASE_BASE c w + s.hget h F.WIN_SIZE_SIZE c w ≤ 2 ^ 24)
    && s.hflag h F.DEC_CTRL_VALID c d && !s.hflag h F.DEC_STATE_PENDING c d

/-- The window of a context that an address matches (R229). -/
def State.windowOf (s : State) (h c addr : Nat) : Option Nat :=
  if 2 ^ 52 ≤ addr then none
  else
    let u := addr / 2 ^ 28
    (List.range 256).find? (fun w => decide (s.hget h F.WIN_BASE_BASE c w ≤ u)
      && decide (u < s.hget h F.WIN_BASE_BASE c w + s.hget h F.WIN_SIZE_SIZE c w) && s.windowLive h c w)

/-- One part of an access: the window it matched, or none, and whether it is permitted (R230). `tag` is the Stall of a user
Porter descriptor. -/
structure Part where
  addr : Nat
  len : Nat
  window : Option Nat
  ok : Bool
deriving DecidableEq, Repr

/-- Check one part (R230). -/
def State.checkPart (s : State) (h c : Nat) (write : Bool) (tag : Option Nat) (addr len : Nat) : Part :=
  match s.windowOf h c addr with
  | none => ⟨addr, len, none, false⟩
  | some w =>
    let d := s.hget h F.WIN_ATTR_DECODER c w
    let named := match tag with | some st => s.hget h F.DEC_CTRL_STALL c d == st | none => true
    ⟨addr, len, some w, named && !(write && s.hflag h F.WIN_ATTR_READ_ONLY c w)⟩

/-- Cut an access at every multiple of `g` (R232): the addresses and lengths of its parts, at most `n`. -/
def cutAt (g addr len : Nat) : Nat → List (Nat × Nat)
  | 0 => []
  | n + 1 =>
    let room := g - addr % g
    if len ≤ room then [(addr, len)] else (addr, room) :: cutAt g (addr + room) (len - room) n

/-- The parts of an access, checked (R232). -/
def State.checkAccess (s : State) (h c : Nat) (write : Bool) (tag : Option Nat) (addr len : Nat) : List Part :=
  (cutAt (2 ^ 28) addr (max 1 len) 6).map (fun e => s.checkPart h c write tag e.1 e.2)

/-- The fault source of a context's checker: family 5 of the host's port, or 784 for context 95 (R233). -/
def State.checkerSource (s : State) (c : Nat) : Nat :=
  match s.hostPort c with
  | some p => if c < 95 then 8 * p + 5 else 784
  | none => 784

/-- Count the denied parts of an access and record one fault (R233). -/
def State.countDenied (s : State) (c : Nat) (parts : List Part) : State :=
  let bad := parts.filter (fun x => !x.ok)
  match bad with
  | [] => s
  | b :: _ =>
    let s := (s.bump F.CHK_DENIED_V bad.length c).count (224 + (match s.hostPort c with | some p => halfOf p | none => 0)) 1 bad.length
    let s := s.bump F.CHK_NOMATCH_V ((bad.filter (fun x => x.window.isNone)).length) c
    let s := s.put F.CHK_LAST_ADDR_V b.addr c
    s.raise (s.checkerSource c) { host := (if c < 95 then some c else none), addr := some b.addr }

/-- Whether two windows of a context overlap (R235). -/
def State.windowsOverlap (s : State) (c : Nat) : Bool :=
  let ws := (List.range 256).filter (fun w => s.windowLive 0 c w)
  let lo (w : Nat) := s.get F.WIN_BASE_BASE c w
  let hi (w : Nat) := s.get F.WIN_BASE_BASE c w + s.get F.WIN_SIZE_SIZE c w
  ws.any (fun a => ws.any (fun b => a != b && decide (lo a < hi b) && decide (lo b < hi a)))

/-- Whether a window lies inside its decoder's range (R245). -/
def State.windowFits (s : State) (c w : Nat) : Bool :=
  let d := s.get F.WIN_ATTR_DECODER c w
  let base := s.get F.DEC_BASE_V c d
  decide (base ≤ s.get F.WIN_BASE_BASE c w)
    && decide (s.get F.WIN_BASE_BASE c w + s.get F.WIN_SIZE_SIZE c w ≤ base + s.get F.DEC_SIZE_V c d)

/-! ## Decoders (R240, R242, R308) -/

/-- Where one piece of a permitted part goes. -/
structure Place where
  /-- the slice and the offset in it, or none for a raw range (TYPE 2) -/
  slice : Option SliceRef
  off : Nat
  /-- port, logical device and device physical address of a raw range -/
  raw : Nat × Nat × Nat
  stall : Option Nat
  device : Bool
  addr : Nat
  len : Nat
deriving DecidableEq, Repr

/-- Decode one address by the window's decoder (R240 to R242). -/
def State.decodeAt (s : State) (h c w addr len : Nat) : Place :=
  let d := s.hget h F.WIN_ATTR_DECODER c w
  let o := addr - s.hget h F.DEC_BASE_V c d * 2 ^ 28 + s.hget h F.DEC_OFFSET_V c d * 2 ^ 28
  let st := s.hget h F.DEC_CTRL_STALL c d
  let dev := s.hflag h F.WIN_ATTR_DEVICE c w
  match s.hget h F.DEC_CTRL_TYPE c d with
  | 0 => let (r, off) := s.resolve h false st o; ⟨some r, off, (0, 0, 0), some st, dev, addr, len⟩
  | 1 => let (r, off) := s.resolve h true (s.hget h F.DEC_CTRL_REGION c d) o; ⟨some r, off, (0, 0, 0), some st, dev, addr, len⟩
  | _ => ⟨none, 0, (st / 16 % 128, st % 16, o), none, dev, addr, len⟩

/-- The interleave granule of the window's decoder; a raw range has none, and an access to it is cut at every 1 MiB, the unit of its
device's ranges (DESIGN CHOICE, log entry 167). -/
def State.granuleAt (s : State) (h c w : Nat) : Nat :=
  let d := s.hget h F.WIN_ATTR_DECODER c w
  match s.hget h F.DEC_CTRL_TYPE c d with
  | 0 => (s.layoutOf h false (s.hget h F.DEC_CTRL_STALL c d)).2
  | 1 => 64
  | _ => 2 ^ 20

/-- The pieces of a permitted part: cut at the interleave granules, and for a region at its lines (R242, R316; a CXL.io
access may span several, DEDUCED, log entry 13). -/
def State.places (s : State) (h c : Nat) (x : Part) : List Place :=
  match x.window with
  | none => []
  | some w => (cutAt (s.granuleAt h c w) x.addr x.len 65).map (fun e => s.decodeAt h c w e.1 e.2)

/-! ## From the ingress to admission (R26, R208, R218) -/

/-- A poisoned item received at a port (R112). -/
def State.poisonIn (s : State) (p : Nat) (poison : Bool) : State :=
  if poison then
    let s := s.bump F.POISON_COUNT_V 1 p
    if s.flag F.PORT_ERR_POISON_RX p then s else s.portErr F.PORT_ERR_POISON_RX p
  else s

/-- A request of a host's, as a message: its operation, class and data blocks (R125). -/
def reqMsg (r : ReqIn) (p host : Nat) : Msg :=
  let op : MsgOp := match r.kind with
    | .memRead => .memRead | .memWrite => .memWrite | .memInv => .memInv
    | .ioRead | .atomic => .ioRead | .ioWrite => .ioWrite | _ => .mgmt
  let cls := match r.kind with | .memRead | .memInv => 0 | .memWrite => 1 | .ioRead | .ioWrite | .atomic => 4 | _ => 9
  let wr := decide (op = .memWrite) || decide (op = .ioWrite) || decide (r.kind = .atomic)
  { id := 0, cls := cls, op := op, input := p, dst := 127, ctx := host, host := some host, addr := r.addr.toNat, len := r.len,
    blocks := (if wr then (r.len + 63) / 64 else 0), data := (if wr then r.data else []), poison := r.poison, mkt := r.market,
    partialWr := wr && decide (r.len < 64), late := (if wr then min r.late ((r.len + 63) / 64) else 0) }

/-- Give a message its id and put it at the tail of its hold list, charged to its port's receive reserve; it is offered if
it heads the list (R174, R178). -/
def State.accept (s : State) (m : Msg) : State :=
  let h := halfOf m.input
  match s.aim h m with
  | (m, none) =>
    let (m, s) := s.enqueue m h .receive
    s.offerNew m false
  | (m, some c) =>
    let (id, s) := s.freshId
    let s := s.enqueuePair { m with id := id } c h .receive
    s.offerNew { m with id := id } false

/-- A request for a half whose Seam stayed down for 10 µs (R46): answered, and a fault for each write that is dropped. -/
def State.answerSeam (s : State) (m : Msg) (h : Nat) : State :=
  let s := s.answerHeld m
  if m.writes then s.raise (768 + h) m.info else s

/-- One piece of a host's request after its window check and decode: QUENCH, the answers of R109, the meter, admission. -/
def State.forward (s : State) (m : Msg) (x : Place) : State :=
  let h := halfOf m.input
  let m := { m with stall := x.stall, device := x.device, slice := x.slice, off := x.off, addr := x.addr, len := x.len }
  let dst := match x.slice with | some r => (s.sliceOf h r).1 | none => x.raw.1
  let m := match x.slice with
    | some r => if r.region then { m with dst := 124 + halfOf dst } else m
    | none => { m with dst := x.raw.1, ld := x.raw.2.1, dpa := x.raw.2.2 }
  let far := halfOf (match x.slice with | some _ => dst | none => m.dst) != h
  if s.quenched m then s.answerQuenched m
  else if far && s.buf.seamRefused.contains h then s.answerSeam m h
  else if s.splitHolds m.input then s.answerHeld m
  else if m.dst < 96 && s.refuses dst then s.answerRefused { m with dst := dst }
  else
    let (m, s) := s.meter m
    if m.dst < 124 then s.accept m
    else
      let (m, s) := s.enqueue m h .receive
      s.offerNew m false

/-- The completion of a MemInv or MemClnEvct to an HDM-H range: the device completes it itself (R98). -/
def State.completeInv (s : State) (m : Msg) : State := s.emit (.writeDone m.input m.id m.devLoad)

/-- What a host receives for an access with a denied part (R232). -/
def Msg.deniedAnswer (m : Msg) : List Out :=
  match m.op with
  | .memRead => [.toHost m.input m.id .memResp zeros64 true m.devLoad]
  | .memWrite | .memInv => [.writeDone m.input m.id m.devLoad]
  | .ioRead => [.completerAbort m.input m.id]
  | _ => []

/-- Data of one piece. -/
def pieceData (m : Msg) (x : Place) : List Byte := (m.data.drop (x.addr - m.addr)).take x.len

/-- Cells of one piece that are still arriving: those beyond the cells that came (R182). -/
def pieceLate (m : Msg) (x : Place) : Nat :=
  (x.len + 63) / 64 - (min x.len (64 * (m.blocks - m.late) - (x.addr - m.addr)) + 63) / 64

/-- Send one permitted part of a request on its way, piece by piece. -/
def State.forwardPart (s : State) (h c : Nat) (m : Msg) (part : Part) : State :=
  (s.places h c part).foldl (fun s x =>
    let d := pieceData m x
    let m := if m.data.isEmpty then m else { m with data := d, blocks := (d.length + 63) / 64, late := pieceLate m x,
                                                              partialWr := decide (d.length < 64) }
    s.forward m x) s

/-- Window check, decode, meter, admission of a host's request (R26, R227 to R233). -/
def State.checkRequest (s : State) (m : Msg) (inv atomic : Bool) : State :=
  let h := halfOf m.input
  let (id, s) := (s.count (224 + h) 0 1).freshId
  let m := { m with id := id }
  let parts := s.checkAccess h m.ctx m.writes none m.addr m.len
  let s := s.countDenied m.ctx parts
  if parts.all (fun x => x.ok) then
    let whole := parts.flatMap (fun x => s.places h m.ctx x)
    let region := whole.any (fun x => match x.slice with | some r => r.region | none => false)
    if atomic && region then s.emit (.completerAbort m.input m.id)
    else if inv && !region then s.completeInv m
    else match whole with
      | [x] => s.forward m x
      | _ => parts.foldl (fun s x => s.forwardPart h m.ctx { m with id := 0 } x) s
  else if m.op = .ioWrite then
    (parts.filter (fun x => x.ok)).foldl (fun s x => s.forwardPart h m.ctx { m with id := 0 } x) s
  else s.emits m.deniedAnswer

/-- A request of a host at its checker (R237, R239): held while the checker is disabled, answered once the hold expired. -/
def State.atChecker (s : State) (m : Msg) (inv atomic : Bool) : State :=
  if s.flag F.CHK_CTRL_EN m.ctx then s.checkRequest m inv atomic
  else if s.flag F.CHK_CTRL_HOLD_EXPIRED m.ctx then s.emits m.heldAnswer
  else
    let (m, s) := (s.count (224 + halfOf m.input) 5 1).enqueue { m with session := (if inv then 1 else 0) + (if atomic then 2 else 0) } (halfOf m.input) .receive
    s.update { m with stage := .atChecker }

/-- Take the requests that wait at an ingress in their order of arrival, those that a test selects. -/
def State.takeWaiting (s : State) (f : Msg → Bool) : State :=
  (s.msgs.filter (fun m => decide (m.stage = .atChecker) && f m)).foldl (fun s m =>
    let s := s.remove m
    s.atChecker { m with id := 0, stage := .held, cells := [], charge := .none } (m.session % 2 == 1) (decide (2 ≤ m.session))) s

/-! ## Responses (R28, R379) -/

/-- Send a response toward its requester, written into the half that owns the requester's port (R28). -/
def State.respond (s : State) (m : Msg) (data : List Byte) (poison : Bool) : State :=
  let p := m.input
  if p < 96 && s.isHeld p && s.isHostPort p then s
  else
    let a := { m.response data poison with slice := none, wait := none, twin := none, copy := false }
    let h := halfOf m.dst
    let (a, s) := s.enqueue a h .receive
    s.offerNew a false

/-- A memory read of the home engine returned (R318, R329). -/
def State.homeData (s : State) (m : Msg) (data : List Byte) (poison : Bool) : State :=
  match s.market.flows.find? (fun f => f.memId == some m.id || f.spec == some m.id) with
  | none => s
  | some f =>
    if m.op = .ledgerRead then
      s.ledgerFill f (if poison then 0 else leNat ((data.drop (8 * (f.line % 8))).take 8)) poison
    else if f.phase = .memory && f.memId == some m.id then
      s.flowAdvance { f with specData := some (data, poison), spec := none }
    else s.setFlow { f with specData := some (data, poison) }

/-- Requests of one piece came back from the device. -/
def State.deviceDone (s : State) (m : Msg) (data : List Byte) (poison : Bool) : State :=
  if m.squashed then
    match m.stall with
    | some st => (s.remove m).bump F.STALL_LATE_V 1 st
    | none => s.remove m
  else if m.input < 96 then
    match m.twin with
    | some t =>
      match s.msgs.find? (fun x => x.id == t) with
      | some c =>
        if c.answered || m.answered then (let s := (s.remove m).remove c; s.respond (if m.copy then c else m) [] false)
        else s.update { m with answered := true }
      | none => (s.remove m).respond m data poison
    | none => (s.remove m).respond m data poison
  else if m.input == 124 || m.input == 125 then (s.remove m).homeData m data poison
  else if m.ofPorter then s.porterBack m data poison false
  else s.remove m

end Sys2Proof.Machine
end

