-- ==== Sys2Proof/Machine/Operands.lean ====
section
/-!
DEFINITION. The operand forms of register accesses: which register an address names (R9, R599), the address of a
register, and the masks that the access codes of R13 give.
-/
namespace Sys2Proof.Machine

/-! ## Addresses (R9, R585, R599) -/

/-- The bytes of a register (R10). -/
def Reg.bytes (r : Reg) : Nat := if r.wide then 8 else 4

/-- Walk the dimensions of a row: the two indices and the offset left over, if the offset lies in the array. -/
def dimsAt : List Dim → Nat → Nat → Nat → Option (Nat × Nat × Nat)
  | [], off, i, j => some (i, j, off)
  | d :: t, off, i, j =>
    let k := off / d.stride
    if d.n ≤ k then none
    else match d.axis with
      | .shared => dimsAt t (off % d.stride) i j
      | .first => dimsAt t (off % d.stride) (i * d.n + k) j
      | .second => dimsAt t (off % d.stride) i (j * d.n + k)

/-- The register of a row that an address falls in, and the offset in it. -/
def Row.at (w : Row) (a : Nat) : Option (Key × Nat) :=
  if a < w.base then none
  else match dimsAt w.dims (a - w.base) 0 0 with
    | some (i, j, off) => if off < w.reg.bytes then some (⟨w.reg, w.i0 + i, j⟩, off) else none
    | none => none

/-- The register that an address falls in, and the offset in it; none at an unassigned offset. -/
def regAt (a : Nat) : Option (Key × Nat) := Reg.rows.findSome? (fun w => w.at a)

/-- The offset of a key in an array, its dimensions innermost first. -/
def dimsOff : List Dim → Nat → Nat → Nat
  | [], _, _ => 0
  | d :: t, i, j =>
    match d.axis with
    | .shared => dimsOff t i j
    | .first => i % d.n * d.stride + dimsOff t (i / d.n) j
    | .second => j % d.n * d.stride + dimsOff t i (j / d.n)

/-- How many first indices a row holds. -/
def Row.firsts (w : Row) : Nat := ((w.dims.filter (fun d => decide (d.axis = .first))).map Dim.n).foldl (fun a b => a * b) 1

/-- The address of a register (R9); the East copy where both halves show it. -/
def Key.addr (k : Key) : Nat :=
  match Reg.rows.find? (fun w => decide (w.reg = k.reg) && decide (w.i0 ≤ k.i) && decide (k.i - w.i0 < w.firsts)) with
  | some w => w.base + dimsOff w.dims.reverse (k.i - w.i0) k.j
  | none => 0

/-- The blocks of the register space (R585): whether an address below 0x4000_0000 lies in one. -/
def inBlock (a : Nat) : Bool := decide (a < 0x07000000) || (decide (0x10000000 ≤ a) && decide (a < 0x12800000))

/-- The scratchpad and the Ember store (R458, R548). -/
def inScratchpad (a : Nat) : Bool := decide (0x10000000 ≤ a) && decide (a < 0x12000000)
def inEmber (a : Nat) : Bool := decide (0x12000000 ≤ a) && decide (a < 0x12800000)

/-- Half block of an address, if it lies in one: 0 East, 1 West (R585). -/
def halfBlock (a : Nat) : Option Nat :=
  if 0x02000000 ≤ a ∧ a < 0x03000000 then some 0 else if 0x03000000 ≤ a ∧ a < 0x04000000 then some 1 else none

/-! ## Masks (R13, R17, R279) -/

/-- The bits of a field. -/
def FSpec.mask (f : FSpec) : Nat := (2 ^ f.w - 1) * 2 ^ f.lo

/-- The bits of a register whose fields satisfy a test. -/
def Reg.maskOf (r : Reg) (t : FSpec → Bool) : Nat := ((Reg.fields r).filter t).foldl (fun a f => a + f.mask) 0

/-- The registers of a window entry (R271). -/
def Reg.isWindow : Reg → Bool
  | .WIN_BASE | .WIN_SIZE | .WIN_ATTR => true
  | _ => false

/-- The bits that a transaction may write: RWT fields, and the fields of window entries (R279). -/
def Reg.txnMask (r : Reg) : Nat := if r.isWindow then r.maskOf (fun _ => true) else r.maskOf (fun f => decide (f.acc = .RWT))

/-- The bits of `v` where the mask holds 1, those of `old` elsewhere. -/
def blend (mask old v : Nat) : Nat := old - Nat.land old mask + Nat.land v mask

/-- A value is a used encoding of a field (R20). -/
def FSpec.allows (f : FSpec) (v : Nat) : Bool := f.used.isEmpty || f.used.any (fun e => decide (e.1 ≤ v) && decide (v ≤ e.2))

/-- The value of a field in a register value. -/
def FSpec.of (f : FSpec) (v : Nat) : Nat := v / 2 ^ f.lo % 2 ^ f.w

/-- The RWT fields that are enumerations, whose unused encodings a Write may not give (R20, R279): ROLE, the WAYS and IG
codes, TYPE, HOLD_MODE and the alpha codes. -/
def Reg.enumField (r : Reg) (lo : Nat) : Bool :=
  match r with
  | .PORT_CFG => lo == 2
  | .STALL_LAYOUT | .REGION_LAYOUT => decide (24 ≤ lo)
  | .DEC_CTRL => lo == 29
  | .REGION_CTRL => lo == 28
  | .Q_ALPHA => true
  | _ => false

end Sys2Proof.Machine
end

