-- ==== Sys2Proof/Machine/TxnCore.lean ====
section
/-!
DEFINITION. Binding transactions as operations: the shadow, the checks of a commit (R282), what follows an epoch advance,
and the transactions that firmware opens for itself (R274 to R304).
-/
namespace Sys2Proof.Machine

/-- A transaction slot. -/
def State.tx (s : State) (t : Nat) : TxSlot := numGet {} t s.txns.slots

/-- Store a slot. -/
def State.setTx (s : State) (t : Nat) (x : TxSlot) : State :=
  { s with txns := { s.txns with slots := numPut {} t x s.txns.slots } }

/-- Update the transactions. -/
def State.withTxns (s : State) (f : Txns → Txns) : State := { s with txns := f s.txns }

/-! States of a slot and phases of its journal (R298, R304). -/
abbrev txFree : Nat := 0
abbrev txOpen : Nat := 1
abbrev txValidating : Nat := 2
abbrev txStaged : Nat := 3
abbrev txApplying : Nat := 4
abbrev txUndoing : Nat := 5
abbrev jEmpty : Nat := 0
abbrev jPrepared : Nat := 1
abbrev jApplying : Nat := 2
abbrev jCommitted : Nat := 3
abbrev jUndoing : Nat := 4

/-- The state of a slot. -/
def State.txState (s : State) (t : Nat) : Nat := s.get F.TXSLOT_STATE_STATE t

/-- Set the state of a slot. -/
def State.setTxState (s : State) (t v : Nat) : State := s.put F.TXSLOT_STATE_STATE v t

/-- Free a slot (R287). -/
def State.txClear (s : State) (t : Nat) : State :=
  let s := s.setTx t {}
  ((s.put F.TXSLOT_STATE_STATE txFree t).clearReg .SLOT_BASE_EPOCH t)

/-! ## Laying items over the committed configuration (R278, R282) -/

/-- Registers of a meter entry, which are written into both halves (R213). -/
def Reg.isMeter : Reg → Bool
  | .METER_CTRL | .METER_CIR | .METER_PIR | .METER_BURST => true
  | _ => false

/-- Write one item: its transaction bits change, the others stay. -/
def State.layItem (s : State) (k : Key) (v : Word) : State :=
  let one (s : State) (i : Nat) : State :=
    s.wr k.reg (BitVec.ofNat 64 (blend k.reg.txnMask (s.rd k.reg i k.j).toNat v.toNat)) i k.j
  if k.reg.isMeter then one (one s 0) 1 else one s k.i

/-- Lay items over the configuration. -/
def State.layItems (s : State) (items : List (Key × Word)) : State := items.foldl (fun s e => s.layItem e.1 e.2) s

/-- Decoders whose DEC_CTRL, base, size or offset is among the keys. -/
def decodersOf (ks : List Key) : List (Nat × Nat) :=
  ((ks.filter (fun k => match k.reg with | .DEC_CTRL | .DEC_BASE | .DEC_SIZE | .DEC_OFFSET => true | _ => false)).map
    (fun k => (k.i, k.j))).eraseDups

/-- Whether laying decoder `e` over `old` makes it pending (R246): HOST_PLACE is set, or a valid decoder with it is written. -/
def State.makesPending (s old : State) (e : Nat × Nat) : Bool :=
  s.flag F.DEC_CTRL_HOST_PLACE e.1 e.2 && (s.flag F.DEC_CTRL_VALID e.1 e.2 || !old.flag F.DEC_CTRL_HOST_PLACE e.1 e.2)

/-- PENDING of the decoders that a commit writes (R246): it reads 1 where the commit makes them pending, and 0 without HOST_PLACE
(DESIGN CHOICE, log entry 170). -/
def State.layPending (s old : State) (ds : List (Nat × Nat)) : State :=
  ds.foldl (fun s e =>
    if s.makesPending old e then s.put F.DEC_STATE_PENDING 1 e.1 e.2
    else if s.flag F.DEC_CTRL_HOST_PLACE e.1 e.2 then s else s.put F.DEC_STATE_PENDING 0 e.1 e.2) s

/-- The configuration that a commit would produce. Firmware's own transactions say themselves what becomes of PENDING. -/
def State.candidate (s : State) (items : List (Key × Word)) (fw : Bool) : State :=
  let c := s.layItems items
  if fw then c else c.layPending s (decodersOf (items.map Prod.fst))

/-! ## Device ranges (R243, R244, R305) -/

/-- A range of a logical device that something occupies, in bytes, with the register that places it. -/
structure Placed where
  key : Key
  port : Nat
  ld : Nat
  lo : Nat
  len : Nat
  raw : Bool := false
deriving DecidableEq, Repr

/-- Whether two ranges share a byte. -/
def Placed.meets (a b : Placed) : Bool :=
  a.port == b.port && a.ld == b.ld && decide (a.lo < b.lo + b.len) && decide (b.lo < a.lo + a.len)

/-- Units that each slice of a layout holds. -/
def State.sliceUnits (s : State) (region : Bool) (o : Nat) : Nat :=
  if region then s.get F.REGION_LAYOUT_CAP o / (s.layoutOf 2 true o).1 else s.get F.STALL_LAYOUT_CAP o / (s.layoutOf 2 false o).1

/-- The ranges of one slice entry. -/
def placedAt (k : Key) (v : Word) (lo len : Nat) : Placed :=
  { key := k, port := Word.bits v 48 7, ld := Word.bits v 40 4, lo := lo, len := len }

/-- The ranges of a defined Stall (R244). -/
def State.stallRanges (s : State) (st : Nat) : List Placed :=
  if s.flag F.STALL_CTRL_DEFINED st then
    ((List.range 16).filter (fun w => s.flag F.STALL_SLICE_VALID st w)).map (fun w =>
      let v := s.rd .STALL_SLICE st w
      placedAt ⟨.STALL_SLICE, st, w⟩ v (2 ^ 28 * Word.bits v 0 24) (2 ^ 28 * s.sliceUnits false st))
  else []

/-- The data and Ledger ranges of a valid region (R244, R305). -/
def State.regionRanges (s : State) (r : Nat) : List Placed :=
  if s.flag F.REGION_CTRL_VALID r then
    ((List.range 16).filter (fun w => Word.bits (s.rd .REGION_SLICE r w) 63 1 == 1)).flatMap (fun w =>
      let v := s.rd .REGION_SLICE r w
      let u := s.sliceUnits true r
      [placedAt ⟨.REGION_SLICE, r, w⟩ v (2 ^ 28 * Word.bits v 0 24) (2 ^ 28 * u),
       placedAt ⟨.REGION_LEDGER, r, w⟩ v (2 ^ 25 * s.get F.REGION_LEDGER_LEDGER_BASE r w) (2 ^ 25 * u)])
  else []

/-- The Keep region's range (R552). -/
def State.keepRanges (s : State) : List Placed :=
  if s.flag F.KEEP_CTRL_VALID then
    [{ key := ⟨.KEEP_BASE, 0, 0⟩, port := s.get F.KEEP_CTRL_PORT, ld := s.get F.KEEP_CTRL_LD,
       lo := 2 ^ 24 * s.get F.KEEP_BASE_BASE, len := 2 ^ 24 }]
  else []

/-- The raw ranges of context 95's decoders (R240). -/
def State.rawRanges (s : State) : List Placed :=
  ((List.range 32).filter (fun d => s.flag F.DEC_CTRL_VALID 95 d && s.get F.DEC_CTRL_TYPE 95 d == 2)).map (fun d =>
    let st := s.get F.DEC_CTRL_STALL 95 d
    { key := ⟨.DEC_CTRL, 95, d⟩, port := st / 16 % 128, ld := st % 16, lo := 2 ^ 28 * s.get F.DEC_OFFSET_V 95 d,
      len := 2 ^ 28 * s.get F.DEC_SIZE_V 95 d, raw := true })

/-- The targets of active relocations, data and Ledger (R376). -/
def State.targetRanges (s : State) : List Placed :=
  (s.rlActive.filter (fun x => !s.flag F.RELOC_OBJECT_REMOTE x)).flatMap (fun x =>
    let of (r : DevRange) : Placed := { key := ⟨.RELOC_DST, x, 0⟩, port := r.port, ld := r.ld, lo := 2 ^ 20 * r.start, len := 2 ^ 20 * r.len }
    if !s.rlOnSource 2 x then [of (sliceRange (s.rd .RELOC_SRC x) (s.rlUnits x) none)]
    else of (s.rlTargetRange x) :: (if s.flag F.RELOC_OBJECT_MARKET x then [of (s.rlLedgerRange x)] else []))

/-- Valid regions. -/
def State.regionsValid (s : State) : List Nat := (List.range 256).filter (fun r => s.flag F.REGION_CTRL_VALID r)

/-- Every range of R244 but the raw ones. -/
def State.ownedRanges (s : State) : List Placed :=
  s.stallsDefined.flatMap (fun st => s.stallRanges st) ++ s.regionsValid.flatMap (fun r => s.regionRanges r) ++ s.keepRanges

/-- The MiB capacity of a logical device in the inventory, and whether its device is persistent. -/
def State.deviceOf (s : State) (p ld : Nat) : Option (Nat × Bool) :=
  match s.inventory.find? (fun d => d.port == p) with
  | some d => if ld < d.capacities.length then some (d.capacities.getD ld 0, d.persistent) else none
  | none => none

/-- A released range meets a placed one. -/
def DevRange.meets (r : DevRange) (x : Placed) : Bool :=
  x.meets { key := x.key, port := r.port, ld := r.ld, lo := 2 ^ 20 * r.start, len := 2 ^ 20 * r.len }

/-! ## What a list of keys touches -/

/-- The Stalls whose entry, slices or meter entry is written. -/
def stallsIn (ks : List Key) : List Nat :=
  ((ks.filter (fun k => match k.reg with
    | .STALL_CTRL | .STALL_BIND | .STALL_LAYOUT | .STALL_SERIAL | .STALL_SLICE => true | _ => false)).map Key.i).eraseDups

/-- The regions whose header or slices are written. -/
def regionsIn (ks : List Key) : List Nat :=
  ((ks.filter (fun k => match k.reg with
    | .REGION_CTRL | .REGION_LAYOUT | .REGION_SLICE | .REGION_LEDGER => true | _ => false)).map Key.i).eraseDups

/-- The contexts whose windows or decoders are written. -/
def contextsIn (ks : List Key) : List Nat :=
  ((ks.filter (fun k => k.reg.isWindow || (match k.reg with | .DEC_CTRL | .DEC_BASE | .DEC_SIZE | .DEC_OFFSET => true | _ => false))).map
    Key.i).eraseDups

/-- The Stalls whose meter entry is written. -/
def metersIn (ks : List Key) : List Nat := ((ks.filter (fun k => k.reg.isMeter)).map Key.j).eraseDups

/-- Ranges that the candidate places and the configuration does not hold. -/
def State.newRanges (s c : State) (ks : List Key) : List Placed :=
  let now := (stallsIn ks).flatMap (fun st => c.stallRanges st) ++ (regionsIn ks).flatMap (fun r => c.regionRanges r)
    ++ (if ks.any (fun k => decide (k.reg = .KEEP_CTRL) || decide (k.reg = .KEEP_BASE)) then c.keepRanges else [])
  let old := (stallsIn ks).flatMap (fun st => s.stallRanges st) ++ (regionsIn ks).flatMap (fun r => s.regionRanges r) ++ s.keepRanges
  now.filter (fun x => !(old.any (fun y => x.port == y.port && x.ld == y.ld && x.lo == y.lo && x.len == y.len)))

/-! ## The checks of R282. Each answers the registers at which it fails. -/

/-- Order 4: the Inspect permission (R193) and quarantined ranges (R244). -/
def State.check4 (s c : State) (ks : List Key) (inspect : Bool) : List Key :=
  (ks.filter (fun k => decide (k.reg = .MIR_CTRL) && !inspect && c.flag F.MIR_CTRL_INSPECT k.i k.j && !s.flag F.MIR_CTRL_INSPECT k.i k.j))
    ++ ((s.newRanges c ks).filter (fun x => s.ranges.any (fun r => r.quarantined && r.meets x))).map Placed.key

/-- Encodings and ranges of RWT fields (R20, R282). A meter entry's own limits are those of R214, and Q_RX_RESERVE is ignored
at a native Cascade port (R201). -/
def State.badEncoding (c : State) (k : Key) : Bool :=
  !k.reg.isWindow && !(decide (k.reg = .Q_RX_RESERVE) && c.role k.i == 6)
    && (Reg.fields k.reg).any (fun f => decide (f.acc = .RWT) && !f.allows (f.of (c.rd k.reg k.i k.j).toNat))

/-- Port roles, host numbers and slots (R89 to R91, R102, R108, R243). -/
def State.badPort (c : State) (p : Nat) : Bool :=
  let r := c.role p
  let h := c.get F.PORT_CFG_HOST_ID p
  let slot := c.get F.PORT_SLOT_SLOT p
  let host := if c.isHostPort p then
      decide (95 ≤ h) || (List.range 96).any (fun q => q != p && c.isHostPort q && c.get F.PORT_CFG_HOST_ID q == h)
    else h != 127
  let tie := c.flag F.PORT_SLOT_VALID p && (!(3 ≤ r && r ≤ 5) || decide (slot / 24 ≠ halfOf p)
    || (List.range 96).any (fun q => q != p && c.flag F.PORT_SLOT_VALID q && c.get F.PORT_SLOT_SLOT q == slot))
  let bond := c.flag F.BOND_CTRL_BOND_ACTIVE (p / 2 * 2) && c.get F.PORT_CFG_ROLE (p / 2 * 2) != c.get F.PORT_CFG_ROLE (p / 2 * 2 + 1)
  host || tie || bond || (r == 7 && c.flag F.PORT_CFG_IDE_REQUIRED p)
    || (r != 3 && ((c.slicesOn p).any (fun e => c.flag F.STALL_CTRL_DEFINED e.1)
      || c.regionSlices.any (fun x => (c.sliceOf 2 x).1 == p)))

/-- A Cascade role for a port that carries a device passed through whole with CXL.cache (ROLE 4), or its host (R126). -/
def State.cacheOverCascade (s c : State) (p : Nat) : Bool :=
  decide (6 ≤ c.role p) && s.passed.any (fun e => (e.2.2 == p || s.hostPort e.1 == some p) && s.role e.2.2 == 4)

/-- Capacity in units of 256 MiB of what a decoder names (R241). -/
def State.decoderCap (c : State) (x d : Nat) : Nat :=
  let st := c.get F.DEC_CTRL_STALL x d
  match c.get F.DEC_CTRL_TYPE x d with
  | 0 => c.get F.STALL_LAYOUT_CAP st
  | 1 => c.get F.REGION_LAYOUT_CAP (c.get F.DEC_CTRL_REGION x d)
  | _ => match c.deviceOf (st / 16 % 128) (st % 16) with | some v => v.1 / 256 | none => 0

/-- A decoder reaches beyond the capacity of its target (R241). -/
def State.beyondTarget (c : State) (x d : Nat) : Bool :=
  decide (c.decoderCap x d < c.get F.DEC_OFFSET_V x d + c.get F.DEC_SIZE_V x d)

/-- A valid decoder of TYPE 0 or 1 that names a Stall which it may not name, or reaches beyond its target (R241). -/
def State.misnames (c : State) (x d : Nat) : Bool :=
  let st := c.get F.DEC_CTRL_STALL x d
  (x == 95 && !c.flag F.STALL_CTRL_DEFINED st) || (x < 95 && !(c.flag F.STALL_BIND_BOUND st && c.get F.STALL_BIND_HOST st == x))
    || c.beyondTarget x d

/-- A written decoder that breaks R98, R240, R241, R246 or R271. -/
def State.badDecoder (s c : State) (x d : Nat) (fw : Bool) : Bool :=
  let ty := c.get F.DEC_CTRL_TYPE x d
  (ty == 0 && c.get F.DEC_CTRL_REGION x d != 0)
    || (x == 95 && c.flag F.DEC_CTRL_HOST_PLACE x d) || (x < 95 && ty == 2)
    || (!fw && c.makesPending s (x, d) && c.get F.DEC_BASE_V x d != 0)
    || (c.flag F.DEC_CTRL_VALID x d &&
      (c.get F.DEC_SIZE_V x d == 0 || (x == 95 && ty == 1)
        || (ty == 1 && (!c.flag F.REGION_CTRL_VALID (c.get F.DEC_CTRL_REGION x d)
            || !(match c.hostPort x with | some p => c.flag F.PORT_STATUS_BI_SUPPORTED p | none => false)))
        || (if ty == 2 then c.beyondTarget x d else c.misnames x d)))

/-- Whether a decoder that no item writes breaks R241 because the Stall or region that it names was written. -/
def State.losesTarget (c : State) (x d : Nat) (sts rs : List Nat) : Bool :=
  let ty := c.get F.DEC_CTRL_TYPE x d
  c.flag F.DEC_CTRL_VALID x d && decide (ty < 2)
    && ((sts.contains (c.get F.DEC_CTRL_STALL x d) && c.misnames x d)
      || (ty == 1 && rs.contains (c.get F.DEC_CTRL_REGION x d) && c.flag F.REGION_CTRL_VALID (c.get F.DEC_CTRL_REGION x d)
        && c.beyondTarget x d))

/-- The valid decoders of every context, by context. -/
def State.decodersValid (s : State) : List (Nat × Nat) :=
  (s.regs.filter (fun e => decide (e.1.reg = .DEC_CTRL) && Word.bits e.2 31 1 == 1)).map (fun e => (e.1.i, e.1.j))

/-- The decoders of a host's context that name a Stall, in ascending index. -/
def State.decodersNaming (s : State) (host st : Nat) : List Nat :=
  (List.range 32).filter (fun d => s.flag F.DEC_CTRL_VALID host d && s.get F.DEC_CTRL_TYPE host d < 2 && s.get F.DEC_CTRL_STALL host d == st)

/-- How many decoders of a bound Stall's host name it (R241). -/
def State.naming (c : State) (st : Nat) : Nat := (c.decodersNaming (c.get F.STALL_BIND_HOST st) st).length

/-- An emulated HDM decoder. -/
def Emulated.dec (e : Emulated) (k : Nat) : Hdm := numGet {} k e.hdm

/-- Store one. -/
def State.setHdm (s : State) (st k : Nat) (x : Hdm) : State :=
  let e := s.emul st
  s.setEmul st { e with hdm := numPut {} k x e.hdm }

/-- A layout that breaks R243, R249 or R306. -/
def State.badLayout (c : State) (region : Bool) (o : Nat) : Bool :=
  let (n, _) := c.layoutOf 2 region o
  let cap := if region then c.get F.REGION_LAYOUT_CAP o else c.get F.STALL_LAYOUT_CAP o
  let v (w : Nat) := if region then c.rd .REGION_SLICE o w else c.rd .STALL_SLICE o w
  let slice (w : Nat) : Bool :=
    let p := Word.bits (v w) 48 7
    let ld := Word.bits (v w) 40 4
    match c.deviceOf p ld with
    | none => true
    | some (mib, _) =>
      c.role p != 3 || decide (c.get F.PORT_STATUS_PARTNER_LDS p ≤ ld)
        || decide (mib < 256 * (Word.bits (v w) 0 24 + cap / n))
        || (region && decide (mib < 32 * (c.get F.REGION_LEDGER_LEDGER_BASE o w + cap / n)))
  let kind (w : Nat) := (c.deviceOf (Word.bits (v w) 48 7) (Word.bits (v w) 40 4)).map Prod.snd
  cap == 0 || cap % n != 0
    || (region && decide (32768 < cap))
    || (List.range 16).any (fun w => (Word.bits (v w) 63 1 == 1) != decide (w < n))
    || (List.range n).any (fun w => slice w || kind w != kind 0)

/-- A mirroring session that breaks R193. -/
def State.badMirror (c : State) (h n : Nat) : Bool :=
  let a := c.get F.MIR_CTRL_ANALYSIS h n
  c.flag F.MIR_CTRL_EN h n &&
    (decide (halfOf a ≠ h) || c.role a != 5 || c.passed.any (fun e => e.2.2 == a)
      || (c.get F.MIR_CTRL_SOURCE h n == 1 && decide (halfOf (c.get F.MIR_CTRL_PORT h n) ≠ h)))

/-- A meter that breaks R214. -/
def State.badMeter (c : State) (st : Nat) : Bool :=
  let cir := c.get F.METER_CIR_CIR 0 st
  let pir := c.get F.METER_PIR_PIR 0 st
  let cbs := c.get F.METER_BURST_CBS 0 st
  let pbs := c.get F.METER_BURST_PBS 0 st
  c.flag F.METER_CTRL_EN 0 st &&
    (pir == 0 || decide (pir < cir) || decide (256000 < max cir pir) || decide (pbs < 64) || decide (pbs < cbs))

/-- A window that lies outside its decoder's range though it takes part in matching, or would but for PENDING (R245); a
window of context 95 in the default map (R234). -/
def State.badWindow (c : State) (x w : Nat) : Bool :=
  let base := c.get F.WIN_BASE_BASE x w
  let size := c.get F.WIN_SIZE_SIZE x w
  let d := c.get F.WIN_ATTR_DECODER x w
  c.flag F.WIN_BASE_VALID x w && size != 0 &&
    ((x == 95 && decide (base < 4))
      || (decide (base + size ≤ 2 ^ 24) && c.flag F.DEC_CTRL_VALID x d && !c.windowFits x w))

/-- A binding that breaks R254: the Stall is not Defined, its virtual port is taken, or its host's port has ROLE 2. -/
def State.badBind (s c : State) (st : Nat) : Bool :=
  let x := c.get F.STALL_BIND_HOST st
  let v := c.get F.STALL_BIND_VDSP st
  c.flag F.STALL_BIND_BOUND st && s.rd .STALL_BIND st != c.rd .STALL_BIND st &&
    (!c.flag F.STALL_CTRL_DEFINED st
      || (!s.flag F.STALL_BIND_BOUND st && !(s.stall st == stDefined || s.stall st == stFree))
      || c.stallsDefined.any (fun o => o != st && c.flag F.STALL_BIND_BOUND o && c.get F.STALL_BIND_HOST o == x && c.get F.STALL_BIND_VDSP o == v)
      || c.passed.any (fun e => e.1 == x && e.2.1 == v)
      || (match c.hostPort x with | some p => c.role p == 2 | none => false))

/-- The Keep region's own checks (R552). -/
def State.badKeep (c : State) : Bool :=
  let p := c.get F.KEEP_CTRL_PORT
  c.flag F.KEEP_CTRL_VALID && (c.role p != 3 || match c.deviceOf p (c.get F.KEEP_CTRL_LD) with
    | none => true
    | some (mib, pers) => !pers || decide (mib < 16 * (c.get F.KEEP_BASE_BASE + 1)))

/-- Order 5: INVALID. Fields of a relocation context are written only by its start transaction (R397). -/
def State.check5 (s c : State) (ks : List Key) (fw : Bool) : List Key :=
  let xs := contextsIn ks
  ks.filter (fun k => c.badEncoding k || match k.reg with
      | .PORT_CFG => c.badPort k.i || s.cacheOverCascade c k.i
      | .PORT_SLOT => c.badPort k.i
      | .MIR_CTRL => c.badMirror k.i k.j
      | .RELOC_CTRL | .RELOC_OBJECT | .RELOC_SRC | .RELOC_DST | .RELOC_LEDGER => !fw
      | .KEEP_CTRL | .KEEP_BASE => c.badKeep
      | _ => false)
    ++ (decodersOf ks).filterMap (fun e => if s.badDecoder c e.1 e.2 fw then some ⟨.DEC_CTRL, e.1, e.2⟩ else none)
    ++ (c.stallsDefined.filter (fun st => c.flag F.STALL_BIND_BOUND st && ((stallsIn ks).contains st || xs.contains (c.get F.STALL_BIND_HOST st))
        && (c.naming st == 0 || decide (4 < c.naming st)))).map (fun st => ⟨.STALL_BIND, st, 0⟩)
    ++ (stallsIn ks).filterMap (fun st => if s.badBind c st || (c.flag F.STALL_BIND_BOUND st && !c.flag F.STALL_CTRL_DEFINED st)
        then some ⟨.STALL_BIND, st, 0⟩ else none)
    ++ (c.decodersValid.filter (fun e => c.losesTarget e.1 e.2 (stallsIn ks) (regionsIn ks))).map (fun e => (⟨.DEC_CTRL, e.1, e.2⟩ : Key))
    ++ (stallsIn ks).filterMap (fun st => if c.flag F.STALL_CTRL_DEFINED st && c.badLayout false st then some ⟨.STALL_LAYOUT, st, 0⟩ else none)
    ++ (regionsIn ks).filterMap (fun r => if c.flag F.REGION_CTRL_VALID r && c.badLayout true r then some ⟨.REGION_LAYOUT, r, 0⟩ else none)
    ++ (metersIn ks).filterMap (fun st => if c.badMeter st then some ⟨.METER_CTRL, 0, st⟩ else none)
    ++ xs.flatMap (fun x => ((List.range 256).filter (fun w => c.badWindow x w)).map (fun w => ⟨.WIN_BASE, x, w⟩))

/-- Whether a slice entry under relocation is written with another value (R377). -/
def State.movesSlice (s c : State) (k : Key) : Bool :=
  (match k.reg with | .STALL_SLICE | .REGION_SLICE | .REGION_LEDGER => true | _ => false)
    && s.rd k.reg k.i k.j != c.rd k.reg k.i k.j
    && (s.relocOf ⟨decide (k.reg ≠ .STALL_SLICE), k.i, k.j⟩).isSome

/-- Order 6: BUSY. -/
def State.check6 (s c : State) (ks : List Key) (fw : Bool) : List Key :=
  let placed := s.newRanges c ks
  ks.filter (fun k => (decide (k.reg = .PORT_CFG) && s.role k.i != c.role k.i && s.linkState k.i != lsDisabled)
      || (k.reg.isWindow && !s.flag F.CHK_CTRL_EN k.i)
      || (!fw && s.movesSlice c k))
    ++ (placed.filter (fun x => s.ranges.any (fun r => !r.quarantined && r.meets x)
        || (!fw && s.targetRanges.any (fun t => t.meets x)))).map Placed.key
    ++ (stallsIn ks).filterMap (fun st =>
        let was := s.flag F.STALL_BIND_BOUND st
        let moved := was && s.rd .STALL_BIND st != c.rd .STALL_BIND st
        let rebound := moved && c.flag F.STALL_BIND_BOUND st
        let gone := s.flag F.STALL_CTRL_DEFINED st && !c.flag F.STALL_CTRL_DEFINED st
        if (s.stall st == stResetting && (moved || gone))
            || (rebound && (s.stall st != stQuenched || !(s.stallMsgs st).isEmpty))
            || (gone && s.rlActive.any (fun x => !(s.rlSlice x).region && (s.rlSlice x).obj == st)) then some ⟨.STALL_BIND, st, 0⟩
        else none)
    ++ (regionsIn ks).filterMap (fun r =>
        if s.flag F.REGION_CTRL_VALID r && !c.flag F.REGION_CTRL_VALID r
            && (!(c.regionHosts r).isEmpty || s.rlActive.any (fun x => (s.rlSlice x).region && (s.rlSlice x).obj == r)) then
          some ⟨.REGION_CTRL, r, 0⟩
        else none)

/-- Order 7: OVERLAP of windows (R235) and of device ranges (R244). A raw range may reach every range that is not raw
(log entry 15). -/
def State.check7 (s c : State) (ks : List Key) : List Key :=
  let ours := c.ownedRanges
  let raw := c.rawRanges
  let clash (l : List Placed) : List Key :=
    (l.filter (fun a => l.any (fun b => a.key != b.key && a.meets b))).map Placed.key
  (contextsIn ks).filterMap (fun x => if c.windowsOverlap x then some ⟨.WIN_BASE, x, 0⟩ else none)
    ++ (if (stallsIn ks).isEmpty && (regionsIn ks).isEmpty && (contextsIn ks).isEmpty && (s.newRanges c ks).isEmpty then []
        else clash ours ++ clash raw)

/-- The raw rate of a host's port in MB/s (R214). -/
def State.rawRate (s : State) (p : Nat) : Nat :=
  let lanes := if s.flag F.BOND_CTRL_BOND_ACTIVE (p / 2 * 2) then 16 else 8 / 2 ^ s.get F.PHY_CTRL_MAX_WIDTH p
  lanes * rateTenths (s.get F.PHY_CTRL_MAX_RATE p) * 125 / 10

/-- The hosts whose committed rates a commit touches (R214). -/
def State.ratedHosts (c : State) (ks : List Key) : List Nat :=
  ((metersIn ks ++ ((ks.filter (fun k => decide (k.reg = .STALL_BIND))).map Key.i)).filter (fun st => c.flag F.STALL_BIND_BOUND st)).map
      (fun st => c.get F.STALL_BIND_HOST st)
    ++ ((ks.filter (fun k => decide (k.reg = .PORT_CFG) && c.isHostPort k.i)).map (fun k => c.get F.PORT_CFG_HOST_ID k.i))

/-- Order 8: NO_RESOURCE (R172, R214, R306). -/
def State.check8 (c : State) (ks : List Key) : List Key :=
  [0, 1].filterMap (fun h => if c.sharedSize h < 65536 || c.sharedHeaders h < 16384 then some ⟨.BUF_MGMT_RESERVE, h, 0⟩ else none)
    ++ (c.ratedHosts ks).filterMap (fun x => match c.hostPort x with
      | some p =>
        let ms := (c.stallsOf x).filter (fun st => c.flag F.METER_CTRL_EN 0 st)
        if c.rawRate p < (ms.map (fun st => c.get F.METER_CIR_CIR 0 st)).sum then some ⟨.METER_CIR, 0, ms.headD 0⟩ else none
      | none => none)
    ++ (if !(regionsIn ks).isEmpty && decide (32768 < (c.regionsValid.map (fun r => c.get F.REGION_LAYOUT_CAP r)).sum) then
        [⟨.REGION_LAYOUT, (regionsIn ks).headD 0, 0⟩] else [])

/-- Whether order 2 refuses: a half in Hold or split, or banking under way (R282, R303). -/
def State.refusing (s : State) : Bool :=
  [0, 1].any (fun h => s.flag F.HALF_STATE_HOLD h || s.flag F.HALF_STATE_SPLIT h) || s.get F.PWR_STATE_STATE == 5

/-- Epoch x is lower than epoch y (R289). -/
def epochLower (x y : Nat) : Bool :=
  let d := (y + 2 ^ 32 - x) % 2 ^ 32
  decide (1 ≤ d) && decide (d < 2 ^ 31)

/-- Whether a configuration message with an epoch and a commit ID is stale at a half: a lower epoch, or its own with another ID
(R32, R289). -/
def State.staleAt (s : State) (h e id : Nat) : Bool :=
  epochLower e (s.get F.HALF_EPOCH_V h) || (e == s.get F.HALF_EPOCH_V h && id != s.get F.HALF_COMMIT_V h)

/-- A half discards a stale configuration message, counts it and reports it to the Hearth (R32, R289). -/
def State.discardStale (s : State) (h : Nat) : State :=
  (s.bump F.HALF_STALE_V 1 h).emit (.configReport h Status.staleEpoch.code)

/-- The items of a transaction that an epoch advance changed since its base epoch (R283). -/
def State.staleItems (s : State) (t : Nat) : List Key :=
  let base := s.get F.SLOT_BASE_EPOCH_V t
  ((s.tx t).shadow.map Prod.fst).filter (fun k => match tabFind k s.txns.wroteAt with | some e => epochLower base e | none => false)

/-- The outcome of the checks: none where the commit may go on, or its status and the item at which it failed. -/
def firstFailure (l : List (Status × List Key)) : Option (Status × Option Key) :=
  (l.find? (fun e => !e.2.isEmpty)).map (fun e => (e.1, e.2.head?))

/-- The checks of orders 4 to 8 (R282). -/
def State.checks (s c : State) (ks : List Key) (inspect fw : Bool) : Option (Status × Option Key) :=
  firstFailure [(.denied, s.check4 c ks inspect), (.invalid, s.check5 c ks fw), (.busy, s.check6 c ks fw),
                (.overlap, s.check7 c ks), (.noResource, c.check8 ks)]

/-! ## After the epoch advance -/

/-- Ranges of `old` that no range of `new` holds, as released ranges: what a commit took out of layouts (R267). -/
def lostRanges (old new : List Placed) (stall : Option Nat) : List DevRange :=
  (old.filter (fun x => !(new.any (fun y => x.port == y.port && x.ld == y.ld && x.lo == y.lo && x.len == y.len)))).map
    (fun x => { port := x.port, ld := x.ld, start := x.lo / 2 ^ 20, len := x.len / 2 ^ 20, stall := stall })

/-- Release ranges in their order. -/
def State.releaseAll (s : State) (l : List DevRange) : State := l.foldl (fun s r => s.releaseRange r) s

/-- The host-visible counters of a Stall, both halves together: RD, WR, IO, POISON (R573, R574). -/
def State.stallCounts (s : State) (st : Nat) : List Nat :=
  [F.STALL_RD_V, F.STALL_WR_V, F.STALL_IO_V, F.STALL_POISON_V].map (fun f => s.get f 0 st + s.get f 1 st)

/-- Firmware records the baseline of a Stall that a commit binds or rebinds (R574). -/
def State.rebase (s : State) (st : Nat) : State :=
  { s with telem := { s.telem with baseline := numPut [] st (s.stallCounts st) s.telem.baseline,
                                   shown := numPut [] st [0, 0, 0, 0] s.telem.shown } }

/-- A Stall that a commit changed: defined, deleted, bound, rebound, unbound (R248, R249, R254 to R257, R267, R573). -/
def State.stallCommitted (s old : State) (st : Nat) (keepSource : Bool) : State :=
  let was := old.flag F.STALL_CTRL_DEFINED st
  let is := s.flag F.STALL_CTRL_DEFINED st
  let wasB := old.flag F.STALL_BIND_BOUND st
  let isB := s.flag F.STALL_BIND_BOUND st
  let place (x : State) := (x.get F.STALL_BIND_HOST st, x.get F.STALL_BIND_VDSP st)
  let moved := old.rd .STALL_BIND st != s.rd .STALL_BIND st
  let s := if keepSource then s else s.releaseAll (lostRanges (old.stallRanges st) (s.stallRanges st) (if is then none else some st))
  let s := if wasB && moved then s.withTxns (fun t => { t with plugs := t.plugs ++ [((place old).1, (place old).2, false)] }) else s
  let now := place s
  let s := if isB && moved then s.withTxns (fun t => { t with plugs := t.plugs ++ [(now.1, now.2, true)] }) else s
  let s := if isB && moved then ((s.setMissing 0 st (0, 0)).setMissing 1 st (0, 0)) else s
  let s := if wasB && isB && moved then s.setQuench st false else s
  let s := if is && !was then
      [0, 1].foldl (fun s h => (((s.clearReg .STALL_RD h st).clearReg .STALL_WR h st).clearReg .STALL_IO h st).clearReg .STALL_POISON h st) s
    else s
  let s := if isB && moved then s.rebase st else s
  if !was && is then s.setStall st (if isB then stBound else stDefined)
  else if was && !is then
    let s := { s with emulated := tabErase st s.emulated }
    s.setStall st (if s.ranges.any (fun r => r.stall == some st) then stReleasing else stFree)
  else if is && moved && !(s.stall st == stFailed || s.stall st == stFrozen) then
    s.setStall st (if isB then (if s.quenchSet st then stQuenched else stBound) else stDefined)
  else s

/-- A region that a commit changed (R307, R267). -/
def State.regionCommitted (s old : State) (r : Nat) (keepSource : Bool) : State :=
  let was := old.flag F.REGION_CTRL_VALID r
  let is := s.flag F.REGION_CTRL_VALID r
  let s := if keepSource then s
    else s.releaseAll ((lostRanges (old.regionRanges r) (s.regionRanges r) none).map (fun x => { x with region := if is then none else some r }))
  let st := s.get F.REGION_STATUS_STATE r
  let v := if is && !was then 1 else if was && !is then 5 else st
  s.setRegion r v

/-- A meter that a commit changed: both buckets full where it was enabled or its bursts changed (R213). -/
def State.meterCommitted (s old : State) (st : Nat) : State :=
  if (s.flag F.METER_CTRL_EN 0 st && !old.flag F.METER_CTRL_EN 0 st) || old.rd .METER_BURST 0 st != s.rd .METER_BURST 0 st then
    (s.setMissing 0 st (0, 0)).setMissing 1 st (0, 0)
  else s

/-- Hosts of a region again are no longer fenced by a recall (R333). -/
def State.refence (s old : State) (ks : List Key) : State :=
  (contextsIn ks).foldl (fun s x =>
    s.regionsValid.foldl (fun s r =>
      if x < 95 && (s.regionHosts r).contains x && !(old.regionHosts r).contains x then s.setFence r x false else s) s) s

/-- The emulated HDM decoders of decoders that a commit made pending read not committed (R246). -/
def State.unplaced (s old : State) (ks : List Key) : State :=
  ((decodersOf ks).filter (fun e => e.1 < 95 && s.makesPending old e && s.flag F.DEC_STATE_PENDING e.1 e.2)).foldl (fun s e =>
    let st := s.get F.DEC_CTRL_STALL e.1 e.2
    match (s.decodersNaming e.1 st).idxOf? e.2 with
    | some k => let x := (s.emul st).dec k; s.setHdm st k { x with committed := false, waiting := false }
    | none => s) s

/-- What follows an epoch advance that wrote `ks`. -/
def State.committed (s old : State) (ks : List Key) (keepSource : Bool) : State :=
  let s := (stallsIn ks).foldl (fun s st => s.stallCommitted old st keepSource) s
  let s := (regionsIn ks).foldl (fun s r => s.regionCommitted old r keepSource) s
  let s := (metersIn ks).foldl (fun s st => s.meterCommitted old st) s
  let s := (ks.filter (fun k => decide (k.reg = .BULK_SHAPE))).foldl (fun s k => s.bulkZero k.i) s
  let s := (ks.filter (fun k => decide (k.reg = .Q_MIN) || decide (k.reg = .PORT_CFG))).foldl (fun s k =>
    [0, 1, 2, 3].foldl (fun s q => s.minExcess k.i q s.msgs.length) s) s
  let s := (s.mirrorFloor 0 s.msgs.length).mirrorFloor 1 s.msgs.length
  let s := if ks.any (fun k => decide (k.reg = .KEEP_CTRL) || decide (k.reg = .KEEP_BASE)) then
      let s := s.releaseAll (lostRanges old.keepRanges s.keepRanges none)
      { s with flash := { s.flash with keepPlace :=
        (if s.flag F.KEEP_CTRL_VALID then some ((s.rd .KEEP_CTRL).toNat, (s.rd .KEEP_BASE).toNat) else none) } } else s
  let s := (ks.filter (fun k => decide (k.reg = .PORT_CFG))).foldl (fun s k =>
    if old.role k.i != s.role k.i then s.setLinkState k.i (s.restState k.i) else s) s
  let s := (ks.filter (fun k => decide (k.reg = .PORT_SLOT))).foldl (fun s k => s.lineCheck k.i) s
  let s := (ks.filter (fun k => (decide (k.reg = .PORT_CFG) || decide (k.reg = .MKT_CREDITS)) && !s.isHostPort k.i)).foldl (fun s k =>
    s.clearReg .MKT_CREDITS k.i) s
  let s := { s with swapped := s.swapped.filter (fun r =>
    !ks.contains (⟨if r.region then .REGION_SLICE else .STALL_SLICE, r.obj, r.way⟩ : Key)
      && (if r.region then s.flag F.REGION_CTRL_VALID r.obj else s.flag F.STALL_CTRL_DEFINED r.obj)) }
  (s.refence old ks).unplaced old ks

/-- Remember the epoch that wrote the keys (R283). -/
def State.stampItems (s : State) (ks : List Key) : State :=
  let e := s.get F.EPOCH_V
  s.withTxns (fun t => { t with wroteAt := ks.foldl (fun l k => tabInsert Key.lt k e (tabErase k l)) t.wroteAt })

/-- A commit that was Prepared leaves that phase: the context of a relocation's reads Synced again (R389). -/
def State.unprepare (s : State) (t : Nat) : State :=
  let s := (s.setTxState t txValidating).put F.JOURNAL_PHASE_PHASE jEmpty t
  match (s.tx t).fw with
  | some (.relocCommit x) => if s.rlState x == rlCommitting then (s.setRl x rlSynced).setReloc x { s.reloc x with phase := 2 } else s
  | _ => s

/-- Commits that were validated against the epoch before are validated again (R285). -/
def State.revalidate (s : State) : State :=
  let q := s.txns.queue
  let s := q.foldl (fun s t => s.unprepare t) s
  s.withTxns (fun t => { t with queue := [] })

/-- The next epoch. -/
def State.nextEpoch (s : State) : Nat := (s.get F.EPOCH_V + 1) % 2 ^ 32

/-- A commit ID: nonzero, drawn at random (R288). -/
def State.newId (s : State) : Nat × State :=
  let (v, s) := s.draw 32
  (if v = 0 then 1 else v, s)

/-- Both halves and the Hearth take an epoch and an ID. -/
def State.setEpoch (s : State) (e id : Nat) : State :=
  let half (s : State) (h : Nat) : State := (s.put F.HALF_EPOCH_V e h).put F.HALF_COMMIT_V id h
  half (half ((s.put F.EPOCH_V e).put F.COMMIT_ID_V id) 0) 1

end Sys2Proof.Machine
end

