-- ==== Sys2Proof/Machine/FwCore.lean ====
section
/-!
DEFINITION. The transactions that firmware opens for itself in slot 3 (R274): their items, what their commits check beyond R282, what
follows when they are refused or done. Placing of emulated HDM decoders (R247, R262), start and commit of relocations (R376, R388),
restoring a Stall (R258).
-/
namespace Sys2Proof.Machine

/-! ## Decoders of a Stall (R247, R262) -/

/-- The items that move a decoder and its windows by units of 256 MiB, up or down (R247). -/
def State.moveItems (s : State) (x d : Nat) (f : Nat → Nat) : List (Key × Word) :=
  (⟨.DEC_BASE, x, d⟩, Word.setBits (s.rd .DEC_BASE x d) F.DEC_BASE_V.lo F.DEC_BASE_V.w (f (s.get F.DEC_BASE_V x d)))
    :: ((List.range 256).filter (fun w => s.flag F.WIN_BASE_VALID x w && s.get F.WIN_ATTR_DECODER x w == d)).map (fun w =>
      (⟨.WIN_BASE, x, w⟩, Word.setBits (s.rd .WIN_BASE x w) F.WIN_BASE_BASE.lo F.WIN_BASE_BASE.w (f (s.get F.WIN_BASE_BASE x w))))

/-- The decoders of a Stall's host that the host has placed (R246, R262). -/
def State.placedDecoders (s : State) (st : Nat) : List Nat :=
  let host := s.get F.STALL_BIND_HOST st
  if s.flag F.STALL_BIND_BOUND st then
    (s.decodersNaming host st).filter (fun d => s.flag F.DEC_CTRL_HOST_PLACE host d && !s.flag F.DEC_STATE_PENDING host d)
  else []

/-- Emulated decoder k reads Error Not Committed (R247). -/
def State.hdmBad (s : State) (st k : Nat) : State :=
  s.setHdm st k { (s.emul st).dec k with error := true, committed := false, waiting := false }

/-- Emulated decoder k reads not committed (R247). -/
def State.hdmCleared (s : State) (st k : Nat) : State :=
  s.setHdm st k { (s.emul st).dec k with committed := false, waiting := false, error := false }

/-- The end of a Stall reset (R262): emulated state as at reset; the Stall is Bound or Quenched again, Failed where it failed (R265). -/
def State.stallResetFinish (s : State) (st : Nat) : State :=
  let e := s.emul st
  let s := s.setEmul st { e with config := [], hdm := [], doeIn := [], doeOut := [], failsAfter := false }
  let s := s.setStall st (if e.failsAfter then stFailed else if !s.flag F.STALL_BIND_BOUND st then stDefined
    else if s.quenchSet st then stQuenched else stBound)
  s.endOp (.resetStall st) .ok

/-! ## Publication of a watermark (R382, R384) -/

/-- Whether some cause stops a context after the publication of its chunk. -/
def State.rlPauses (s : State) (x : Nat) : Bool :=
  s.flag F.RELOC_CTRL_PAUSE x || s.txns.lost.contains (x / 4) || !s.seamUp || s.below.contains (x / 4) || s.rung == rungBanking

/-- The chunk that a context copies next, or copies back next (R382, R384, R391). -/
def State.rlNextChunk (s : State) (x w : Nat) : Nat :=
  if s.rlPauses x then noChunk
  else if (s.reloc x).back then s.get F.RELOC_REVERSE_V x
  else if w == s.get F.RELOC_CHUNKS_N x then noChunk else w

/-- Publish W and C (R382): the own half takes them at once; a watermark message goes to the other. -/
def State.rlPublish (s : State) (x w : Nat) : State :=
  let c := s.rlNextChunk x w
  let s := s.takeMark (x / 4) x w c
  s.setReloc x { s.reloc x with step := .publish, journalled := w }

/-! ## The commit of a relocation (R387 to R389) -/

/-- The half that homes the source slice, and the one that will home the target. -/
def State.rlHomes (s : State) (x : Nat) : Nat × Nat := (halfOf (s.get F.RELOC_SRC_PORT x), halfOf (s.get F.RELOC_DST_PORT x))

/-- The items of a relocation's commit (R388). A REMOTE one gives the local slice up only at its release (R396). -/
def State.rlItems (s : State) (x : Nat) : List (Key × Word) :=
  let r := s.rlSlice x
  let d := s.rd .RELOC_DST x
  let entry := Word.setBits (Word.setBits d 24 15 0) 39 1 0
  if s.flag F.RELOC_OBJECT_REMOTE x then []
  else if r.region then
    [(⟨.REGION_SLICE, r.obj, r.way⟩, entry), (⟨.REGION_LEDGER, r.obj, r.way⟩, BitVec.ofNat 64 (s.get F.RELOC_LEDGER_DST_LEDGER_BASE x))]
  else [(⟨.STALL_SLICE, r.obj, r.way⟩, entry)]

/-- Requests that wait at the old home go to the new one in the order it accepted them; the end marker follows (R387). -/
def State.rlForward (s : State) (x : Nat) : State :=
  let r := s.rlSlice x
  let (a, b) := s.rlHomes x
  if !r.region || a == b then s
  else
    let s := { s with msgs := s.msgs.map (fun (m : Msg) =>
      if m.slice == some r && m.dst == 124 + a && (decide (m.stage = Stage.atHome) || decide (m.stage = Stage.held)) then
        { m with dst := 124 + b, half := (if m.stage = Stage.atHome then b else m.half) } else m) }
    s.withMarket (fun m => { m with handing := m.handing.filter (fun y => y != r), awaiting := m.awaiting ++ [r] })

/-- The commit of a relocation is Prepared: its context reads Committing (R389, R394). -/
def State.rlPrepared (s : State) (x : Nat) : State := (s.setRl x rlCommitting).setReloc x { s.reloc x with phase := 4 }

/-- Whether a context still waits for its commit: it was not rolled back, stopped or paused since. -/
def State.rlAwaits (s : State) (x : Nat) : Bool :=
  s.rlState x == rlSynced || s.rlState x == rlHandover || (s.rlState x == rlCommitting && s.rlOnSource 2 x)

/-! ## The start of a relocation (R375, R376) -/

/-- The slice entry in force, its units and its chunks. -/
def State.startEntry (s : State) (a : RelocStart) : Word := s.rd (if a.market then .REGION_SLICE else .STALL_SLICE) a.obj a.way
def State.startUnits (s : State) (a : RelocStart) : Nat := s.sliceUnits a.market a.obj

/-- The target ranges of a start. -/
def State.startRanges (s : State) (a : RelocStart) : List DevRange :=
  if a.remote then []
  else
    let u := s.startUnits a
    let d := sliceRange a.dst u none
    d :: (if a.market then [{ d with start := 32 * a.dstLedger, len := 32 * u }] else [])

/-- A range as a placed one. -/
def DevRange.placed (r : DevRange) (x : Nat) : Placed :=
  { key := ⟨.RELOC_DST, x, 0⟩, port := r.port, ld := r.ld, lo := 2 ^ 20 * r.start, len := 2 ^ 20 * r.len }

/-- Why a start is INVALID (R376). -/
def State.startInvalid (s : State) (a : RelocStart) : Bool :=
  let e := s.startEntry a
  let p := Word.bits a.dst 48 7
  let src := s.deviceOf (Word.bits e 48 7) (Word.bits e 40 4)
  Word.bits e 63 1 == 0 || Word.bits a.dst 63 1 == 0 || decide (95 < p) || (a.market && decide (255 < a.obj))
    || (a.remote && (a.market || s.stall a.obj != stFrozen || s.role p != 6))
    || (!a.remote && (s.role p != 3
        || (s.startRanges a).any (fun r => match s.deviceOf r.port r.ld, src with
            | some (cap, kind), some (_, k) => decide (cap < r.start + r.len) || kind != k
            | _, _ => true)))

/-- Why a start is BUSY (R376). -/
def State.startBusy (s : State) (a : RelocStart) : Bool :=
  let st := s.stall a.obj
  let rg := s.get F.REGION_STATUS_STATE a.obj
  s.rlActive.any (fun x => decide (s.rlSlice x = ⟨a.market, a.obj, a.way⟩))
    || (s.startRanges a).any (fun t => s.ranges.any (fun r => !r.quarantined && r.meets (t.placed 0)))
    || (!a.market && (st == stResetting || st == stFailed || st == stReleasing))
    || (a.market && (rg == 2 || rg == 3 || rg == 5))

/-- A free context of the target's half. -/
def State.startCtx (s : State) (a : RelocStart) : Option Nat :=
  ((List.range 4).map (fun i => 4 * halfOf (Word.bits a.dst 48 7) + i)).find? (fun x => s.rlState x == rlFree)

/-- The first case of R376 that refuses a start. -/
def State.startRefusal (s : State) (a : RelocStart) : Option Status :=
  if (s.startRanges a).any (fun t => s.ranges.any (fun r => r.quarantined && r.meets (t.placed 0))) then some .denied
  else if s.startInvalid a then some .invalid
  else if s.startBusy a then some .busy
  else if (s.startRanges a).any (fun t => (s.ownedRanges ++ s.targetRanges).any (fun o => t.meets o)) then some .overlap
  else if (s.startCtx a).isNone then some .noResource
  else none

/-- The RWT fields of a context that a start commits (R376). -/
def State.startItems (s : State) (a : RelocStart) (x : Nat) : List (Key × Word) :=
  let b (v : Bool) (n : Nat) : Nat := if v then 2 ^ n else 0
  let srcLedger := s.get F.REGION_LEDGER_LEDGER_BASE a.obj a.way
  [(⟨.RELOC_CTRL, x, 0⟩, BitVec.ofNat 64 (b a.auto 31)),
   (⟨.RELOC_OBJECT, x, 0⟩, BitVec.ofNat 64 (2 ^ 31 + b a.market 30 + b a.remote 29 + 2 ^ 20 * a.way + a.obj)),
   (⟨.RELOC_SRC, x, 0⟩, s.startEntry a), (⟨.RELOC_DST, x, 0⟩, a.dst),
   (⟨.RELOC_LEDGER, x, 0⟩, BitVec.ofNat 64 (if a.market then 2 ^ 32 * a.dstLedger + srcLedger else 0))]

/-- The start of a relocation is committed (R376): the context reads Copying with W = 0, a region Relocating, and the operation is the
context's. -/
def State.relocStarted (s : State) (n : Nat) (a : RelocStart) (x : Nat) : State :=
  let s := ((s.put F.RELOC_CHUNKS_N (256 * s.startUnits a) x).put F.RELOC_STATE_TAINTED 0 x).setRl x rlCopying
  let s := s.setReloc x { startEpoch := s.get F.EPOCH_V, phase := 1 }
  let s := if a.market then s.setRegion a.obj 4 else s
  let s := { s with ops := s.ops.map (fun (o : Operation) => if o.id == n then { o with kind := .relocation x } else o) }
  s.rlPublish x 0

/-! ## Stall state records (R258) -/

/-- What a Stall state record holds, as numbers (R258): serial number, tenant, sealing, configuration registers, HDM decoders,
event log, poison list, timestamp. -/
def State.stallRecord (s : State) (st : Nat) : List Nat :=
  let e := s.emul st
  [s.get F.STALL_SERIAL_V st, s.get F.STALL_CTRL_TENANT st, s.get F.STALL_CTRL_SEALED st, e.nextHandle, e.timestamp,
    (match e.stampAt with | some t => s.now - t + 1 | none => 0)]
    ++ [e.config.length] ++ e.config.flatMap (fun x => [x.1, x.2])
    ++ [e.hdm.length] ++ e.hdm.flatMap (fun x => [x.1, x.2.base, x.2.size, x.2.ways, flagBit x.2.committed, flagBit x.2.error])
    ++ [e.poison.length] ++ e.poison
    ++ [e.log.length] ++ e.log.flatMap (fun r => r.handle :: r.kind :: r.record.length :: r.record.map BitVec.toNat)
where
  flagBit (b : Bool) : Nat := if b then 1 else 0

/-- The configuration registers, HDM decoders and event log of a record, group by group. -/
def pairsOf : Nat → List Nat → List (Nat × Nat) × List Nat
  | n + 1, a :: b :: t => let (l, r) := pairsOf n t; ((a, b) :: l, r)
  | _, t => ([], t)

def hdmsOf : Nat → List Nat → List (Nat × Hdm) × List Nat
  | n + 1, k :: b :: z :: w :: c :: e :: t =>
    let (l, r) := hdmsOf n t
    ((k, { base := b, size := z, ways := w, committed := c == 1, error := e == 1 }) :: l, r)
  | _, t => ([], t)

def logOf : Nat → List Nat → List LogRecord
  | n + 1, h :: k :: len :: t => { handle := h, kind := k, record := (t.take len).map (BitVec.ofNat 8) } :: logOf n (t.drop len)
  | _, _ => []

/-- The emulated device that a record holds. -/
def State.recordEmul (s : State) (r : List Nat) : Emulated :=
  let body := r.drop 6
  let (config, body) := pairsOf body.headI body.tail
  let (hdm, body) := hdmsOf body.headI body.tail
  let n := body.headI
  let poison := body.tail.take n
  let body := body.tail.drop n
  { log := logOf body.headI body.tail, nextHandle := r.getD 3 1, poison := poison, timestamp := r.getD 4 0,
    stampAt := (if r.getD 5 0 = 0 then none else some (s.now - (r.getD 5 0 - 1))), hdm := hdm, config := config }

/-- A Stall defined from its staging takes the emulated device of the record (R258). -/
def State.restoreStall (s : State) (st : Nat) : State :=
  let bytes := numGet [] st s.ecp.staging
  let s := match Config.recordParse bytes with
    | some r => s.setEmul st (s.recordEmul r)
    | none => s
  { s with ecp := { s.ecp with staging := tabErase st s.ecp.staging } }

/-- A relocation that came in ends once its Stall is defined over its range (R396). -/
def State.inboundEnds (s : State) (st : Nat) : State :=
  let mine (i : Inbound) : Bool := (s.stallRanges st).any (fun r => i.range.meets r)
  (s.inbound.filter mine).foldl (fun s i => s.endOp (.relocInbound i.far) .ok) { s with inbound := s.inbound.filter (fun i => !mine i) }

/-! ## What each transaction does -/

/-- The operation that a transaction of firmware's own belongs to. -/
def FwTxn.opId : FwTxn → Option Nat
  | .op n _ _ | .relocStart n _ => some n
  | _ => none

/-- Whether only firmware can open such a transaction: it writes what no other may, and says itself what becomes of PENDING. -/
def FwTxn.own : FwTxn → Bool
  | .op _ _ _ => false
  | _ => true

/-- Whether the transaction in a slot is one of those. -/
def TxSlot.own (x : TxSlot) : Bool := match x.fw with | some w => w.own | none => false

/-- Whether a transaction of firmware's own has slot 3 or waits for it. -/
def State.fwHas (s : State) (w : FwTxn) : Bool := decide ((s.tx 3).fw = some w) || s.txns.fw.contains w

/-- Its items, as firmware writes them before each validation. -/
def State.fwItems (s : State) : FwTxn → List (Key × Word)
  | .op _ items _ => items
  | .place st k host =>
    match (s.decodersNaming host st)[k]? with
    | some d => s.moveItems host d (fun v => v + ((s.emul st).dec k).base / 2 ^ 28)
    | none => []
  | .unplace st k host =>
    match (s.decodersNaming host st)[k]? with
    | some d => s.moveItems host d (fun v => v - s.get F.DEC_BASE_V host d)
    | none => []
  | .unplaceAll st =>
    let host := s.get F.STALL_BIND_HOST st
    (s.placedDecoders st).flatMap (fun d => s.moveItems host d (fun v => v - s.get F.DEC_BASE_V host d))
  | .relocStart _ a => match s.startCtx a with | some x => s.startItems a x | none => []
  | .relocCommit x => s.rlItems x

/-- What it does to PENDING in the configuration `c` that it would produce (R247, R262). -/
def State.fwPend (s c : State) : FwTxn → State
  | .place st k host => match (s.decodersNaming host st)[k]? with | some d => c.put F.DEC_STATE_PENDING 0 host d | none => c
  | .unplace st k host => match (s.decodersNaming host st)[k]? with | some d => c.put F.DEC_STATE_PENDING 1 host d | none => c
  | .unplaceAll st => (s.placedDecoders st).foldl (fun c d => c.put F.DEC_STATE_PENDING 1 (s.get F.STALL_BIND_HOST st) d) c
  | _ => c

/-- The configuration that the commit of a slot would produce. -/
def State.slotCandidate (s : State) (t : Nat) : State :=
  let x := s.tx t
  match x.fw with
  | some w => if w.own then s.fwPend (s.candidate x.shadow true) w else s.candidate x.shadow false
  | none => s.candidate x.shadow false

/-- What refuses it before the checks of R282: the cases of R376; a relocation that no longer waits for its commit; a decoder that is
gone. -/
def State.fwCheck (s : State) (w : FwTxn) : Option Status :=
  match w with
  | .relocStart _ a => s.startRefusal a
  | .relocCommit x => if s.rlAwaits x then none else some .busy
  | .op _ _ _ => none
  | w => if (s.fwItems w).isEmpty then some .invalid else none

/-- It ends with a status other than OK: the operation ends so; the emulated decoder reads Error Not Committed, with an event on OVERLAP
(R247); one that was to be taken back stays placed (log entry 68); the Stall reset waits (log entry 69); the context is Synced again. -/
def State.fwRefused (s : State) (w : FwTxn) (st : Status) : State :=
  match w with
  | .op n _ _ | .relocStart n _ => s.endById n st
  | .place g k host => let s := s.hdmBad g k; if st = .overlap then s.event 0x02F1 [g, host] else s
  | .unplace _ _ _ | .unplaceAll _ => s
  | .relocCommit x =>
    let s := s.withMarket (fun m => { m with handing := m.handing.filter (fun y => y != s.rlSlice x) })
    if s.rlState x == rlHandover || (s.rlState x == rlCommitting && s.rlOnSource 2 x) then
      (s.setRl x rlSynced).setReloc x { s.reloc x with phase := 2 }
    else s

/-- It is validated: a relocation's context reads Committing (R389). -/
def State.fwPrepared (s : State) (t : Nat) : State :=
  match (s.tx t).fw with
  | some (.relocCommit x) => s.rlPrepared x
  | _ => s

/-- The epoch has advanced: what firmware does then. -/
def State.fwDone (s : State) (x : TxSlot) (w : FwTxn) : State :=
  match w with
  | .op n _ restoring =>
    (match restoring with | some st => (s.restoreStall st).inboundEnds st | none => s).endById n .ok
  | .place st k _ => s.setHdm st k { (s.emul st).dec k with waiting := true, error := false }
  | .unplace st k _ => s.hdmCleared st k
  | .unplaceAll st => if s.stall st == stResetting then s.stallResetFinish st else s
  | .relocStart n a => match x.shadow with | e :: _ => s.relocStarted n a e.1.i | [] => s
  | .relocCommit y => s.rlForward y

end Sys2Proof.Machine
end

