-- ==== Sys2Proof/Machine/TxnApply.lean ====
section
/-!
DEFINITION. Binding transactions as operations, from the start of a commit to the epoch advance; undo commits, charge
(R274 to R303), and the checkers' enables (R236 to R239).
-/
namespace Sys2Proof.Machine

/-! ## Checkers (R236 to R239) -/

/-- Whether some commit is being applied (R237). -/
def State.applying (s : State) : Bool := (List.range 4).any (fun t => s.txState t == txApplying || s.txState t == txUndoing)

/-- EN = 0 of a context's checker (R237). -/
def State.checkerOff (s : State) (c : Nat) : State :=
  (s.put F.CHK_CTRL_EN 0 c).withTxns (fun t => { t with enabling := t.enabling.filter (fun x => x != c) })

/-- What records of a context's checker name. -/
def chkInfo (c : Nat) : FaultInfo := { host := (if c < 95 then some c else none) }

/-- EN = 1 (R238): refused where windows overlap or leave their decoder's range; otherwise the checker will be enabled.
The answer says whether it was accepted. -/
def State.checkerOn (s : State) (c : Nat) : Bool × State :=
  if s.flag F.CHK_CTRL_EN c then (true, s)
  else if s.windowsOverlap c || (List.range 256).any (fun w => s.windowLive 0 c w && !s.windowFits c w) then
    (false, (s.put F.CHK_CTRL_OVERLAP_REFUSED 1 c).raise (s.checkerSource c) (chkInfo c))
  else (true, s.withTxns (fun t => { t with enabling := t.enabling.filter (fun x => x != c) ++ [c] }))

/-- A write of EN, which waits for a commit that is being applied (R237). -/
def State.writeEn (s : State) (c : Nat) (b : Bool) : State :=
  if s.applying then s.withTxns (fun t => { t with deferred := t.deferred ++ [(c, b)] })
  else if b then (s.checkerOn c).2 else s.checkerOff c

/-- The deferred writes of EN take effect. -/
def State.runDeferred (s : State) : State :=
  let l := s.txns.deferred
  l.foldl (fun s e => if e.2 then (s.checkerOn e.1).2 else s.checkerOff e.1) (s.withTxns (fun t => { t with deferred := [] }))

/-- Write one register of a window directly (R236). -/
def State.writeWindow (s : State) (r : Reg) (c w : Nat) (v : Nat) : State :=
  if s.flag F.CHK_CTRL_EN c then s.raise (s.checkerSource c) (chkInfo c)
  else (s.wr r (BitVec.ofNat 64 (blend r.txnMask 0 v)) c w).withTxns (fun t => { t with dirty := t.dirty.filter (fun x => x != c) ++ [c] })

/-! ## Affected ports (R292) -/

/-- The ports of the host that a Stall is bound to. -/
def State.stallPort (s : State) (st : Nat) : List Nat :=
  if s.flag F.STALL_BIND_BOUND st then (s.hostPort (s.get F.STALL_BIND_HOST st)).toList else []

/-- The ports whose ingress a written register closes (R292). -/
def State.affectedBy (s c : State) (k : Key) : List Nat :=
  match k.reg with
  | .PORT_CFG | .PORT_SLOT | .IDE_CTRL | .MKT_CREDITS => [k.i]
  | .WIN_BASE | .WIN_SIZE | .WIN_ATTR | .DEC_CTRL | .DEC_BASE | .DEC_SIZE | .DEC_OFFSET =>
    if k.i < 95 then (s.hostPort k.i).toList ++ (c.hostPort k.i).toList else []
  | .STALL_CTRL | .STALL_BIND | .STALL_LAYOUT | .STALL_SERIAL | .STALL_SLICE => s.stallPort k.i ++ c.stallPort k.i
  | .METER_CTRL | .METER_CIR | .METER_PIR | .METER_BURST => s.stallPort k.j ++ c.stallPort k.j
  | .REGION_CTRL | .REGION_LAYOUT | .REGION_SLICE | .REGION_LEDGER =>
    ((s.regionHosts k.i).filterMap (fun x => s.hostPort x)) ++ ((c.regionHosts k.i).filterMap (fun x => c.hostPort x))
  | .BUF_CFG | .BUF_RSP_HEADROOM | .BUF_MGMT_RESERVE | .HDR_QUEUE_CAP | .MIRROR_MAX | .MIRROR_FLOOR => portsOf k.i
  | .Q_RX_RESERVE | .Q_MIN | .Q_ALPHA => portsOf (halfOf k.i)
  | _ => []

/-- The affected ports of a commit in one half. -/
def State.affected (s : State) (items : List (Key × Word)) (h : Nat) : List Nat :=
  let c := s.layItems items
  ((items.flatMap (fun e => s.affectedBy c e.1)).filter (fun p => halfOf p == h)).eraseDups

/-! ## Starting and validating a commit (R282 to R287, R332, R333) -/

/-- The regions that a commit takes from a host: pairs of region and host (R332). -/
def State.recallsOf (s : State) (items : List (Key × Word)) : List (Nat × Nat) :=
  let c := s.candidate items false
  ((contextsIn (items.map Prod.fst)).filter (fun x => decide (x < 95))).flatMap (fun x =>
    (s.regionsValid.filter (fun r => (s.regionHosts r).contains x && !(c.regionHosts r).contains x)).map (fun r => (r, x)))

/-- Undo what a refused or aborted commit's recalls did (R333). -/
def State.dropRecalls (s : State) (t : Nat) : State :=
  let x := s.tx t
  let s := x.recalls.foldl (fun s e => s.recallEnd e.1 e.2) s
  let s := x.fenced.foldl (fun s e => s.setFence e.1 e.2 false) s
  s.setTx t { x with recalls := [], fenced := [] }

/-- Begin to validate a commit: regions taken from a host are recalled first (R332). -/
def State.commitStart (s : State) (t : Nat) : State :=
  let x := s.tx t
  let rs := s.recallsOf x.shadow
  let fresh := rs.filter (fun e => !s.fenced e.1 e.2)
  let s := s.setTxState t txValidating
  let s := s.setTx t { x with recalls := rs, fenced := fresh, validations := 0 }
  rs.foldl (fun s e => s.recallStart e.1 e.2) s

/-- Slot 3 takes a transaction of firmware's own, which commits at once (R274). -/
def State.fwBegin (s : State) (w : FwTxn) : State :=
  let items := s.fwItems w
  let s := s.setTx 3 { shadow := items, writes := items.map Prod.fst, fw := some w }
  (s.put F.SLOT_BASE_EPOCH_V (s.get F.EPOCH_V) 3).commitStart 3

/-- Slot 3 is left: the next transaction of firmware takes it. -/
def State.fwNext (s : State) : State :=
  let s := s.txClear 3
  match s.txns.fw with
  | [] => s
  | w :: rest => (s.withTxns (fun t => { t with fw := rest })).fwBegin w

/-- The commit of a slot ends otherwise than with OK: its operation, or what firmware does then. -/
def State.commitFails (s : State) (t : Nat) (st : Status) : State :=
  match (s.tx t).fw with
  | some w => s.fwRefused w st
  | none => s.endOp (.commit t) st

/-- A commit whose shadow is empty ends with OK at once, at the same epoch, and frees its slot (R284). -/
def State.commitEmpty (s : State) (t : Nat) : State := (s.endOp (.commit t) .ok).txClear t

/-- A transaction of firmware's own (R274): it takes slot 3, or waits for it in arrival order; an operation without items ends at once
(R284). -/
def State.fwTxn (s : State) (w : FwTxn) : State :=
  match w with
  | .op n [] _ => s.endById n .ok
  | w =>
    if s.txState 3 == txFree && s.txns.fw.isEmpty then s.fwBegin w
    else s.withTxns (fun t => { t with fw := t.fw ++ [w] })

/-- A commit ends and its transaction stays Open (R282, R285, R286); firmware's own leaves slot 3. -/
def State.commitRefused (s : State) (t : Nat) (st : Status) (item : Option Key) : State :=
  let s := s.dropRecalls t
  let s := match item with | some k => s.put F.SLOT_LAST_ITEM_V k.addr t | none => s
  let s := (s.setTxState t txOpen).put F.JOURNAL_PHASE_PHASE jEmpty t
  let s := s.setTx t { s.tx t with validations := 0, redo := [], undo := [], halves := [] }
  let s := (s.withTxns (fun x => { x with queue := x.queue.filter (fun q => q != t) })).commitFails t st
  if t == 3 then s.fwNext else s

/-- A key with a lower address first. -/
def lowestKey (l : List Key) : Option Key :=
  l.foldl (fun b k => match b with | none => some k | some x => if k.addr < x.addr then some k else some x) none

/-- The outcome of a commit's checks (R282); firmware's own transactions are checked as such first. -/
def State.commitCheck (s : State) (t : Nat) : Option (Status × Option Key) :=
  let x := s.tx t
  let ks := x.shadow.map Prod.fst
  let c := s.slotCandidate t
  if s.refusing then some (.busy, lowestKey ks)
  else
    match x.fw.bind (fun w => s.fwCheck w) with
    | some st => some (st, none)
    | none =>
      let stale := s.staleItems t
      if !stale.isEmpty then some (.staleEpoch, lowestKey stale)
      else
        let l := [(Status.denied, s.check4 c ks x.inspect), (.invalid, s.check5 c ks x.own), (.busy, s.check6 c ks x.own),
                  (.overlap, s.check7 c ks), (.noResource, c.check8 ks)]
        (l.find? (fun e => !e.2.isEmpty)).map (fun e => (e.1, lowestKey e.2))

/-- Firmware writes its own transaction anew before a validation. -/
def State.fwRewrite (s : State) (t : Nat) : State :=
  match (s.tx t).fw with
  | some w => if w.own then s.setTx t { s.tx t with shadow := s.fwItems w, writes := (s.fwItems w).map Prod.fst } else s
  | none => s

/-- Validation of a commit completes (R282, R285): refused, or its journal is Prepared and its items are staged. -/
def State.commitValidated (s : State) (t : Nat) : State :=
  let s := if s.txState t == txValidating then s.fwRewrite t else s
  let x := s.tx t
  if s.txState t != txValidating || !x.recalls.isEmpty then s
  else if 8 ≤ x.validations then s.commitRefused t .busy none
  else
    match s.commitCheck t with
    | some (st, item) => s.commitRefused t st item
    | none =>
      let (id, s) := s.newId
      let undo := x.shadow.map (fun e => (e.1, s.rd e.1.reg e.1.i e.1.j))
      let s := s.setTx t { x with validations := x.validations + 1, redo := x.shadow, undo := undo }
      let s := ((s.put F.JOURNAL_EPOCH_V s.nextEpoch t).put F.JOURNAL_ID_V id t).put F.JOURNAL_PHASE_PHASE jPrepared t
      ((s.setTxState t txStaged).withTxns (fun q => { q with queue := q.queue ++ [t] })).fwPrepared t

/-! ## Applying (R290 to R294) -/

/-- The slot whose APPLY or undo APPLY is outstanding. -/
def State.applySlot (s : State) : Option Nat :=
  (List.range 4).find? (fun t => s.txState t == txApplying || s.txState t == txUndoing)

/-- The Hearth sends APPLY for the first validated commit, if none is outstanding (R285, R290, R298). -/
def State.sendApply (s : State) : State :=
  match s.applySlot, s.txns.queue with
  | none, t :: rest =>
    let gone := match (s.tx t).fw with | some w => (s.fwCheck w).isSome && w.own | none => false
    if gone then s.commitRefused t .aborted none else
    let s := s.withTxns (fun x => { x with queue := rest })
    let s := (s.setTxState t txApplying).put F.JOURNAL_PHASE_PHASE jApplying t
    s.setTx t { s.tx t with halves := [(0, .sent), (1, .sent)] }
  | _, _ => s

/-- How far a half is. -/
def TxSlot.stepOf (x : TxSlot) (h : Nat) : Option ApplyStep := tabFind h x.halves

/-- Set how far a half is. -/
def State.setStep (s : State) (t h : Nat) (a : ApplyStep) : State :=
  let x := s.tx t
  s.setTx t { x with halves := x.halves.map (fun e => if e.1 == h then (h, a) else e) }

/-- The items that an outstanding APPLY lays: the new values, or the old ones of an undo commit. -/
def State.applyItems (s : State) (t : Nat) : List (Key × Word) :=
  if s.txState t == txUndoing then (s.tx t).undo else (s.tx t).redo

/-- A half receives APPLY (R290, R289, R297): it closes its affected ingresses, unless it is in Hold or the message is
stale. -/
def State.halfApply (s : State) (h : Nat) : State :=
  let s := s.sendApply
  match s.applySlot with
  | none => s
  | some t =>
    if (s.tx t).stepOf h != some .sent || s.txns.lost.contains h then s
    else if s.flag F.HALF_STATE_HOLD h || s.flag F.HALF_STATE_SPLIT h then s
    else
      if s.staleAt h (s.get F.JOURNAL_EPOCH_V t) (s.get F.JOURNAL_ID_V t) then s.discardStale h
      else
        let ports := s.affected (s.applyItems t) h
        let s := s.withTxns (fun x => { x with closed := x.closed ++ ports.filter (fun p => !x.closed.contains p) })
        (s.setStep t h .closed).put F.HALF_STATE_APPLYING 1 h

/-- Reopen the closed ingresses of a half (R290). -/
def State.reopen (s : State) (h : Nat) : State :=
  let ports := s.txns.closed.filter (fun p => halfOf p == h)
  let s := (s.put F.HALF_STATE_APPLYING 0 h).withTxns (fun x => { x with closed := x.closed.filter (fun p => halfOf p != h) })
  s.takeWaiting (fun m => ports.contains m.input)

/-- Steps 3 to 6 of R290 in a half, or their failure. A half whose apply failed takes an undo commit with no item
changed. -/
def State.halfQuiesced (s : State) (h : Nat) (ok : Bool) : State :=
  match s.applySlot with
  | none => s
  | some t =>
    if (s.tx t).stepOf h != some .closed then s
    else if ok then
      let undo := s.txState t == txUndoing
      let held := s.ahead.any (fun e => e.1 == h)
      let rest := s.ahead.filter (fun e => e.1 != h)
      let s := { s with ahead := if undo && held then rest else if undo then s.ahead else rest ++ [(h, (s.tx t).redo)] }
      let s := (s.put F.HALF_EPOCH_V (s.get F.JOURNAL_EPOCH_V t) h).put F.HALF_COMMIT_V (s.get F.JOURNAL_ID_V t) h
      (s.setStep t h .applied).reopen h
    else (s.setStep t h .failed).reopen h

/-- The committed image takes the items of a slot at its journalled epoch and ID (R294, R298). -/
def State.foldImage (s : State) (t : Nat) (items : List (Key × Word)) : State :=
  let old := s
  let ks := items.map Prod.fst
  let undo := s.txState t == txUndoing
  let s := if undo then s.layItems items else s.slotCandidate t
  let s := (s.put F.EPOCH_V (s.get F.JOURNAL_EPOCH_V t)).put F.COMMIT_ID_V (s.get F.JOURNAL_ID_V t)
  (s.stampItems ks).committed old ks (match (old.tx t).fw with | some (.relocCommit _) => true | _ => false)

/-- Both halves applied: the Hearth's epoch advances, the commit ends OK, its slot is free (R294). -/
def State.applyDone (s : State) (t : Nat) : State :=
  let s := { s with ahead := [] }
  let s := (s.foldImage t (s.tx t).redo).put F.JOURNAL_PHASE_PHASE jEmpty t
  let x := s.tx t
  let s := match x.fw with | some w => s.fwDone x w | none => s.endOp (.commit t) .ok
  let s := s.txClear t
  let s := s.revalidate.runDeferred
  if t == 3 then s.fwNext else s

/-- An undo commit at E + 2 follows a commit that only one half applied (R290). -/
def State.undoStart (s : State) (t : Nat) : State :=
  let (id, s) := s.newId
  let s := (s.setTxState t txUndoing).put F.JOURNAL_PHASE_PHASE jUndoing t
  let s := (s.put F.JOURNAL_EPOCH_V ((s.get F.JOURNAL_EPOCH_V t + 1) % 2 ^ 32) t).put F.JOURNAL_ID_V id t
  s.setTx t { s.tx t with halves := [(0, .sent), (1, .sent)] }

/-- The undo is done (R290): the commit ends FAULTED, the transaction is Open again, its items changed since its base epoch
(log entry 17). -/
def State.undoDone (s : State) (t : Nat) : State :=
  let s := { s with ahead := [] }
  let s := (s.foldImage t (s.tx t).undo).put F.JOURNAL_PHASE_PHASE jEmpty t
  (s.commitRefused t .faulted none).revalidate.runDeferred

/-- What both halves' reports lead to (R290, R294). -/
def State.reports (s : State) (t : Nat) : State :=
  let steps := (s.tx t).halves.map Prod.snd
  if steps.all (fun a => decide (a = .toldApplied)) then
    if s.txState t == txUndoing then s.undoDone t else s.applyDone t
  else if steps.all (fun a => decide (a = .toldFailed)) then
    if s.txState t == txUndoing then s.setTx t { s.tx t with halves := [(0, .sent), (1, .sent)] }
    else (s.commitRefused t .faulted none).runDeferred
  else if steps.all (fun a => decide (a = .toldFailed) || decide (a = .toldApplied)) then
    if s.txState t == txUndoing then
      s.setTx t { s.tx t with halves := (s.tx t).halves.map (fun e => if e.2 = .toldFailed then (e.1, ApplyStep.sent) else e) }
    else s.undoStart t
  else s

/-! ## Settling and charge (R295 to R300) -/

/-- Settle one slot's journal (R300): Prepared is rolled back, Applying rolled forward, Undoing finished. -/
def State.settleSlot (s : State) (t : Nat) : State :=
  if s.txState t == txStaged then s.commitRefused t .aborted none
  else if s.txState t == txApplying then s.applyDone t
  else if s.txState t == txUndoing then s.undoDone t
  else s

/-- Settle every slot. -/
def State.settleTxns (s : State) : State := (List.range 4).foldl (fun s t => s.settleSlot t) s

/-- A half that stopped in the middle of an apply keeps its old tables. -/
def State.chargeHalf (s : State) (h : Nat) : State := s.reopen h

/-- The Hearth is back from a Hearth-only reset, whose operation ends OK (R446); RESET_N low holds it in reset (R622). -/
def State.hearthReturns (s : State) : State :=
  if s.hearthDown && !s.power.resetLow then
    let s := s.putFlag F.ISO_STATUS_WESIS_OK (!s.sec.recovery)
    let s := s.putFlag F.ISO_STATUS_DEBUG_LOCKED (!s.flag F.DEBUG_STATUS_UNLOCKED && s.get F.LC_STATE_V != 0)
    { s with hearthDown := false, txns := { s.txns with lost := [] } }.endOp .resetHearth .ok
  else s

/-- Re-asserting charge (R295): journals are settled; where a half holds another epoch, ID or table, the differences are
committed at the next epoch; CHARGE goes to both halves. -/
def State.chargeReassert (s : State) : State :=
  let s := s.hearthReturns
  if !s.txns.lost.isEmpty || s.hearthDown then s
  else
    let differs := !s.ahead.isEmpty
    let s := ((s.settleTxns).chargeHalf 0).chargeHalf 1
    let s := s.stampItems (s.ahead.flatMap (fun e => e.2.map Prod.fst))
    let same (h : Nat) : Bool := s.get F.HALF_EPOCH_V h == s.get F.EPOCH_V && s.get F.HALF_COMMIT_V h == s.get F.COMMIT_ID_V
    let s := if same 0 && same 1 && !differs then s
      else
        let (id, s) := s.newId
        s.setEpoch s.nextEpoch id
    let s := { s with ahead := [] }
    s.withTxns (fun t => { t with charge := [0, 1] })

end Sys2Proof.Machine
end

