-- ==== Sys2Proof/Machine/PorterCore.lean ====
section
/-!
DEFINITION. Porter channels: descriptors, the path of an access, source reads, the end of a descriptor, chains, triggers,
pauses and aborts (R344 to R370). Accesses that the Flue link carries are performed in Machine/Porter.lean.
-/
namespace Sys2Proof.Machine

/-! ## States of a channel (R371) -/
abbrev chIdle : Nat := 0
abbrev chRunning : Nat := 1
abbrev chWaiting : Nat := 2
abbrev chAtTail : Nat := 3
abbrev chPaused : Nat := 4
abbrev chHalted : Nat := 5
abbrev chRetired : Nat := 6

/-- The state of channel c, 0 to 27 (R344). -/
def State.ch (s : State) (c : Nat) : Nat := s.get F.CH_STATUS_STATE c

/-- Set the state of a channel; Halted is an interrupt level (R593). -/
def State.setCh (s : State) (c v : Nat) : State := (s.put F.CH_STATUS_STATE v c).irqTouch (192 + c)

/-! ## Descriptors (R346, R347) -/

/-- A field of CTRL. -/
def Descriptor.at (d : Descriptor) (lo w : Nat) : Nat := d.ctrl / 2 ^ lo % 2 ^ w
def Descriptor.tail (d : Descriptor) : Bool := d.at 31 1 == 1
def Descriptor.barrier (d : Descriptor) : Bool := d.at 30 1 == 1
def Descriptor.priv (d : Descriptor) : Bool := d.at 26 1 == 1
def Descriptor.op (d : Descriptor) : Nat := d.at 24 2
def Descriptor.fill (d : Descriptor) : Bool := d.op == 1
def Descriptor.srcWidth (d : Descriptor) : Nat := 2 ^ d.at 19 3
def Descriptor.dstWidth (d : Descriptor) : Nat := 2 ^ d.at 16 3
def Descriptor.stall (d : Descriptor) : Nat := d.at 0 12

/-- The fields of the 64 bytes (R346). -/
def descriptorOf (b : List Byte) : Descriptor :=
  { src := leNat (b.take 8), dst := leNat ((b.drop 8).take 8), length := leNat ((b.drop 16).take 4),
    ctrl := leNat ((b.drop 20).take 4), next := leNat ((b.drop 24).take 8) / 64 * 64, pattern := leNat ((b.drop 48).take 8) }

/-- Refused Invalid (R350). -/
def Descriptor.invalid (d : Descriptor) : Bool :=
  let w := if d.fill then d.dstWidth else max d.srcWidth d.dstWidth
  decide (2 ≤ d.op) || d.at 16 3 == 7 || (!d.fill && d.at 19 3 == 7) || decide (2 ^ 30 < d.length)
    || d.length % w != 0 || d.dst % d.dstWidth != 0 || (!d.fill && d.src % d.srcWidth != 0)

/-- The address of the next source and destination access. -/
def Descriptor.srcAt (d : Descriptor) (n : Nat) : Nat := if d.at 23 1 == 1 then d.src else d.src + n
def Descriptor.dstAt (d : Descriptor) (n : Nat) : Nat := if d.at 22 1 == 1 then d.dst else d.dst + n

/-! ## The path of an access (R227 to R234, R239, R352) -/

/-- Where an access of a channel goes. -/
inductive Path where
  /-- the default map: register space, scratchpad, Ember store -/
  | internal
  /-- a memory device or a home engine -/
  | device (m : Msg)
  /-- denied by the checker of a context -/
  | denied (ctx : Nat) (p : Part)
  /-- a bus error; `nowhere` for a privileged access that reaches nothing (R234) -/
  | busError (nowhere : Bool)
  /-- the checker is disabled -/
  | waits
deriving DecidableEq, Repr

/-- The message of an access to a place. -/
def State.porterMsg (s : State) (c ctx : Nat) (x : Place) (write : Bool) : Msg :=
  let m : Msg := { id := 0, cls := 8, op := (if write then .bulkWrite else .bulkRead), input := 96 + c, dst := 0, ctx := ctx,
                   stall := x.stall, addr := x.addr, len := x.len, slice := x.slice, off := x.off, device := x.device,
                   mkt := .uncached, partialWr := write && decide (x.len < 64), session := (s.chan c).serial }
  match x.slice with
  | some r =>
    let p := (s.sliceOf (c / 14) r).1
    { m with dst := if r.region then 124 + halfOf p else p }
  | none => { m with dst := x.raw.1, ld := x.raw.2.1, dpa := x.raw.2.2 }

/-- An access that its window permits: to a device that takes it, or a bus error (R356). -/
def State.toPlace (s : State) (c ctx w addr len : Nat) (write : Bool) : Path :=
  let m := s.porterMsg c ctx (s.decodeAt (c / 14) ctx w addr len) write
  let far := (if m.dst < 96 then halfOf m.dst else m.dst - 124) != c / 14 && s.buf.seamRefused.contains (c / 14)
  if far || (m.dst < 96 && s.refuses m.dst) then .busError false else .device m

/-- The Keep region's part of the default map (R234): addresses of the region, as its device addresses (log entry 19). -/
def State.inKeep (s : State) (addr : Nat) : Bool :=
  let b := s.get F.KEEP_BASE_BASE * 2 ^ 24
  s.flag F.KEEP_CTRL_VALID && decide (0x40000000 ≤ addr) && decide (b ≤ addr) && decide (addr < b + 2 ^ 24)

/-- An access that the checker of a context handles. -/
def State.checkedPath (s : State) (c ctx : Nat) (tag : Option Nat) (addr len : Nat) (write : Bool) : Path :=
  if !s.flag F.CHK_CTRL_EN ctx then (if s.flag F.CHK_CTRL_HOLD_EXPIRED ctx then .busError false else .waits)
  else
    let p := s.checkPart (c / 14) ctx write tag addr len
    match p.ok, p.window with
    | true, some w => s.toPlace c ctx w addr len write
    | _, _ => .denied ctx p

/-- A privileged access: context 95, then the default map (R234). -/
def State.privPath (s : State) (c addr len : Nat) (write : Bool) : Path :=
  match s.windowOf (c / 14) 95 addr with
  | some _ => s.checkedPath c 95 none addr len write
  | none =>
    if addr < 0x40000000 then .internal
    else if s.inKeep addr then
      let p := s.get F.KEEP_CTRL_PORT
      let m := s.porterMsg c 95 ⟨none, 0, (p, s.get F.KEEP_CTRL_LD, addr), none, false, addr, len⟩ write
      if s.refuses p then .busError false else .device m
    else .busError true

/-- The path of an access of a descriptor. -/
def State.porterPath (s : State) (c : Nat) (d : Descriptor) (addr len : Nat) (write : Bool) : Path :=
  if d.priv then s.privPath c addr len write
  else s.checkedPath c (s.get F.STALL_BIND_HOST d.stall) (some d.stall) addr len write

/-! ## Errors (R356, R359) -/

/-- Set a bit of CH_ERR: its fault and interrupt level (R371, R593). -/
def State.chErr (s : State) (f : Fld) (c : Nat) (addr : Option Nat) : State :=
  let s := match addr with | some a => s.put F.CH_ERR_ADDR_V a c | none => s
  (s.setErr f c (776 + c / 14) { addr := addr }).irqTouch (192 + c)

/-- Reads that are out are discarded: a request not yet at a device leaves, one at a device is ignored when it returns. -/
def State.dropReads (s : State) (c : Nat) : State :=
  let mine (m : Msg) : Bool := m.input == 96 + c && decide (m.op = .bulkRead)
  let s := (s.msgs.filter (fun m => mine m && decide (m.stage ≠ .atDevice) && decide (m.stage ≠ .onSeam))).foldl (fun s m => s.remove m) s
  let s := { s with msgs := s.msgs.map (fun (m : Msg) => if mine m then { m with squashed := true, stall := none } else m) }
  s.setChan c { s.chan c with reads := [] }

/-- A bus error ends the descriptor in progress (R356). -/
def State.chBus (s : State) (c addr : Nat) (nowhere : Bool) : State :=
  let s := if nowhere then s.raise 784 { addr := some addr } else s
  let s := (s.chErr F.CH_ERR_BAD c (some addr)).dropReads c
  s.setChan c { s.chan c with bad := true, pack := [] }

/-- Failed writes that came back: one of the descriptor in progress is a bus error, an earlier one a late error (R359). -/
def State.chTakeFailed (s : State) (c : Nat) : State :=
  (s.msgs.filter (fun m => m.input == 96 + c && decide (m.op = .bulkWrite) && decide (m.stage = .returned))).foldl (fun s m =>
    let s := s.remove m
    if m.session == (s.chan c).serial && (s.chan c).started then s.chBus c m.addr false
    else (s.chErr F.CH_ERR_LATE_WRITE_ERR c (some m.addr)).setChan c { s.chan c with lateErr := true }) s

/-! ## Source reads (R353, R354) -/

/-- Issue the next source access, if the channel may. -/
def State.chIssue1 (s : State) (c : Nat) : Option State :=
  let x := s.chan c
  match x.desc with
  | none => none
  | some d =>
    if !x.started || x.bad || d.fill || d.length ≤ x.asked || 16 ≤ x.reads.length then none
    else
      let len := d.srcWidth
      let addr := d.srcAt x.asked
      let out := (x.reads.map PorterRead.len).foldl (fun a b => a + b) 0
      if 128 < x.pack.length + out + len then none
      else
        let took (s : State) (r : PorterRead) : State := s.setChan c { s.chan c with asked := x.asked + len, reads := x.reads ++ [r] }
        match s.porterPath c d addr len false with
        | .internal => if x.reads.isEmpty then some (took s { addr := addr, len := len, msg := none }) else none
        | .device m =>
          if m.device && !x.reads.isEmpty then none
          else
            let (id, s) := s.agentSend (c / 14) m
            some (took s { addr := addr, len := len, msg := some id })
        | .denied ctx p =>
          let s := took (s.countDenied ctx [p]) { addr := addr, len := len, msg := none, zeros := true }
          some (s.setChan c { s.chan c with denied := true })
        | .busError n => some (s.chBus c addr n)
        | .waits => none

/-- Issue source accesses while the channel may. -/
def State.chIssue (s : State) (c : Nat) : Nat → State
  | 0 => s
  | n + 1 => match s.chIssue1 c with
    | some t => t.chIssue c n
    | none => s

/-! ## Boundaries: pausing, starting, going on (R361, R364, R368) -/

/-- Whether a commit that writes a decoder of context 95 is being applied (R368). -/
def State.commits95 (s : State) : Bool :=
  match s.applySlot with
  | some t => (decodersOf ((s.applyItems t).map Prod.fst)).any (fun e => e.1 == 95)
  | none => false

/-- Whether some cause pauses a channel (R368, R543). -/
def State.chPauses (s : State) (c : Nat) : Bool :=
  s.flag F.CH_CTRL_PAUSE c || s.below.contains (c / 14) || s.rung == rungBanking || (s.flag F.CH_CFG_PRIV_OK c && s.commits95)

/-- Fetch the descriptor at an address, or pause before it (R361, R368). -/
def State.chGo (s : State) (c addr : Nat) : State :=
  let s := s.put F.CH_CUR_V addr c
  let x := s.chan c
  let x : Channel := { serial := x.serial, lateErr := x.lateErr, worst := x.worst }
  if s.chPauses c then (s.setChan c { x with resume := chRunning }).setCh c chPaused
  else (s.setChan c { x with fetching := true }).setCh c chRunning

/-- The descriptor in hand starts: its first source accesses are issued. -/
def State.chStartDesc (s : State) (c : Nat) : State :=
  ((s.setChan c { s.chan c with started := true }).setCh c chRunning).chIssue c 16

/-- A descriptor with WAIT takes one trigger event and starts, or waits, paused where a cause holds (R364, R368). -/
def State.chWaits (s : State) (c : Nat) : State :=
  if s.chPauses c then (s.setChan c { s.chan c with resume := chWaiting }).setCh c chPaused
  else if s.get F.CH_STATUS_TRIG_PENDING c = 0 then s.setCh c chWaiting
  else (s.put F.CH_STATUS_TRIG_PENDING (s.get F.CH_STATUS_TRIG_PENDING c - 1) c).chStartDesc c

/-- The pause causes changed: a waiting channel pauses, a paused one resumes where it stopped (R368). -/
def State.chPauseCheck (s : State) (c : Nat) : State :=
  if s.ch c == chWaiting then s.chWaits c
  else if s.ch c == chPaused && !s.chPauses c then
    if (s.chan c).resume == chWaiting then s.chWaits c else s.chGo c (s.get F.CH_CUR_V c)
  else s

/-- Every channel of the device. -/
def State.allPauseChecks (s : State) : State := (List.range 28).foldl (fun s c => s.chPauseCheck c) s

/-- One trigger event (R364). -/
def State.chTrigger (s : State) (c : Nat) : State :=
  let n := s.get F.CH_STATUS_TRIG_PENDING c
  if n = 255 then s.put F.CH_ERR_TRIG_OVF 1 c
  else
    let s := s.put F.CH_STATUS_TRIG_PENDING (n + 1) c
    if s.ch c == chWaiting then s.chWaits c else s

/-! ## The end of a descriptor (R348, R358, R365) -/

/-- Writes of a channel that are not known delivered. -/
def State.chWritesOut (s : State) (c : Nat) : Bool :=
  s.msgs.any (fun m => m.input == 96 + c && decide (m.op = .bulkWrite) && decide (m.stage ≠ .returned))

/-- STATUS of the descriptor in hand as it ends by itself (R348, R356, R357, R359). -/
def Channel.status (x : Channel) (d : Descriptor) : Nat :=
  if x.refused ≠ 0 then x.refused
  else if x.bad || (d.barrier && x.lateErr) then 2
  else if x.denied then 3
  else if x.poisoned then 7 else 1

/-- Write bytes 32 to 47 of the descriptor at an address (R348), as a privileged requester. -/
def State.chWriteBack (s : State) (c addr status done : Nat) : State :=
  let bytes := leBytes 4 status ++ leBytes 4 done ++ leBytes 8 (s.fclk % 2 ^ 64)
  match s.privPath c (addr + 32) 16 true with
  | .internal =>
    if s.hearthDown || s.txns.lost.contains (c / 14) then s
    else if inSealed addr then s.sealedDenied (addr + 32)
    else if inScratchpad addr then (s.touchBank addr).memStore (addr + 32) bytes
    else if inEmber addr then s.memStore (addr + 32) bytes else s
  | .device m => (s.agentSend (c / 14) { m with data := bytes, blocks := 1 }).2
  | _ => s

/-- How an operation ends whose chain ended with this worst STATUS (R366, R451). -/
def chainStatus (worst : Nat) : Status := if worst = 1 then .ok else if worst = 4 then .aborted else .faulted

/-- The descriptor at CH_CUR ends with a STATUS: write-back, counters, errors, interrupt, event. -/
def State.chFinish (s : State) (c status : Nat) : State :=
  let x := s.chan c
  let moved := x.put - x.dropped
  let s := s.chWriteBack c (s.get F.CH_CUR_V c) status moved
  let s := (s.bump F.CH_DONE_COUNT_V 1 c).bump F.CH_CELLS_V (moved / 64) c
  let s := if status = 1 then s else s.count (222 + c / 14) 3 1
  let s := if status = 5 then s.chErr F.CH_ERR_INVALID c none else if status = 6 then s.chErr F.CH_ERR_DENIED c none else s
  let irq := match x.desc with | some d => d.at 29 1 == 1 | none => false
  let evt := match x.desc with | some d => d.at 28 1 == 1 | none => false
  let barrier := match x.desc with | some d => d.barrier | none => false
  let s := if irq then s.irqEvent (220 + c) else s
  let s := s.setChan c { serial := x.serial + 1, lateErr := x.lateErr && !barrier, worst := (if x.worst = 1 then status else x.worst) }
  if evt then
    ((List.range 14).map (fun k => c / 14 * 14 + k)).foldl (fun s k =>
      if s.get F.CH_PACE_TRIG_SRC k = 2 && s.get F.CH_PACE_TRIG_CH k = c % 14 then s.chTrigger k else s) s
  else s

/-- The channel goes to At tail, Idle or Halted: an operation that started the chain ends (R366). -/
def State.chEnds (s : State) (c v : Nat) (st : Status) : State := (s.setCh c v).endOp (.chain c) st

/-- At tail: a doorbell not yet seen causes a re-read (R362). -/
def State.chDoorbell (s : State) (c : Nat) : State :=
  if s.ch c == chAtTail && !(s.chan c).rereading && s.rd .CH_DOORBELL c != s.rd .CH_SEEN c then
    (s.wr .CH_SEEN (s.rd .CH_DOORBELL c) c).setChan c { s.chan c with rereading := true }
  else s

/-- Whether the descriptor in hand may complete: refused, failed, or all its bytes are written; with BARRIER, every write of
the channel is known delivered (R358). -/
def State.chReady (s : State) (c : Nat) : Bool :=
  let x := s.chan c
  match x.desc with
  | none => false
  | some d => (x.refused != 0 || x.bad || (x.started && decide (d.length ≤ x.put) && x.reads.isEmpty))
      && !(d.barrier && s.chWritesOut c)

/-- The descriptor completes and the chain goes on (R348, R361, R362). -/
def State.chComplete (s : State) (c : Nat) : State :=
  let s := s.chTakeFailed c
  if !s.chReady c then s
  else
    match (s.chan c).desc with
    | none => s
    | some d =>
      let s := s.chFinish c ((s.chan c).status d)
      if d.tail then (s.chEnds c chAtTail (chainStatus (s.chan c).worst)).chDoorbell c else s.chGo c d.next

/-! ## Starting and stopping (R361, R366, R370) -/

/-- START: discarded unless the channel is Idle (R361). -/
def State.chStart (s : State) (c : Nat) : State :=
  if s.ch c != chIdle then s
  else
    let s := s.exitCause
    let s := (s.wr .CH_SEEN (s.rd .CH_DOORBELL c) c).put F.CH_STATUS_ABORT_LATE 0 c
    (s.setChan c { serial := (s.chan c).serial, lateErr := (s.chan c).lateErr }).chGo c (64 * s.get F.CH_HEAD_V c)

/-- ABORT (R366). -/
def State.chAbort (s : State) (c : Nat) : State :=
  let v := s.ch c
  if v == chIdle || v == chRetired then s.put F.CH_STATUS_ABORT_LATE 1 c
  else
    let s := s.dropReads c
    let s := if v == chRunning || v == chWaiting then s.chFinish c 4 else s
    (s.setChan c { serial := (s.chan c).serial, lateErr := (s.chan c).lateErr }).chEnds c chIdle .aborted

/-- A user descriptor of a Stall in progress ends Aborted and the channel goes on (R260, R367). -/
def State.chSquash (s : State) (st : Nat) : State :=
  (List.range 28).foldl (fun s c =>
    let x := s.chan c
    match x.desc with
    | some d =>
      if !d.priv && d.stall == st && x.refused == 0
          && (x.started || s.ch c == chWaiting || (s.ch c == chPaused && x.resume == chWaiting)) then
        let s := (s.dropReads c).chFinish c 4
        if d.tail then (s.chEnds c chAtTail (chainStatus (s.chan c).worst)).chDoorbell c else s.chGo c d.next
      else s
    | none => s) s

/-- RETIRE (R370): a spare takes the place of an Idle channel's physical channel; with none the channel reads Retired. -/
def State.chRetire (s : State) (c : Nat) : State :=
  let h := c / 14
  if s.ch c != chIdle then s.raise (776 + h)
  else
    let old := Word.bits (s.rd .PORTER_MAP h) (4 * (c % 14)) 4
    let active := s.get F.PORTER_PHYS_ACTIVE h
    let retired := s.get F.PORTER_PHYS_RETIRED h
    let bit (v n : Nat) : Bool := v / 2 ^ n % 2 == 1
    let spare := (List.range 16).find? (fun p => !bit active p && !bit retired p)
    let s := s.put F.PORTER_PHYS_RETIRED (if bit retired old then retired else retired + 2 ^ old) h
    let active := if bit active old then active - 2 ^ old else active
    match spare with
    | some p => (s.put F.PORTER_PHYS_ACTIVE (active + 2 ^ p) h).wr .PORTER_MAP (Word.setBits (s.rd .PORTER_MAP h) (4 * (c % 14)) 4 p) h
    | none => (s.put F.PORTER_PHYS_ACTIVE active h).setCh c chRetired

end Sys2Proof.Machine
end

