-- ==== Sys2Proof/Machine/RelocOps.lean ====
section
/-!
DEFINITION. Relocations as operations: start, publication, pause, commit, release, rollback, resume (R374 to R396), which
the context's events and the commands of ECP share.
-/
namespace Sys2Proof.Machine

/-! ## Pausing (R384, R393) -/

/-- A context goes on from a W: it copies, or copies back (R382, R391). -/
def State.rlRuns (s : State) (x w : Nat) : State :=
  let c := s.reloc x
  ((s.setRl x (if c.back then rlReverse else rlCopying)).setReloc x { c with phase := (if c.back then 6 else 1) }).rlPublish x w

/-- A paused context resumes once every cause has ended: it publishes its chunk again (R384). -/
def State.rlResumeCheck (s : State) (x : Nat) : State :=
  if s.rlState x == rlPaused && !s.rlPauses x then s.rlRuns x (s.wmark (x / 4) x) else s

/-- Every context. -/
def State.allResumeChecks (s : State) : State := (List.range 8).foldl (fun s x => s.rlResumeCheck x) s

/-- PAUSE written (R384): setting it stops a context that has no chunk in copy; clearing it lets it resume. -/
def State.rlSetPause (s : State) (x : Nat) (b : Bool) : State := (s.putFlag F.RELOC_CTRL_PAUSE b x).rlResumeCheck x

/-! ## Committing (R387 to R389) -/

/-- The commit transaction (R388): firmware's own, in slot 3, where none of this context waits there. A REMOTE relocation's has no
item, so it ends at once at the same epoch (R284). -/
def State.rlCommitNow (s : State) (x : Nat) : Status × State :=
  if s.fwHas (.relocCommit x) then (.busy, s)
  else if s.refusing then (.busy, s.fwRefused (.relocCommit x) .busy)
  else if (s.rlItems x).isEmpty then (.ok, s.rlPrepared x)
  else (.ok, s.fwTxn (.relocCommit x))

/-- The commit of a Synced relocation (R387, R388): a slice whose home changes is handed over first. -/
def State.rlCommit (s : State) (x : Nat) : Status × State :=
  let r := s.rlSlice x
  if s.rlState x != rlSynced || s.fwHas (.relocCommit x) then (.busy, s)
  else if r.region && (s.rlHomes x).1 != (s.rlHomes x).2 then
    let s := (s.setRl x rlHandover).setReloc x { s.reloc x with phase := 3 }
    (.ok, s.withMarket (fun m => { m with handing := m.handing ++ [r] }))
  else s.rlCommitNow x

/-- W = N: the context reads Synced, and commits by itself under AUTO_COMMIT (R382, R388). -/
def State.rlSync (s : State) (x : Nat) : State :=
  let s := (s.setRl x rlSynced).setReloc x { s.reloc x with phase := 2 }
  if s.flag F.RELOC_CTRL_AUTO_COMMIT x then (s.rlCommit x).2 else s

/-- The source of a committed relocation is given up (R389, R396): its range is scrubbed, the context is free, the start
operation ends OK. -/
def State.rlRelease (s : State) (x : Nat) : State :=
  let r := s.rlSlice x
  let s := if s.flag F.RELOC_OBJECT_REMOTE x then s.clearReg .STALL_SLICE r.obj r.way else s
  let s := s.releaseRange (sliceRange (s.rd .RELOC_SRC x) (s.rlUnits x) none)
  let s := if r.region then
      s.releaseRange { port := s.get F.RELOC_SRC_PORT x, ld := s.get F.RELOC_SRC_LD x,
                       start := 32 * s.get F.RELOC_LEDGER_SRC_LEDGER_BASE x, len := s.get F.RELOC_CHUNKS_N x / 8 }
    else s
  (s.endOp (.relocation x) .ok).rlFreeCtx x

/-! ## Rolling back (R390, R391) -/

/-- A tainted context copies chunks 0 to W - 1 back before it is rolled back (R391). -/
def State.rlStartReverse (s : State) (x : Nat) : State :=
  ((s.put F.RELOC_REVERSE_V 0 x).setReloc x { s.reloc x with back := true, fails := 0 }).rlRuns x (s.wmark (x / 4) x)

/-- The rollback command, or an abort of the start (R390): a tainted context first copies back (R391). One that rolls back already goes
on. -/
def State.rlBack (s : State) (x : Nat) : Status × State :=
  let v := s.rlState x
  if v == rlFree || v == rlCommitting then (.busy, s)
  else if v == rlRollingBack || (s.reloc x).back then (.ok, s)
  else
    let r := s.rlSlice x
    let s := s.withMarket (fun m => { m with handing := m.handing.filter (fun y => y != r) })
    if s.rlNeedsReverse x then (.ok, s.rlStartReverse x) else (.ok, s.rlRollback x)

/-! ## Resuming (R265, R385, R393) -/

/-- Why a port keeps a Failed Stall or a Stopped context from resuming (R265): BUSY while it is held, INVALID unless it is in L0
with the recorded device. A port in L0p carries traffic and counts as in L0 (DESIGN CHOICE, log entry 169). -/
def State.portNotBack (s : State) (ps : List Nat) : Option Status :=
  if ps.any (fun p => s.isHeld p) then some .busy
  else if ps.any (fun p => (s.linkState p != lsL0 && s.linkState p != lsL0p) || !(s.inventory.any (fun d => d.port == p))) then some .invalid
  else none

/-- RELOC_RESUME: a Stopped context goes on from its W (R385). -/
def State.rlResume (s : State) (x : Nat) : Status × State :=
  if s.rlState x != rlStopped then (.busy, s)
  else
    match s.portNotBack [s.get F.RELOC_SRC_PORT x] with
    | some e => (e, s)
    | none =>
      if s.swapped.contains (s.rlSlice x) then (.invalid, s)
      else (.ok, (s.setReloc x { s.reloc x with fails := 0 }).rlRuns x (s.wmark (x / 4) x))

/-! ## After a reset of the Hearth (R395) -/

/-- Settle the record of a context: copying, forward or back, resumes at the journalled W, a Synced one commits again under AUTO_COMMIT,
a handover is run again, a committing one whose slice is still on the source reads Synced, a rollback is completed. -/
def State.rlSettle1 (s : State) (x : Nat) : State :=
  let v := s.rlState x
  if v == rlCopying || v == rlPaused || v == rlReverse then s.rlRuns x (s.reloc x).journalled
  else if v == rlSynced && s.flag F.RELOC_CTRL_AUTO_COMMIT x then (s.rlCommit x).2
  else if v == rlHandover then ((s.setRl x rlSynced).rlCommit x).2
  else if v == rlCommitting && s.rlOnSource 2 x && !s.flag F.RELOC_OBJECT_REMOTE x then (s.setRl x rlSynced).setReloc x { s.reloc x with phase := 2 }
  else if v == rlRollingBack then s.rlRollback x
  else s

/-- Settle every context. -/
def State.rlSettle (s : State) : State :=
  let s := s.withMarket (fun m => { m with handing := [], awaiting := [] })
  (List.range 8).foldl (fun s x => s.rlSettle1 x) s

end Sys2Proof.Machine
end

