-- ==== Sys2Proof/Machine/ResetCore.lean ====
section
/-!
DEFINITION. The resets as operations: the wipe of the sealed part (R411), the end of sessions (R438), a Hearth-only
reset, a warm reset and its deferral (R40 to R49, R302, R339), and how requests for resets meet (R48, R590, R622).
-/
namespace Sys2Proof.Machine

/-! ## Sessions and the sealed part -/

/-- A session ends (R438): its open transactions roll back (R275, R299), its waiting commands are dropped; its
operations go on (R446). -/
def State.sessionEnd (s : State) (x : Session) : State :=
  let s := (List.range 3).foldl (fun s t =>
    if (s.tx t).owner != x.id then s
    else if s.txState t == txOpen then s.txClear t
    else if s.txState t == txValidating then (s.commitRefused t .aborted none).txClear t
    else s) s
  { s with sessions := s.sessions.filter (fun y => y.id != x.id),
           ops := s.ops.map (fun o => if o.session == x.id then { o with session := 0 } else o) }

/-- End the sessions that a test selects. -/
def State.endSessions (s : State) (f : Session → Bool) : State := (s.sessions.filter f).foldl (fun s x => s.sessionEnd x) s

/-- A stream of a port becomes Insecure (R105). -/
def State.ideInsecure (s : State) (p : Nat) : State :=
  let one (s : State) (f : Fld) : State := if s.get f p == 2 then s.put f 3 p else s
  let was := s.get F.IDE_STATUS_RX p == 2 || s.get F.IDE_STATUS_TX p == 2
  if was then ((one (one s F.IDE_STATUS_RX) F.IDE_STATUS_TX).portErr F.PORT_ERR_IDE_FAIL p).holdPort p .insecure else s

/-- Erase the keys of every port engine (R411). -/
def State.erasePortKeys (s : State) : State :=
  let s := { s with spans := [] }
  let s := { s with oldKeys := [] }
  (List.range 96).foldl (fun s p => s.ideInsecure p) s

/-- A wipe of the sealed part (R411): zeros, every SPDM and ECP session ends, WIPES counts it. -/
def State.wipe (s : State) (keys : Bool) : State :=
  let s := { s with mem := memZero s.mem 0x11F00000 0x11FFFFFF }
  let s := ((s.endSessions (fun _ => true)).withEcp (fun e => { e with opening := [] })).bumpWrap F.WIPES_V 1
  let s := s.withSec (fun x => { x with spdm := [] })
  if keys then s.erasePortKeys else s

/-! ## The Hearth's part of a reset -/

/-- Operations whose work firmware resumes after a reset of the Hearth, and reset operations (R446). -/
def OpKind.survives : OpKind → Bool
  | .commit _ | .relocStarting | .clearQuarantine _ _ _ _ | .relocation _ | .relocInbound _ | .resetWarm | .resetHearth | .resetHalf _ | .resetPort _ => true
  | _ => false

/-- Every other running operation ends ABORTED (R446). -/
def State.abortOps (s : State) : State :=
  (s.ops.filter (fun o => decide (o.status = .accepted) && !o.kind.survives)).foldl (fun s o => s.endOperation o .aborted) s

/-- Cores marked for retirement are retired; the spare takes the place of the first (R456). -/
def State.retireCores (s : State) : State :=
  let s := s.hearth.retiring.foldl (fun s c =>
    let s := (s.wr .CORE_ACTIVE (Word.setBits (s.rd .CORE_ACTIVE) c 1 0)).wr .CORE_RETIRED (Word.setBits (s.rd .CORE_RETIRED) c 1 1)
    match (List.range 17).find? (fun d => !s.coreActive d && Word.bits (s.rd .CORE_RETIRED) d 1 == 0) with
    | some d => s.wr .CORE_ACTIVE (Word.setBits (s.rd .CORE_ACTIVE) d 1 1)
    | none => s) s
  s.withHearth (fun h => { h with retiring := [] })

/-- Registers of the Hearth cluster, of control memory and of the aggregator that a reset of the Hearth returns to their
reset values (R461, R487, R598). The repair logic and the core split are not reached (R456, R462). -/
def hearthKey (k : Key) : Bool :=
  match k.reg with
  | .SP_REPAIR | .CORE_ACTIVE | .CORE_RETIRED => false
  | .IA_PENDING | .IA_ENABLE | .IA_ROUTE => true
  | .PMU_CTRL | .PMU_OVF | .PMU_CYCLE | .PMU_EVSEL | .PMU_COUNT => (pmuHalf k.i).isNone
  | .WEAR_SP_COLUMN => true
  | _ => keyHearth k

/-- A bank's control register after a reset of the Hearth: retention and a repair in progress stay (R461). -/
def keepBank (v : Word) : Word :=
  let kept := Word.bits v 30 1
  Word.setBits (Word.setBits (Word.setBits (resetWord ⟨.SP_BANK_CTRL, 0, 0⟩) 31 1 (if kept = 1 then Word.bits v 31 1 else 0)) 30 1 kept)
    29 1 (Word.bits v 29 1)

/-- Transactions Open or Validating when a reset reaches the Hearth are lost, and those that wait for slot 3 (R299). -/
def State.loseTxns (s : State) : State :=
  let waiting := s.txns.fw.filterMap FwTxn.opId
  let s := s.withTxns (fun t => { t with fw := [] })
  let s := (s.ops.filter (fun o => waiting.contains o.id && decide (o.status = .accepted))).foldl (fun s o => s.endOperation o .aborted) s
  (List.range 4).foldl (fun s t =>
    if s.txState t == txOpen then s.txClear t
    else if s.txState t == txValidating then (s.commitRefused t .aborted none).txClear t else s) s

/-- Registers of the scratchpad, which a Hearth-only reset reaches and a warm reset does not (R40, R44, R461). -/
def scratchKey (k : Key) : Bool :=
  match k.reg with
  | .SP_BANK_CTRL | .SP_BANK_CE | .SP_BANK_UE | .SP_CONFLICT | .WEAR_SP_COLUMN => true
  | _ => false

/-- What a reset that reaches the Hearth cores does to the Hearth (R40, R299, R411, R446, R456, R461, R468, R487, R598); `pad`:
it reaches the scratchpad. -/
def State.hearthClear (s : State) (cause : Nat) (pad : Bool) : State :=
  let banks := (List.range 16).map (fun b => (b, keepBank (s.rd .SP_BANK_CTRL b)))
  let s := s.resetRegs (fun k => hearthKey k && (pad || !scratchKey k))
  let s := if pad then banks.foldl (fun s e => s.wr .SP_BANK_CTRL e.2 e.1) s else s
  let s := (s.retireCores).withHearth (fun h => { h with cores := [], queued := [], sems := [], kicked := s.now })
  let s := { s with agg := {}, levels := s.levels.filter (fun n => !(264 ≤ n && n ≤ 266)) }
  let s := (s.wipe false).put F.RST_CAUSE_V cause
  let s := ((s.put F.ISO_STATUS_WESIS_OK 0).put F.ISO_STATUS_DEBUG_LOCKED 0).withSec (fun x => { x with nonce := none, fw := none })
  let s := s.withEcp (fun e => { e with fails := [], locked := [], fmOps := [], fmLimits := [], staging := [], release := none })
  { s.abortOps.withTelem (fun t => { t with waits := [] }) with hearthDown := true }

/-- A half enters Hold (R33): it forwards under its committed bindings and refuses configuration. -/
def State.enterHold (s : State) (h : Nat) : State :=
  if s.flag F.HALF_STATE_HOLD h then s else (s.put F.HALF_STATE_HOLD 1 h).raise (780 + h)

/-- A Hearth-only reset (R40): cause 3 a command, 4 the watchdog. Transactions Open or Validating are lost (R299); a port taken
to Disabled leaves its test (R79). -/
def State.hearthReset (s : State) (cause : Nat) : State :=
  let s := (s.loseTxns.hearthClear cause true).bump F.RST_COUNT_HEARTH 1
  let s := s.lanes.disabled.foldl State.dropTest s
  let s := { s with txns := { s.txns with lost := [0, 1] } }
  (s.enterHold 0).enterHold 1

/-! ## Warm reset (R40, R44, R45, R49, R302, R339) -/

/-- A half in a warm reset: its slices recover if its Ledger was not written back (R339). -/
def State.warmHalf (s : State) (h : Nat) : State :=
  (s.halfClear h (s.ledgerDirty h || s.flag F.COH_STATUS_FLUSHING h)).put F.COH_STATUS_FLUSHING 0 h

/-- Fields of the tables and transaction registers that a warm reset reaches in both halves (R40). -/
def warmKey (k : Key) : Bool :=
  match k.reg with
  | .STALL_DRAIN | .STALL_SQUASHED | .STALL_LATE | .SNAP_CTRL | .SNAP_RING_BASE | .SNAP_RING_COUNT | .SNAP_HEAD | .SNAP_MISSED
  | .PMU_GLOBAL => true
  | _ => false

/-- The halves are loaded with the settled configuration and forwarding starts (R45, R554). `from'` is KINDLE_STATUS.FROM. -/
def State.restore (s : State) (from' image : Nat) : State :=
  let s := { s with hearthDown := false, below := [], txns := { s.txns with lost := [], closed := [] } }
  let s := (s.halfReload 0).halfReload 1
  let s := [0, 1].foldl (fun s h => (s.put F.HALF_STATE_HOLD 0 h).put F.HALF_STATE_SPLIT 0 h) s
  let s := ((s.put F.KINDLE_STATUS_FROM from').put F.KINDLE_STATUS_IMAGE image).put F.KINDLE_STATUS_WESIS_VERIFIED 0
  let s := s.putFlag F.ISO_STATUS_DEBUG_LOCKED (!s.flag F.DEBUG_STATUS_UNLOCKED && s.get F.LC_STATE_V != 0)
  let s := s.withPower (fun p => { p with verifying := true, fellBack := [], phaseAt := s.now })
  s.setRung rungKindling

/-- A cold boot without BIST, because the Ember store holds no valid configuration (R45, R409): every transactional
register and table entry returns to its reset value, and nothing is bound. -/
def State.clearConfig (s : State) : State :=
  let keep (k : Key) : Bool := (Reg.fields k.reg).any (fun f => decide (f.acc = .RWT)) || k.reg.isWindow || resetKeeps k.reg
  let drop (e : Key × Word) : Option (Key × Word) :=
    if !keep e.1 then some e
    else
      let v := (Reg.fields e.1.reg).foldl (fun a f =>
        if decide (f.acc = .RWT) || e.1.reg.isWindow || resetKeeps e.1.reg then Word.setBits a f.lo f.w (Word.bits (resetWord e.1) f.lo f.w)
        else a) e.2
      if v = resetWord e.1 then none else some (e.1, v)
  let s := { s with regs := s.regs.filterMap drop, emulated := [], vports := [], passed := [], relocs := [], inbound := [], swapped := [],
                    ranges := [], inventory := [], txns := {}, ahead := [], mem := memZero s.mem 0x12000000 0x127FFFFF, nextOp := 1 }
  ((s.clearReg .EPOCH).clearReg .COMMIT_ID).withPower (fun p => { p with sealed := .invalid })

/-- Restore an image (R560). -/
def State.loadImage (s : State) (x : Image) : State :=
  let s := x.regs.foldl (fun s e => s.wr e.1.reg e.2 e.1.i e.1.j) s
  let s := { s with relocs := x.relocs, emulated := x.emulated, vports := x.vports, passed := x.passed, inbound := x.inbound,
                    inventory := x.inventory, nextOp := x.nextOp, lanes := { s.lanes with disabled := x.disabled },
                    mem := x.ring.foldl (fun m (c : Host.Cell) => memPutByte m c.1 c.2) s.mem,
                    txns := { s.txns with scrubNew := false } }
  let s := s.setRanges x.ranges
  s.regionSlices.foldl (fun s r =>
    if (if s.homeOf 0 r = 0 then x.clean.1 else x.clean.2) then s else s.markRecovering r.obj r.way) s

/-- The newer Keep copy (R560). -/
def State.keepCopy (s : State) : Option (Nat × Image) :=
  (s.power.copies.map Prod.snd).foldl (fun b x => match b with | none => some x | some y => if y.1 < x.1 then some x else some y) none

/-- The Keep restore of a cold boot (R560): KINDLE_STATUS.FROM and IMAGE that it gives. -/
def State.keepRestore (s : State) (from' : Nat) (k : KeepRead) : Nat × Nat × State :=
  match k, (if s.flash.keepPlace.isSome then s.keepCopy else none) with
  | .good, some (g, x) => (4, 0, (s.loadImage x).put F.BANK_GENERATION_V g)
  | .bad, some _ => (from', 2, s.setErr F.BANK_ERR_KEEP_RESTORE_FAIL 0 791)
  | _, _ => (from', 2, s)

/-- The Hearth runs again while the halves stay in reset, because Ash is in force (R505). -/
def State.ashBoot (s : State) : State :=
  let s := s.withPower (fun p => { p with verifying := true })
  { s with hearthDown := false, txns := { s.txns with lost := [] } }

/-- What follows a warm reset (R45): relocations and journals are settled and the configuration is restored; where the Ember store
holds no valid one, the cold boot sequence without BIST runs, its Keep restore included (R560). Whether the Keep image passes its
checks is a free value there (log entry 155). -/
def State.warmRestore (s : State) : State :=
  if s.flag F.FC_STATUS_ASH then s.ashBoot.endOp .resetWarm .ok
  else if s.power.sealed = .invalid then
    let (x, s) := s.clearConfig.draw 1
    let (f, image, s) := s.keepRestore 1 (if x = 1 then .good else .bad)
    (s.restore f image).endOp .resetWarm .ok
  else (s.rlSettle.restore 1 1).endOp .resetWarm .ok

/-- The warm reset itself. Debug unlock takes effect here (R417); IDE keys go with the ports (R107). -/
def State.warmGo (s : State) (cause : Nat) : State :=
  let s := s.withPower (fun p => { p with warmWaits := none, entering := none, step := 0, keepWait := false })
  let s := ((s.warmHalf 0).warmHalf 1).loseTxns
  let s := ((s.hearthClear cause false).bump F.RST_COUNT_WARM 1).resetRegs warmKey
  let s := { s.settleTxns with telem := { s.telem with latched := none } }
  let s := (List.range 4).foldl (fun s t => s.txClear t) s
  let s := if s.flag F.DEBUG_STATUS_UNLOCK_PENDING then (s.put F.DEBUG_STATUS_UNLOCK_PENDING 0).put F.DEBUG_STATUS_UNLOCKED 1 else s
  let s := if s.sec.advancing then (s.clearConfig).withSec (fun x => { x with advancing := false }) else s
  if s.power.resetLow then s else s.warmRestore

/-- Whether a warm reset is in progress or waits: one that a pin started lasts while the pin is low (R622). -/
def State.warmBusy (s : State) : Bool := s.power.warmWaits.isSome || s.power.resetLow

/-- What a warm reset waits for: banking until its image is sealed (R49), a journal in Applying or Undoing (R302), a Ledger
write-back (R339). -/
def State.warmHolds (s : State) : Bool :=
  (s.rung == rungBanking && s.power.step != 5) || s.applying || s.flag F.COH_STATUS_FLUSHING 0 || s.flag F.COH_STATUS_FLUSHING 1

/-- A warm reset that waited proceeds once nothing holds it. -/
def State.warmCheck (s : State) : State :=
  match s.power.warmWaits with
  | some c => if s.warmHolds then s else s.warmGo c
  | none => s

/-- A warm reset is requested: it absorbs the resets in progress (R48), writes the Ledger back and waits where it must. -/
def State.warmRequest (s : State) (cause : Nat) : State :=
  let s := [OpKind.resetHearth, .resetHalf 0, .resetHalf 1].foldl (fun s k => s.endOp k .aborted) s
  let s := s.resetPorts.foldl (fun s p => s.endOp (.resetPort p) .aborted) s
  let flush (s : State) (h : Nat) : State := if s.ledgerDirty h && !s.resetHalves.contains h then s.cohFlush h else s
  let s := if s.rung == rungBanking || s.rung == rungBanked then s else flush (flush s 0) 1
  (s.withPower (fun p => { p with warmWaits := some cause })).warmCheck

/-! ## Requests for resets (R48, R546, R590) -/

/-- A request refused with BUSY is counted (R589). -/
def State.resetRefused (s : State) : State := s.bump F.RST_REFUSED_V 1

/-- Whether a reset of each kind would be refused with BUSY (R48, R546). -/
def State.halfBusy (s : State) (h : Nat) : Bool := s.warmBusy || s.resetHalves.contains h || s.rung == rungBanking
def State.portBusy (s : State) (p : Nat) : Bool := s.warmBusy || s.resetHalves.contains (halfOf p) || s.resetPorts.contains p
def State.hearthBusy (s : State) : Bool := s.warmBusy || s.hearthDown || s.rung == rungBanking

/-- The bits of RST_CTRL. -/
def State.rstWarm (s : State) : State := if s.warmBusy then s.resetRefused else s.warmRequest 2
def State.rstHalf (s : State) (h : Nat) : State := if s.halfBusy h then s.resetRefused else s.halfResetStart h
def State.rstPort (s : State) (p : Nat) : State := if s.portBusy p then s.resetRefused else s.portResetStart p
def State.rstHearth (s : State) : State := if s.hearthBusy then s.resetRefused else s.hearthReset 3

end Sys2Proof.Machine
end

