-- ==== Sys2Proof/Machine/FaultCore.lean ====
section
/-!
DEFINITION. The fault collector beside its latches: lasting conditions (R498), clearing (R499), forcing (R501), the
reactions that a source allows (R494, R495), the self-check (R506).
-/
namespace Sys2Proof.Machine

/-- The lowest status bit that is set in a field of a register, counted in the register. -/
def lowBit (v : Word) (lo w : Nat) : Option Nat := ((List.range w).map (fun i => lo + i)).find? (fun i => Word.bits v i 1 == 1)

/-- The first cause among several. -/
def firstCause (l : List (Option Nat)) : Option Nat := l.findSome? id

/-- The Seam channels whose receiver lies in a half. -/
def seamChannels (h : Nat) : List Nat := (List.range 8).map (fun c => 96 + 8 * h + c)

/-- The lasting condition of a source but FORCE (R493, R494, R498): the CAUSE that a record of it carries, 0xFF for a level. -/
def State.condition (s : State) (n : Nat) : Option Nat :=
  let level (b : Bool) : Option Nat := if b then some 0xFF else none
  if n < 768 then
    let p := n / 8
    match n % 8 with
    | 0 => level (s.flag F.PHY_STATUS_REFCLK_LOST p)
    | 1 => lowBit (s.rd .PORT_ERR p) 0 6
    | 2 => lowBit (s.rd .PORT_ERR p) 6 1
    | 3 => lowBit (s.rd .PORT_ERR p) 7 1
    | 4 => lowBit (s.rd .LL_ERR p) 2 6
    | _ => none
  else
    let h := n % 2
    if n ≤ 769 then firstCause ((seamChannels h).map (fun l => lowBit (s.rd .LL_ERR l) 2 6))
    else if n ≤ 771 then lowBit (s.rd .BUF_ERR h) 0 5
    else if n ≤ 773 then lowBit (s.rd .BUF_ERR h) 5 1
    else if n ≤ 775 then firstCause [lowBit (s.rd .COH_ERR h) 0 1, lowBit (s.rd .COH_ERR h) 3 2]
    else if n ≤ 777 then firstCause ((List.range 14).map (fun c => lowBit (s.rd .CH_ERR (14 * h + c)) 0 5))
    else if n ≤ 779 then none
    else if n ≤ 781 then firstCause [lowBit (s.rd .FLUE_ERR h) 0 2, level (s.flag F.HALF_STATE_HOLD h)]
    else if n = 783 then level (s.flag F.HALF_STATE_SPLIT 0 || s.flag F.HALF_STATE_SPLIT 1)
    else if n = 789 then level (s.get F.TAMPER_ACTIVE_V != 0)
    else if n = 790 then level s.sec.recovery
    else if n = 791 then lowBit (s.rd .BANK_ERR) 0 7
    else if n = 792 then level (!s.flag F.CLK_STATUS_FCLK_E_LOCK)
    else if n = 793 then level (!s.flag F.CLK_STATUS_FCLK_W_LOCK)
    else if 960 ≤ n ∧ n ≤ 1007 then lowBit (s.rd .SLOT_ERR (n - 960)) 1 6
    else if n = 1008 then lowBit (s.rd .FEED_ERR) 0 8
    else none

/-- FC_SRC.CONDITION (R498): FORCE is a lasting condition. -/
def State.conditionNow (s : State) (n : Nat) : Bool := (s.condition n).isSome || s.flag F.FC_SRC_FORCE n

/-- The reactions that a source allows (R494, R495). -/
def reactionAllowed (n v : Nat) : Bool :=
  let l : List Nat :=
    if n < 768 then [0, 1, 2]
    else if n ≤ 777 then [0, 1, 3, 4]
    else if n ≤ 779 then [0, 1, 3, 4]
    else if n ≤ 782 then [0, 1, 4]
    else if n = 783 then [2, 4]
    else if n = 784 then [0, 1]
    else if n = 785 ∨ n = 787 ∨ n = 788 then [0, 1, 4]
    else if n = 786 ∨ n = 789 ∨ n = 791 then [1, 4]
    else if n = 790 then [1]
    else if n = 792 ∨ n = 793 then [3, 4]
    else if n < 960 then [0, 1]
    else if n ≤ 1007 then [0, 1, 2, 4]
    else if n = 1008 then [0, 1, 4]
    else if n = 1023 then [4]
    else [0, 1]
  l.contains v

/-- A write of REACTION (R500): an encoding that the source does not allow is discarded. -/
def State.setReaction (s : State) (n v : Nat) : State := if reactionAllowed n v then s.put F.FC_SRC_REACTION v n else s

/-- The Contain of a source ends (R503): ports released, QUENCH cleared where this source's Contain set it. -/
def State.endContain (s : State) (n : Nat) : State :=
  let ports := ((s.holds.filter (fun e => decide (e.2 = .fault n))).map Prod.fst).eraseDups
  let s := ports.foldl (fun s p => s.unhold p (fun c => decide (c = .fault n))) s
  let stalls := (s.containQuench.filter (fun e => e.1 == n)).map Prod.snd
  let s := { s with containQuench := s.containQuench.filter (fun e => e.1 != n) }
  stalls.foldl (fun s st => if s.containQuench.any (fun e => e.2 == st) then s else s.setQuench st false) s

/-- The Douse of a source ends (R503), unless another latched source douses the same half. -/
def State.endDouse (s : State) (n : Nat) : State :=
  let h := sourceHalf n
  let other := (List.range 1024).any (fun m => m != n && decide (768 ≤ m) && sourceHalf m == h && s.flag F.FC_SRC_LATCHED m
    && s.get F.FC_SRC_APPLIED m == 3)
  if s.get F.FC_SRC_APPLIED n == 3 && !other then
    let s := s.wr .FC_DOUSED (Word.setBits (s.rd .FC_DOUSED) h 1 0)
    s.withPower (fun p => { p with douses := p.douses.filter (fun x => x != h) })
  else s

/-- A clear of a source (R499): LATCHED, COUNT and its effects go; with its condition still present it is raised again. -/
def State.clearSource (s : State) (n : Nat) : State :=
  let was := s.flag F.FC_SRC_LATCHED n
  let s := (s.put F.FC_SRC_LATCHED 0 n).put F.FC_SRC_COUNT 0 n
  let s := if was then ((s.endContain n).endDouse n).irqTouch 256 else s
  if s.conditionNow n then s.raise n { cause := (s.condition n).getD 0xFF } else s

/-- A write of FORCE (R501). -/
def State.setForce (s : State) (n : Nat) (b : Bool) : State :=
  if !s.debugAllowed then s
  else
    let s := s.putFlag F.FC_SRC_FORCE b n
    if b then s.raise n else s

/-- The collector's self-check fails (R506): Ash at once, without record, REACTION or delay; then SELF_ERR. `trusted` says
that the ring pointers can still be trusted: firmware then writes the record. -/
def State.selfCheckFails (s : State) (trusted : Bool) : State :=
  let was := s.flag F.FC_SRC_LATCHED 1023
  let s := if was then s.bump F.FC_SRC_COUNT 1 1023
    else ((s.put F.FC_SRC_LATCHED 1 1023).put F.FC_SRC_COUNT 1 1023).put F.FC_SRC_APPLIED 4 1023
  let s := (s.enterAsh).put F.FC_STATUS_SELF_ERR 1
  let s := if trusted then s.writeRecord 1023 (s.flag F.FC_SRC_FORCE 1023) 4 {} else s
  s.irqTouch 256

end Sys2Proof.Machine
end

