-- ==== Sys2Proof/Machine/SlotCore.lean ====
section
/-!
DEFINITION. A slot power channel: its states, its breaker, its feeds (R512 to R539), as operations that the channel's
events, the register writes and ECP share.
-/
namespace Sys2Proof.Machine

/-! ## States (R515) -/
abbrev slEmpty : Nat := 0
abbrev slSeating : Nat := 1
abbrev slReady : Nat := 2
abbrev slPrecharge : Nat := 3
abbrev slRamp : Nat := 4
abbrev slOn : Nat := 5
abbrev slTripped : Nat := 6
abbrev slLockout : Nat := 7
abbrev slSupplyLost : Nat := 8

/-- The state of a channel. -/
def State.sl (s : State) (n : Nat) : Nat := s.get F.SLOT_STATE_STATE n

/-- Whether a channel has power applied: Precharge, Ramp, On. -/
def State.slPowered (s : State) (n : Nat) : Bool := s.sl n == slPrecharge || s.sl n == slRamp || s.sl n == slOn

/-- How an entry to a state ends the SLOT_POWER of the channel (R536). -/
def slotEnds (old v : Nat) : Option Status :=
  if v = slOn then some .ok else if v = slLockout then some .faulted
  else if v = slEmpty ∧ old = slSeating then some .aborted else none

/-- A change of state (R515): the interrupt and the event that report it (R450, R593), the end of a SLOT_POWER. A channel
without power has no feed switch in progress. -/
def State.setSl (s : State) (n v : Nat) : State :=
  let old := s.sl n
  if old == v then s
  else
    let s := ((s.put F.SLOT_STATE_STATE v n).irqEvent (277 + n)).event 0x06F0 [n, v]
    let s := s.putFlag F.SLOT_STATE_PG (v == slOn) n
    let s := if s.slPowered n then s else s.setSlot n { s.slot n with switching := none, checking := false }
    match slotEnds old v with
    | some st => s.endOp (.slotPower n) st
    | none => s

/-! ## Feeds (R528 to R530) -/

/-- The index of a feed: 0 A, 1 B. -/
def feedIx : Feed → Nat
  | .a => 0
  | .b => 1

/-- Whether a feed is present. -/
def State.feedPresent (s : State) (f : Nat) : Bool := s.flag (if f = 0 then F.FEED_CFG_A_PRESENT else F.FEED_CFG_B_PRESENT)

/-- The classes that a feed is in: bit 0 sag, 1 swell, 2 dropout, 3 ripple. -/
def State.feedClass (s : State) (f : Nat) : Nat := s.get (if f = 0 then F.FEED_STATUS_CLASS_A else F.FEED_STATUS_CLASS_B)

/-- A feed is good while it is in no class except ripple (R530). -/
def State.feedGood (s : State) (f : Nat) : Bool := s.feedPresent f && s.feedClass f % 8 == 0

/-- Whether a channel may use a feed. -/
def State.feedAllowed (s : State) (n f : Nat) : Bool := s.flag (if f = 0 then F.SLOT_FEED_ALLOW_A else F.SLOT_FEED_ALLOW_B) n

/-- Usable: allowed and good (R528). -/
def State.feedUsable (s : State) (n f : Nat) : Bool := s.feedAllowed n f && s.feedGood f

/-- The feed that R528 chooses: PRIMARY if usable, else the other if usable, else the one in use. -/
def State.feedChoice (s : State) (n : Nat) : Nat :=
  let p := s.get F.SLOT_FEED_PRIMARY n
  if s.feedUsable n p then p else if s.feedUsable n (1 - p) then 1 - p else s.get F.SLOT_STATE_FEED_IN_USE n

/-- Start a break-before-make change to a feed, unless the channel is on it or on its way to it (R529). -/
def State.feedSwitch (s : State) (n f : Nat) : State :=
  if !s.slPowered n || (s.slot n).switching == some f then s
  else if s.get F.SLOT_STATE_FEED_IN_USE n == f then s
  else s.setSlot n { s.slot n with switching := some f, checking := true }

/-- Failover (R528): the feed in use left its window and the other feed is usable. -/
def State.failover (s : State) (n : Nat) : State :=
  let f := s.get F.SLOT_STATE_FEED_IN_USE n
  if s.slPowered n && !s.feedGood f && s.feedUsable n (1 - f) then s.feedSwitch n (1 - f) else s

/-- Whether supplies allow power: main supplies good and an allowed feed above its dropout level (R531). -/
def State.slSupplied (s : State) (n : Nat) : Bool :=
  s.power.mains && [0, 1].any (fun f => s.feedAllowed n f && s.feedPresent f && s.feedClass f / 4 % 2 == 0)

/-! ## The breaker (R521, R524) -/

/-- Whether the curve is valid (R521). -/
def State.curveOk (s : State) (n : Nat) : Bool :=
  (List.range 7).all (fun k => decide (s.get F.SLOT_CURVE_IK n k < s.get F.SLOT_CURVE_IK n (k + 1))
    && decide (s.get F.SLOT_CURVE_TK n (k + 1) < s.get F.SLOT_CURVE_TK n k))
  && decide (s.get F.SLOT_CURVE_IK n 7 < s.get F.SLOT_FAST_FT_CODE n)

/-- An invalid curve at the entry to Precharge (R521). -/
def State.curveBad (s : State) (n : Nat) : State := (s.put F.SLOT_ERR_CURVE_BAD 1 n).put F.SLOT_STATE_POWER_REQ 0 n

/-- The channel is about to enter Precharge (R521): it does, on the feed of R528, or goes to Ready. -/
def State.enterPrecharge (s : State) (n : Nat) : State :=
  if s.curveOk n then (s.put F.SLOT_STATE_FEED_IN_USE (s.feedChoice n) n).setSl n slPrecharge
  else (s.curveBad n).setSl n slReady

/-- Ready is left when POWER_REQ is set; a pending deadline holds the attempt back (R515, R526; log entry 18). -/
def State.readyCheck (s : State) (n : Nat) : State :=
  if s.sl n == slReady && s.flag F.SLOT_STATE_POWER_REQ n && (s.slot n).deadline.isNone then s.enterPrecharge n else s

/-- The kinds of trip (SLOT_STATE.LAST_TRIP), and the bit of SLOT_ERR of each. -/
def tripBit (kind : Nat) : Fld :=
  match kind with
  | 1 => F.SLOT_ERR_CURVE_TRIP
  | 2 => F.SLOT_ERR_FAST_TRIP
  | 3 => F.SLOT_ERR_PRECHARGE_TO
  | 4 => F.SLOT_ERR_PG_LOST
  | _ => F.SLOT_ERR_SWITCH_FAIL

/-- A counted trip (R524): Tripped with a backoff deadline, or Lockout. A trip with PRES_SHORT deasserted is not counted
(R517). -/
def State.trip (s : State) (n kind : Nat) : State :=
  if !s.flag F.SLOT_STATE_SHORT_PIN n then s
  else
    let k := s.get F.SLOT_STATE_RETRIES n
    let s := ((s.put F.SLOT_STATE_LAST_TRIP kind n).bump F.SLOT_TRIPS_V 1 n).setErr (tripBit kind) n (960 + n)
    if k == s.get F.SLOT_CTRL_RETRY_LIMIT n then
      ((s.put F.SLOT_STATE_POWER_REQ 0 n).setErr F.SLOT_ERR_LOCKOUT n (960 + n)).setSl n slLockout
    else
      let s := (s.put F.SLOT_STATE_RETRIES (k + 1) n).setSl n slTripped
      s.setSlot n { s.slot n with deadline := some (s.now + 10000000 * 2 ^ k) }

/-- RETRIES and the deadline go (R525, R526). -/
def State.dropRetries (s : State) (n : Nat) : State :=
  (s.put F.SLOT_STATE_RETRIES 0 n).setSlot n { s.slot n with deadline := none }

/-! ## Commands (R525, R536) -/

/-- Where the pins take a channel without power. -/
def State.byPins (s : State) (n : Nat) : Nat :=
  if !s.flag F.SLOT_STATE_LONG_PIN n then slEmpty else if s.flag F.SLOT_STATE_SHORT_PIN n then slReady else slSeating

/-- ON (R536). -/
def State.slotOn (s : State) (n : Nat) : State := (s.put F.SLOT_STATE_POWER_REQ 1 n).readyCheck n

/-- OFF (R536): the gates go off; RETRIES and any deadline stay. -/
def State.slotOff (s : State) (n : Nat) : State :=
  let s := (s.put F.SLOT_STATE_POWER_REQ 0 n).endOp (.slotPower n) .aborted
  if s.slPowered n || s.sl n == slTripped || s.sl n == slSupplyLost then s.setSl n slReady else s

/-- CLEAR_LOCKOUT (R525): discarded outside Lockout. -/
def State.slotClear (s : State) (n : Nat) : State :=
  if s.sl n == slLockout then (((s.dropRetries n).setSl n (s.byPins n))).readyCheck n else s

end Sys2Proof.Machine
end

