-- ==== Sys2Proof/Machine/Switch.lean ====
section
/-!
DEFINITION. Shared-Memory Switch Core and Classes, Meters and Shapers: retries of hold lists, the egress, mirroring
timers, the census, spare banks, meters, the Bulk shaper and the histograms (R163 to R226).
-/
namespace Sys2Proof.Machine

/-! ## Hold lists (R178, R186) -/

/-- The head of a hold list of a half. -/
def State.holdHead (s : State) (h : Nat) (seam : Bool) (input dst q : Nat) : Option Msg :=
  s.msgs.find? (fun m => decide (m.stage = (if seam then Stage.seamHeld else Stage.held)) && m.half == h
    && (seam || m.input == input) && m.dst == dst && m.queueIx == q)

/-- HOLD_LIST_RETRY (R178): the list of an input for an egress port and class, or with `seam` the list of the Seam
channel that serves the port. -/
def execHoldListRetry (h : Half) (seam : Bool) (input dst : Fin 128) (q : Fin 4) (s : State) :
    Host.Outcome State Fault Refusal :=
  done (match s.holdHead (hix h) seam input.val dst.val q.val with
    | some m => s.retry m
    | none => s)

/-! ## The egress (R198, R204, R205) -/

/-- The messages of a queue that is no longer trusted are left for the census (R198). -/
def State.abandonQueue (s : State) (p q : Nat) : State :=
  let ms := s.queue p q
  let lost : List Orphan := ms.map (fun m => { half := m.half, dst := p, cls := q, charge := m.charge, blocks := m.blocks,
                                               cells := m.cells })
  let kept := ms.filterMap (fun m => if m.isAnswer then some m.unanswered
    else if m.awaits then some { m with stage := .atDevice, charge := .none, cells := [] } else none)
  { s with msgs := s.msgs.filter (fun (x : Msg) => !(ms.any (fun (m : Msg) => m.id == x.id))) ++ kept,
           buf := { s.buf with orphans := s.buf.orphans ++ lost } }

/-- Bits of a byte of a stored cell change with no error that its SECDED shows (R198). -/
def State.cellChanges (s : State) (h c at_ : Nat) (mask : Byte) : State :=
  let d := s.cellAt h c
  let b := d.1.set at_ ((d.1.getD at_ 0) ^^^ mask)
  { s with buf := { s.buf with store := numPut [] (2 ^ 20 * h + c) (cellWords (b, d.2)) s.buf.store } }

/-- The head of a queue that is no longer trusted: an uncorrectable link word, or a cell address whose row does not exist (R164, R198).
-/
def State.linkLost (s : State) (p : Nat) (m : Msg) : State :=
  (s.abandonQueue p m.queueIx).setErr F.BUF_ERR_LINK_UE m.half (772 + m.half)

/-- What the buffer's checks do with the message that a port starts (R198). -/
def State.startChecked (s : State) (p : Nat) (m : Msg) (e : CellErr) : State :=
  if m.cells.any (fun c => decide (3072 ≤ cellRow c)) then s.linkLost p m
  else match e with
    | .none => s.depart p m
    | .corrected n =>
      (match m.cells[n]? with
        | some c => (s.bump F.BANK_CE_V 1 m.half (cellBank c)).bump F.BUF_CE_COUNT_V 1 m.half
        | none => s).depart p m
    | .dataUe n =>
      match m.cells[n]? with
      | some c =>
        ((s.bump F.BANK_UE_V 1 m.half (cellBank c)).setErr F.BUF_ERR_DATA_UE m.half (770 + m.half) m.info).depart p { m with poison := true }
      | none => s.depart p m
    | .changed n i mask =>
      (match m.cells[n]? with | some c => s.cellChanges m.half c i.val mask | none => s).depart p m
    | .headerUe =>
      let s := (s.remove m).setErr F.BUF_ERR_HDR_UE m.half (770 + m.half)
      if m.isAnswer then { s with msgs := s.msgs ++ [m.unanswered] } else s.await m
    | .linkUe => s.linkLost p m

/-- EGRESS_MESSAGE_START (R204, R205): the head of the highest eligible queue; `e` is what the buffer's checks find,
`deferred` how many of its reads waited for their banks (R168). -/
def execEgressMessageStart (p : Port) (e : CellErr) (deferred : Nat) (s : State) : Host.Outcome State Fault Refusal :=
  done (match s.nextStart p.val with
    | some m => (s.bump F.READ_DEFER_COUNT_V deferred (halfOf p.val)).startChecked p.val m e
    | none => s)

/-- PARTNER_LINK_CREDITS (R205): which egress classes' heads the partner's returned credits cover, a bit per class. -/
def execPartnerLinkCredits (p : Port) (covered : BitVec 4) (s : State) : Host.Outcome State Fault Refusal :=
  done (let none := (List.range 4).filter (fun q => !covered.getLsbD q)
    let rest := s.buf.starved.filter (fun n => n / 4 != p.val)
    { s with buf := { s.buf with starved := rest ++ none.map (fun q => 4 * p.val + q) } })

/-- MIRROR_IDLE_TIMER (R196): a session idle for 10 µs writes its producer offset. -/
def execMirrorIdleTimer (h : Half) (n : Fin 8) (s : State) : Host.Outcome State Fault Refusal :=
  done (if s.flag F.MIR_CTRL_EN (hix h) n.val then s.mirrorProduce (hix h) n.val else s)

/-! ## The census (R187 to R191) -/

/-- Start a census, unless one runs or the half is below Blaze (R187, R191). -/
def State.censusStart (s : State) (h : Nat) : State :=
  if s.atBlaze h && !s.flag F.CENSUS_STATUS_BUSY h then s.put F.CENSUS_STATUS_BUSY 1 h else s

/-- CENSUS_START (R187). -/
def execCensusStart (h : Half) (s : State) : Host.Outcome State Fault Refusal := done (s.censusStart (hix h))

/-- CENSUS_RUN_NOW (R191): a write of RUN_NOW. -/
def execCensusRunNow (h : Half) (s : State) : Host.Outcome State Fault Refusal := done (s.censusStart (hix h))

/-- A census that does not complete (R191). -/
def State.censusStop (s : State) (h : Nat) : State := s.put F.CENSUS_STATUS_BUSY 0 h

/-- Reclaim what a second consecutive census found neither free nor referenced (R189). -/
def State.reclaim (s : State) (h : Nat) (o : Orphan) : State :=
  let s := s.freeCells h o.cells
  let s := (s.bump F.LEAK_COUNT_CELLS o.cells.length h).bump F.LEAK_COUNT_HEADERS 1 h
  s.setErr F.BUF_ERR_LEAK h (770 + h)

/-- A cell found both free and referenced leaves the free list (R190). -/
def State.doubleRef (s : State) (h b : Nat) : State :=
  (s.put F.BANK_CTRL_FREE (s.get F.BANK_CTRL_FREE h b - 1) h b).setErr F.BUF_ERR_DOUBLE_REF h (770 + h)

def State.censusComplete (s : State) (h : Nat) (doubled : List (Fin 256)) : State :=
  if s.flag F.CENSUS_STATUS_BUSY h then
    let s := (s.put F.CENSUS_STATUS_BUSY 0 h).bumpWrap F.CENSUS_STATUS_COUNT 1 h
    let due := s.buf.orphans.filter (fun o => o.half == h && decide (1 ≤ o.missed))
    let rest := (s.buf.orphans.filter (fun o => !(o.half == h && decide (1 ≤ o.missed)))).map
      (fun o => if o.half == h then { o with missed := o.missed + 1 } else o)
    let s := due.foldl (fun s o => s.reclaim h o) { s with buf := { s.buf with orphans := rest } }
    doubled.foldl (fun s b => s.doubleRef h b.val) s
  else s

/-- CENSUS_COMPLETE (R189, R190): `doubled` names, by bank, the cells found both free and referenced. -/
def execCensusComplete (h : Half) (doubled : List (Fin 256)) (s : State) : Host.Outcome State Fault Refusal :=
  done (s.censusComplete (hix h) doubled)

/-! ## Spare banks (R199) -/

/-- A bank starts draining; a spare takes its place, the lowest-numbered of several (DESIGN CHOICE, log entry 168: R199 and R203 say
only one spare). -/
def State.bankRetire (s : State) (h b : Nat) : State :=
  if s.get F.BANK_CTRL_STATE h b != 0 then s
  else
    let drain (s : State) : State := ((s.put F.BANK_CTRL_STATE 2 h b).put F.BANK_CTRL_FREE 0 h b).bankDrained h b
    match (List.range 256).find? (fun k => s.get F.BANK_CTRL_STATE h k == 1) with
    | some k => drain ((s.put F.BANK_CTRL_STATE 0 h k).put F.BANK_CTRL_FREE 3072 h k)
    | none =>
      if s.sharedSize h < 65536 + 3072 then s.raise (770 + h)
      else
        let s := drain s
        s.mirrorFloor h s.msgs.length

/-- BANK_RETIRE (R199). -/
def execBankRetire (h : Half) (b : Fin 256) (s : State) : Host.Outcome State Fault Refusal :=
  done (s.bankRetire (hix h) b.val)

/-! ## Meters and the Bulk shaper (R209, R217) -/

/-- METER_TOKEN_REFILL (R209): 16 ns of tokens for every meter of a half at Blaze. -/
def execMeterTokenRefill (h : Half) (s : State) : Host.Outcome State Fault Refusal :=
  done (if s.atBlaze (hix h) then s.refill (hix h) else s)

/-- BULK_PROMOTE (R216, R217): the credit of a port whose Bulk queue holds a message reaches HI_CREDIT. -/
def execBulkPromote (p : Port) (s : State) : Host.Outcome State Fault Refusal :=
  done (if (s.queue p.val 3).isEmpty then s
    else (s.setBulkCredit p.val (s.bulkHigh p.val)).put F.BULK_STATUS_PROMOTED 1 p.val)

/-! ## Histograms (R221 to R223) -/

/-- The bucket of a sample (R222). -/
def histBucket (empty : Bool) (x shift : Nat) : Nat :=
  if empty then 0 else min 15 (1 + Nat.log2 (max 1 (x / 2 ^ shift)))

/-- The depth of a queue in cells and the delay of its head in FCLK cycles (R221). -/
def State.queueSample (s : State) (p q : Nat) : Nat × Nat :=
  let ms := s.queue p q
  ((ms.map Msg.blocks).sum, match ms with | m :: _ => s.fclk - m.admitted | [] => 0)

/-- Sample one queue. -/
def State.sampleQueue (s : State) (p q : Nat) : State :=
  let x := s.queueSample p q
  let e := (s.queue p q).isEmpty
  let s := s.bump F.DEPTH_HIST_V 1 p (16 * q + histBucket e x.1 (s.get F.HIST_CTRL_DEPTH_SHIFT p))
  s.bump F.DELAY_HIST_V 1 p (16 * q + histBucket e x.2 (s.get F.HIST_CTRL_DELAY_SHIFT p))

/-- Sample a port, unless FREEZE is set (R223). -/
def State.samplePort (s : State) (p : Nat) : State :=
  if s.flag F.HIST_CTRL_FREEZE p then s else (List.range 5).foldl (fun s q => s.sampleQueue p q) s

/-- HIST_SAMPLE (R221): all five queues of every port of a half. -/
def execHistSample (h : Half) (s : State) : Host.Outcome State Fault Refusal :=
  done ((portsOf (hix h)).foldl State.samplePort s)

/-- HIST_CLEAR (R223). -/
def State.histClear (s : State) (p : Nat) : State :=
  (List.range 80).foldl (fun s n => (s.put F.DEPTH_HIST_V 0 p n).put F.DELAY_HIST_V 0 p n) s

/-- HIST_CLEAR (R223). -/
def execHistClear (p : Port) (s : State) : Host.Outcome State Fault Refusal := done (s.histClear p.val)

end Sys2Proof.Machine
end

