-- ==== Sys2Proof/Machine/PowerCore.lean ====
section
/-!
DEFINITION. The power ladder as operations: rungs (R540 to R542), the banking sequence (R543 to R547), the bank image
(R548 to R553), kindling (R554 to R559), cold reset (R40, R560).
-/
namespace Sys2Proof.Machine

/-! ## Rungs (R541, R542) -/

/-- A port goes to L0p at width x2, and its full width is kept for the exit (R75). -/
def State.narrow (s : State) (p : Nat) : State :=
  let w := s.get F.PHY_STATUS_CUR_WIDTH p
  if w ≤ 2 then s
  else State.recordWidth { s with lanes := { s.lanes with fullWidth := numPut 0 p w s.lanes.fullWidth } } p (2, s.flag F.PHY_STATUS_REVERSED p)

/-- The device reaches Glow or Smoulder: no half forwards, a census in progress is discarded, links go to L0p or L1 but for
those of `stay`, whose partners do not support it (R75, R191, R542). -/
def State.toRung (s : State) (v : Nat) (stay : List Port) : State :=
  let one (s : State) (p : Nat) : State :=
    let l := s.linkState p
    if l != lsL0 && l != lsL0p then s
    else if stay.any (fun q => q.val == p) then (s.setLinkState p lsL0).widen p
    else if v = rungGlow then (s.narrow p).setLinkState p lsL0p
    else s.setLinkState p lsL1
  let s := (s.censusStop 0).censusStop 1
  let s := (List.range 96).foldl one { s with below := [0, 1] }
  let s := (s.withPower (fun p => { p with entering := none })).setRung v
  (s.endOp (.powerState v) .ok).allPauseChecks

/-- A half is back at Blaze (R209, R541, R542): its meters are full, its links return to L0, it sends both status messages at once, takes the requests
that wait, and the device is at Blaze once both halves are. -/
def State.reachBlaze (s : State) (h : Nat) : State :=
  if !s.below.contains h then s
  else
    let s := { s with below := s.below.filter (fun x => x != h) }.fillMeters h
    let s := (portsOf h).foldl (fun s p => if s.linkState p == lsL0p || s.linkState p == lsL1 then (s.setLinkState p lsL0).widen p else s) s
    let s := (s.sendPoolState h).sendEpochMark h
    let s := s.takeWaiting (fun m => halfOf m.input == h && !s.txns.closed.contains m.input)
    let s := s.allPauseChecks.allResumeChecks
    if s.below.isEmpty then
      ((s.withPower (fun p => { p with leaving := false })).setRung rungBlaze).endOp (.powerState 0) .ok
    else s

/-- Whether every queue of both halves is empty (AUTO_GLOW, R541). -/
def State.queuesEmpty (s : State) : Bool := !s.msgs.any (fun m => decide (m.stage ≠ .atDevice) && decide (m.stage ≠ .atHearth))

/-- What keeps the device out of a rung (R541). -/
def State.rungBusy (s : State) (v : Nat) : Bool :=
  if v = rungGlow then s.applying || s.rung != rungBlaze
  else if v = rungSmoulder then
    (List.range 28).any (fun c => s.ch c == chRunning) || (List.range 8).any (fun x => s.rlState x == rlCopying)
      || (List.range 4).any (fun t => s.txState t == txValidating || s.txState t == txApplying)
      || s.flag F.HALF_STATE_HOLD 0 || s.flag F.HALF_STATE_HOLD 1
      || s.stallsDefined.any (fun st => s.stall st == stResetting) || !(s.rung == rungBlaze || s.rung == rungGlow)
  else if v = rungBanked then
    s.flag F.HALF_STATE_HOLD 0 || s.flag F.HALF_STATE_HOLD 1 || !s.resetHalves.isEmpty || !(s.rung == rungBlaze || s.rung == rungGlow || s.rung == rungSmoulder)
  else false

/-! ## The bank image (R548 to R551) -/

/-- The first address of the Ember store. -/
def emberBase : Nat := 0x12000000

/-- Bytes whose value the model leaves free, at most 32: MACs, CRCs and digests (log entry 3). -/
def State.drawBytes (s : State) (n : Nat) : List Byte × State :=
  let (v, s) := s.draw (8 * n)
  (leBytes n v, s)

/-- FLAGS of the seal record (R550). -/
def State.sealFlags (s : State) : Nat :=
  let b (x : Bool) (n : Nat) : Nat := if x then 2 ^ n else 0
  b (s.flag F.BANK_STATUS_LEDGER_CLEAN_E) 0 + b (s.flag F.BANK_STATUS_LEDGER_CLEAN_W) 1 + b (s.flag F.BANK_STATUS_FLUSH1_OK) 2
    + b (s.flag F.BANK_STATUS_FLUSH2_OK) 3 + b (s.flag F.BANK_STATUS_ASH_MARK) 4 + b s.power.captured 5

/-- Write the seal record (R550). -/
def State.writeSeal (s : State) (v : Nat) : State :=
  let missed (r : Reg) : List Byte := (List.range 3).flatMap (fun i => leBytes 4 (s.rd r i).toNat)
  let head := leBytes 4 0x5345414C ++ leBytes 1 v ++ leBytes 1 s.sealFlags ++ leBytes 1 (s.get F.BANK_STATUS_CAUSE) ++ leBytes 1 0
    ++ leBytes 8 (s.get F.BANK_GENERATION_V) ++ leBytes 4 (s.get F.EPOCH_V) ++ leBytes 4 (s.get F.COMMIT_ID_V)
    ++ leBytes 8 s.power.reference ++ leBytes 4 (s.since s.power.reference) ++ missed .FLUSH_MISSED_HOST ++ missed .FLUSH_MISSED_PORT
    ++ leBytes 4 0
  let (crcs, s) := s.drawBytes 24
  let (d1, s) := s.drawBytes 32
  let (d2, s) := s.drawBytes 16
  let (mac, s) := s.drawBytes 32
  s.memStore emberBase (head ++ crcs ++ leBytes 8 0 ++ d1 ++ d2 ++ mac)

/-- The banking sections whose layout the spec gives (R548): the equalisation records of the ports, lane by lane, and the fault ring.
Where the other fields of those sections lie is not stated (log entry 59). -/
def State.bankSections (s : State) : State :=
  let ring := s.mem.filter (fun c => decide (ringBase ≤ c.1) && decide (c.1 < ringBase + 32768))
  let m := memZero s.mem (emberBase + 0x10000) (emberBase + 0x15FFF)
  let m := s.regs.foldl (fun m e => if e.1.reg = .LANE_EQ_RECORD then
    memPut m (emberBase + 0x10000 + 32 * (8 * e.1.i + e.1.j / 8) + 4 * (e.1.j % 8)) (leBytes 4 e.2.toNat) else m) m
  let m := memZero m (emberBase + 0x20000) (emberBase + 0x27FFF)
  { s with mem := ring.foldl (fun m (c : Host.Cell) => memPutByte m (emberBase + 0x20000 + (c.1 - ringBase)) c.2) m }

/-- The seal record reads live, with a new MAC (R555). -/
def State.sealLive (s : State) : State :=
  let (mac, s) := s.drawBytes 32
  let s := (s.memStore (emberBase + 4) (leBytes 1 1)).memStore (emberBase + 144) mac
  s.withPower (fun p => { p with sealed := .live })

/-- A register as the image holds it: committed fields, RWS fields of port blocks, reactions, records (R548). -/
def imageReg (e : Key × Word) : Option (Key × Word) :=
  let held (f : FSpec) : Bool := decide (f.acc = .RWT) || e.1.reg.isWindow || resetKeeps e.1.reg
    || (decide (f.acc = .RWS) && ((keyPort e.1).isSome || decide (e.1.reg = .FC_SRC))) || decide (e.1.reg = .LANE_EQ_RECORD)
  let v := (Reg.fields e.1.reg).foldl (fun a f => if held f then Word.setBits a f.lo f.w (Word.bits e.2 f.lo f.w) else a) (resetWord e.1)
  if v = resetWord e.1 then none else some (e.1, v)

/-- The bank image (R548). -/
def State.imageOf (s : State) : Image :=
  { regs := s.regs.filterMap imageReg ++ [(⟨.EPOCH, 0, 0⟩, s.rd .EPOCH), (⟨.COMMIT_ID, 0, 0⟩, s.rd .COMMIT_ID)],
    ring := s.mem.filter (fun c => decide (ringBase ≤ c.1) && decide (c.1 < ringBase + 32768)),
    ranges := s.ranges, relocs := s.relocs, emulated := s.emulated, vports := s.vports, passed := s.passed, inbound := s.inbound,
    inventory := s.inventory, nextOp := s.nextOp, disabled := s.lanes.disabled,
    clean := (s.flag F.BANK_STATUS_LEDGER_CLEAN_E, s.flag F.BANK_STATUS_LEDGER_CLEAN_W) }

/-! ## Powering down and up -/

/-- The scratchpad loses power (R461, R551): what it held is lost; a sealed image carries the ring (R508). -/
def State.scratchLost (s : State) (ring : Bool) : State :=
  let drop (c : Host.Cell) : Option Host.Cell :=
    if !inScratchpad c.1 || (ring && decide (ringBase ≤ c.1) && decide (c.1 < ringBase + 32768)) || inSealed c.1 then some c
    else if Config.lostByte c.1 = 0 then none else some (c.1, Config.lostByte c.1)
  let s := { s with mem := s.mem.filterMap drop }
  let s := (List.range 16).foldl (fun s b => s.clearReg .SP_BANK_CTRL b) s
  s.withHearth (fun h => { h with used := [] })

/-- The PHYs lose power (R56, R75): no group PLL runs, and every port but those kept Disabled is off. -/
def State.physOff (s : State) : State :=
  (List.range 96).foldl (fun s p =>
    let s := s.put F.PHY_STATUS_REFCLK_LOST 0 p
    if s.restState p == lsDisabled then s else s.put F.PHY_STATUS_LINK_STATE lsOff p) (s.clearReg .CLK_GROUP_LOCK)

/-- Halves, PHYs and Hearth cores lose power: the device is in Banked or Ember (R540, R543 step 6). -/
def State.powerDown (s : State) (v : Nat) : State :=
  let clean (h : Nat) : Bool := s.flag (if h = 0 then F.BANK_STATUS_LEDGER_CLEAN_E else F.BANK_STATUS_LEDGER_CLEAN_W)
  let lostE := !clean 0
  let lostW := !clean 1
  let s := ((s.seamAllDown).halfClear 0 lostE).halfClear 1 lostW
  let s := s.endOp (.powerState rungBanked) (if v = rungBanked then .ok else .aborted)
  let s := (s.hearthClear (s.get F.RST_CAUSE_V) true).scratchLost (decide (s.power.sealed = .sealedImage))
  let s := ((s.put F.CLK_STATUS_FCLK_E_LOCK 0).put F.CLK_STATUS_FCLK_W_LOCK 0).physOff
  let s := s.withMarket (fun m => { m with quiet := [] })
  let s := s.withPower (fun p => { p with step := 0, gpf := [], cutOff := [], keepWait := false, leaving := false, entering := none,
                                          douses := [], ashWaits := false, warmWaits := none, verifying := false })
  { s with below := [] }.setRung v

/-! ## Banking (R543 to R547) -/

/-- The ports that a GPF phase goes to (R543): Host ports of ROLE 1 in L0, then Device ports of ROLE 3 in L0. -/
def State.gpfPorts (s : State) (role : Nat) : List Nat := (List.range 96).filter (fun p => s.role p == role && s.linkState p == lsL0)

/-- Send a GPF phase to ports. -/
def State.sendGpf (s : State) (phase : Nat) (ps : List Nat) : State := s.emits (ps.map (fun p => .gpf p phase))

/-- Whether a memory device holds a Market slice (R545). -/
def State.hasMarket (s : State) (p : Nat) : Bool := s.regionSlices.any (fun r => (s.sliceOf 0 r).1 == p)

/-- Commits that are not yet Applying end ABORTED as banking starts (R303). -/
def State.stopCommits (s : State) : State :=
  (List.range 4).foldl (fun s t => if s.txState t == txValidating || s.txState t == txStaged then s.commitRefused t .aborted none else s) s

/-- Banking starts (R543): steps 1 and 2. Cause 4 is the command. In Ash, in Banked and Ember, and before the cold boot has
ended nothing starts; a kindling in progress goes back to Banked (R558). -/
def State.bankStart (s : State) (cause : Nat) : State :=
  if s.flag F.FC_STATUS_ASH || s.rung == rungBanked || s.rung == rungEmber || s.rung == rungBanking || !s.power.booted then s
  else if s.rung == rungKindling then s.powerDown rungBanked
  else
    let s := s.exitCause
    let s := ((s.reachBlaze 0).reachBlaze 1).stopCommits
    let s := ((s.clearReg .BANK_STATUS).put F.BANK_STATUS_CAUSE cause).clearReg .BANK_TIMES
    let s := (s.clearReg .BANK_SEAL_TIME)
    let s := (List.range 3).foldl (fun s i => (s.clearReg .FLUSH_MISSED_HOST i).clearReg .FLUSH_MISSED_PORT i) s
    let s := s.setRung rungBanking
    let s := ((List.range 96).filter (fun p => s.linkState p == lsL0)).foldl State.captureRecords s
    let ps := s.gpfPorts 1
    let s := s.withPower (fun p => { p with step := 2, reference := s.now, phaseAt := s.now, gpf := ps, cutOff := [], captured := true })
    (s.sendGpf 1 ps).allPauseChecks

/-- A phase's microseconds, as BANK_TIMES and BANK_SEAL_TIME hold them. -/
def State.phaseUs (s : State) (t : Nat) : Nat := min 65535 (s.since t)

/-- Phase 1 ends (R544) and step 3 begins: Host ingresses close, the homes quiesce and write back, phase 2 goes to the
devices without a Market slice (R337, R545). -/
def State.gpfPhase1End (s : State) : State :=
  if s.power.step != 2 then s
  else
    let missed := s.power.gpf
    let s := s.put F.BANK_TIMES_PHASE1 (s.phaseUs s.power.phaseAt)
    let s := missed.foldl (fun s p =>
      let x := s.get F.PORT_CFG_HOST_ID p
      s.wr .FLUSH_MISSED_HOST (Word.setBits (s.rd .FLUSH_MISSED_HOST (x / 32)) (x % 32) 1 1) (x / 32)) s
    let s := if missed.isEmpty then s.put F.BANK_STATUS_FLUSH1_OK 1 else s.setErr F.BANK_ERR_PHASE1_TIMEOUT 0 791
    let hosts := (List.range 96).filter (fun p => s.isHostPort p)
    let s := s.withTxns (fun t => { t with closed := t.closed ++ hosts.filter (fun p => !t.closed.contains p) })
    let s := s.homeQuiet
    let s := (s.cohFlush 0).cohFlush 1
    let ps := s.gpfPorts 3
    let s := s.withPower (fun p => { p with step := 3, phaseAt := s.now, gpf := ps })
    s.sendGpf 2 (ps.filter (fun p => !s.hasMarket p))

/-- The Ledger write-back of a half has ended, or was cut off (R545): its memory devices are sent phase 2. -/
def State.flushEnds (s : State) (h : Nat) (clean : Bool) : State :=
  let s := s.put F.COH_STATUS_FLUSHING 0 h
  if s.power.step != 3 then s
  else
    let s := if clean then s.put (if h = 0 then F.BANK_STATUS_LEDGER_CLEAN_E else F.BANK_STATUS_LEDGER_CLEAN_W) 1
      else (s.withPower (fun p => { p with cutOff := p.cutOff ++ [h] })).setErr F.BANK_ERR_LEDGER_INCOMPLETE 0 791
    s.sendGpf 2 (s.power.gpf.filter (fun p => halfOf p == h && s.hasMarket p))

/-- LEDGER_FLUSH_DONE (R341, R337): every dirty entry is written back; in banking, no flow is left. -/
def State.ledgerFlushDone (s : State) (h : Nat) : State :=
  if !s.flag F.COH_STATUS_FLUSHING h || (s.power.step == 3 && s.market.flows.any (fun f => f.half == h)) then s
  else
    let s := s.ledgerFlush (fun e => e.half == h)
    if s.market.cache.any (fun e => e.half == h && e.dirty && s.ledgerHeld e) then s else
    let clean := !s.resetHalves.contains h && !s.flag F.FC_STATUS_ASH
    ((s.flushEnds h clean).endOp (.flushLedger h) .ok).warmCheck

/-- The write-back is cut off at half of PHASE2 (R545). -/
def State.ledgerCutoff (s : State) (h : Nat) : State :=
  if s.power.step == 3 && s.flag F.COH_STATUS_FLUSHING h then s.flushEnds h false else s

/-- A port answers its GPF phase (R544): one whose link left L0, or that was not sent phase 2 yet, has not answered. -/
def State.gpfResponse (s : State) (p : Nat) : State :=
  if s.linkState p != lsL0 then s
  else if s.power.step == 3 && s.hasMarket p && s.flag F.COH_STATUS_FLUSHING (halfOf p) then s
  else s.withPower (fun x => { x with gpf := x.gpf.filter (fun q => q != p) })

/-- Phase 2 ends (R544) and step 4 begins. -/
def State.gpfPhase2End (s : State) : State :=
  if s.power.step != 3 then s
  else
    let missed := s.power.gpf
    let s := s.put F.BANK_TIMES_PHASE2 (s.phaseUs s.power.phaseAt)
    let s := missed.foldl (fun s p =>
      s.wr .FLUSH_MISSED_PORT (Word.setBits (s.rd .FLUSH_MISSED_PORT (p / 32)) (p % 32) 1 1) (p / 32)) s
    let s := if missed.isEmpty then s.put F.BANK_STATUS_FLUSH2_OK 1 else s.setErr F.BANK_ERR_PHASE2_TIMEOUT 0 791
    s.withPower (fun p => { p with step := 4, phaseAt := s.now, gpf := [] })

/-- The end of the sequence: Banked. -/
def State.enterBanked (s : State) : State := s.powerDown rungBanked

/-- Reactions and resets that waited for the seal (R49, R505, R546). -/
def State.afterSeal (s : State) : State :=
  let s := s.power.douses.foldl (fun s h => (s.halfResetStart h).wr .FC_DOUSED (Word.setBits (s.rd .FC_DOUSED) h 1 1)) s
  let s := s.withPower (fun p => { p with douses := [] })
  if s.power.ashWaits then (s.withPower (fun p => { p with ashWaits := false })).enterAsh else s

/-- The image is sealed (R543 step 4, R548 to R550). -/
def State.bankSeal (s : State) : State :=
  if s.power.step != 4 then s
  else
    let s := s.putFlag F.BANK_STATUS_ASH_MARK (s.power.ashWaits || s.flag F.FC_STATUS_ASH)
    let s := (s.bumpWrap F.BANK_GENERATION_V 1).put F.BANK_STATUS_SEALED 1
    let s := (s.put F.BANK_SEAL_TIME_STEP4 (s.phaseUs s.power.phaseAt)).put F.BANK_SEAL_TIME_TO_SEAL (s.phaseUs s.power.reference)
    let s := (s.bankSections.writeSeal 2).withPower (fun p => { p with sealed := .sealedImage })
    let s := s.afterSeal
    match s.power.warmWaits with
    | some c => (s.withPower (fun p => { p with step := 0 })).warmGo c
    | none =>
      if s.flag F.KEEP_CTRL_COPY_ON_BANK && s.flag F.KEEP_CTRL_VALID then s.withPower (fun p => { p with step := 5, keepWait := true })
      else s.enterBanked

/-- The copy to the Keep region ends (R553): GPF phase 2 goes to the Keep device after the copy; slot GENERATION mod 2 holds it, or
no complete copy. -/
def State.keepDone (s : State) (e : KeepEnd) : State :=
  if !s.power.keepWait then s
  else
    let ok := decide (e = .done)
    let s := if e = .copyFailed then s else s.emit (.gpf (s.get F.KEEP_CTRL_PORT) 2)
    let g := s.get F.BANK_GENERATION_V
    let rest := s.power.copies.filter (fun e => e.1 != g % 2)
    let img := s.imageOf
    let s := if ok then (s.put F.BANK_STATUS_KEEP_OK 1).withPower (fun p => { p with copies := rest ++ [(g % 2, (g, img))] })
      else ((s.put F.BANK_STATUS_KEEP_OK 0).withPower (fun p => { p with copies := rest })).setErr F.BANK_ERR_KEEP_FAIL 0 791
    s.enterBanked

/-! ## Kindling (R554 to R559) -/

/-- Registers that VBANK holds: ladder controller, fault collector, Grate, tamper latch (R507, R514, R561), and fuses. -/
def vbankKey (k : Key) : Bool :=
  let b := k.reg.base
  (decide (0x00030000 ≤ b) && decide (b < 0x00031000)) || (decide (0x04000000 ≤ b) && decide (b < 0x04200000))
    || (decide (0x06000000 ≤ b) && decide (b < 0x07000000)) || b < 0x00001000

/-- RWS fields that only a sealed image carries are lost (R549, R556). -/
def State.rwsLost (s : State) : State :=
  let drop (e : Key × Word) : Option (Key × Word) :=
    if vbankKey e.1 then some e
    else
      let v := (Reg.fields e.1.reg).foldl (fun a f =>
        if decide (f.acc = .RWS) then Word.setBits a f.lo f.w (Word.bits (resetWord e.1) f.lo f.w) else a) e.2
      if v = resetWord e.1 then none else some (e.1, v)
  { s with regs := s.regs.filterMap drop, lanes := { s.lanes with disabled := [] } }

/-- Saved equalisation is not used: full bring-up (R556). -/
def State.dropRecords (s : State) : State := ((List.range 96).filter (fun p => !s.bondedInto p)).foldl (fun s p => s.clearRecords p) s

/-- Every Market slice is recovering (R338, R505). -/
def State.recoverAll (s : State) : State := s.regionSlices.foldl (fun s r => s.markRecovering r.obj r.way) s

/-- Firmware reapplies the soft repairs of the wear record (R462, R582). -/
def State.repairsAgain (s : State) : State :=
  (s.flash.actions.filter (fun e => e.kind == 2 && e.action == 5)).foldl (fun s e => s.softRepair (e.element / 1024 % 16) (e.element % 1024)) s

/-- Kindling from Banked (2) or Ember (3) (R554, R556). After a lifecycle transition that a loss of power cut short, the Ember store is
cleared first (R409). -/
def State.kindle (s : State) (from' : Nat) (k : KindleIn) : State :=
  let s := if s.sec.advancing then s.clearConfig.withSec (fun c => { c with advancing := false }) else s
  let s := if from' = 3 then s.repairsAgain else s
  let isSealed := decide (s.power.sealed = .sealedImage)
  let ash := isSealed && s.flag F.BANK_STATUS_ASH_MARK
  let s := ((s.put F.CLK_STATUS_FCLK_E_LOCK 1).put F.CLK_STATUS_FCLK_W_LOCK 1).put F.RST_CAUSE_V (from' + 3)
  let s := s.put F.KINDLE_STATUS_ASH_MARK (if ash then 1 else 0)
  if isSealed && decide (k.store = .good) then
    let s := if ash then s.recoverAll else s
    let s := if ash || !s.power.captured then s.dropRecords else s
    s.settleTxns.rlSettle.restore from' 0
  else if decide (s.power.sealed ≠ .invalid) && decide (k.store ≠ .badJournals) then
    let s := s.setErr (if isSealed then F.BANK_ERR_SEAL_BAD else F.BANK_ERR_UNSEALED) 0 791
    let s := { s.rwsLost.dropRecords with emulated := [], vports := [] }
    s.recoverAll.settleTxns.rlSettle.restore from' 1
  else
    let (f, image, s) := s.rwsLost.clearConfig.keepRestore from' k.keep
    s.dropRecords.restore f image

/-- Every link with a committed binding is in L0 (R555): the seal record reads live and the device is at Blaze. `fellBack`
are the ports that took full bring-up (R559). -/
def State.kindled (s : State) (fellBack : List Port) : State :=
  if s.rung != rungKindling then s
  else
    let s := s.sealLive
    let s := (s.put F.KINDLE_TIME_V (min (2 ^ 32 - 1) (s.since s.power.phaseAt))).put F.KINDLE_STATUS_FELL_BACK fellBack.length
    let s := s.withPower (fun p => { p with fellBack := fellBack.map (fun q => q.val), booted := true })
    let s := fellBack.foldl (fun s q => s.event 0x01F0 [q.val, (s.rd .PHY_STATUS q.val).toNat]) s
    s.setRung rungBlaze

/-! ## Cold reset (R40, R560) -/

/-- Registers that hold fuses: core retirements are burnt into field fuses when they take effect (R582). -/
def fuseKey (k : Key) : Bool :=
  match k.reg with
  | .LC_STATE | .CORE_ACTIVE | .CORE_RETIRED | .FW_SECURITY | .ID_SERIAL | .ID_GRADE | .ID_REVISION => true
  | _ => false

/-- A cold reset (R40): everything but fuses, flash and what other devices hold returns to the state of State.reset. -/
def State.coldReset (s : State) : State :=
  let z : State := {}
  let z := { z with pending := s.pending, out := s.out, free := s.free, nextId := s.nextId, flash := s.flash,
                    regs := s.regs.filter (fun e => fuseKey e.1) }
  let z := (z.put F.BOOT_STATUS_PREFERRED (s.get F.BOOT_STATUS_PREFERRED)).withSec (fun x => { x with images := s.sec.images })
  z.withPower (fun p => { p with copies := s.power.copies, mains := s.power.mains })

/-- The whole of a main supply loss (R541, R505): Ember; the soft repairs go with VDD_HEARTH (R462). -/
def State.mainsLost (s : State) : State :=
  let s := s.withPower (fun p => { p with mains := false })
  let s := (s.withHearth (fun h => { h with repairs := [] })).resetRegs (fun k => decide (k.reg = .SP_REPAIR))
  if s.rung == rungEmber then s
  else if s.rung == rungBanked then s.setRung rungEmber
  else s.powerDown rungEmber

end Sys2Proof.Machine
end

