-- ==== Sys2Proof/Machine/Power.lean ====
section
/-!
DEFINITION. Power Ladder, Banking and Kindling: the ladder's events (R534, R535, R541 to R559, R608 to R610).
-/
namespace Sys2Proof.Machine

/-- GLOW_IDLE_EXPIRY (R541): AUTO_GLOW. `stay` are ports whose partners do not support L0p (R75). -/
def execGlowIdleExpiry (stay : List Port) (s : State) : Host.Outcome State Fault Refusal :=
  done (if s.flag F.PWR_CTRL_AUTO_GLOW && s.queuesEmpty && !s.rungBusy rungGlow && !s.flag F.FC_STATUS_ASH then s.toRung rungGlow stay
    else s)

/-- POWER_RUNG_REACHED (R541): the commanded entry to Glow or Smoulder ends OK. -/
def execPowerRungReached (stay : List Port) (s : State) : Host.Outcome State Fault Refusal :=
  done (match s.power.entering with
    | some v => s.toRung v stay
    | none => s)

/-- LADDER_EXIT_CAUSE (R541). -/
def execLadderExitCause (s : State) : Host.Outcome State Fault Refusal := done s.exitCause

/-- LADDER_REACHES_BLAZE (R541, R542). -/
def execLadderReachesBlaze (h : Half) (s : State) : Host.Outcome State Fault Refusal :=
  done (if s.power.leaving then s.reachBlaze (hix h) else s)

/-- Whether a trigger condition of R534 holds; sag is an OR with dropout, as the rule words it. -/
def State.bankTrigger (s : State) : BankTrigger → Bool
  | .pfail => s.flag F.FEED_CFG_PFAIL_EN && s.flag F.FEED_STATUS_PFAIL_LOW
  | .sag =>
    let fs := [0, 1].filter (fun f => s.feedPresent f)
    s.flag F.FEED_CFG_SAG_BANK_EN && !fs.isEmpty && fs.all (fun f => s.feedClass f % 2 == 1 || s.feedClass f / 4 % 2 == 1)
  | .dropout =>
    let fs := [0, 1].filter (fun f => s.feedPresent f)
    s.flag F.FEED_CFG_SAG_BANK_EN && !fs.isEmpty && fs.all (fun f => s.feedClass f / 4 % 2 == 1)

/-- Whether any trigger condition holds. -/
def State.anyTrigger (s : State) : Bool := s.bankTrigger .pfail || s.bankTrigger .sag || s.bankTrigger .dropout

/-- The encoding of a trigger in BANK_CAUSE and BANK_STATUS.CAUSE (R534, R561). -/
def triggerCode : BankTrigger → Nat
  | .pfail => 1
  | .sag => 2
  | .dropout => 3

/-- BANK_REQ (R534): the first trigger sets BANK_REQ and BANK_CAUSE and starts banking (R543). -/
def State.bankReq (s : State) (t : BankTrigger) : State :=
  let s := if t = .pfail then s.put F.FEED_STATUS_PFAIL_LOW 1 else s
  if !s.bankTrigger t || s.flag F.FEED_STATUS_BANK_REQ then s
  else
    let s := ((s.put F.FEED_STATUS_BANK_REQ 1).put F.FEED_STATUS_BANK_CAUSE (triggerCode t)).irqTouch 259
    s.bankStart (triggerCode t)

/-- BANK_REQ_RAISE (R534): PFAIL_N low for 1 µs, or the feeds in sag for SAG_PERSIST or in dropout. -/
def execBankReqRaise (t : BankTrigger) (s : State) : Host.Outcome State Fault Refusal := done (s.bankReq t)

/-- REARM (R535): discarded while a trigger condition holds. `pfailLow` is the level of PFAIL_N. -/
def State.rearm (s : State) (pfailLow : Bool) : State :=
  let s := s.putFlag F.FEED_STATUS_PFAIL_LOW pfailLow
  if s.anyTrigger then s else ((s.put F.FEED_STATUS_BANK_REQ 0).put F.FEED_STATUS_BANK_CAUSE 0).irqTouch 259

/-- REARM (R535). -/
def execRearm (pfailLow : Bool) (s : State) : Host.Outcome State Fault Refusal := done (s.rearm pfailLow)

/-- GPF_RESPONSE (R544). -/
def execGpfResponse (p : Port) (s : State) : Host.Outcome State Fault Refusal := done (s.gpfResponse p.val)

/-- GPF_PHASE1_END (R544): every Host port answered, or PHASE1 passed. -/
def execGpfPhase1End (s : State) : Host.Outcome State Fault Refusal := done s.gpfPhase1End

/-- LEDGER_FLUSH_DONE (R341). -/
def execLedgerFlushDone (h : Half) (s : State) : Host.Outcome State Fault Refusal := done (s.ledgerFlushDone (hix h))

/-- LEDGER_WRITEBACK_CUTOFF (R545). -/
def execLedgerWritebackCutoff (h : Half) (s : State) : Host.Outcome State Fault Refusal := done (s.ledgerCutoff (hix h))

/-- GPF_PHASE2_END (R544): every Device port answered, or PHASE2 passed. -/
def execGpfPhase2End (s : State) : Host.Outcome State Fault Refusal := done s.gpfPhase2End

/-- BANK_IMAGE_SEAL (R543 step 4). -/
def execBankImageSeal (s : State) : Host.Outcome State Fault Refusal := done s.bankSeal

/-- KEEP_COPY_DONE (R553): whether the copy and the flush after it succeeded. -/
def execKeepCopyDone (e : KeepEnd) (s : State) : Host.Outcome State Fault Refusal := done (s.keepDone e)

/-- MAIN_SUPPLY_LOST (R541, R607). -/
def execMainSupplyLost (s : State) : Host.Outcome State Fault Refusal := done s.mainsLost

/-- Main supplies good (R41, R505): with VBANK held, Ember is left by kindling, and Ash is left. -/
def State.mainsGood (s : State) (k : KindleIn) : State :=
  let s := s.withPower (fun p => { p with mains := true })
  if s.rung != rungEmber || !s.power.vbank then s
  else
    let s := if s.flag F.FC_STATUS_ASH then ((s.put F.FC_STATUS_ASH 0).irqTouch 256).recoverAll.dropRecords else s
    s.kindle 3 k

/-- MAIN_SUPPLY_GOOD (R41, R505, R554). -/
def execMainSupplyGood (k : KindleIn) (s : State) : Host.Outcome State Fault Refusal := done (s.mainsGood k)

/-- VBANK_RISE (R608): a cold reset follows a loss of VBANK. -/
def execVbankRise (s : State) : Host.Outcome State Fault Refusal := done (if s.power.vbank then s else s.coldReset)

/-- VBANK lost (R608, R610): the Ember store's content is invalid; with the main supplies good the transmitters go to
electrical idle and every slot gate output is low. -/
def State.vbankLost (s : State) : State :=
  let s := { s with mem := s.mem.filterMap (fun (c : Host.Cell) =>
    if !inEmber c.1 then some c else if Config.lostByte c.1 = 0 then none else some (c.1, Config.lostByte c.1)) }
  let s := s.withPower (fun p => { p with vbank := false, sealed := .invalid })
  let s := (List.range 96).foldl (fun s p => if s.linkState p == lsDetect || s.linkState p == lsDisabled then s else s.linkFalls p (s.restState p)) s
  (List.range 48).foldl (fun s n => if s.slPowered n then s.setSl n slSupplyLost else s) s

/-- VBANK_LOSS (R610). -/
def execVbankLoss (s : State) : Host.Outcome State Fault Refusal := done s.vbankLost

/-- A wake in Banked (R557); while Ash is in force only the Hearth starts (R505). -/
def State.wake (s : State) (k : KindleIn) : State :=
  if s.rung != rungBanked then s
  else if s.flag F.FC_STATUS_ASH then
    let s := ((s.halfClear 0 false).halfClear 1 false).ashBoot
    s.setRung rungBlaze
  else s.kindle 2 k

/-- Whether an address is an ACCEPT source (R434). -/
def State.accepts (s : State) (src : Nat) : Bool := s.flash.accept.any (fun a => Config.acceptMatch a src)

/-- BANKED_WAKE (R557): the datagram or message is not executed. -/
def execBankedWake (w : Wake) (k : KindleIn) (s : State) : Host.Outcome State Fault Refusal :=
  done (match w with
    | .datagram src => if s.flag F.PWR_CTRL_WAKE_MGMT && s.accepts src then s.wake k else s
    | .mctp => if s.flag F.PWR_CTRL_WAKE_MCTP then s.wake k else s)

/-- AUTO_KINDLE_TIMER (R557): every trigger condition ended 50 ms ago; CAUSE is not command. -/
def execAutoKindleTimer (k : KindleIn) (s : State) : Host.Outcome State Fault Refusal :=
  done (let t := s.put F.FEED_STATUS_PFAIL_LOW 0
    if s.rung == rungBanked && s.flag F.PWR_CTRL_AUTO_KINDLE && s.get F.BANK_STATUS_CAUSE != 4 && !t.anyTrigger then t.wake k
    else s)

/-- KINDLING_REACHES_BLAZE (R555, R559). -/
def execKindlingReachesBlaze (fellBack : List Port) (s : State) : Host.Outcome State Fault Refusal := done (s.kindled fellBack)

/-- WESIS_VERIFIED (R555). -/
def execWesisVerified (s : State) : Host.Outcome State Fault Refusal :=
  done (if s.power.verifying then
      ((s.withPower (fun p => { p with verifying := false })).put F.ISO_STATUS_WESIS_OK 1).put F.KINDLE_STATUS_WESIS_VERIFIED 1
    else s)

end Sys2Proof.Machine
end

