-- ==== Sys2Proof/Machine/Ports.lean ====
section
/-!
DEFINITION. Port Roles and CXL Conformance: requests and responses at the ports, IDE, Viral, poison and the completion
timeouts (R89 to R118); the ingress of R26.
-/
namespace Sys2Proof.Machine

/-! ## Requests (R26, R96, R105, R106, R109, R218, R228) -/

/-- A class 9 request to the Hearth (R218), from a port. One with more than four data blocks is split: its parts follow one another,
tied together by the number of the first (R140). -/
def State.toManagement (s : State) (p : Nat) (r : ReqIn) : State :=
  let host := if s.isHostPort p then some (s.get F.PORT_CFG_HOST_ID p) else none
  let op : MsgOp := match r.kind with | .register true => .ioWrite | .register false => .ioRead | _ => .mgmt
  let (id, s) := s.freshId
  (List.range (max 1 ((r.data.length + 255) / 256))).foldl (fun s i =>
    let d := (r.data.drop (256 * i)).take 256
    let m : Msg := { id := if i = 0 then id else 0, cls := 9, op := op, input := p, dst := 127, host := host,
                     addr := r.addr.toNat + 256 * i, len := if r.data.isEmpty then r.len else d.length, data := d,
                     blocks := (d.length + 63) / 64, poison := r.poison, session := id }
    let (m, s) := s.enqueue m (halfOf p) .receive
    s.offerNew m false) s

/-- A management request at a port in LOW_RATE is answered as at a held port: a read with Completer Abort, a posted request is
dropped (R96, R109). -/
def State.lowManagement (s : State) (p : Nat) (k : ReqKind) : State :=
  match k with
  | .register false => s.emit (.completerAbort p 0)
  | _ => s

/-- A CXL.io request into the windows that the host programmed into a bridge: to the passed-through device, past no window
checker (R228); with no such device it is completed with Completer Abort. -/
def State.passThrough (s : State) (p host v : Nat) (posted : Bool) (r : ReqIn) : State :=
  match s.passed.find? (fun e => e.1 == host && e.2.1 == v) with
  | some (_, _, q) =>
    let m : Msg := { id := 0, cls := 4, op := (if posted then .ioWrite else .ioRead), input := p, dst := q, host := some host,
                     addr := r.addr.toNat, len := r.len, data := r.data, blocks := (r.data.length + 63) / 64, poison := r.poison }
    if s.refuses q then s.answerRefused m else s.accept m
  | none => if posted then s else s.emit (.completerAbort p 0)

/-- A request of a passed-through device toward the host it is bound to (R97, R100). -/
def State.fromPassed (s : State) (p : Nat) (cache : Bool) (r : ReqIn) : State :=
  match s.passed.find? (fun e => e.2.2 == p) with
  | some (host, _, _) =>
    match s.hostPort host with
    | some q =>
      s.accept { id := 0, cls := (if cache then 10 else 4), op := (if cache then .cacheReq else .ioWrite), input := p, dst := q,
                 addr := r.addr.toNat, len := r.len, data := r.data, blocks := (r.data.length + 63) / 64, poison := r.poison }
    | none => s
  | none => s

/-- Whether a class 8 write of a Cascade partner lies in a range committed as an inbound target (R396). -/
def State.inboundTarget (s : State) (p q addr : Nat) : Bool :=
  s.inbound.any (fun e => e.cascade == p && e.range.port == q && decide (e.range.start * 2 ^ 20 ≤ addr)
    && decide (addr < (e.range.start + e.range.len) * 2 ^ 20))

/-- What a message from a Cascade partner is, by its class (R125) and by whether its carried header says that it writes. -/
def wireOp (w : WireMsg) : MsgOp :=
  match w.cls with
  | 0 => .memRead
  | 1 => .memWrite
  | 2 | 3 => .memResp
  | 4 => if w.word 15 1 % 2 == 1 then .ioWrite else .ioRead
  | 5 => .ioCompl
  | 6 => .snoop
  | 7 => .snoopResp
  | 8 => .bulkWrite
  | _ => .mgmt

/-- The next message that a Cascade link extracted (R123, R124, R396): its cells stay as they came, their CRCs are computed here (R197).
-/
def State.fromCascade (s : State) (p : Nat) : State :=
  match (s.link p).rx with
  | [] => s
  | w :: t =>
    let s := (s.setLink p { s.link p with rx := t }).poisonIn p w.poison
    let addr := w.word 0 8
    if w.cls == 8 && !s.inboundTarget p w.dst addr then (s.returnCredits p 8 w.blocks).raise (778 + halfOf w.dst)
    else
      s.accept { id := 0, cls := w.cls, op := wireOp w, input := p, dst := w.dst, addr := addr, dpa := addr,
                 stall := if w.cls == 9 then none else some (w.tag / 2 ^ 20), blocks := w.blocks, data := w.cells.flatMap Prod.fst,
                 len := 64 * max 1 w.blocks, poison := w.poison, far := some w.src }

/-- Whether a port takes what its link brings: it is not held, and its streams are Secure where they must be (R106, R109). -/
def State.takes (s : State) (p : Nat) : Bool := !s.isHeld p && !s.awaitsKeys p

/-- A request that the port's link layer hands over. -/
def State.ingress (s : State) (p : Nat) (r : ReqIn) : State :=
  let host := s.get F.PORT_CFG_HOST_ID p
  let low := s.flag F.PORT_STATUS_LOW_RATE p
  let msg := reqMsg r p host
  let user (inv atomic : Bool) (s : State) : State :=
    let s := s.poisonIn p r.poison
    if low then s.emits msg.heldAnswer
    else if !s.atBlaze (halfOf p) || s.txns.closed.contains p then
      let (m, s) := s.enqueue { msg with session := (if inv then 1 else 0) + (if atomic then 2 else 0) } (halfOf p) .receive
      s.update { m with stage := .atChecker }
    else s.atChecker msg inv atomic
  let s := match r.kind with
    | .memRead | .memWrite | .memInv => s.count p 6 1
    | .ioRead | .ioWrite | .atomic | .passThrough _ _ => s.count p 8 1
    | _ => s
  match r.kind with
  | .doe => (s.poisonIn p r.poison).toManagement p r
  | .fromDevice cache => if s.takes p && !low then (s.poisonIn p r.poison).fromPassed p cache r else s
  | .fromLink => if s.isCascade p && s.takes p then s.fromCascade p else s
  | _ =>
    if !s.isHostPort p || !s.takes p then s
    else match r.kind with
      | .memInv => user true false s
      | .atomic => user false true s
      | .passThrough v posted =>
        let s := s.poisonIn p r.poison
        if low then (if posted then s else s.emit (.completerAbort p 0)) else s.passThrough p host v.val posted r
      | .fmMailbox | .mctp | .register _ =>
        let s := s.poisonIn p r.poison
        if low then s.lowManagement p r.kind else s.toManagement p r
      | _ => user false false s

/-! ## Responses and timeouts (R100, R111, R112, R115) -/

/-- A response that nothing awaits (R111, R115). -/
def State.lateResponse (s : State) (p : Nat) : State := (s.bump F.LATE_RESP_COUNT_V 1 p).portErr F.PORT_ERR_LATE_RESP p

/-- A request at the device behind a port. -/
def State.awaiting (s : State) (p id : Nat) : Option Msg :=
  s.msgs.find? (fun m => m.id == id && m.dst == p && decide (m.stage = .atDevice) && decide (m.op ≠ .snoop))

/-- A poisoned line of a Stall's own slices enters its poison list and its event log (R99, R112). -/
def State.notePoison (s : State) (m : Msg) (poison : Bool) : State :=
  match m.slice with
  | some r =>
    if !poison || r.region || m.copy then s
    else
      let line := s.stallOffset r (m.off / 64 * 64)
      let e := s.emul r.obj
      if e.poison.contains line then s else (s.setEmul r.obj { e with poison := e.poison ++ [line] }).postLog r.obj 3
  | none => s

/-- A response that the hold of its port discards: counted; one that came after its time-out sets LATE_RESP as well (R111,
R115). -/
def State.heldResponse (s : State) (p id : Nat) : State :=
  if s.expired.contains (p, id) then { s with expired := s.expired.filter (fun e => e != (p, id)) }.lateResponse p
  else s.bump F.LATE_RESP_COUNT_V 1 p

/-- A response to a forwarded request (R28, R106, R111, R115). -/
def State.deviceResponse (s : State) (p id : Nat) (data : List Byte) (poison : Bool) : State :=
  if s.isHeld p then s.heldResponse p id
  else if s.awaitsKeys p then s
  else
    match s.awaiting p id with
    | none => { s with expired := s.expired.filter (fun e => e != (p, id)) }.lateResponse p
    | some m =>
      let s := (s.poisonIn p poison).notePoison m poison
      let s := if poison && m.cls == 4 then s.bindingError m p 12 else s
      s.deviceDone m data poison

/-! ### What a MAC lets go (R104) -/

/-- Whether a port in containment mode keeps received data until its MAC is checked: SKID is 0, and a Cascade port has no skid mode
(R102). -/
def State.contains (s : State) (p : Nat) : Bool :=
  s.flag F.IDE_CTRL_EN p && s.get F.IDE_STATUS_RX p == 2 && (s.isCascade p || !s.flag F.IDE_CTRL_SKID p)

/-- Received data is released. -/
def State.releaseOne (s : State) (p : Nat) : Received → State
  | .request r => s.ingress p r
  | .response id data poison => s.deviceResponse p id data poison

/-- Data that arrives at a port: kept until the MAC that ends its span (R104), in the order of arrival. -/
def State.receives (s : State) (p : Nat) (x : Received) (mac : Bool) : State :=
  if s.contains p && !mac then { s with spans := s.spans ++ [(p, x)] }
  else
    let span := s.spans.filter (fun e => e.1 == p)
    (span ++ [(p, x)]).foldl (fun s e => s.releaseOne p e.2) { s with spans := s.spans.filter (fun e => e.1 != p) }

/-- The class and the data blocks of what a port's link brings (R125). -/
def reqCredit (r : ReqIn) : Nat × Nat :=
  match r.kind with
  | .memWrite | .ioWrite | .atomic => ((reqMsg r 0 0).cls, (reqMsg r 0 0).blocks)
  | .memRead | .memInv | .ioRead => ((reqMsg r 0 0).cls, 0)
  | .passThrough _ _ => (4, (r.data.length + 63) / 64)
  | .fromDevice cache => (if cache then 10 else 4, (r.data.length + 63) / 64)
  | _ => (9, (r.data.length + 63) / 64)

/-- Whether the partner of a port of ROLE 1 to 5 has the link credits for a message (R173, R174); without them it waits there. -/
def State.credited (s : State) (p : Nat) (c : Nat × Nat) : Bool := s.isCascade p || s.linkRoom p c.1 c.2

/-- INGRESS_REQUEST (R26), an exit cause of Glow and Smoulder (R541): `r.deferrals` writes of its cells waited for a bank (R167). -/
def execIngressRequest (p : Port) (r : ReqIn) (s : State) : Host.Outcome State Fault Refusal :=
  done (let l := s.linkState p.val
    if (l == lsL0 || l == lsL0p) && s.credited p.val (reqCredit r) then
      ((s.exitCause.bump F.WRITE_STALL_COUNT_V r.deferrals (halfOf p.val)).cellsCome p.val).receives p.val (.request r) r.mac
    else s)

/-- DEVICE_RESPONSE (R28, R104): the response to the request `id`. -/
def execDeviceResponse (p : Port) (id : Nat) (data : List Byte) (how : Arrival) (s : State) : Host.Outcome State Fault Refusal :=
  done (if s.credited p.val (3, (data.length + 63) / 64) then
      (s.exitCause.bump F.WRITE_STALL_COUNT_V how.deferrals (halfOf p.val)).receives p.val (.response id data how.poison) how.mac
    else s)

/-- DEVICE_BI_SNOOP (R100): answered invalid, dropped, a fault of family 7. -/
def execDeviceBiSnoop (p : Port) (addr : BitVec 52) (s : State) : Host.Outcome State Fault Refusal :=
  done ((s.exitCause.emit (.snoopInvalid p.val addr.toNat)).raise (8 * p.val + 7) { addr := some addr.toNat })

/-- A request times out (R115, R261): its answer, the bit and the fault; an internal agent's is its agent's error. -/
def State.timeout (s : State) (m : Msg) (f : Fld) : State :=
  if m.squashed then s.remove m
  else
    let s := if m.input < 96 then s.answerHeld m
      else if m.input == 124 || m.input == 125 then (s.remove m).homeData m zeros64 true
      else if m.ofPorter then s.answerHeld m else s.remove m
    let s := { s.portErr f m.dst m.info with expired := s.expired ++ [(m.dst, m.id)] }
    let s := if m.host.isSome then s.bindingError m m.dst 14 else s
    match m.slice with
    | some r => if m.copy then match s.relocOf r with | some x => if s.rlTargetCounts x then s.rlTargetFails x else s | none => s else s
    | none => s

/-- MEM_TIMEOUT_EXPIRY (R115). -/
def execMemTimeoutExpiry (p : Port) (id : Nat) (s : State) : Host.Outcome State Fault Refusal :=
  done (match s.awaiting p.val id with
    | some m => if m.cls == 4 then s else s.timeout m F.PORT_ERR_MEM_TIMEOUT
    | none => s)

/-- IO_TIMEOUT_EXPIRY (R115). -/
def execIoTimeoutExpiry (p : Port) (id : Nat) (s : State) : Host.Outcome State Fault Refusal :=
  done (match s.awaiting p.val id with
    | some m => if m.cls == 4 then s.timeout m F.PORT_ERR_IO_TIMEOUT else s
    | none => s)

/-! ## Integrity and data encryption (R102 to R107) -/

/-- Whether a port holds IDE streams (R102). -/
def State.hasIde (s : State) (p : Nat) : Bool := decide (1 ≤ s.role p) && decide (s.role p ≤ 6)

/-- The Insecure cause ends when both streams read Secure (R105). -/
def State.ideSettle (s : State) (p : Nat) : State := if s.secure p then s.unhold p (fun c => decide (c = .insecure)) else s

/-- IDE_MAC_FAILURE (R105): the receive or the transmit stream moves to Insecure; received data whose MAC was not checked is
discarded. -/
def execIdeMacFailure (p : Port) (rx : Bool) (what : IdeFailure) (s : State) : Host.Outcome State Fault Refusal :=
  done (let p := p.val
    if s.get (if rx then F.IDE_STATUS_RX else F.IDE_STATUS_TX) p == 2 then
      let s := s.put (if rx then F.IDE_STATUS_RX else F.IDE_STATUS_TX) 3 p
      let s := if what = .mac then (s.bump F.IDE_STATUS_MAC 1 p).count p 10 1 else s
      let s := if rx then { s with spans := s.spans.filter (fun e => e.1 != p) } else s
      (s.portErr F.PORT_ERR_IDE_FAIL p).holdPort p .insecure
    else s)

/-- A key-management session with a requester is set up (R103, R411). -/
def State.spdmOpen (s : State) (r : Nat) : State :=
  { s with sec := { s.sec with spdm := s.sec.spdm.filter (fun x => x != r) ++ [r] } }

/-- IDE_KEY_PROGRAM (R103): the key unit programs a key set into a stream, which becomes Secure; the key-management session
that brought it is set up. Refused while the tamper latch is set (R422). -/
def execIdeKeyProgram (p : Port) (rx tx : Bool) (s : State) : Host.Outcome State Fault Refusal :=
  done (let p := p.val
    if s.flag F.TAMPER_STATUS_TAMPER_LATCHED then s.say p (.spdm false)
    else if s.hasIde p && s.flag F.IDE_CTRL_EN p then
      let s := s.spdmOpen p
      let s := if rx then s.put F.IDE_STATUS_RX 2 p else s
      let s := if tx then s.put F.IDE_STATUS_TX 2 p else s
      s.ideSettle p
    else s)

/-- KEY_ROLLOVER (R103, R107, R411, R422): it needs a key-management session; refused while a stream is Insecure; otherwise the new set is used from the next MAC boundary
and the old one is still checked for 1 µs. -/
def execKeyRollover (p : Port) (s : State) : Host.Outcome State Fault Refusal :=
  done (let p := p.val
    if s.flag F.TAMPER_STATUS_TAMPER_LATCHED || !s.secure p then s.say p (.spdm false)
    else if s.sec.spdm.contains p then
      let s := s.bumpWrap F.IDE_STATUS_ROLLOVERS 1 p
      { s with oldKeys := s.oldKeys.filter (fun x => x != p) ++ [p] }
    else s)

/-- OLD_KEY_WINDOW_END (R103). -/
def execOldKeyWindowEnd (p : Port) (s : State) : Host.Outcome State Fault Refusal :=
  done { s with oldKeys := s.oldKeys.filter (fun x => x != p.val) }

/-! ## Viral (R113) and the inventory (R264, R266) -/

/-- VIRAL_RECEIVED (R113): from a memory device. -/
def execViralReceived (p : Port) (s : State) : Host.Outcome State Fault Refusal :=
  done (let p := p.val
    if s.role p == 3 || s.role p == 4 then ((s.portErr F.PORT_ERR_VIRAL_RX p).postPort p 2).holdPort p .viral else s)

/-- VIRAL_FROM_HOST (R113): the host's own Stalls read Failed. -/
def execViralFromHost (p : Port) (s : State) : Host.Outcome State Fault Refusal :=
  done (if s.isHostPort p.val then
      (s.stallsOf (s.get F.PORT_CFG_HOST_ID p.val)).foldl (fun s st => s.setStall st stFailed) s
    else s)

/-- The device record of a port. -/
def State.device (s : State) (p : Nat) : Option DeviceRecord := s.inventory.find? (fun d => d.port == p)

/-- Enter a device; with another serial number than before its capacity counts as released and is scrubbed (R264, R266); so does that of a device never recorded since a cold boot
without a restored image (R269). -/
def State.enterDevice (s : State) (p : Nat) (d : DeviceId) : State :=
  let old := s.device p
  let rec' : DeviceRecord := { port := p, serial := d.serial.toNat, capacities := d.capacities, persistent := d.persistent, gpf := d.gpf }
  let s := { s with inventory := s.inventory.filter (fun (x : DeviceRecord) => x.port != p) ++ [rec'] }
  let s := s.put F.PORT_STATUS_PARTNER_LDS (min 16 d.capacities.length) p
  match old with
  | some o =>
    if o.serial == d.serial.toNat then s
    else
      let lost := (s.slicesOn p).map (fun e => (⟨false, e.1, e.2⟩ : SliceRef)) ++ s.regionSlices.filter (fun r => (s.sliceOf 2 r).1 == p)
      let s := { s with swapped := s.swapped.filter (fun r => !lost.contains r) ++ lost }
      (List.range d.capacities.length).foldl (fun s k =>
      s.releaseRange { port := p, ld := k, start := 0, len := d.capacities.getD k 0 }) s
  | none =>
    if s.txns.scrubNew then
      (List.range d.capacities.length).foldl (fun s k =>
        s.releaseRange { port := p, ld := k, start := 0, len := d.capacities.getD k 0 }) s
    else s

/-- DEVICE_INVENTORY_READ (R264): for a Device port of ROLE 3 in L0 with CXL active. A switch below a Device port is held with
NEG_FAIL (R100). -/
def execDeviceInventoryRead (p : Port) (d : DeviceId) (s : State) : Host.Outcome State Fault Refusal :=
  done (if d.switchBelow then
      (if (3 ≤ s.role p.val && s.role p.val ≤ 5) && s.linkState p.val == lsL0 then
        (s.portErr F.PORT_ERR_NEG_FAIL p.val).holdPort p.val .switchBelow else s)
    else if s.role p.val == 3 && s.linkState p.val == lsL0 && s.flag F.PORT_STATUS_CXL_ACTIVE p.val then s.enterDevice p.val d
    else s)

end Sys2Proof.Machine
end

