-- ==== Sys2Proof/Machine/Resets.lean ====
section
/-!
DEFINITION. Architecture: resets (R40 to R49, R589, R590, R622), configuration messages and Flue silence (R32, R33), the slot
hold lines (R34), clocks (R592).
-/
namespace Sys2Proof.Machine

/-! ## Cold reset and boot -/

/-- COLD_RESET (R40): supplies and VBANK rise from unpowered. -/
def execColdReset (s : State) : Host.Outcome State Fault Refusal := done ((s.coldReset).withPower (fun p => { p with mains := true }))

/-! ## Warm, half, Hearth-only and port resets -/

/-- RESET_N low for 1 µs (R40, R557). -/
def State.resetN (s : State) (k : KindleIn) : State :=
  if s.rung == rungBanked then s.wake k
  else if s.rung == rungEmber || s.warmBusy then s
  else (s.withPower (fun p => { p with resetLow := true })).warmRequest 1

/-- RESET_N_ASSERT (R40, R557). -/
def execResetNAssert (k : KindleIn) (s : State) : Host.Outcome State Fault Refusal := done (s.resetN k)

/-- RESET_N_RELEASE (R622): the configuration is restored once the warm reset has acted. -/
def execResetNRelease (s : State) : Host.Outcome State Fault Refusal :=
  done (if !s.power.resetLow then s
    else
      let s := s.withPower (fun p => { p with resetLow := false })
      if s.power.warmWaits.isSome then s else s.warmRestore)

/-- RST_WARM (R589, R590). -/
def execRstWarm (s : State) : Host.Outcome State Fault Refusal := done s.rstWarm

/-- RST_HALF_E (R589). -/
def execRstHalfE (s : State) : Host.Outcome State Fault Refusal := done (s.rstHalf 0)

/-- RST_HALF_W (R589). -/
def execRstHalfW (s : State) : Host.Outcome State Fault Refusal := done (s.rstHalf 1)

/-- RST_HEARTH (R589). -/
def execRstHearth (s : State) : Host.Outcome State Fault Refusal := done s.rstHearth

/-- RST_PORT (R589). -/
def execRstPort (p : Port) (s : State) : Host.Outcome State Fault Refusal := done (s.rstPort p.val)

/-- A write of RST_CTRL (R589, R590): WARM acts alone; the bits of both halves together; a port of a half that is reset is
absorbed. -/
def State.rstCtrl (s : State) (v : Nat) : State :=
  let bit (n : Nat) : Bool := v / 2 ^ n % 2 == 1
  let p := v % 128
  if bit 31 then s.rstWarm
  else
    let s := if bit 30 then s.rstHalf 0 else s
    let s := if bit 29 then s.rstHalf 1 else s
    let s := if bit 28 then s.rstHearth else s
    if bit 27 && decide (p < 96) && !(bit (if p < 48 then 30 else 29)) then s.rstPort p else s

/-- Requests that wait for the other half when the Seam has stayed down for 10 µs (R46). -/
def State.seamHoldExpires (s : State) (h : Nat) : State :=
  if s.seamUp then s
  else
    let s := { s with buf := { s.buf with seamRefused := s.buf.seamRefused.filter (fun x => x != h) ++ [h] } }
    let far (m : Msg) : Bool := (if m.dst < 96 then halfOf m.dst else if m.dst == 124 || m.dst == 125 then m.dst - 124 else h) != h
    let mine := s.msgs.filter (fun m => m.half == h && decide (m.stage = .held) && far m && !m.isAnswer
      && (m.ofPorter || (decide (m.input < 96) && s.answerable m)))
    mine.foldl (fun s m => if m.ofPorter then s.answerHeld m else s.answerSeam m h) s

/-- SEAM_DOWN_HOLD_EXPIRY (R46). -/
def execSeamDownHoldExpiry (h : Half) (s : State) : Host.Outcome State Fault Refusal := done (s.seamHoldExpires (hix h))

/-- The Hearth reloads a half that was reset (R46, R622), but not while a Douse or Ash keeps it there. -/
def State.halfRelease (s : State) (h : Nat) : State :=
  if !s.resetHalves.contains h || Word.bits (s.rd .FC_DOUSED) h 1 == 1 || s.flag F.FC_STATUS_ASH || s.hearthDown || s.txns.lost.contains h
      || s.power.resetLow then s
  else
    let s := (s.settleTxns.halfReload h).put (if h = 0 then F.CLK_STATUS_FCLK_E_LOCK else F.CLK_STATUS_FCLK_W_LOCK) 1
    (s.endOp (.resetHalf h) .ok).allResumeChecks

/-- HALF_RESET_RELEASE (R622). -/
def execHalfResetRelease (h : Half) (s : State) : Host.Outcome State Fault Refusal := done (s.halfRelease (hix h))

/-- PORT_RESET_RELEASE (R622): Detect or Disabled; RESET_PORT ends OK. -/
def execPortResetRelease (p : Port) (s : State) : Host.Outcome State Fault Refusal :=
  done (if s.resetPorts.contains p.val then (s.portResetEnd p.val).endOp (.resetPort p.val) .ok else s)

/-- WARM_RESET_DEFER_LIMIT (R49): 8 ms after PFAIL_N a deferred warm reset takes effect. -/
def execWarmResetDeferLimit (s : State) : Host.Outcome State Fault Refusal :=
  done (match s.power.warmWaits with
    | some c => (s.withPower (fun p => { p with step := 0 })).warmGo c
    | none => s)

/-! ## Flue links and configuration messages (R32, R33, R289) -/

/-- CONFIG_MESSAGE_RECEIVE (R32): a configuration message at a half; it accepts it, refuses it in Hold, or discards it as
stale. -/
def execConfigMessageReceive (h : Half) (epoch : BitVec 32) (id : BitVec 32) (s : State) : Host.Outcome State Fault Refusal :=
  done (let x := hix h
    if s.txns.lost.contains x then s
    else
      let s := s.exitCause
      if s.flag F.HALF_STATE_HOLD x || s.flag F.HALF_STATE_SPLIT x then s.emit (.configReport x Status.denied.code)
      else if s.staleAt x epoch.toNat id.toNat then s.discardStale x
      else s.emit (.configReport x Status.ok.code))

/-- FLUE_HEARTBEAT (R33): the Hearth's heartbeat reaches a half. -/
def execFlueHeartbeat (h : Half) (s : State) : Host.Outcome State Fault Refusal :=
  done (if s.hearthDown || s.rung == rungBanked || s.rung == rungEmber then s
    else (s.withTxns (fun t => { t with lost := t.lost.filter (fun x => x != hix h) })).allResumeChecks)

/-- FLUE_SILENCE_TIMEOUT (R33): no Flue traffic for 8 µs. -/
def execFlueSilenceTimeout (h : Half) (s : State) : Host.Outcome State Fault Refusal :=
  done (let x := hix h
    if s.resetHalves.contains x then s
    else (s.withTxns (fun t => { t with lost := t.lost.filter (fun y => y != x) ++ [x] })).enterHold x)

/-! ## Slot hold lines (R34, R73, R110, R270) -/

/-- SLOT_HOLD_LINE_ASSERT (R34). -/
def execSlotHoldLineAssert (n : SlotId) (s : State) : Host.Outcome State Fault Refusal :=
  done (match s.portOfSlot n.val with
    | some p => if s.holdLine n.val then s.holdPort p .line else s
    | none => s)

/-- SLOT_HOLD_LINE_RELEASE (R34). -/
def execSlotHoldLineRelease (n : SlotId) (s : State) : Host.Outcome State Fault Refusal :=
  done (match s.portOfSlot n.val with
    | some p => if s.holdLine n.val then s else s.unhold p (fun c => decide (c = .line))
    | none => s)

/-- Ranges on a port whose device is removed before their scrub completes are quarantined (R270). -/
def State.quarantinePort (s : State) (p : Nat) : State :=
  if s.ranges.any (fun r => r.port == p && !r.quarantined) then
    let lost := s.ranges.filter (fun r => r.port == p && !r.quarantined)
    (lost.foldl (fun s r => s.eraseFails r)
      (s.setRanges (s.ranges.map (fun (r : DevRange) => if lost.contains r then r.quarantine else r)))).raise (8 * p + 7)
  else s

/-- What firmware does about a slot event (R110, R255): after the loss of a pin, records of the memory device's Stalls, unfinished
scrubs quarantined; the slot status of a device passed through whole. -/
def State.grateReport (s : State) (n : Nat) : State :=
  match s.portOfSlot n with
  | none => s
  | some p =>
    let gone := !s.flag F.SLOT_STATE_LONG_PIN n || !s.flag F.SLOT_STATE_SHORT_PIN n
    let s := (s.passed.filter (fun e => e.2.2 == p)).foldl (fun s e => s.plugEvent e.1 e.2.1 (!gone)) s
    if gone then (s.postPort p 1).quarantinePort p else s

/-- GRATE_EVENT_REPORT (R34). -/
def execGrateEventReport (n : SlotId) (s : State) : Host.Outcome State Fault Refusal :=
  done (if s.hearthDown then s else s.grateReport n.val)

/-! ## Clocks (R592) -/

/-- FCLK_LOCK_LOSS (R592). -/
def execFclkLockLoss (h : Half) (s : State) : Host.Outcome State Fault Refusal :=
  done (match h with
    | .east => ((s.put F.CLK_STATUS_FCLK_E_LOCK 0).bump F.CLK_LOSS_FCLK_E 1).raise 792
    | .west => ((s.put F.CLK_STATUS_FCLK_W_LOCK 0).bump F.CLK_LOSS_FCLK_W 1).raise 793)

end Sys2Proof.Machine
end

