-- ==== Sys2Proof/Machine/BindCore.lean ====
section
/-!
DEFINITION. Stalls as operations: the emulated device (R246, R247, R250 to R253), the scrubber (R267 to R270), the stages of a
Stall reset (R259 to R263).
-/
namespace Sys2Proof.Machine

/-! ## What the Hearth takes and sends -/

/-- The Hearth takes the oldest class 9 message of a port, with the other parts of a transfer that was split (R140, R218). -/
def State.consume (s : State) (p : Nat) : State :=
  match s.msgs.find? (fun m => decide (m.stage = .atHearth) && m.input == p) with
  | some m =>
    (s.msgs.filter (fun x => decide (x.stage = .atHearth) && x.input == p
      && (x.id == m.id || (x.session == m.session && m.session != 0)))).foldl (fun s x => s.remove x) s
  | none => s

/-- Firmware writes a line of a slice through the Flue bridge (R252, R404). -/
def State.hearthWrite (s : State) (r : SliceRef) (off : Nat) (data : List Byte) (poison : Bool) : State :=
  let p := (s.sliceOf 0 r).1
  if s.refuses p then s
  else
    let m : Msg := { id := 0, cls := 1, op := .memWrite, input := 126, dst := p, slice := some r, off := off, addr := off,
                     blocks := 1, data := data, poison := poison, len := 64 }
    (s.agentSend (halfOf p) m).2

/-! ## Emulated HDM decoders (R247) -/

/-- The host sets Commit in emulated decoder k (R247). -/
def State.hdmCommit (s : State) (host st k : Nat) : State :=
  let x := (s.emul st).dec k
  let bad (s : State) : State := s.setHdm st k { x with error := true, committed := false, waiting := false }
  match (s.decodersNaming host st)[k]? with
  | none => bad s
  | some d =>
    if x.size ≠ s.get F.DEC_SIZE_V host d * 2 ^ 28 || x.ways ≠ 1 || x.base % 2 ^ 28 ≠ 0 then bad s
    else if !s.flag F.DEC_CTRL_HOST_PLACE host d then
      if x.base = s.get F.DEC_BASE_V host d * 2 ^ 28 then s.setHdm st k { x with waiting := true, error := false } else bad s
    else if x.committed || x.waiting || s.fwHas (.place st k host) then s
    else s.fwTxn (.place st k host)

/-- What emulated decoder k of a Stall reads (R246, R247): base, size, ways, Committed, Error Not Committed; a pending decoder reads
not committed. -/
def State.hdmRead (s : State) (host st k : Nat) : Nat :=
  let x := (s.emul st).dec k
  let pending := match (s.decodersNaming host st)[k]? with | some d => s.flag F.DEC_STATE_PENDING host d | none => true
  x.base + 2 ^ 64 * x.size + 2 ^ 128 * (x.ways % 16) + 2 ^ 132 * (if x.committed && !pending then 1 else 0)
    + 2 ^ 133 * (if x.error then 1 else 0)

/-- The host clears Commit (R247): a HOST_PLACE decoder that is placed, or is being placed, goes back to PENDING by a transaction. -/
def State.hdmClear (s : State) (host st k : Nat) : State :=
  let x := (s.emul st).dec k
  match (s.decodersNaming host st)[k]? with
  | none => s.hdmCleared st k
  | some d =>
    if s.flag F.DEC_CTRL_HOST_PLACE host d && (!s.flag F.DEC_STATE_PENDING host d || x.waiting || s.fwHas (.place st k host)) then
      (if s.fwHas (.unplace st k host) then s else s.fwTxn (.unplace st k host))
    else s.hdmCleared st k

/-! ## Configuration requests (R29, R250) -/

/-- The number of a function whose configuration space is emulated. -/
def cfgFunction (host : Nat) : CfgTarget → Nat
  | .upstream => host
  | .vdsp v => 95 + 64 * host + v.val
  | .stall st => 6175 + st.val

/-- The registers that a host wrote in a function's space. -/
def State.cfgWritten (s : State) (host : Nat) : CfgTarget → List (Nat × Nat)
  | .upstream => numGet [] (65 * host + 64) s.vports
  | .vdsp v => numGet [] (65 * host + v.val) s.vports
  | .stall st => (s.emul st.val).config

/-- The identifiers of R588 that a function reports, at their places in a configuration header (log entry 140): vendor and
device, class code and revision, and for a Stall its subsystem vendor and number. -/
def State.cfgIdentity (s : State) (t : CfgTarget) (off : Nat) : Option Nat :=
  let rev := (s.get F.ID_REVISION_METAL + 0xB0) % 256
  match off, t with
  | 0x000, .upstream => some 0x96821F6C
  | 0x000, .vdsp _ => some 0x96831F6C
  | 0x000, .stall _ => some 0x96811F6C
  | 0x008, .stall _ => some (0x05021000 + rev)
  | 0x008, _ => some (0x06040000 + rev)
  | 0x02C, .stall st => some (0x10000 * st.val + 0x1F6C)
  | _, _ => none

/-- Whether a Stall covers Market ranges: a region decoder of its host names it, so that it advertises HDM-DB for them (R98). -/
def State.coversMarket (s : State) (host : Nat) : CfgTarget → Bool
  | .stall st => (List.range 32).any (fun d => s.flag F.DEC_CTRL_VALID host d && s.get F.DEC_CTRL_TYPE host d == 1
      && s.get F.DEC_CTRL_STALL host d == st.val)
  | _ => false

/-- The slot capabilities of a virtual downstream port (R110): Hot-Plug Surprise and Hot-Plug Capable 1, Power Controller Present 0
(bits 5, 6 and 1: PRESUMED, log entry 157). -/
def slotCapable (v : Nat) : Nat := blend (2 ^ 1 + 2 ^ 5 + 2 ^ 6) v (2 ^ 5 + 2 ^ 6)

/-- What a register of a function holds, beside the identifiers of R588. -/
def State.cfgStored (s : State) (host : Nat) (t : CfgTarget) (off : Nat) : Nat :=
  match tabFind off (s.cfgWritten host t) with
  | some v => v
  | none => (Config.emuConfig (s.coversMarket host t) (cfgFunction host t) off).toNat

/-- The registers of a Stall's Data Object Exchange mailbox (R99; their layout PRESUMED, log entry 157): Control, Status, Write Data
and Read Data. -/
inductive DoeReg where
  | control | status | write | read
deriving DecidableEq, Repr

/-- The Data Object Exchange register at an offset. -/
def doeReg (off : Nat) : Option DoeReg :=
  if off = Config.doeBase + 8 then some .control
  else if off = Config.doeBase + 12 then some .status
  else if off = Config.doeBase + 16 then some .write
  else if off = Config.doeBase + 20 then some .read else none

/-- What a Data Object Exchange register reads: an answer is ready (bit 31 of Status) until its last word was taken. -/
def Emulated.doeRead (e : Emulated) : DoeReg → Nat
  | .status => if e.doeOut.isEmpty then 0 else 2 ^ 31
  | .read => e.doeOut.headD 0
  | _ => 0

/-- What a write of one does: GO (bit 31) has the object answered, ABORT (bit 0) drops both; Write Data adds a word, a write of Read
Data takes the next. -/
def Emulated.doeWrite (e : Emulated) (st v : Nat) : DoeReg → Emulated
  | .control =>
    if v % 2 = 1 then { e with doeIn := [], doeOut := [] }
    else if v / 2 ^ 31 % 2 = 1 then { e with doeIn := [], doeOut := Config.doeAnswer st e.doeIn }
    else e
  | .write => { e with doeIn := e.doeIn ++ [v] }
  | .read => { e with doeOut := e.doeOut.drop 1 }
  | .status => e

/-- What a register of a function reads. -/
def State.cfgRead (s : State) (host : Nat) (t : CfgTarget) (off : Nat) : Nat :=
  match s.cfgIdentity t off with
  | some v => v
  | none =>
    match t, doeReg off with
    | .stall st, some r => (s.emul st.val).doeRead r
    | .vdsp _, _ => if off = Config.slotCaps then slotCapable (s.cfgStored host t off) else s.cfgStored host t off
    | _, _ => s.cfgStored host t off

/-- Status bits that a host's write of 1 clears (R110, R114). -/
def clearedByOne (t : CfgTarget) (off : Nat) : Nat :=
  match t with
  | .stall _ => 0
  | .vdsp _ =>
    if off = Config.slotStatus then slotChanged
    else if off = Config.aerUncorrectable ∨ off = Config.aerCorrectable then 2 ^ 32 - 1 else 0
  | .upstream => if off = Config.aerUncorrectable ∨ off = Config.aerCorrectable then 2 ^ 32 - 1 else 0

/-- A host's write changes the bits that it may change. -/
def State.cfgWrite (s : State) (host : Nat) (t : CfgTarget) (off v : Nat) : State :=
  let old := s.cfgStored host t off
  let w1c := clearedByOne t off
  let new := blend w1c (blend (Config.emuMask (cfgFunction host t) off).toNat old v) (Nat.land old (Nat.xor (2 ^ 32 - 1) v))
  match t with
  | .upstream => s.vpSet host 64 off new
  | .vdsp p => s.vpSet host p.val off new
  | .stall st =>
    let e := s.emul st.val
    match doeReg off with
    | some r => s.setEmul st.val (e.doeWrite st.val v r)
    | none => s.setEmul st.val { e with config := tabInsert natLt off new (tabErase off e.config) }

/-- The Stall bound to a virtual downstream port. -/
def State.stallAt (s : State) (host v : Nat) : Option Nat :=
  (s.stallsOf host).find? (fun st => s.get F.STALL_BIND_VDSP st == v)

/-- Whether a host may address a function: its own switch, or a Stall bound to it. -/
def State.cfgOwns (s : State) (host : Nat) : CfgTarget → Bool
  | .stall st => (s.stallsOf host).contains st.val
  | _ => true

/-- A configuration request of the host on a port (R29): the half answers where a port in LOW_RATE takes none for a Stall (R96), for
a function that is not the host's, during a Hearth-only reset, and where its Flue link is lost (R24, R35); otherwise firmware does,
and its completion waits for the port's Management queue (R219). -/
def State.configRequest (s : State) (p id : Nat) (t : CfgTarget) (a : CfgAccess) : State :=
  let host := s.get F.PORT_CFG_HOST_ID p
  let low := s.flag F.PORT_STATUS_LOW_RATE p && (match t with | .stall _ => true | _ => false)
  if !s.isHostPort p || !s.takes p then s
  else if low || !s.cfgOwns host t then s.emit (.completerAbort p id)
  else if s.hearthDown then s.emit (.configRetry p id)
  else if s.txns.lost.contains (halfOf p) then (s.flueTimedOut (halfOf p) none).emit (.completerAbort p id)
  else
    let ok (s : State) : State := s.say p (.config 0)
    match a, t with
    | .read off, _ => s.say p (.config (s.cfgRead host t off.val))
    | .write off v, _ => ok (s.cfgWrite host t off.val v.toNat)
    | .hdmProgram k base size ways, .stall st =>
      let x := (s.emul st.val).dec k.val
      ok (if x.committed || x.waiting then s
        else s.setHdm st.val k.val { x with base := base.toNat, size := size.toNat, ways := ways })
    | .hdmRead k, .stall st => s.say p (.config (s.hdmRead host st.val k.val))
    | .hdmCommit k, .stall st => ok (s.hdmCommit host st.val k.val)
    | .hdmClear k, .stall st => ok (s.hdmClear host st.val k.val)
    | .busReset, .vdsp v => ok (match s.stallAt host v.val with | some st => s.stallResetStart st | none => s)
    | .cxlReset, .stall st => ok (s.stallResetStart st.val)
    | _, _ => ok s

/-- Firmware sets Committed once the epoch has advanced (R247 step 5). -/
def State.hdmCommitted (s : State) (st k : Nat) : State :=
  let x := (s.emul st).dec k
  if x.waiting && !s.hearthDown then s.setHdm st k { x with committed := true, waiting := false } else s

/-! ## The mailbox (R252, R253) -/

/-- The port of the host that a Stall is bound to, 96 for none. -/
def State.mailPort (s : State) (st : Nat) : Nat :=
  if s.flag F.STALL_BIND_BOUND st then (s.hostPort (s.get F.STALL_BIND_HOST st)).getD 96 else 96

/-- Whether firmware serves the mailbox of a Stall: the Hearth runs, and the Flue link of its host's half is there (R24, R29, R33). -/
def State.mailRuns (s : State) (st : Nat) : Bool :=
  !s.hearthDown && (decide (96 ≤ s.mailPort st) || !s.txns.lost.contains (halfOf (s.mailPort st)))

/-- Firmware answers a mailbox command of a Stall, by a message to its host's port (R219). -/
def State.mail (s : State) (st opcode : Nat) (c : MailCode) (vs : List Nat) (f : Emulated → Emulated) : State :=
  if s.mailRuns st then
    let e := f (s.emul st)
    (s.setEmul st { e with doorbell := false }).say (s.mailPort st) (.mailbox st opcode c vs)
  else s

/-- Whether debug is unlocked (R408). -/
def State.debugUnlocked (s : State) : Bool := s.get F.LC_STATE_V == 0 || s.flag F.DEBUG_STATUS_UNLOCKED

/-- Whether a Stall's memory is persistent (R249), and its capacity in MiB. -/
def State.stallPersistent (s : State) (st : Nat) : Bool :=
  match s.deviceOf (s.get F.STALL_SLICE_PORT st 0) (s.get F.STALL_SLICE_LD st 0) with
  | some d => d.2
  | none => false

/-- The worst of each field of several reports. -/
def worst : List Health → Health
  | [] => { bits := 0, levels := [] }
  | x :: t =>
    let y := worst t
    let n := max x.levels.length y.levels.length
    { bits := x.bits ||| y.bits, levels := (List.range n).map (fun i => max (x.levels.getD i 0) (y.levels.getD i 0)) }

/-- The slice and offset of an offset in a Stall's space. -/
def State.stallLine (s : State) (st off : Nat) : SliceRef × Nat := s.resolve 2 false st (off / 64 * 64)

/-- Sanitize (0x4400) and Secure Erase (0x4401) start (R253): the Stall is quenched, every slice is scrubbed. -/
def State.eraseStart (s : State) (st opcode : Nat) : State :=
  if !s.mailRuns st then s
  else if (s.emul st).background.isSome then s.mail st opcode .busy [] id
  else
    let was := s.quenchSet st
    let s := s.mail st opcode .backgroundStarted [] (fun e => { e with background := some opcode, wasQuenched := was, failed := false })
    let slices := (s.stallRanges st).map (fun x =>
      ({ port := x.port, ld := x.ld, start := x.lo / 2 ^ 20, len := x.len / 2 ^ 20, stall := some st, forErase := true } : DevRange))
    (s.setQuench st true).releaseAll slices

/-- The background operation ends once every slice is scrubbed, or with Media Failure (R253). -/
def State.eraseDone (s : State) (st : Nat) : State :=
  let e := s.emul st
  match e.background with
  | none => s
  | some opcode =>
    if !s.mailRuns st || s.ranges.any (fun r => r.forErase && r.stall == some st) then s
    else
      let s := s.mail st opcode (if e.failed then .mediaFailure else .success) []
        (fun e => { e with background := none, failed := false, poison := if e.failed then e.poison else [] })
      s.setQuench st e.wasQuenched

/-! ## The scrubber (R267 to R270) -/

/-- The range that is being scrubbed on a port: the first that is not quarantined. -/
def State.scrubbing (s : State) (p : Nat) : Option DevRange := s.ranges.find? (fun r => r.port == p && !r.quarantined)

/-- Replace the first range equal to `r`. -/
def replaceRange (r : DevRange) (by' : List DevRange) : List DevRange → List DevRange
  | [] => []
  | x :: t => if x = r then by' ++ t else x :: replaceRange r by' t

/-- Whether a range meets a span of a logical device, in bytes (R270). -/
def DevRange.inSpan (r : DevRange) (p ld start len : Nat) : Bool :=
  r.port == p && r.ld == ld && decide (0 < len) && decide (start < (r.start + r.len) * 2 ^ 20) && decide (r.start * 2 ^ 20 < start + len)

/-- A range has gone from the list: a deleted Stall is Free, a deleted region undefined, once none of its ranges is left; a
CLEAR_QUARANTINE whose ranges are scrubbed ends OK. -/
def State.rangeGone (s : State) (r : DevRange) : State :=
  let s := match r.stall with
    | some st => if s.stall st == stReleasing && !s.ranges.any (fun x => x.stall == some st) then s.setStall st stFree else s
    | none => s
  let s := match r.region with
    | some g => if s.get F.REGION_STATUS_STATE g == 5 && !s.ranges.any (fun x => x.region == some g) then s.setRegion g 0 else s
    | none => s
  (s.ops.filter (fun o => decide (o.status = .accepted))).foldl (fun s o =>
    match o.kind with
    | .clearQuarantine p ld a n =>
      if r.inSpan p ld a n && !s.ranges.any (fun x => x.inSpan p ld a n) then s.endOperation o .ok else s
    | _ => s) s

/-- One MiB is scrubbed: zeros were written to its lines, and the barrier confirmed delivery (R268). -/
def State.scrubbed (s : State) (p : Nat) : State :=
  match s.scrubbing p with
  | none => s
  | some r =>
    let s := if s.hearthDown then s else s.emit (.scrub p r.ld ((r.start + r.scrubbed) * 2 ^ 20))
    if s.hearthDown then s
    else if r.scrubbed + 1 < r.len then s.setRanges (replaceRange r [{ r with scrubbed := r.scrubbed + 1 }] s.ranges)
    else (s.setRanges (replaceRange r [] s.ranges)).rangeGone r

/-- A scrub write fails (R270): the range is quarantined; an erase fails with Media Failure (R253). -/
def State.scrubFails (s : State) (p : Nat) : State :=
  match s.scrubbing p with
  | none => s
  | some r =>
    let s := (s.setRanges (replaceRange r [r.quarantine] s.ranges)).eraseFails r
    let s := s.raise (8 * p + 7) { addr := some ((r.start + r.scrubbed) * 2 ^ 20), dpaLd := some r.ld }
    (s.ops.filter (fun o => decide (o.status = .accepted))).foldl (fun s o =>
      match o.kind with
      | .clearQuarantine q ld a n => if r.inSpan q ld a n then s.endOperation o .faulted else s
      | _ => s) s

/-! ## Stall reset (R259 to R263) -/

/-- Squash one message of a Stall: answered to its host; at a memory device it stays outstanding, squashed. -/
def State.squash (s : State) (m : Msg) : State :=
  if m.squashed then s
  else
    let st := m.stall.getD 0
    let s := s.bump F.STALL_SQUASHED_V 1 st
    let q := if m.isAnswer then m.unanswered else m
    let s := if m.ofPorter then s else s.emits q.heldAnswer
    let s := match m.twin.bind (fun t => s.msgs.find? (fun x => x.id == t)) with
      | some x => if decide (x.stage = Stage.atDevice) then s.update { x with squashed := true, stall := none, twin := none } else s.remove x
      | none => s
    if m.stage = .atDevice then s.update { m with squashed := true, twin := none } else s.remove m

/-- The drain ends (R260): everything of the Stall that remains is squashed. -/
def State.drainEnds (s : State) (st : Nat) : State :=
  if s.stall st != stResetting then s
  else
    let s := (s.stallMsgs st).foldl (fun s m => s.squash m) s
    s.chSquash st

/-- The reset completes (R262): the Stall's placed decoders return to PENDING by a transaction of firmware's own first. -/
def State.stallResetDone (s : State) (st : Nat) : State :=
  if s.stall st != stResetting || !(s.stallMsgs st).isEmpty || s.hearthDown then s
  else if (s.placedDecoders st).isEmpty then s.stallResetFinish st
  else if s.fwHas (.unplaceAll st) then s else s.fwTxn (.unplaceAll st)

end Sys2Proof.Machine
end

