-- ==== Sys2Proof/Machine/Relocation.lean ====
section
/-!
DEFINITION. Live Relocation: the events of the contexts and of the halves' watermark tables (R378 to R396).
-/
namespace Sys2Proof.Machine

/-- A context copies or copies back. -/
def State.rlCopies (s : State) (x : Nat) : Bool := s.rlState x == rlCopying || s.rlState x == rlReverse

/-- RELOC_CHUNK_DELIVERED (R382): the new W, or the chunks copied back, are journalled. -/
def execRelocChunkDelivered (x : Fin 8) (s : State) : Host.Outcome State Fault Refusal :=
  done (let c := s.reloc x.val
    if s.rlCopies x.val && c.step = .copying then
      s.setReloc x.val { c with step := .journal, fails := 0, journalled := (if c.back then c.journalled else c.journalled + 1) }
    else s)

/-- RELOC_JOURNAL_ACKED (R382, R391): publication; a reverse copy goes on until W chunks are copied back, and then rolls
back. No acknowledgement passes a Flue link that is down. -/
def execRelocJournalAcked (x : Fin 8) (s : State) : Host.Outcome State Fault Refusal :=
  done (let x := x.val
    let c := s.reloc x
    if !s.rlCopies x || c.step ≠ .journal || s.hearthDown || s.txns.lost.contains (x / 4) then s
    else if c.back then
      let n := s.get F.RELOC_REVERSE_V x + 1
      let s := s.put F.RELOC_REVERSE_V n x
      if s.wmark (x / 4) x ≤ n then s.rlRollback x else s.rlPublish x c.journalled
    else s.rlPublish x c.journalled)

/-- WATERMARK_MESSAGE (R382, R398): the other half takes W and C, unless the message's epoch is stale (R32). -/
def execWatermarkMessage (x : Fin 8) (s : State) : Host.Outcome State Fault Refusal :=
  done (let x := x.val
    let h := x / 4
    if (s.reloc x).step ≠ .publish || !s.seamUp then s
    else if s.staleAt (1 - h) (s.get F.HALF_EPOCH_V h) (s.get F.HALF_COMMIT_V h) then s.discardStale (1 - h)
    else s.takeMark (1 - h) x (s.wmark h x) (s.inCopy h x))

/-- WATERMARK_ACK (R382, R384, R390): the publication is complete; the context reads Synced, pauses, is rolled back, or waits for the
writes to the next chunk. While the Seam or the Flue link is down no acknowledgement comes, and the context pauses there. -/
def execWatermarkAck (x : Fin 8) (s : State) : Host.Outcome State Fault Refusal :=
  done (let x := x.val
    let h := x / 4
    let w := s.wmark h x
    let c := s.reloc x
    let waits := s.setReloc x { c with step := .drain }
    let cut := !s.seamUp || s.txns.lost.contains h
    if c.step ≠ .publish then s
    else if s.rlCopies x && cut then waits.setRl x rlPaused
    else if cut || s.wmark (1 - h) x != w || s.inCopy (1 - h) x != s.inCopy h x then s
    else if s.rlState x == rlRollingBack then waits.rlRolledCheck x
    else if !s.rlCopies x then s
    else if !c.back && w == s.get F.RELOC_CHUNKS_N x then waits.rlSync x
    else if s.inCopy h x == noChunk then (if s.rlPauses x then waits.setRl x rlPaused else s.rlPublish x w)
    else waits)

/-- Writes under way to the chunk in copy that did not go to both devices, or, while the context copies back, any write to it (R382,
R391). -/
def State.sourceWrites (s : State) (x : Nat) : Bool :=
  s.msgs.any (fun m => m.slice == some (s.rlSlice x) && m.writes && (m.twin.isNone || (s.reloc x).back) && m.wait.isNone && !m.copy
    && m.off / 2 ^ 20 == s.inCopy (x / 4) x && decide (m.stage ≠ .returned))

/-- RELOC_SOURCE_DRAINED (R382): the copy of the chunk starts. Of a context that rolls back, the pairs already issued have completed
(R390). -/
def execRelocSourceDrained (x : Fin 8) (s : State) : Host.Outcome State Fault Refusal :=
  done (let x := x.val
    if s.rlState x == rlRollingBack then s.rlRolledCheck x
    else if s.rlCopies x && (s.reloc x).step = .drain && s.inCopy (x / 4) x != noChunk && !s.sourceWrites x then
      s.setReloc x { s.reloc x with step := .copying }
    else s)

/-- RELOC_CHUNK_FAILED (R385): the chunk is copied again; after three failures in a row the context stops. -/
def execRelocChunkFailed (x : Fin 8) (s : State) : Host.Outcome State Fault Refusal :=
  done (let x := x.val
    let c := s.reloc x
    if s.rlCopies x && c.step = .copying then
      if 2 ≤ c.fails then ((s.setReloc x { c with fails := 0 }).rlStop x).raise (778 + x / 4)
      else (s.setReloc x { c with fails := c.fails + 1 }).bump F.RELOC_RETRIES_V 1 x
    else s)

/-- MIRRORED_WRITE_COMPLETE (R379, R381): both devices have completed the pair of the write `id`; one completion goes to the
host. -/
def execMirroredWriteComplete (id : Nat) (s : State) : Host.Outcome State Fault Refusal :=
  done (match s.msgs.find? (fun m => m.id == id && decide (m.stage = .atDevice) && m.twin.isSome && !m.squashed) with
    | some m =>
      match s.msgs.find? (fun c => some c.id == m.twin && decide (c.stage = .atDevice)) with
      | some c => let s := s.deviceDone m [] false; s.deviceDone c [] false
      | none => s
    | none => s)

/-- RELOC_HANDOVER_DONE (R387): no flow runs on the slice; its dirty entries are written back and the entries invalidated; the
commit follows. -/
def execRelocHandoverDone (x : Fin 8) (s : State) : Host.Outcome State Fault Refusal :=
  done (let x := x.val
    let r := s.rlSlice x
    if s.rlState x != rlHandover || s.market.flows.any (fun f => f.region == r.obj && f.way == r.way) then s
    else
      let mine (e : LedgerLine) : Bool := e.region == r.obj && e.way == r.way
      let s := (s.ledgerFlush mine).withMarket (fun m => { m with cache := m.cache.filter (fun e => !mine e) })
      (s.rlCommitNow x).2)

/-- HANDOVER_END_MARKER (R387): the new home of a slice accepts other requests for it. -/
def execHandoverEndMarker (x : Fin 8) (s : State) : Host.Outcome State Fault Refusal :=
  done (s.withMarket (fun m => { m with awaiting := m.awaiting.filter (fun y => y != s.rlSlice x.val) }))

/-- RELOC_SOURCE_RELEASE (R389): no write of the slice to the source is outstanding. -/
def execRelocSourceRelease (x : Fin 8) (s : State) : Host.Outcome State Fault Refusal :=
  done (let x := x.val
    if s.rlState x == rlCommitting && (!s.rlOnSource 2 x || s.flag F.RELOC_OBJECT_REMOTE x) && !s.market.awaiting.contains (s.rlSlice x)
        && !s.msgs.any (fun m => m.slice == some (s.rlSlice x) && m.writes && m.dst == s.get F.RELOC_SRC_PORT x) then s.rlRelease x
    else s)

/-- RELOC_TARGET_FAILURE (R392): W = 0 in both halves, and the relocation rolls back. -/
def execRelocTargetFailure (x : Fin 8) (s : State) : Host.Outcome State Fault Refusal :=
  done (if s.rlTargetCounts x.val then s.rlTargetFails x.val else s)

end Sys2Proof.Machine
end

