-- ==== Sys2Proof/Machine/TelemCore.lean ====
section
/-!
DEFINITION. Telemetry as operations: counter units (R562 to R569), snapshots (R570 to R572), the host view (R573 to R575),
the wear record (R577 to R583); the writes of the aggregator's registers (R597).
-/
namespace Sys2Proof.Machine

/-! ## Counter units (R562 to R569) -/

/-- The type of a counter unit (R562, R584). -/
def pmuType (u : Nat) : Nat :=
  if u < 96 then 0 else if u < 192 then 1 else if u < 216 then 2 else if u < 218 then 3 else if u < 220 then 4
  else if u < 222 then 5 else if u < 224 then 6 else if u < 226 then 7 else u - 218

/-- Whether the table of R564 lists a code for a unit. -/
def pmuCodeUsed (u code : Nat) : Bool :=
  code == 0x3FF
    || decide (code < ([12, 10, 5, 8, 9, 5, 5, 6, 4, 4, 4] : List Nat).getD (pmuType u) 0)
    || (pmuType u == 6 && decide (0x10 ≤ code) && decide (code ≤ 0x1F))

/-- A write of PMU_EVSEL: EVENT and EDGE are discarded while EN is 1, unused codes always (R564, R565). -/
def State.evselWrite (s : State) (u i v : Nat) : State :=
  let busy := s.flag F.PMU_EVSEL_EN u i
  let code := v % 1024
  let s := if busy || !pmuCodeUsed u code then s else s.put F.PMU_EVSEL_EVENT code u i
  let s := if busy then s else s.put F.PMU_EVSEL_EDGE (v / 2 ^ 30) u i
  ((s.put F.PMU_EVSEL_OVF_IRQ (v / 2 ^ 29) u i).put F.PMU_EVSEL_EN (v / 2 ^ 31) u i).irqTouch (343 + u)

/-- Whether a key is a count or a cycle counter. -/
def isCount (r : Reg) : Bool := decide (r = .PMU_COUNT) || decide (r = .PMU_CYCLE)

/-- Every counter of the units that a test selects returns to 0 (R567). -/
def State.pmuReset (s : State) (f : Nat → Bool) : State :=
  { s with regs := s.regs.filter (fun e => !(isCount e.1.reg && f e.1.i)) }

/-- FREEZE of one unit (R566). -/
def State.pmuFreeze (s : State) (u : Nat) (b : Bool) : State := s.putFlag F.PMU_CTRL_FREEZE b u

/-- A counter passes 2^48 − 1: it wraps to the remainder and sets its bit of PMU_OVF (R566). -/
def State.pmuOverflow (s : State) (u i rest : Nat) : State :=
  if s.pmuRuns u && s.flag F.PMU_EVSEL_EN u i then
    s.pmuAdd u i (2 ^ 48 + rest - s.get F.PMU_COUNT_V u i)
  else s

/-! ## Snapshots (R570 to R572) -/

/-- The cycle counter and the counters of the snapshot units of a half, in ascending unit order (R571). -/
def State.snapUnits (s : State) (h : Nat) : List Nat :=
  [216 + h, 218 + h, 220 + h, 222 + h].flatMap (fun u =>
    s.get F.PMU_CYCLE_V u :: (List.range 8).map (fun i => s.get F.PMU_COUNT_V u i))

/-- Writes of the record ring that are not known delivered: they carry this number. -/
def snapTag : Nat := 571

/-- A privileged write of the East half, 64 bytes or fewer in one line: to the default map, to a memory device through context
95, or a bus error (R234, R571). -/
def State.privWrite (s : State) (addr : Nat) (data : List Byte) (tag : Nat) : Option State :=
  match s.privPath 0 addr data.length true with
  | .internal =>
    if s.hearthDown then none
    else if inSealed addr then none
    else if inScratchpad addr then some ((s.touchBank addr).memStore addr data)
    else if inEmber addr then some (s.memStore addr data)
    else none
  | .device m => some (s.agentSend 0 { m with input := 126, session := tag, data := data, blocks := 1 }).2
  | _ => none

/-- The pieces of 64 bytes of a record. -/
def pieces64 (data : List Byte) : List (Nat × List Byte) :=
  (List.range ((data.length + 63) / 64)).map (fun k => (64 * k, (data.drop (64 * k)).take 64))

/-- Write a record to privileged addresses; none if some piece ends as a bus error. -/
def State.privRecord (s : State) (addr : Nat) (data : List Byte) (tag : Nat) : Option State :=
  (pieces64 data).foldl (fun (t : Option State) e => t.bind (fun s => s.privWrite (addr + e.1) e.2 tag)) (some s)

/-- Whether the previous record is still being written (R571). -/
def State.snapBusy (s : State) : Bool :=
  s.telem.latched.isSome || s.msgs.any (fun m => m.input == 126 && m.session == snapTag && decide (m.op = .bulkWrite))

/-- East's period (R570): latched, or missed. -/
def State.snapTake (s : State) : State :=
  if s.flag F.SNAP_CTRL_EN && s.below.isEmpty then
    if s.snapBusy then s.bump F.SNAP_MISSED_V 1
    else
      let n := s.telem.seq + 1
      s.withTelem (fun t => { t with seq := n, latched := some (n, s.now, s.snapUnits 0) })
  else s

/-- The bytes of a record (R571); East's and West's counters interleave by unit. -/
def State.snapBytes (s : State) (n time : Nat) (east west : List Nat) : List Byte :=
  let unit (l : List Nat) (k : Nat) : List Byte := ((l.drop (9 * k)).take 9).flatMap (fun v => leBytes 8 v)
  leBytes 8 n ++ leBytes 8 time ++ leBytes 4 (s.get F.EPOCH_V) ++ leBytes 4 (s.get F.SNAP_MISSED_V) ++ leBytes 40 0
    ++ ([0, 1, 2, 3] : List Nat).flatMap (fun k => unit east k ++ unit west k)

/-- The mark reaches West: its units are latched and the record is written; a ring that context 95 does not reach stops the
snapshots (R570 to R572). -/
def State.snapMark (s : State) : State :=
  match s.telem.latched with
  | none => s
  | some (n, time, east) =>
    let s := s.withTelem (fun t => { t with latched := none })
    let head := s.get F.SNAP_HEAD_V
    match s.privRecord (s.get F.SNAP_RING_BASE_V * 64 + 640 * head) (s.snapBytes n time east (s.snapUnits 1)) snapTag with
    | some s => s.put F.SNAP_HEAD_V ((head + 1) % max 1 (s.get F.SNAP_RING_COUNT_V))
    | none => ((s.put F.SNAP_CTRL_EN 0).put F.SNAP_CTRL_SNAP_ERR 1).irqTouch 268

/-! ## The host view (R573 to R575) -/

/-- Firmware presents the counters of a Stall to its host: both halves less the baseline (R574, R575). -/
def State.hostRefresh (s : State) (st : Nat) : State :=
  if s.flag F.STALL_BIND_BOUND st then
    let base := numGet [] st s.telem.baseline
    let v := (s.stallCounts st).zipIdx.map (fun e => e.1 - base.getD e.2 0)
    s.withTelem (fun t => { t with shown := numPut [] st v t.shown })
  else s

/-! ## The wear record (R577 to R583) -/

/-- Add an action entry; a full area overwrites its oldest entry (R577). -/
def State.wearAction (s : State) (e : WearEntry) : State :=
  s.withFlash (fun f => if f.actions.length < 4096 then { f with actions := f.actions ++ [e] }
    else { f with actions := f.actions.drop 1 ++ [e], wrapped := true })

/-- Add a sample entry. -/
def State.wearSample (s : State) (e : WearEntry) : State :=
  s.withFlash (fun f => { f with samples := (if f.samples.length < 61440 then f.samples else f.samples.drop 1) ++ [e] })

/-- The threshold of a kind, in its count of corrected errors, steps or entries (R579). -/
def wearThreshold (kind : Nat) : Nat := ([64, 32, 16, 16, 100, 6, 3, 2] : List Nat).getD kind 0

/-- Whether a figure meets the threshold; `grave` is an uncorrectable error, a margin below the limits, a health worse than
normal (R579). -/
def wearMet (kind value : Nat) (grave : Bool) : Bool := grave || (kind != 5 && decide (wearThreshold kind ≤ value))

/-- An element brings a spare in, retires without one, or is refused: the ACTION that compares the element before and after
(R577, R581). -/
def wearResult (changed spare : Bool) : Nat := if !changed then 3 else if spare then 1 else 2

/-- The ECP event of the element's group, where R450 has one that names it. -/
def State.wearEvent (s : State) (kind element : Nat) : State :=
  match kind with
  | 5 => s.event 0x01F0 [element / 8, (s.rd .PHY_STATUS (element / 8)).toNat]
  | 6 => s.event 0x06F0 [element, s.get F.SLOT_STATE_STATE element]
  | 7 => s.event 0x01F0 [element / 16, (s.rd .PHY_STATUS (element / 16)).toNat]
  | _ => s

/-! ## The aggregator's registers (R597) -/

/-- Whether a source number is used (R593). -/
def irqUsed (n : Nat) : Bool := !((269 ≤ n && n ≤ 276) || (572 ≤ n && n ≤ 1023))

/-- A write of 1 to a pending bit clears a latched source (R597). -/
def State.irqClear (s : State) (n : Nat) : State := if irqLatched n then (s.putLatched n false).irqTouch n else s

/-- IA_SOFT: CLEAR acts where both are 1; a source below 1,024 is discarded (R597). -/
def State.irqSoft (s : State) (n : Nat) (set clear : Bool) : State :=
  if n < 1024 then s else if clear then s.irqClear n else if set then s.irqEvent n else s

/-- IA_CLAIM as a core reads it: the lowest source that is pending, enabled and assigned to the core (R596). -/
def State.irqClaim (s : State) (core : Nat) : Option Nat :=
  (List.range 2048).find? (fun n => Word.bits (s.rd .IA_ENABLE (n / 32)) (n % 32) 1 == 1 && s.irqPending n && s.irqTarget n == some core)

end Sys2Proof.Machine
end

