-- ==== Sys2Proof/Machine/SecCore.lean ====
section
/-!
DEFINITION. Security as operations (R399 to R423): ISO_STATUS, tamper, the debug lock, measurements; the registers of the
Hearth cluster (R455 to R462).
-/
namespace Sys2Proof.Machine

/-! ## The isolation conditions (R400, R423) -/

/-- Enabled mirroring sessions with INSPECT set. -/
def State.inspecting (s : State) : Bool :=
  s.regs.any (fun e => decide (e.1.reg = .MIR_CTRL) && Word.bits e.2 31 1 == 1 && Word.bits e.2 30 1 == 1)

/-- The COMMITTED condition: no context with direct window writes since its last enable, no half in Hold with SPLIT. -/
def State.isoCommitted (s : State) : Bool :=
  s.txns.dirty.isEmpty && ([0, 1] : List Nat).all (fun h => !(s.flag F.HALF_STATE_HOLD h && s.flag F.HALF_STATE_SPLIT h))

/-- ISO_STATUS (R423). -/
def State.isoStatus (s : State) : Nat :=
  let b : List Bool := [s.flag F.ISO_STATUS_WESIS_OK, s.get F.LC_STATE_V == 1, s.flag F.ISO_STATUS_DEBUG_LOCKED, !s.inspecting,
    s.isoCommitted]
  (b.zipIdx.map (fun e => if e.1 then 2 ^ e.2 else 0)).sum + (if b.all id then 2 ^ 31 else 0)

/-- SECURITY_CHANGED (R450). -/
def State.secEvent (s : State) : State := s.event 0x0AF0 [s.isoStatus]

/-! ## Debug (R408, R417 to R419) -/

/-- LOCK (R418): locks at once, from any state. -/
def State.debugLock (s : State) : State :=
  let s := ((s.put F.DEBUG_STATUS_UNLOCKED 0).put F.DEBUG_STATUS_UNLOCK_PENDING 0).secEvent
  if s.debugAllowed then s else s.disarm

/-- A debug write to Hearth memory clears WESIS_OK (R419). -/
def State.debugWrote (s : State) : State := (s.put F.ISO_STATUS_WESIS_OK 0).secEvent

/-! ## Tamper (R420 to R422) -/

/-- A source signals tamper: 0 PIN, 1 SUPPLY, 2 CLOCK, 3 TEMP. -/
def State.tamper (s : State) (n : Nat) : State :=
  let active := s.rd .TAMPER_ACTIVE
  let st := s.rd .TAMPER_STATUS
  let s := s.wr .TAMPER_ACTIVE (Word.setBits active n 1 1)
  let s := s.wipe true
  let s := s.wr .TAMPER_STATUS (Word.setBits (Word.setBits st n 1 1) 31 1 1)
  (((s.raise 789).irqTouch 260).secEvent)

/-- A source stops signalling (R422, R498). -/
def State.tamperEnd (s : State) (n : Nat) : State := s.wr .TAMPER_ACTIVE (Word.setBits (s.rd .TAMPER_ACTIVE) n 1 0)

/-- The tamper latch is cleared, unless a source is active (R422): the answer says whether it was. -/
def State.tamperClear (s : State) : Bool × State :=
  if s.get F.TAMPER_ACTIVE_V != 0 then (false, s) else (true, ((s.wr .TAMPER_STATUS 0).irqTouch 260).secEvent)

/-! ## Attestation (R414, R415) -/

/-- The content of a measurement index; `host` is the host of the port that asks, if a Host port asks. -/
def State.measure (s : State) (host : Option Nat) (index : Nat) : List Nat :=
  match index with
  | 1 => [Config.romVersion.toNat, s.get F.FW_SECURITY_MINIMUM]
  | 2 => [(Config.imageHash (s.get F.BOOT_STATUS_RUNNING)).toNat]
  | 3 => [(s.rd .LC_STATE).toNat, s.isoStatus, (s.rd .DEBUG_STATUS).toNat]
  | 4 => [s.flash.audit.length]
  | 254 =>
    match host with
    | some x =>
      s.get F.EPOCH_V :: (s.stallsOf x).flatMap (fun st => [s.get F.STALL_SERIAL_V st, s.get F.STALL_CTRL_SEALED st])
    | none => []
  | _ => []

/-- A port carries a committed binding: a Host port whose host has a Stall or a passed-through device, a port with a slice of a
Stall or of a region, or a passed-through device (R416, R536; DEDUCED, log entry 23). -/
def State.carriesBinding (s : State) (p : Nat) : Bool :=
  (s.isHostPort p && (!(s.stallsOf (s.get F.PORT_CFG_HOST_ID p)).isEmpty
      || s.passed.any (fun (e : Nat × Nat × Nat) => e.1 == s.get F.PORT_CFG_HOST_ID p)))
    || !(s.slicesOn p).isEmpty || s.hasMarket p || s.passed.any (fun (e : Nat × Nat × Nat) => e.2.2 == p)

/-! ## Hearth cores and the watchdog (R455 to R457) -/

/-- How many cores are active or retired. -/
def State.coresActive (s : State) : Nat := ((List.range 17).filter (fun c => s.coreActive c)).length
def State.coresRetired (s : State) : Nat :=
  ((List.range 17).filter (fun c => Word.bits (s.rd .CORE_RETIRED) c 1 == 1)).length

/-- CORE_RETIRE (R456): the core is marked; spares take the places of marked cores at the next reset of the Hearth. -/
def State.coreRetire (s : State) (c : Nat) : State :=
  if !s.coreActive c || s.hearth.retiring.contains c then s
  else
    let marks := s.hearth.retiring.length + 1
    let spares := 17 - s.coresActive - s.coresRetired
    if s.coresActive + min spares marks < 15 + marks then s.raise 787
    else s.withHearth (fun h => { h with retiring := h.retiring ++ [c] })

/-- WDT_KICK (R457): only 0x0000_5A5A restarts the watchdog. -/
def State.wdtKick (s : State) (v : Nat) : State := if v = 0x5A5A then s.withHearth (fun h => { h with kicked := s.now }) else s

/-- WDT_CTRL (R457): out of range, or EN = 0 outside Manufacturing with debug locked, is discarded. -/
def State.wdtCtrl (s : State) (v : Nat) : State :=
  let t := v % 65536
  if t < 10 || 10000 < t || (v / 2 ^ 31 % 2 == 0 && !s.debugUnlocked) then s
  else (s.put F.WDT_CTRL_EN (v / 2 ^ 31)).put F.WDT_CTRL_TIMEOUT t

/-- The watchdog expires (R457): a Hearth-only reset, counted and recorded; it stands in banking (R546) and while the cores are
unpowered. -/
def State.wdtExpires (s : State) : State :=
  if !s.flag F.WDT_CTRL_EN || s.rung == rungBanking || s.rung == rungBanked || s.rung == rungEmber || s.hearthDown then s
  else ((s.bump F.WDT_RESETS_V 1).raise 787).hearthReset 4

/-! ## Scratchpad banks (R461, R462) -/

/-- A bank with RETAIN set and 64 µs idle enters retention: reservations in it are lost (R461, R482). -/
def State.retain (s : State) (b : Nat) : State :=
  if s.flag F.SP_BANK_CTRL_RETAIN b then
    let s := s.put F.SP_BANK_CTRL_RETAINED 1 b
    s.withHearth (fun h => { h with cores := h.cores.map (fun (e : Nat × CoreUnit) =>
      (e.1, { e.2 with reserved := e.2.reserved.filter (fun g => !(inScratchpad (64 * g) && bankOf (64 * g) == b)) })) })
  else s

/-- A repair's rewrite completes. -/
def State.repairDone (s : State) (b : Nat) : State := s.put F.SP_BANK_CTRL_REPAIR_BUSY 0 b

end Sys2Proof.Machine
end

