-- ==== Sys2Proof/Machine/SlotPower.lean ====
section
/-!
DEFINITION. Slot Power Channels: the events of a channel and of the feeds, and the commands of SLOT_CTRL (R512 to R539).
-/
namespace Sys2Proof.Machine

/-- PRES_LONG_ASSERT (R515): Empty to Seating. -/
def execPresLongAssert (n : SlotId) (s : State) : Host.Outcome State Fault Refusal :=
  done (let s := s.put F.SLOT_STATE_LONG_PIN 1 n.val
    if s.sl n.val == slEmpty then s.setSl n.val slSeating else s)

/-- The long pin of the slot that a port is tied to is lost: VALID clears in the port's records (R73), and the device that comes
back trains anew past a Viral hold or the hold for a switch (R100, R113). -/
def State.unseated (s : State) (p : Nat) : State :=
  let s := s.clearRecords p
  let s := { s with lanes := { s.lanes with viralRetrain := s.lanes.viralRetrain.filter (fun x => x != p) ++ [p] } }
  s.unhold p (fun c => decide (c = .switchBelow))

/-- PRES_LONG_DEASSERT (R73, R517): the channel goes to Empty; Lockout stays (R525). -/
def execPresLongDeassert (n : SlotId) (s : State) : Host.Outcome State Fault Refusal :=
  done (let s := s.put F.SLOT_STATE_LONG_PIN 0 n.val
    let s := match s.portOfSlot n.val with | some p => s.unseated p | none => s
    let s := s.setSlot n.val { s.slot n.val with pinsKept := false }
    if s.sl n.val == slLockout then s else s.setSl n.val slEmpty)

/-- PRES_SHORT_DEASSERT (R517): from Precharge, Ramp, On and Tripped the channel goes to Seating, or to Empty. -/
def execPresShortDeassert (n : SlotId) (s : State) : Host.Outcome State Fault Refusal :=
  done (let s := s.put F.SLOT_STATE_SHORT_PIN 0 n.val
    let s := s.setSlot n.val { s.slot n.val with pinsKept := false }
    if s.slPowered n.val || s.sl n.val == slTripped then
      (s.put F.SLOT_ERR_UNSEAT 1 n.val).setSl n.val (if s.flag F.SLOT_STATE_LONG_PIN n.val then slSeating else slEmpty)
    else s)

/-- SEATING_DEBOUNCE_END (R516): both pins were asserted for the debounce. AUTO_ON sets POWER_REQ at each end of Seating
(R536); a pending deadline holds the attempt back (R526). -/
def execSeatingDebounceEnd (n : SlotId) (s : State) : Host.Outcome State Fault Refusal :=
  done (if !s.flag F.SLOT_STATE_LONG_PIN n.val then s
    else
      let s := s.put F.SLOT_STATE_SHORT_PIN 1 n.val
      if s.sl n.val != slSeating then s
      else
        let s := if s.flag F.SLOT_CTRL_AUTO_ON n.val then s.put F.SLOT_STATE_POWER_REQ 1 n.val else s
        if s.flag F.SLOT_STATE_POWER_REQ n.val && (s.slot n.val).deadline.isNone then s.enterPrecharge n.val
        else s.setSl n.val slReady)

/-- PRECHARGE_COMPLETE (R518). -/
def execPrechargeComplete (n : SlotId) (s : State) : Host.Outcome State Fault Refusal :=
  done (if s.sl n.val == slPrecharge then s.setSl n.val slRamp else s)

/-- PRECHARGE_TIMEOUT (R518): a trip of kind precharge timeout. -/
def execPrechargeTimeout (n : SlotId) (s : State) : Host.Outcome State Fault Refusal :=
  done (if s.sl n.val == slPrecharge then s.trip n.val 3 else s)

/-- RAMP_COMPLETE (R519): `within` says whether OUT_SENSE is within 0.5 V of the feed. The check is suspended during a feed
change (R529), and the ramp then ends in On. -/
def execRampComplete (n : SlotId) (within : Bool) (s : State) : Host.Outcome State Fault Refusal :=
  done (if s.sl n.val == slRamp then (if within || (s.slot n.val).checking then s.setSl n.val slOn else s.trip n.val 4) else s)

/-- CURVE_TRIP (R522): in Precharge, Ramp and On. -/
def execCurveTrip (n : SlotId) (s : State) : Host.Outcome State Fault Refusal :=
  done (if s.slPowered n.val then s.trip n.val 1 else s)

/-- FAST_TRIP (R520, R523). -/
def execFastTrip (n : SlotId) (s : State) : Host.Outcome State Fault Refusal :=
  done (if s.slPowered n.val then s.trip n.val 2 else s)

/-- BACKOFF_DEADLINE (R524, R526): the next attempt, unless supplies are lost, when it waits (R531). -/
def execBackoffDeadline (n : SlotId) (s : State) : Host.Outcome State Fault Refusal :=
  done (let s' := s.setSlot n.val { s.slot n.val with deadline := none }
    if (s.slot n.val).deadline.isNone then s
    else if s.sl n.val == slTripped then (if s.slSupplied n.val then s'.enterPrecharge n.val else s)
    else s'.readyCheck n.val)

/-- SLOT_COOLDOWN_EXPIRY (R526): On or Empty held for COOLDOWN. -/
def execSlotCooldownExpiry (n : SlotId) (s : State) : Host.Outcome State Fault Refusal :=
  done (if s.sl n.val == slOn || s.sl n.val == slEmpty then s.dropRetries n.val else s)

/-- PG_LOST_TRIP (R533): in On, with the feed in use in its window and no feed change in its check time. -/
def execPgLostTrip (n : SlotId) (s : State) : Host.Outcome State Fault Refusal :=
  done (if s.sl n.val == slOn && s.feedGood (s.get F.SLOT_STATE_FEED_IN_USE n.val) && !(s.slot n.val).checking then s.trip n.val 4 else s)

/-- The bit of a class, its bits in FEED_ERR, and its counter in FEED_EVENTS (R530, R538). -/
def classBit : FeedClass → Nat
  | .sag => 0
  | .swell => 1
  | .dropout => 2
  | .ripple => 3
def feedErrBit (f : Nat) (c : FeedClass) : Fld :=
  match f, c with
  | 0, .sag => F.FEED_ERR_A_SAG
  | 0, .swell => F.FEED_ERR_A_SWELL
  | 0, .dropout => F.FEED_ERR_A_DROPOUT
  | 0, .ripple => F.FEED_ERR_A_RIPPLE
  | _, .sag => F.FEED_ERR_B_SAG
  | _, .swell => F.FEED_ERR_B_SWELL
  | _, .dropout => F.FEED_ERR_B_DROPOUT
  | _, .ripple => F.FEED_ERR_B_RIPPLE
def feedEvents : FeedClass → Fld
  | .sag => F.FEED_EVENTS_SAGS
  | .swell => F.FEED_EVENTS_SWELLS
  | .dropout => F.FEED_EVENTS_DROPOUTS
  | .ripple => F.FEED_EVENTS_RIPPLES

/-- A feed enters or leaves a class (R530): the status, the fault of R537, the failovers of R528. -/
def State.feedChange (s : State) (f : Nat) (c : FeedClass) (enter : Bool) : State :=
  if !s.feedPresent f then s
  else
    let fld := if f = 0 then F.FEED_STATUS_CLASS_A else F.FEED_STATUS_CLASS_B
    let old := s.feedClass f
    let is := old / 2 ^ classBit c % 2 == 1
    if is == enter then s
    else
      let s := s.put fld (if enter then old + 2 ^ classBit c else old - 2 ^ classBit c)
      let s := if enter then ((s.bump (feedEvents c) 1).setErr (feedErrBit f c) 0 1008).irqTouch 325 else s
      (List.range 48).foldl (fun s n => s.failover n) s

/-- FEED_CLASS_CHANGE (R530). -/
def execFeedClassChange (f : Feed) (c : FeedClass) (enter : Bool) (s : State) : Host.Outcome State Fault Refusal :=
  done (s.feedChange (feedIx f) c enter)

/-- PRIMARY_FEED_RETURN (R528): PRIMARY was good for 100 ms. -/
def execPrimaryFeedReturn (n : SlotId) (s : State) : Host.Outcome State Fault Refusal :=
  done (let p := s.get F.SLOT_FEED_PRIMARY n.val
    if s.feedUsable n.val p then s.feedSwitch n.val p else s)

/-- FEED_DEAD_TIME_END (R529): the new feed's gate turns on. -/
def execFeedDeadTimeEnd (n : SlotId) (s : State) : Host.Outcome State Fault Refusal :=
  done (match (s.slot n.val).switching with
    | some f => (s.put F.SLOT_STATE_FEED_IN_USE f n.val).setSlot n.val { s.slot n.val with switching := none }
    | none => s)

/-- FEED_SWITCH_CHECK (R529): 100 µs after the new gate turned on. -/
def execFeedSwitchCheck (n : SlotId) (within : Bool) (s : State) : Host.Outcome State Fault Refusal :=
  done (if (s.slot n.val).checking && (s.slot n.val).switching.isNone then
      let s := s.setSlot n.val { s.slot n.val with checking := false }
      if within then s else s.trip n.val 5
    else s)

/-- SUPPLY_LOST_ENTRY (R531). -/
def execSupplyLostEntry (n : SlotId) (s : State) : Host.Outcome State Fault Refusal :=
  done (if s.slPowered n.val && !s.slSupplied n.val then
      let s := (s.put F.SLOT_ERR_SUPPLY_LOST 1 n.val).setSl n.val slSupplyLost
      s.setSlot n.val { s.slot n.val with pinsKept := s.flag F.SLOT_STATE_LONG_PIN n.val && s.flag F.SLOT_STATE_SHORT_PIN n.val }
    else s)

/-- SUPPLY_RETURN (R532): to Precharge with the pins kept and a valid curve (R521), otherwise to Seating. -/
def execSupplyReturn (n : SlotId) (s : State) : Host.Outcome State Fault Refusal :=
  done (if s.sl n.val == slSupplyLost && s.power.mains && (s.feedUsable n.val 0 || s.feedUsable n.val 1) then
      if (s.slot n.val).pinsKept && s.curveOk n.val then s.enterPrecharge n.val
      else (if (s.slot n.val).pinsKept then s.curveBad n.val else s).setSl n.val slSeating
    else s)

/-- SLOT_CTRL_ON (R536). -/
def execSlotCtrlOn (n : SlotId) (s : State) : Host.Outcome State Fault Refusal := done (s.slotOn n.val)

/-- SLOT_CTRL_OFF (R536). -/
def execSlotCtrlOff (n : SlotId) (s : State) : Host.Outcome State Fault Refusal := done (s.slotOff n.val)

/-- CLEAR_LOCKOUT (R525). -/
def execClearLockout (n : SlotId) (s : State) : Host.Outcome State Fault Refusal := done (s.slotClear n.val)

end Sys2Proof.Machine
end

