-- ==== Sys2Proof/Machine/Transactions.lean ====
section
/-!
DEFINITION. Binding Transactions and Epochs: the commands of checkers, commits, apply and charge (R236 to R239, R282 to
R300).
-/
namespace Sys2Proof.Machine

/-- CHECKER_DISABLE (R237). -/
def execCheckerDisable (c : Context) (s : State) : Host.Outcome State Fault Refusal := done (s.writeEn c.val false)

/-- CHECKER_ENABLE (R238). -/
def execCheckerEnable (c : Context) (s : State) : Host.Outcome State Fault Refusal := done (s.writeEn c.val true)

/-- CHECKER_ENABLED (R238): held requests are checked in the order they arrived. -/
def execCheckerEnabled (c : Context) (s : State) : Host.Outcome State Fault Refusal :=
  done (if s.txns.enabling.contains c.val then
      let s := (s.put F.CHK_CTRL_EN 1 c.val).withTxns (fun t => { t with enabling := t.enabling.filter (fun x => x != c.val),
                                                                                   dirty := t.dirty.filter (fun x => x != c.val) })
      s.takeWaiting (fun m => m.ctx == c.val)
    else s)

/-- CHECKER_HOLD_EXPIRED (R239). -/
def execCheckerHoldExpired (c : Context) (s : State) : Host.Outcome State Fault Refusal :=
  done (if s.flag F.CHK_CTRL_EN c.val then s
    else
      let s := (s.put F.CHK_CTRL_HOLD_EXPIRED 1 c.val).raise (s.checkerSource c.val) (chkInfo c.val)
      s.takeWaiting (fun m => m.ctx == c.val))

/-- WINDOW_DIRECT_WRITE (R236). -/
def execWindowDirectWrite (c : Context) (w : Fin 256) (r : WinReg) (v : BitVec 32) (s : State) : Host.Outcome State Fault Refusal :=
  done (s.writeWindow (match r with | .base => .WIN_BASE | .size => .WIN_SIZE | .attr => .WIN_ATTR) c.val w.val v.toNat)

/-- COMMIT_VALIDATED (R282). -/
def execCommitValidated (t : Fin 4) (s : State) : Host.Outcome State Fault Refusal := done (s.commitValidated t.val).allPauseChecks

/-- RECALL_WALK_DONE (R332): the walks of a commit's recalls have ended, or those of an UNFENCE_HOST. Cached entries that still record
the host are resolved first. -/
def execRecallWalkDone (what : RecallOf) (s : State) : Host.Outcome State Fault Refusal :=
  done (match what with
    | .commit t =>
      let x := s.tx t.val
      if s.txState t.val == txValidating then
        if x.recalls.all (fun e => s.recallIdle e.1 e.2) then
          let s := x.recalls.foldl (fun s e => s.recallEnd e.1 e.2) s
          s.setTx t.val { x with recalls := [] }
        else s.recallRest x.recalls
      else s
    | .unfence r host =>
      match s.runningOp (.unfence r.val host.val) with
      | some o =>
        if s.recallIdle r.val host.val then
          (((s.recallEnd r.val host.val).setFence r.val host.val false).endOperation o .ok)
        else s.recallRest [(r.val, host.val)]
      | none => s)

/-- TXN_IDLE_TIMEOUT (R276). -/
def execTxnIdleTimeout (t : Fin 4) (s : State) : Host.Outcome State Fault Refusal :=
  done (if s.txState t.val == txOpen then s.txClear t.val else s)

/-- HALF_APPLY (R290). -/
def execHalfApply (h : Half) (s : State) : Host.Outcome State Fault Refusal := done (s.halfApply (hix h))

/-- HALF_APPLY_QUIESCED (R290): `ok` says whether the copy met no error. -/
def execHalfApplyQuiesced (h : Half) (ok : Bool) (s : State) : Host.Outcome State Fault Refusal := done (s.halfQuiesced (hix h) ok).allPauseChecks

/-- APPLY_QUIESCE_TIMEOUT (R291). -/
def execApplyQuiesceTimeout (h : Half) (s : State) : Host.Outcome State Fault Refusal := done (s.halfQuiesced (hix h) false).allPauseChecks

/-- APPLIED_REPORT (R294): the Hearth receives APPLIED from a half. -/
def execAppliedReport (h : Half) (s : State) : Host.Outcome State Fault Refusal :=
  done (match s.applySlot with
    | some t => if (s.tx t).stepOf (hix h) == some ApplyStep.applied then (s.setStep t (hix h) ApplyStep.toldApplied).reports t else s
    | none => s).warmCheck.allPauseChecks

/-- APPLY_FAILED_REPORT (R290). -/
def execApplyFailedReport (h : Half) (s : State) : Host.Outcome State Fault Refusal :=
  done (match s.applySlot with
    | some t =>
      if (s.tx t).stepOf (hix h) == some ApplyStep.failed then ((s.setStep t (hix h) ApplyStep.toldFailed).raise 782 { cause := 0xFF }).reports t else s
    | none => s).warmCheck.allPauseChecks

/-- COMMIT_TIMEOUT (R294): 10 ms after APPLY the operation ends with TIMEOUT; the commit itself stays in its phase. -/
def execCommitTimeout (t : Fin 4) (s : State) : Host.Outcome State Fault Refusal :=
  done (let s := if s.txState t.val == txStaged then s.sendApply else s
    if s.txState t.val == txApplying || s.txState t.val == txUndoing then
      match s.runningOp (.commit t.val) with
      | some o => (s.endOperation o .timeout).raise 782
      | none => s
    else s)

/-- CHARGE_REASSERT (R295): relocation records are settled where the Hearth comes back from a reset (R395). -/
def execChargeReassert (s : State) : Host.Outcome State Fault Refusal :=
  done (if s.hearthDown then s.chargeReassert.rlSettle else s.chargeReassert).allPauseChecks

/-- CHARGE_RECEIVE (R295): a half with the epoch and ID of CHARGE leaves Hold and clears SPLIT; one that a stale CHARGE reaches
discards it and reports that (R32, R289). -/
def execChargeReceive (h : Half) (s : State) : Host.Outcome State Fault Refusal :=
  done (if s.txns.charge.contains (hix h) then
      let s := s.withTxns (fun t => { t with charge := t.charge.filter (fun x => x != hix h) })
      if s.get F.HALF_EPOCH_V (hix h) == s.get F.EPOCH_V && s.get F.HALF_COMMIT_V (hix h) == s.get F.COMMIT_ID_V then
        (s.put F.HALF_STATE_HOLD 0 (hix h)).put F.HALF_STATE_SPLIT 0 (hix h)
      else if s.staleAt (hix h) (s.get F.EPOCH_V) (s.get F.COMMIT_ID_V) then s.discardStale (hix h)
      else s
    else s)

end Sys2Proof.Machine
end

