-- ==== Sys2Proof/Machine/Views.lean ====
section
/-!
DEFINITION. What a read of a register returns (R13): the stored value, with the fields that report the live state of an
engine computed from it.
-/
namespace Sys2Proof.Machine

/-- A word with one field replaced; a value past the field's range reads as the field's largest. -/
def withFld (v : Word) (f : Fld) (x : Nat) : Word := Word.setBits v f.lo f.w (min x (2 ^ f.w - 1))

/-- A flag as a number. -/
def flagNat (b : Bool) : Nat := if b then 1 else 0

/-- A word with one flag replaced. -/
def withFlag (v : Word) (f : Fld) (b : Bool) : Word := withFld v f (flagNat b)

/-- A word with several fields replaced. -/
def withFlds (v : Word) (l : List (Fld × Nat)) : Word := l.foldl (fun v e => withFld v e.1 e.2) v

/-- Requests and descriptors that a disabled checker of a context holds (CHK_HELD, R237). -/
def State.checkerHolds (s : State) (c : Nat) : Nat :=
  (s.msgs.filter (fun m => decide (m.stage = .atChecker) && m.ctx == c)).length
    + (if s.flag F.CHK_CTRL_EN c then 0
       else ((List.range 28).filter (fun k => s.ch k == chRunning && (match (s.chan k).desc with
         | some d => (s.chan k).started && !d.priv && s.get F.STALL_BIND_HOST d.stall == c
         | none => false))).length)

/-- The stores that wait for a half at the Flue bridge (FLUE_STATUS): addresses of the port and half blocks. -/
def addrHalf (a : Nat) : Option Nat :=
  if 0x01000000 ≤ a ∧ a < 0x02000000 then some (if (a - 0x01000000) / 0x10000 < 48 then 0 else 1) else halfBlock a

/-- The hosts of the aggregator: the pending bits of one word (IA_PENDING). -/
def State.pendingWord (s : State) (i : Nat) : Nat :=
  ((List.range 32).map (fun j => if s.irqPending (32 * i + j) then 2 ^ j else 0)).sum

/-- Sources latched, one word of 32 (FC_LATCHED_MAP). -/
def State.latchedWord (s : State) (i : Nat) : Nat :=
  ((List.range 32).map (fun j => if s.flag F.FC_SRC_LATCHED (32 * i + j) then 2 ^ j else 0)).sum

/-- Milliseconds to a channel's backoff deadline, rounded up; 0 when none (SLOT_STATE, R539). -/
def State.backoffMs (s : State) (n : Nat) : Nat :=
  match (s.slot n).deadline with
  | some t => (t - s.now + 999999) / 1000000
  | none => 0

/-- Whether the eight Seam channels toward a half are aligned and Active (CLK_STATUS). -/
def State.seamAligned (s : State) (h : Nat) : Bool := (seamChannels h).all (fun l => s.sending l)

/-- Whether the meter entry of a Stall in a half is in force (R213). -/
def State.meterInForce (s : State) (h st : Nat) : Bool :=
  s.flag F.STALL_BIND_BOUND st && (match s.hostPort (s.get F.STALL_BIND_HOST st) with | some p => halfOf p == h | none => false)

/-- What a read of a register finds (R13). -/
def State.view (s : State) (k : Key) : Word :=
  let v := s.rd k.reg k.i k.j
  let i := k.i
  let j := k.j
  let tx := s.link (txRegs i)
  if s.roleAbsent k then resetWord k
  else match k.reg with
  | .PORT_STATUS => withFld v F.PORT_STATUS_ROLE_ACTIVE (s.role i)
  | .IDE_STATUS =>
      let pending (f : Fld) (v : Word) : Word := if s.flag F.IDE_CTRL_EN i && s.hasIde i && s.get f i == 0 then withFld v f 1 else v
      pending F.IDE_STATUS_TX (pending F.IDE_STATUS_RX v)
  | .LL_REPLAY => withFld v F.LL_REPLAY_UNACKED tx.replay.length
  | .LL_AVAIL_REQ =>
      withFlds v [(F.LL_AVAIL_REQ_HDR, (tx.available 0)),
        (F.LL_AVAIL_REQ_DATA, (tx.available 1))]
  | .LL_AVAIL_RSP =>
      withFlds v [(F.LL_AVAIL_RSP_HDR, (tx.available 2)),
        (F.LL_AVAIL_RSP_DATA, (tx.available 3))]
  | .BUF_SEAM_RESERVE => withFld v F.BUF_SEAM_RESERVE_V (s.seamReserve i).1
  | .BUF_ACTIVE_CELLS => withFld v F.BUF_ACTIVE_CELLS_V (s.activeCells i)
  | .BUF_SHARED_SIZE => withFld v F.BUF_SHARED_SIZE_V (s.sharedSize i)
  | .BUF_SHARED_USED => withFld v F.BUF_SHARED_USED_V (s.sharedUsed i)
  | .BUF_STATUS => withFlag v F.BUF_STATUS_OWN_CLOSED (s.poolClosed i)
  | .HDR_FREE => withFld v F.HDR_FREE_V (s.headersFree i)
  | .Q_OCC => withFld v F.Q_OCC_V ((s.queue i j).map Msg.blocks).sum
  | .Q_HOLD => withFld v F.Q_HOLD_V (s.reserveUsed i).1
  | .Q_RX_INFORCE => withFld v F.Q_RX_INFORCE_V (s.receiveReserve i).1
  | .METER_LEVEL =>
    if s.flag F.METER_CTRL_EN i j && s.meterInForce i j then
      withFlds v [(F.METER_LEVEL_PEAK, (s.tokens i j).2 / tokenUnits), (F.METER_LEVEL_COMMITTED, (s.tokens i j).1 / tokenUnits)]
    else 0
  | .CHK_HELD => withFld v F.CHK_HELD_V (s.checkerHolds i)
  | .STALL_OUTSTANDING => withFld v F.STALL_OUTSTANDING_V (s.stallMsgs i).length
  | .COMMIT_STATUS =>
      withFlds v [(F.COMMIT_STATUS_APPLYING, flagNat (s.applying)),
        (F.COMMIT_STATUS_REFUSING, flagNat (s.refusing)),
        (F.COMMIT_STATUS_QUEUED, s.txns.queue.length)]
  | .SLOT_COUNT =>
      withFlds v [(F.SLOT_COUNT_ENTRIES, (s.tx i).entries.length),
        (F.SLOT_COUNT_WRITES, (s.tx i).writes.length)]
  | .REGION_STATUS => s.regionView i
  | .COH_STATUS =>
      withFlds v [(F.COH_STATUS_LEDGER_CLEAN, flagNat ((!s.ledgerDirty i))),
        (F.COH_STATUS_FLOWS, (s.market.flows.filter (fun f => f.half == i)).length),
        (F.COH_STATUS_WAITING, (s.msgs.filter (fun m => decide (m.stage = .atHome) && m.dst == 124 + i)).length)]
  | .MKT_OUTSTANDING => withFld v F.MKT_OUTSTANDING_V (s.marketOut i)
  | .RELOC_HELD => withFld v F.RELOC_HELD_V (s.msgs.filter (fun m => m.wait == some i && m.half == i / 4)).length
  | .ISO_STATUS => BitVec.ofNat 64 s.isoStatus
  | .AUDIT_COUNT => withFld v F.AUDIT_COUNT_V s.flash.audit.length
  | .FLUE_STATUS =>
      withFlds v [(F.FLUE_STATUS_LINK_UP, flagNat ((!s.txns.lost.contains i))),
        (F.FLUE_STATUS_TO_HALF, (min 64 (s.hearth.queued.filter (fun q => !q.applied && addrHalf q.addr == some i)).length)),
        (F.FLUE_STATUS_TO_HEARTH, (min 64 (s.msgs.filter (fun m => decide (m.stage = .atHearth) && halfOf m.input == i)).length))]
  | .FC_SRC => withFlag v F.FC_SRC_CONDITION (s.conditionNow i)
  | .FC_STATUS =>
      withFlds v [(F.FC_STATUS_FAULT_N_LOW, flagNat ((s.flag F.FC_STATUS_ASH || s.signalled != 0))),
        (F.FC_STATUS_LATCHED_COUNT, s.signalled)]
  | .FC_LATCHED_MAP => BitVec.ofNat 64 (s.latchedWord i)
  | .FEED_STATUS =>
      withFlds v [(F.FEED_STATUS_A_GOOD, flagNat ((s.feedGood 0))),
        (F.FEED_STATUS_B_GOOD, flagNat ((s.feedGood 1)))]
  | .SLOT_SUMMARY =>
    BitVec.ofNat 64 ((List.range (if i = 0 then 32 else 16)).map (fun n => if s.sl (32 * i + n) == slOn then 2 ^ n else 0)).sum
  | .SLOT_STATE =>
      withFlds v [(F.SLOT_STATE_BACKOFF_MS, (s.backoffMs i)),
        (F.SLOT_STATE_PG, flagNat ((s.sl i == slOn)))]
  | .RST_STATUS =>
      withFlds v [(F.RST_STATUS_WARM_DEFERRED, flagNat (s.power.warmWaits.isSome)),
        (F.RST_STATUS_HALF_E, flagNat ((s.resetHalves.contains 0))),
        (F.RST_STATUS_HALF_W, flagNat ((s.resetHalves.contains 1))),
        (F.RST_STATUS_PORTS, s.resetPorts.length)]
  | .CLK_STATUS =>
      withFlds v [(F.CLK_STATUS_HCLK_LOCK, flagNat (true)),
        (F.CLK_STATUS_KCLK_RUN, flagNat (true)),
        (F.CLK_STATUS_SEAM_EW, flagNat ((s.seamAligned 1))),
        (F.CLK_STATUS_SEAM_WE, flagNat ((s.seamAligned 0)))]
  | .IA_PENDING => BitVec.ofNat 64 (s.pendingWord i)
  | .IA_ROUTE => if 326 ≤ i ∧ i ≤ 342 then BitVec.ofNat 64 (i - 326) else v
  | .WDT_KICK | .CORE_RETIRE | .CM_IMPRECISE_CLR | .FC_CLEAR | .FEED_CTRL | .DEBUG_CTRL | .PORTER_RETIRE | .IA_SOFT | .RST_CTRL
  | .IA_CLAIM => 0
  | _ => v

/-- What a read at an address finds: through the block of a half, that half's copy of the register (R290). -/
def State.viewAt (s : State) (addr : Nat) (k : Key) : Word :=
  match addrHalf addr with
  | some h => (s.wr k.reg (s.hrd h k.reg k.i k.j) k.i k.j).view k
  | none => s.view k

/-- The registers that show what is measured on the pins: currents and voltages, and the errors that a running pattern checker
found on its lane since the last read, in a count that saturates (R80, R81). Each read draws a value of its own (log entry 20). -/
def State.sense (s : State) (k : Key) : State :=
  match k.reg with
  | .SLOT_I =>
    let (x, s) := s.draw 24
    (s.put F.SLOT_I_CURRENT (x % 4096) k.i).put F.SLOT_I_PEAK (max (x % 4096) (x / 4096)) k.i
  | .LANE_SLIP =>
    let p := s.linkPort k.i
    if s.flag F.TEST_CTRL_CHK_EN p && s.get F.PHY_CTRL_TEST_MODE p != 0 then
      let (x, s) := s.draw 17
      (s.put F.LANE_SLIP_PRBS_LOCK (x % 2) k.i k.j).put F.LANE_SLIP_ERR_COUNT
        (min 65535 (s.get F.LANE_SLIP_ERR_COUNT k.i k.j + x / 2)) k.i k.j
    else s
  | .SLOT_V => (let (x, s) := s.draw 16; s.put F.SLOT_V_OUT_SENSE x k.i)
  | .FEED_V => (let (x, s) := s.draw 32; s.wr .FEED_V (BitVec.ofNat 64 x))
  | _ => s

end Sys2Proof.Machine
end

