-- ==== Sys2Proof/Machine/Access.lean ====
section
/-!
DEFINITION. Register accesses (R9 to R20): what a read returns and clears, and what a write does to each field by its access
code, with the registers whose rows state more. A write is given as the bits it covers (`m`) and their values (`v`).
-/
namespace Sys2Proof.Machine

/-! ## Fields (R13, R20) -/

/-- A register's contents after a write of the bits `m` acts on one field by its access code. -/
def FSpec.write (f : FSpec) (old v m : Nat) : Nat :=
  let bits := Nat.land f.mask m
  match f.acc with
  | .RW | .RWS => let n := blend bits old v; if f.allows (f.of n) then n else old
  | .W1C => old - Nat.land old (Nat.land bits v)
  | _ => old

/-- Whether every RW and RWS field of a register holds a used encoding. -/
def Reg.allAllowed (r : Reg) (n : Nat) : Bool :=
  (Reg.fields r).all (fun f => !(decide (f.acc = .RW) || decide (f.acc = .RWS)) || f.allows (f.of n))

/-- The contents of a register after the write acts on each field; a register that is written whole takes all or nothing. -/
def Reg.written (r : Reg) (old v m : Nat) : Nat :=
  if r.writeWhole && !r.allAllowed (blend (Nat.land (r.maskOf (fun f => decide (f.acc = .RW) || decide (f.acc = .RWS))) m) old v)
  then old
  else (Reg.fields r).foldl (fun o f => f.write o v m) old

/-- The fault of a direct write whose RWT bits differ from the committed value (R17). -/
def State.rwtFault (s : State) (k : Key) (v m : Nat) : State :=
  let bits := Nat.land (k.reg.maskOf (fun f => decide (f.acc = .RWT))) m
  if Nat.land bits v != Nat.land bits (s.rd k.reg k.i k.j).toNat then s.raise 782 { addr := some k.addr } else s

/-- The write acts field by field. -/
def State.fieldWrite (s : State) (k : Key) (v m : Nat) : State :=
  let s := s.rwtFault k v m
  s.wr k.reg (BitVec.ofNat 64 (k.reg.written (s.rd k.reg k.i k.j).toNat v m)) k.i k.j

/-! ## Registers whose rows state more -/

/-- QUENCH written in one half: the Stall reads Quenched while its entry in force holds it (R215, R248). -/
def State.quenchWrite (s : State) (h st : Nat) (b : Bool) : State :=
  let s := s.quenchHalf h st b
  if s.quenchSet st then (if s.stall st == stBound then s.setStall st stQuenched else s)
  else if s.stall st == stQuenched && !s.erasing st then s.setStall st stBound else s

/-- CM_IMPRECISE_CLR (R490). -/
def State.imprecClear (s : State) : State := s.put F.CM_IMPRECISE_ADDR_VALID 0

/-- A write of an adaptation override: the code of a tap other than 0x80, while FREEZE is set (R67, R68). -/
def dfeWritten (old v m : Nat) : Nat :=
  ([0, 8, 16, 24] : List Nat).foldl (fun o lo =>
    if m / 2 ^ lo % 2 == 1 && v / 2 ^ lo % 256 != 0x80 then blend (255 * 2 ^ lo) o v else o) old

/-- The bits that each word of an equalisation record holds; reserved ones stay 0, and FREEZE reads 0 (R88). -/
def recordMask (word : Nat) : Nat :=
  match word with
  | 1 => 0x80FF07FF
  | 2 | 3 => 0x3F3F3F3F
  | 4 => 0x0000073F
  | _ => 0xFFFFFFFF

/-- FEED_LEVELS and FEED_LEVELS2 exclude each other's levels (R538). -/
def State.feedLevelsOk (s : State) : Bool := decide (s.get F.FEED_LEVELS2_DROPOUT_LEVEL + 500 < s.get F.FEED_LEVELS_SAG_LEVEL)

/-- A write of a register of the global block or of a channel, table or unit that the whole-chip tables list. -/
def State.regWrite (s : State) (k : Key) (v m : Nat) : State :=
  let i := k.i
  let j := k.j
  let bit (n : Nat) : Bool := m / 2 ^ n % 2 == 1 && v / 2 ^ n % 2 == 1
  let touched (n : Nat) : Bool := m / 2 ^ n % 2 == 1
  if s.roleAbsent k then s
  else match k.reg with
  | .PHY_CTRL =>
    let test := v / 2 ^ 16 % 4
    let m := if test != 0 && s.linkState i != lsDisabled then m - Nat.land m (3 * 2 ^ 16) else m
    let s := s.fieldWrite k v m
    let s := if touched 16 && test == 0 then s.leaveTest i else s
    let s := if bit 24 then s.retrain i else s
    if bit 25 then s.saveEq i else s
  | .LOOPBACK_CTRL => s.loopbackCtrlWrite i v
  | .TEST_CTRL => s.testCtrlWrite i v
  | .MARGIN_CTRL =>
    let v := blend m (s.rd k.reg i).toNat v
    let go := if bit 31 then State.marginStart s i else s.marginFields i
    go (v / 2 ^ 28 % 8) (v / 2 ^ 27 % 2) (v / 2 ^ 26 % 2) (v / 2 ^ 16 % 64) (v % 64)
  | .BOND_CTRL => s.bondWrite i (v % 2 == 1)
  | .LANE_RETIRE => s.laneRetireWrite i (v % 256)
  | .LANE_SLIP => s.slipWrite i j (v % 128)
  | .LANE_RXEQ =>
    let frozen := s.flag F.LANE_RXEQ_FREEZE i j
    let s := s.putFlag F.LANE_RXEQ_FREEZE (v / 2 ^ 31 % 2 == 1) i j
    if frozen then
      let s := if v % 64 ≤ 36 then s.put F.LANE_RXEQ_CTLE (v % 64) i j else s
      if v / 2 ^ 8 % 8 ≤ 6 then s.put F.LANE_RXEQ_LF (v / 2 ^ 8 % 8) i j else s
    else s
  | .LANE_DFE0 | .LANE_DFE1 | .LANE_DFE2 =>
    if s.flag F.LANE_RXEQ_FREEZE i j then s.wr k.reg (BitVec.ofNat 64 (dfeWritten (s.rd k.reg i j).toNat v m)) i j else s
  | .LANE_EQ_RECORD =>
    let l := s.linkState (s.linkPort i)
    if l == lsDetect || l == lsDisabled || l == lsOff then s.fieldWrite k (Nat.land v (recordMask (j % 8))) m else s
  | .PORT_ERR => (s.fieldWrite k v m).irqTouch i
  | .LL_ERR => if i < 96 then (s.fieldWrite k v m).irqTouch i else s.fieldWrite k v m
  | .LL_INJECT => s.llInjectArm i v
  | .LL_INJECT_N | .LL_INJECT_MASK => if s.debugAllowed then s.fieldWrite k v m else s
  | .CENSUS_CFG =>
    let s := s.fieldWrite k v m
    if bit 31 then s.censusStart i else s
  | .BANK_CTRL => if bit 31 then s.bankRetire i j else s
  | .METER_CTRL =>
    let s := s.rwtFault k v m
    if touched 30 then s.quenchWrite i j (bit 30) else s
  | .HIST_CTRL =>
    let s := s.fieldWrite k v m
    if bit 30 then s.histClear i else s
  | .WIN_BASE | .WIN_SIZE | .WIN_ATTR => s.writeWindow k.reg i j v
  | .CHK_CTRL =>
    let s := s.fieldWrite k v (Nat.land m (3 * 2 ^ 29))
    if touched 31 && (bit 31 != s.flag F.CHK_CTRL_EN i || s.applying || s.txns.enabling.contains i) then s.writeEn i (bit 31) else s
  | .COH_CTRL =>
    let s := s.fieldWrite k v m
    if bit 30 then s.cohFlush i else s
  | .LEDGER_GROUP => if bit 31 then s.wayRetire i j (v / 2 ^ 21 % 32) else s
  | .CH_CTRL =>
    let s := ((s.fieldWrite k v m).irqTouch (192 + i)).chPauseCheck i
    let s := if bit 31 && !bit 30 then s.chStart i else s
    let s := if bit 30 then s.chAbort i else s
    if bit 29 then s.chTrigger i else s
  | .CH_HEAD => if s.ch i == chIdle then s.fieldWrite k v m else s
  | .CH_DOORBELL => (s.fieldWrite k v m).chDoorbell i
  | .CH_ERR => (s.fieldWrite k v m).irqTouch (192 + i)
  | .PORTER_RETIRE => if bit 31 && decide (v % 16 < 14) then s.chRetire (14 * i + v % 16) else s
  | .RELOC_CTRL =>
    let s := s.rwtFault k v m
    if touched 30 then s.rlSetPause i (bit 30) else s
  | .DEBUG_CTRL => if bit 0 then s.debugLock else s
  | .CORE_RETIRE => if bit 31 && decide (v % 32 < 17) then s.coreRetire (v % 32) else s
  | .WDT_CTRL => s.wdtCtrl v
  | .WDT_KICK => s.wdtKick v
  | .SP_REPAIR => if bit 31 then s.softRepair i (v / 2 ^ 16 % 1024) else s
  | .FLUE_ERR => (s.fieldWrite k v m).irqTouch (257 + i)
  | .CM_IMPRECISE_CLR => if bit 0 then s.imprecClear else s
  | .FC_SRC =>
    let s := s.setReaction i (v % 8)
    if bit 29 != s.flag F.FC_SRC_FORCE i then s.setForce i (bit 29) else s
  | .FC_CLEAR => s.clearSource (v % 1024)
  | .FEED_CFG =>
    let s := s.fieldWrite k v m
    let s := if s.feedPresent 0 then s else s.put F.FEED_STATUS_CLASS_A 0
    let s := if s.feedPresent 1 then s else s.put F.FEED_STATUS_CLASS_B 0
    (List.range 48).foldl (fun s n => s.failover n) s
  | .FEED_LEVELS | .FEED_LEVELS2 => let t := s.fieldWrite k v m; if t.feedLevelsOk then t else s
  | .BANK_BUDGET =>
    let t := s.fieldWrite k v m
    if t.get F.BANK_BUDGET_PHASE1 + t.get F.BANK_BUDGET_PHASE2 ≤ 6000 then t else s
  | .FEED_ERR => (s.fieldWrite k v m).irqTouch 325
  | .FEED_CTRL => if bit 0 then s.rearm (s.flag F.FEED_STATUS_PFAIL_LOW) else s
  | .SLOT_CTRL =>
    let s := s.fieldWrite k v m
    let s := if bit 29 then s.slotClear i else s
    if bit 30 then s.slotOff i else if bit 31 then s.slotOn i else s
  | .SLOT_FEED =>
    if v / 2 ^ 16 % 4 == 0 then s
    else
      let s := s.fieldWrite k v m
      if s.sl i == slOn && s.feedChoice i != s.get F.SLOT_STATE_FEED_IN_USE i then s.feedSwitch i (s.feedChoice i) else s
  | .PMU_CTRL =>
    let s := s.fieldWrite k v m
    if bit 30 then s.pmuReset (fun u => u == i) else s
  | .PMU_EVSEL => s.evselWrite i j v
  | .PMU_COUNT => if s.flag F.PMU_EVSEL_EN i j then s else s.fieldWrite k v m
  | .PMU_OVF => (s.fieldWrite k v m).irqTouch (343 + i)
  | .SNAP_CTRL => (s.fieldWrite k v m).irqTouch 268
  | .PMU_GLOBAL =>
    let s := s.fieldWrite k v m
    if bit 30 then s.pmuReset (fun _ => true) else s
  | .RST_CTRL => s.rstCtrl v
  | .IA_PENDING => (List.range 32).foldl (fun s n => if bit n then s.irqClear (32 * i + n) else s) s
  | .IA_ENABLE =>
    let mask := ((List.range 32).map (fun n => if irqUsed (32 * i + n) then 2 ^ n else 0)).sum
    s.fieldWrite k v (Nat.land m mask)
  | .IA_SOFT => s.irqSoft (v % 2048) (bit 31) (bit 30)
  | .IA_ROUTE => if 326 ≤ i ∧ i ≤ 342 then s else (s.fieldWrite k v m).irqTouch i
  | _ => s.fieldWrite k v m

/-! ## Reads -/

/-- What a core finds in IA_CLAIM (R596). -/
def State.claim (s : State) (c : Nat) : Nat :=
  match s.irqClaim c with
  | some n => 2 ^ 31 + n
  | none => 0

/-- The RC fields that bytes of a read touch return to 0 (R15). -/
def State.readClears (s : State) (k : Key) (m : Nat) : State :=
  let bits := k.reg.maskOf (fun f => decide (f.acc = .RC) && Nat.land f.mask m != 0)
  if bits == 0 then s else s.wr k.reg (BitVec.ofNat 64 (blend bits (s.rd k.reg k.i k.j).toNat 0)) k.i k.j

/-- `n` bytes within an aligned 4-byte word of the register blocks (R11, R12, R15). -/
def State.readWord (s : State) (a : Agent) (addr n : Nat) : List Byte × State :=
  match regAt addr with
  | none => (List.replicate n 0, s)
  | some (k, off) =>
    let s := s.sense k
    let m := (2 ^ (8 * n) - 1) * 2 ^ (8 * off)
    let v :=
      match a with
      | .core c => if k.reg = .IA_CLAIM then s.claim c.val else (s.viewAt addr k).toNat
      | _ => (s.viewAt addr k).toNat
    (leBytes n (v / 2 ^ (8 * off)), if a = .debug then s else s.readClears k m)

/-! ## Places an access may not reach -/

/-- The half whose registers an address reaches over a Flue link. -/
def farHalf (addr : Nat) : Option Nat :=
  if inScratchpad addr || inEmber addr then none
  else if 0x05800100 ≤ addr ∧ addr < 0x05800110 then some 0
  else if 0x05800120 ≤ addr ∧ addr < 0x05800130 then some 1
  else if 0x04300000 ≤ addr ∧ addr < 0x05000000 then
    match regAt addr with
    | some (k, _) =>
      match k.reg with
      | .PMU_CTRL | .PMU_OVF | .PMU_CYCLE | .PMU_EVSEL | .PMU_COUNT => pmuHalf k.i
      | _ => none
    | none => none
  else addrHalf addr

/-- Whether a half's registers answer: its Flue link is up and it is not in reset (R33, R488). -/
def State.farAnswers (s : State) (addr : Nat) : Bool :=
  match farHalf addr with
  | some h => !s.txns.lost.contains h && !s.resetHalves.contains h
  | none => true

/-- An access to a half's registers is an exit cause of Smoulder (R541). -/
def State.farWakes (s : State) (addr : Nat) : State :=
  if (farHalf addr).isSome && s.rung == rungSmoulder then s.exitCause else s

/-- Whether an agent is a Hearth core. -/
def isCore : Agent → Bool
  | .core _ => true
  | _ => false

/-- The registers that Porter channels and CXL.io requesters may not write (R591). -/
def Reg.coreOnly : Reg → Bool
  | .RST_CTRL | .RST_CAUSE | .IA_CLAIM | .IA_PENDING | .IA_ENABLE | .IA_ROUTE | .IA_SOFT | .CLK_STATUS | .CLK_GROUP_LOCK
  | .CLK_LOSS | .CLK_KCLK_CAL => true
  | _ => false

/-- The half whose Flue link carries an agent's accesses to the Hearth. -/
def agentHalf : Agent → Option Nat
  | .porter c => some (c.val / 14)
  | .cxl p => some (halfOf p.val)
  | _ => none

/-- The Flue link that does not answer an access: the agent's own, or that of the half it reaches (R33, R35, R488). -/
def State.flueDead (s : State) (a : Agent) (addr : Nat) : Option Nat :=
  match (agentHalf a).filter (fun h => s.txns.lost.contains h) with
  | some h => some h
  | none => if s.farAnswers addr then none else farHalf addr

/-- An address outside every block (R12); pool memory is closed to the debug port (R419). -/
def State.outside (s : State) (a : Agent) (addr : Nat) : State :=
  if a = .debug && decide (0x40000000 ≤ addr) then s.sealedDenied addr else s.raise 784 { addr := some addr }

/-- The words that an access touches, lowest first: the address of each one's first byte and the bytes in it (R484). -/
def wordsOf (addr len : Nat) : List (Nat × Nat) :=
  (List.range 3).filterMap (fun k =>
    let lo := max addr (addr / 4 * 4 + 4 * k)
    let hi := min (addr + len) (addr / 4 * 4 + 4 * k + 4)
    if lo < hi then some (lo, hi - lo) else none)

/-- Whether an access to the register blocks is accepted (R11, R484): 1 to 8 bytes; a write only where no piece of it is
narrower than a word. -/
def wordsOk (addr len : Nat) (write : Bool) : Bool :=
  decide (1 ≤ len) && decide (len ≤ 8) && (!write || (addr % 4 == 0 && len % 4 == 0))

/-- Whether an access stays inside the blocks of the block map from its first byte to its last (R12). -/
def spanInBlock (addr len : Nat) : Bool := inBlock addr && inBlock (addr + len - 1)

/-- Whether an access meets the sealed part of the scratchpad, which only cores reach (R410). -/
def sealedFrom (a : Agent) (addr len : Nat) : Bool :=
  !isCore a && inScratchpad addr && (inSealed addr || inSealed (addr + len - 1))

/-- The scratchpad and the Ember store take 1 to 64 bytes (R11). -/
def memLenOk (len : Nat) : Bool := decide (1 ≤ len) && decide (len ≤ 64)

/-- Counter units, which no host reads (R563). -/
def hiddenFrom (a : Agent) (addr : Nat) : Bool :=
  match a with
  | .cxl _ => decide (0x04300000 ≤ addr) && decide (addr < 0x05000000)
  | _ => false

/-- The words of a read, one after another (R486). -/
def State.readWords (s : State) (a : Agent) (l : List (Nat × Nat)) : List Byte × State :=
  l.foldl (fun (acc : List Byte × State) e => let (b, s) := acc.2.readWord a e.1 e.2; (acc.1 ++ b, s)) ([], s)

/-- A read of control memory by an agent (R11, R12, R35, R410, R419); none: an error response. -/
def State.busRead (s : State) (a : Agent) (addr len : Nat) : Option (List Byte) × State :=
  if sealedFrom a addr len then (none, s.sealedDenied addr)
  else if !spanInBlock addr len then (none, s.outside a addr)
  else
    let s := s.farWakes addr
    match s.flueDead a addr with
    | some h => (none, s.flueTimedOut h (some addr))
    | none =>
      if inScratchpad addr || inEmber addr then
        if !memLenOk len || (a = .debug && inEmber (addr + len - 1)) then (none, s)
        else (some (memGet s.mem addr len), if inScratchpad addr then s.touchBank addr else s)
      else if !wordsOk addr len false || hiddenFrom a addr then (none, s)
      else let (b, s) := s.readWords a (wordsOf addr len); (some b, s)

/-- One aligned 4-byte write to the register blocks: whether it was accepted. -/
def State.writeWord (s : State) (a : Agent) (addr v : Nat) : Bool × State :=
  match regAt addr with
  | none => (true, s)
  | some (k, off) =>
    if k.reg.coreOnly && !isCore a && a ≠ .debug then (false, s.raise 784 { addr := some addr })
    else (true, s.regWrite k (v * 2 ^ (8 * off)) ((2 ^ 32 - 1) * 2 ^ (8 * off)))

/-- A write through the Flue bridge releases the semaphore of its granule (R467). -/
def State.semWrite (s : State) (addr : Nat) : State :=
  if (farHalf addr).isSome then
    s.withHearth (fun h => { h with sems := h.sems.filter (fun (e : Nat × Nat) => e.2 != addr / 64) })
  else s

/-- A write of control memory by an agent (R11, R12, R35, R410, R419, R484): whether it was accepted. -/
def State.busWrite (s : State) (a : Agent) (addr : Nat) (data : List Byte) : Bool × State :=
  let len := data.length
  if sealedFrom a addr len then (false, s.sealedDenied addr)
  else if !spanInBlock addr len then (false, s.outside a addr)
  else
    let s := s.farWakes addr
    match s.flueDead a addr with
    | some h => (false, s.flueTimedOut h (some addr))
    | none =>
      if inScratchpad addr || inEmber addr then
        if !memLenOk len || (a = .debug && inEmber (addr + len - 1)) then (false, s)
        else
          let s := if a = .debug then s.debugWrote else s
          (true, (if inScratchpad addr then s.touchBank addr else s).memStore addr data)
      else if !wordsOk addr len true || hiddenFrom a addr then (false, s)
      else
        let s := s.semWrite addr
        if len == 4 then s.writeWord a addr (leNat data)
        else
          let (x, s) := s.writeWord a addr (leNat (data.take 4))
          let (y, s) := s.writeWord a (addr + 4) (leNat (data.drop 4))
          (x && y, s)

/-- Whether an agent runs: a core that is active, not halted and not in reset; the rest while the Hearth is. -/
def State.agentRuns (s : State) (a : Agent) : Bool :=
  !s.hearthDown && s.rung != rungBanked && s.rung != rungEmber
    && (match a with
      | .core c => s.coreActive c.val && !(s.core c.val).halted
      | .debug => s.debugUnlocked
      | _ => true)

/-- An access of an agent that waits for no answer ended in an error: a bus error of a core, a fault of a CXL.io requester's port
(R479). -/
def State.errorTo (s : State) (a : Agent) : State :=
  match a with
  | .core c => s.emit (.busError c.val)
  | .cxl p => s.raise (8 * p.val + 1) { host := (if s.isHostPort p.val then some (s.get F.PORT_CFG_HOST_ID p.val) else none) }
  | _ => s.emit .accessError

/-- A register write of one agent as a whole (R13). -/
def State.registerWrite (s : State) (a : Agent) (addr : Nat) (data : List Byte) : State :=
  if s.agentRuns a then
    let s := match a with | .cxl p => s.consume p.val | _ => s
    let (ok, s) := s.busWrite a addr data
    if ok then s else s.errorTo a
  else s

/-- REGISTER_WRITE (R13): each field takes the write by its access code. -/
def execRegisterWrite (a : Agent) (addr : BitVec 64) (data : List Byte) (s : State) : Host.Outcome State Fault Refusal :=
  done (s.registerWrite a addr.toNat data)

end Sys2Proof.Machine
end

