-- ==== Sys2Proof/Machine/Porter.lean ====
section
/-!
DEFINITION. The commands of the Porter channels (R344 to R371): control, descriptor fetch, the data path, completion.
-/
namespace Sys2Proof.Machine

/-! ## Errors of the Hearth's memories (R459) -/

/-- SECDED on an access: a corrected error is counted in its bank; an uncorrectable one is counted and raises its source. The
Ember store has no counter. The answer says whether the access succeeds. -/
def State.eccSeen (s : State) (addr : Nat) (e : MemErr) : Bool × State :=
  let b := bankOf addr
  match e with
  | .good => (true, s)
  | .corrected col =>
    if inScratchpad addr then
      let n := if s.get F.WEAR_SP_COLUMN_LAST_COLUMN b == col.val then s.get F.WEAR_SP_COLUMN_COUNT b else 0
      let s := (s.bump F.SP_BANK_CE_V 1 b).put F.WEAR_SP_COLUMN_LAST_COLUMN col.val b
      (true, s.put F.WEAR_SP_COLUMN_COUNT (min 65535 (n + 1)) b)
    else (true, s)
  | .uncorrectable =>
    if inScratchpad addr then (false, (s.bump F.SP_BANK_UE_V 1 b).raise 785 { addr := some addr })
    else if inEmber addr then (false, s.raise 786 { addr := some addr })
    else (true, s)

/-- A read over the Flue link by a channel (R356, R369). -/
def State.porterRead (s : State) (c : Fin 28) (addr len : Nat) (e : MemErr) : Option (List Byte) × State :=
  if s.hearthDown && (farHalf addr).isNone then (none, s)
  else
    match (s.count 226 1 1).busRead (.porter c) addr len with
    | (some b, s) => let (ok, s) := s.eccSeen addr e; (if ok then some b else none, s)
    | (none, s) => (none, s)

/-- A write over the Flue link by a channel (R356, R369): whether it was accepted. -/
def State.porterWrite (s : State) (c : Fin 28) (addr : Nat) (data : List Byte) : Bool × State :=
  if s.hearthDown && (farHalf addr).isNone then (false, s) else (s.count 226 1 1).busWrite (.porter c) addr data

/-! ## Control -/

/-- CH_START (R361). -/
def execChStart (c : Fin 28) (s : State) : Host.Outcome State Fault Refusal := done (s.chStart c.val)

/-- CH_ABORT (R366). -/
def execChAbort (c : Fin 28) (s : State) : Host.Outcome State Fault Refusal := done (s.chAbort c.val)

/-- CH_TRIGGER (R364). -/
def execChTrigger (c : Fin 28) (s : State) : Host.Outcome State Fault Refusal := done (s.chTrigger c.val)

/-- CH_PAUSE (R368). -/
def execChPause (c : Fin 28) (b : Bool) (s : State) : Host.Outcome State Fault Refusal :=
  done ((s.putFlag F.CH_CTRL_PAUSE b c.val).chPauseCheck c.val)

/-- PORTER_DOORBELL (R362). -/
def execPorterDoorbell (c : Fin 28) (v : BitVec 32) (s : State) : Host.Outcome State Fault Refusal :=
  done ((s.put F.CH_DOORBELL_V v.toNat c.val).chDoorbell c.val)

/-- PORTER_PACE_TIMER (R364, R365): below Blaze the timer's expiry is an exit cause and no event (R541). -/
def execPorterPaceTimer (c : Fin 28) (s : State) : Host.Outcome State Fault Refusal :=
  done (if s.get F.CH_PACE_TRIG_SRC c.val == 1 && s.get F.CH_PACE_PERIOD c.val != 0 then
      (if s.atBlaze (c.val / 14) then s.chTrigger c.val else s.exitCause)
    else s)

/-- PORTER_RETIRE (R370). -/
def execPorterRetire (c : Fin 28) (s : State) : Host.Outcome State Fault Refusal := done (s.chRetire c.val)

/-! ## Descriptor fetch (R349 to R351) -/

/-- The 64 bytes at an address, read as a privileged requester; none: a bus error or poisoned data; the checker of context 95
may hold the read. -/
inductive Fetched where
  | bytes (b : List Byte)
  | failed
  | waits

/-- A fetch. A descriptor in a register block is no descriptor chain of R349: its fetch fails. -/
def State.fetch (s : State) (c : Fin 28) (addr : Nat) (f : FetchIn) : Fetched × State :=
  match s.privPath c.val addr 64 false with
  | .internal =>
    if (inScratchpad addr || inEmber addr) && f ≠ .error then
      match s.porterRead c addr 64 .good with
      | (some b, s) => (.bytes b, s)
      | (none, s) => (.failed, s)
    else (.failed, s)
  | .device _ =>
    match f with
    | .data b => (.bytes ((b ++ List.replicate 64 0).take 64), s)
    | _ => (.failed, s)
  | .denied ctx p => (.failed, s.countDenied ctx [p])
  | .busError n => (.failed, if n then s.raise 784 { addr := some addr } else s)
  | .waits => (.waits, s)

/-- A failed fetch halts the channel (R349). -/
def State.chHalt (s : State) (c addr : Nat) : State :=
  let s := s.chErr F.CH_ERR_FETCH_ERR c (some addr)
  (s.setChan c { serial := (s.chan c).serial, lateErr := (s.chan c).lateErr, worst := (s.chan c).worst }).chEnds c chHalted .faulted

/-- A fetched descriptor is checked and started (R350, R351, R364). -/
def State.chTakeDesc (s : State) (c : Nat) (d : Descriptor) : State :=
  let x := s.chan c
  let s := s.setChan c { serial := x.serial, lateErr := x.lateErr, worst := x.worst, desc := some d }
  if d.invalid then s.setChan c { s.chan c with refused := 5 }
  else if d.priv && !s.flag F.CH_CFG_PRIV_OK c then s.setChan c { s.chan c with refused := 6 }
  else if !d.priv && s.stall d.stall != stBound then s.chBus c (if d.fill then d.dst else d.src) false
  else if d.at 27 1 == 1 then s.chWaits c
  else s.chStartDesc c

/-- DESCRIPTOR_FETCH (R349): the fetch that is out returns. -/
def execDescriptorFetch (c : Fin 28) (f : FetchIn) (s : State) : Host.Outcome State Fault Refusal :=
  done (if s.ch c.val == chRunning && (s.chan c.val).fetching then
      let addr := s.get F.CH_CUR_V c.val
      match s.fetch c addr f with
      | (.bytes b, s) => s.chTakeDesc c.val (descriptorOf b)
      | (.failed, s) => s.chHalt c.val addr
      | (.waits, s) => s
    else s)

/-- TAIL_REREAD (R362). -/
def execTailReread (c : Fin 28) (f : FetchIn) (s : State) : Host.Outcome State Fault Refusal :=
  done (if s.ch c.val == chAtTail && (s.chan c.val).rereading then
      let addr := s.get F.CH_CUR_V c.val
      match s.fetch c addr f with
      | (.bytes b, s) =>
        let d := descriptorOf b
        let s := s.setChan c.val { s.chan c.val with rereading := false }
        if d.tail then s.chDoorbell c.val else s.chGo c.val d.next
      | (.failed, s) => s.chHalt c.val addr
      | (.waits, s) => s
    else s)

/-! ## The data path (R352 to R357) -/

/-- The bytes of PATTERN for a write (R355). -/
def Descriptor.fillBytes (d : Descriptor) (addr n : Nat) : List Byte :=
  (List.range n).map (fun i => BitVec.ofNat 8 (d.pattern / 2 ^ (8 * ((addr + i) % 8)) % 256))

/-- One destination access (R352, R356, R357); none while the checker holds it. -/
def State.chPut1 (s : State) (c : Fin 28) (d : Descriptor) (data : List Byte) (poison : Bool) : Option State :=
  let addr := d.dstAt (s.chan c.val).put
  let len := data.length
  let went (s : State) : State := s.setChan c.val { s.chan c.val with put := (s.chan c.val).put + len }
  match s.porterPath c.val d addr len true with
  | .internal =>
    let (ok, s) := s.porterWrite c addr data
    some (if ok then went s else s.chBus c.val addr false)
  | .device m => some (went (s.agentSend (c.val / 14) { m with data := data, poison := poison, blocks := (len + 63) / 64 }).2)
  | .denied ctx p =>
    let s := s.countDenied ctx [p]
    some (went (s.setChan c.val { s.chan c.val with denied := true, dropped := (s.chan c.val).dropped + len }))
  | .busError n => some (s.chBus c.val addr n)
  | .waits => none

/-- Issue destination accesses while the register holds DST_WIDTH bytes (R354); for fill, from PATTERN. -/
def State.chPut (s : State) (c : Fin 28) (d : Descriptor) : Nat → State
  | 0 => s
  | n + 1 =>
    let x := s.chan c.val
    let w := d.dstWidth
    if x.bad || d.length ≤ x.put then s
    else if d.fill then
      match s.chPut1 c d (d.fillBytes (d.dstAt x.put) w) false with
      | some t => t.chPut c d n
      | none => s
    else if x.pack.length < w then s
    else
      let out := x.pack.take w
      let t := s.setChan c.val { x with pack := x.pack.drop w }
      match t.chPut1 c d (out.map Prod.fst) (out.any Prod.snd) with
      | some u => u.chPut c d n
      | none => s

/-- Source bytes enter the packing register. -/
def State.chPack (s : State) (c : Nat) (b : List Byte) (poison : Bool) : State :=
  let x := s.chan c
  (s.setChan c { x with pack := x.pack ++ b.map (fun v => (v, poison)), poisoned := x.poisoned || poison }).count (222 + c / 14) 0
    ((b.length + 63) / 64)

/-- The oldest source access that is out returns, if its data is there (R354, R356). -/
def State.chTakeRead (s : State) (c : Fin 28) (e : MemErr) : State :=
  let x := s.chan c.val
  match x.reads with
  | [] => s
  | r :: rest =>
    let popped (s : State) : State := s.setChan c.val { s.chan c.val with reads := rest }
    if r.zeros then (popped s).chPack c.val (List.replicate r.len 0) false
    else match r.msg with
      | none =>
        match s.porterRead c r.addr r.len e with
        | (some b, s) => (popped s).chPack c.val b false
        | (none, s) => (popped s).chBus c.val r.addr false
      | some id =>
        match s.msgs.find? (fun m => m.id == id && m.input == 96 + c.val) with
        | none => (popped s).chBus c.val r.addr false
        | some m =>
          if decide (m.stage = .returned) then
            let s := popped (s.remove m)
            if m.squashed then s.chBus c.val r.addr false else s.chPack c.val ((m.data ++ List.replicate r.len 0).take r.len) m.poison
          else s

/-- PORTER_READ_RETURN (R354): the oldest source access that is out returns, the writes that its bytes allow are issued (at most
128 of them; a fill issues 128 in one command), and the next source accesses. -/
def execPorterReadReturn (c : Fin 28) (e : MemErr) (s : State) : Host.Outcome State Fault Refusal :=
  done (
    let s := s.chTakeFailed c.val
    match (s.chan c.val).desc with
    | some d =>
      if (s.chan c.val).started && !(s.chan c.val).bad then
        let s := (s.chIssue c.val 16).chTakeRead c e
        (s.chPut c d 128).chIssue c.val 16
      else s
    | none => s)

/-! ## The end of a descriptor -/

/-- DESCRIPTOR_COMPLETE (R348, R358). -/
def execDescriptorComplete (c : Fin 28) (s : State) : Host.Outcome State Fault Refusal := done (s.chComplete c.val)

/-- PORTER_LATE_WRITE_ERROR (R359). -/
def execPorterLateWriteError (c : Fin 28) (s : State) : Host.Outcome State Fault Refusal := done (s.chTakeFailed c.val)

end Sys2Proof.Machine
end

