-- ==== Sys2Proof/Machine/Hearth.lean ====
section
/-!
DEFINITION. Hearth cores and control memory: the commands of the Hearth cluster and control memory ordering chapters (R455 to
R491).
-/
namespace Sys2Proof.Machine

/-! ## Targets and errors -/

/-- The target of an address (R471). -/
def targetOf (addr : Nat) : Target :=
  if inScratchpad addr then .bank ⟨bankOf addr % 16, Nat.mod_lt _ (by decide)⟩
  else if inEmber addr then .ember
  else if 0x04000000 ≤ addr ∧ addr < 0x04100000 then .grate
  else match farHalf addr with
    | some 0 => .half .east
    | some _ => .half .west
    | none => .hearth

/-- Whether an address lies in a Normal region (R471). -/
def isNormal (addr : Nat) : Bool := inScratchpad addr || inEmber addr

/-- The Porter channel blocks of the halves, which take posted bulk writes (R465). -/
def inPostedBlock (addr : Nat) : Bool :=
  match halfBlock addr with
  | some _ => let off := addr % 0x01000000; decide (0x00500000 ≤ off) && decide (off < 0x00500E00)
  | none => false

/-- Whether the stores of a region may be acknowledged early (R475). -/
def State.earlyAck (s : State) (addr : Nat) (posted : Bool) : Bool :=
  posted || (inScratchpad addr && s.flag F.CM_EARLY_ACK_SCRATCHPAD) || (inEmber addr && s.flag F.CM_EARLY_ACK_EMBER)

/-- An imprecise error of a core's store (R479). -/
def State.imprecise (s : State) (c addr : Nat) : State :=
  let s := (s.bump F.CM_IMPRECISE_COUNT_V 1).irqEvent (326 + c)
  if s.flag F.CM_IMPRECISE_ADDR_VALID then s
  else ((s.put F.CM_IMPRECISE_ADDR_ADDRESS addr).put F.CM_IMPRECISE_ADDR_CORE c).put F.CM_IMPRECISE_ADDR_VALID 1

/-- A posted write to a half ended in an error (R465). -/
def State.postedErr (s : State) (h addr : Nat) : State :=
  let s := if s.flag F.FLUE_ERR_POSTED_ERR h then s else s.put F.FLUE_POSTED_ADDR_V addr h
  ((s.setErr F.FLUE_ERR_POSTED_ERR h (780 + h) { addr := some addr }).irqTouch (257 + h)).bump F.FLUE_POSTED_COUNT_V 1 h

/-- A core's store ended in an error (R465, R479). -/
def State.storeFailed (s : State) (q : QueuedStore) : State :=
  let s := if q.posted then s.postedErr ((addrHalf q.addr).getD 0) q.addr else s
  s.imprecise q.core q.addr

/-! ## Store buffers (R470 to R475) -/

/-- Bytes `a` to `a + n - 1` and `b` to `b + m - 1` meet. -/
def overlaps (a n b m : Nat) : Bool := decide (a < b + m) && decide (b < a + n)

/-- Stores of a core that a target has queued and that have not ended. -/
def State.queuedOf (s : State) (c : Nat) : List QueuedStore := s.hearth.queued.filter (fun q => q.core == c)

/-- Posted writes of a core to a half that are still to be acknowledged (R466). -/
def State.postedTo (s : State) (c h : Nat) : Bool :=
  (s.queuedOf c).any (fun q => q.posted && addrHalf q.addr == some h)
    || (s.core c).buffer.any (fun b => b.posted && addrHalf b.addr == some h)

/-- The buffer's oldest entry is issued (R463, R466, R475). -/
def State.storeIssue (s : State) (c : Nat) : State :=
  match (s.core c).buffer with
  | [] => s
  | b :: rest =>
    let waits := match farHalf b.addr with
      | some h => (!b.posted && (s.queuedOf c).any (fun q => q.posted && addrHalf q.addr == some h))
          || decide (64 ≤ (s.hearth.queued.filter (fun q => farHalf q.addr == some h)).length)
      | none => false
    if b.issued || waits then s
    else
      let early := s.earlyAck b.addr b.posted
      let s := s.setCore c { s.core c with buffer := (if early then rest else { b with issued := true } :: rest) }
      let s := s.withHearth (fun h => { h with queued := h.queued ++
        [{ core := c, addr := b.addr, data := b.data, posted := b.posted, retired := early }] })
      if (farHalf b.addr).isSome then s.count 226 0 1 else s

/-- A queued store ends: it leaves its target's queue, and its entry retires if it has not. -/
def State.storeEnds (s : State) (q : QueuedStore) : State :=
  let s := s.withHearth (fun h => { h with queued := h.queued.erase q })
  if q.retired then s
  else s.setCore q.core { s.core q.core with buffer := (s.core q.core).buffer.drop 1 }

/-- A store applies at its target: whether it was accepted (R471). -/
def State.storeApply (s : State) (q : QueuedStore) : Bool × State :=
  if h : q.core < 17 then s.busWrite (.core ⟨q.core, h⟩) q.addr q.data else (false, s)

/-- The target applies the oldest store that it has queued (R471, R475); a half reports it over the Flue link later (R464). -/
def State.takesEffect (s : State) (t : Target) : State :=
  match s.hearth.queued.find? (fun q => decide (targetOf q.addr = t) && !q.applied) with
  | none => s
  | some q =>
    if (farHalf q.addr).isSome then
      if !s.farAnswers q.addr then s
      else
        let (ok, s) := s.storeApply q
        s.withHearth (fun h => { h with queued := h.queued.map (fun (x : QueuedStore) =>
          if x = q then { x with applied := true, failed := !ok } else x) })
    else
      let (ok, s) := s.storeApply q
      let s := s.storeEnds q
      if ok then s else s.storeFailed q

/-- The far side's report of the oldest applied store to a half (R464). -/
def State.farReports (s : State) (h : Nat) : State :=
  match s.hearth.queued.find? (fun q => farHalf q.addr == some h && q.applied) with
  | none => s
  | some q => if q.failed then (s.storeEnds q).storeFailed q else s.storeEnds q

/-! ## Cores (R473 to R483) -/

/-- The value that a load finds in the core's own stores: `some none` where it must wait (R473). -/
def State.forwarded (s : State) (c addr len : Nat) : Option (Option (List Byte)) :=
  match ((s.core c).buffer.filter (fun b => overlaps b.addr b.data.length addr len)).getLast? with
  | some b =>
    if b.addr ≤ addr ∧ addr + len ≤ b.addr + b.data.length then some (some ((b.data.drop (addr - b.addr)).take len)) else some none
  | none => if (s.queuedOf c).any (fun q => overlaps q.addr q.data.length addr len && !q.applied) then some none else none

/-- A core's semaphore of a half granule is released (R467). -/
def State.semRelease (s : State) (c : Nat) : State :=
  s.withHearth (fun h => { h with sems := h.sems.filter (fun (e : Nat × Nat) => e.1 != c) })

/-- A reserve-load takes its reservation (R467, R481, R482). -/
def State.takeReservation (s : State) (c addr : Nat) : State :=
  let s := (s.semRelease c).setCore c { s.core c with reserved := none }
  if isNormal addr then s.setCore c { s.core c with reserved := some (addr / 64) }
  else if (farHalf addr).isSome then
    s.withHearth (fun h => { h with sems := (if 16 ≤ h.sems.length then h.sems.drop 1 else h.sems) ++ [(c, addr / 64)] })
  else s

/-- Whether a core holds the reservation of an address. -/
def State.holdsReservation (s : State) (c addr : Nat) : Bool :=
  if isNormal addr then (s.core c).reserved == some (addr / 64)
  else s.hearth.sems.contains (c, addr / 64)

/-- A bus error is an exception that the core takes: it loses a reservation in a Normal region (R479, R482). -/
def State.coreError (s : State) (c : Nat) : State := (s.setCore c { s.core c with reserved := none }).emit (.busError c)

/-- A core reads control memory and reports the value or a bus error. -/
def State.coreRead (s : State) (c addr len : Nat) (e : MemErr) : State :=
  if h : c < 17 then
    let s := if (farHalf addr).isSome then s.count 226 0 1 else s
    match s.busRead (.core ⟨c, h⟩) addr len with
    | (some b, s) =>
      let (ok, s) := s.eccSeen addr e
      if ok then s.emit (.loaded c (leNat b)) else s.coreError c
    | (none, s) => s.coreError c
  else s

/-- A core's barrier is satisfied (R466, R477). -/
def State.drained (s : State) (c : Nat) : Bool := (s.core c).buffer.isEmpty && (s.queuedOf c).isEmpty

/-- One operation of a core, if it may be performed now. -/
def State.coreOp (s : State) (c : Nat) (o : CoreOp) : Option State :=
  match o with
  | .load addr len e =>
    match s.forwarded c addr len with
    | some (some b) => some (s.emit (.loaded c (leNat b)))
    | some none => none
    | none =>
      match farHalf addr with
      | some h => if !s.farAnswers addr || s.postedTo c h then none else some (s.coreRead c addr len e)
      | none => some (s.coreRead c addr len e)
  | .store addr data posted =>
    if posted && !inPostedBlock addr then
      some ((s.raise (780 + (addrHalf addr).getD 0) { addr := some addr }).coreError c)
    else if 16 ≤ (s.core c).buffer.length then none
    else some (s.setCore c { s.core c with buffer := (s.core c).buffer ++ [{ addr := addr, data := data, posted := posted }] })
  | .fence => if s.drained c then some (s.emit (.fenced c)) else none
  | .reserveLoad addr len e =>
    let own := (s.core c).buffer.any (fun b => overlaps b.addr b.data.length (addr / 64 * 64) 64)
      || (s.queuedOf c).any (fun q => overlaps q.addr q.data.length (addr / 64 * 64) 64)
    if own || !s.farAnswers addr || (match farHalf addr with | some h => s.postedTo c h | none => false) then none
    else some ((s.coreRead c addr len e).takeReservation c addr)
  | .condStore addr data interrupted =>
    if !s.drained c then none
    else
      let s := if interrupted then s.setCore c { s.core c with reserved := none } else s
      let free (s : State) : State := (s.semRelease c).setCore c { s.core c with reserved := none }
      if !s.holdsReservation c addr then some (((free s).bump F.CM_RESV_FAILS_V 1).emit (.condStored c false))
      else if !s.farAnswers addr then none
      else
        let s := if (farHalf addr).isSome then (free s).count 226 0 1 else free s
        let (ok, s) := s.storeApply { core := c, addr := addr, data := data, posted := false, retired := false }
        some (if ok then s.emit (.condStored c true) else s.coreError c)

/-- Run a core's operations in program order as far as they go. -/
def State.runCore (s : State) (c : Nat) : Nat → State
  | 0 => s
  | n + 1 =>
    match (s.core c).ops with
    | [] => s
    | o :: rest =>
      if (s.core c).halted then s
      else match s.coreOp c o with
        | some t => (t.setCore c { t.core c with ops := rest }).runCore c n
        | none => s

/-- Every core goes on as far as it can. -/
def State.runCores (s : State) : State :=
  (s.hearth.cores.map Prod.fst).foldl (fun s c => s.runCore c ((s.core c).ops.length + 1)) s

/-- A core issues an operation: nothing where the core does not run. -/
def State.coreIssue (s : State) (c : Fin 17) (o : CoreOp) : State :=
  if s.agentRuns (.core c) then
    (s.setCore c.val { s.core c.val with ops := (s.core c.val).ops ++ [o] }).runCore c.val ((s.core c.val).ops.length + 1)
  else s

/-! ## Flue bridge time-outs (R35, R464) -/

/-- A transfer to a half gets no answer: the oldest store, or else a load that waits for the half. -/
def State.flueTimeout (s : State) (h : Nat) : State :=
  match s.hearth.queued.find? (fun q => farHalf q.addr == some h) with
  | some q => (((s.flueTimedOut h (some q.addr)).storeEnds q).storeFailed q).runCores
  | none =>
    let blocked (e : Nat × CoreUnit) : Option (Nat × Nat) :=
      match e.2.ops with
      | .load addr _ _ :: _ | .reserveLoad addr _ _ :: _ | .condStore addr _ _ :: _ =>
        if farHalf addr == some h && !s.farAnswers addr then some (e.1, addr) else none
      | _ => none
    match s.hearth.cores.findSome? blocked with
    | some (c, addr) =>
      let s := (s.flueTimedOut h (some addr)).coreError c
      let s := s.irqEvent (326 + c)
      (s.setCore c { s.core c with ops := (s.core c).ops.drop 1 }).runCores
    | none => s

/-- A store to the Grate gets no answer within 2 ms: the oldest ends with an error (R480). -/
def State.grateTimeout (s : State) : State :=
  match s.hearth.queued.find? (fun q => decide (targetOf q.addr = .grate)) with
  | some q => ((s.storeEnds q).storeFailed q).runCores
  | none => s

/-- FLUE_TRANSFER_TIMEOUT (R35, R464, R480). -/
def execFlueTransferTimeout (x : Silent) (s : State) : Host.Outcome State Fault Refusal :=
  done (match x with
    | .half h => s.flueTimeout (hix h)
    | .grate => s.grateTimeout)

/-- A register access of a CXL.io requester completes: the oldest message of its port, reads after the port's earlier writes
(R478, R479); during a Hearth-only reset it ends in an error (R468), and an uncorrectable error is Completer Abort (R459). -/
def State.cxlCompletes (s : State) (p : Port) (e : MemErr) : State :=
  match s.msgs.find? (fun m => decide (m.stage = .atHearth) && m.input == p.val) with
  | none => s
  | some m =>
    if s.hearthDown then
      if m.op = .ioWrite then (s.remove m).errorTo (.cxl p)
      else if m.op = .ioRead then (s.remove m).emit (.completerAbort p m.id)
      else s
    else if m.op = .ioWrite then
      let (ok, s) := (s.remove m).busWrite (.cxl p) m.addr m.data
      if ok then s else s.errorTo (.cxl p)
    else if m.op = .ioRead then
      match (s.remove m).busRead (.cxl p) m.addr m.len with
      | (some b, s) =>
        let (ok, s) := s.eccSeen m.addr e
        s.say p.val (if ok then .data m.id b else .abort m.id)
      | (none, s) => s.say p.val (.abort m.id)
    else s

/-- FLUE_RESPONSE (R464). -/
def execFlueResponse (w : FlueWho) (s : State) : Host.Outcome State Fault Refusal :=
  done (match w with
    | .hearth h => (s.farReports (hix h)).runCores
    | .cxl p e => s.cxlCompletes p e)

/-- SEMAPHORE_EXPIRY (R467): 4 µs after a core's entry was taken. -/
def execSemaphoreExpiry (c : Fin 17) (s : State) : Host.Outcome State Fault Refusal := done (s.semRelease c.val)

/-! ## Cores, watchdog, scratchpad -/

/-- CORE_RETIRE (R456). -/
def execCoreRetire (c : Fin 17) (s : State) : Host.Outcome State Fault Refusal := done (s.coreRetire c.val)

/-- WDT_KICK (R457). -/
def execWdtKick (v : BitVec 32) (s : State) : Host.Outcome State Fault Refusal := done (s.wdtKick v.toNat)

/-- WATCHDOG_EXPIRY (R457). -/
def execWatchdogExpiry (s : State) : Host.Outcome State Fault Refusal := done s.wdtExpires

/-- BANK_RETENTION_ENTRY (R461). -/
def execBankRetentionEntry (b : Fin 16) (s : State) : Host.Outcome State Fault Refusal := done (s.retain b.val)

/-- BANK_RETENTION_WAKE (R461). -/
def execBankRetentionWake (b : Fin 16) (s : State) : Host.Outcome State Fault Refusal :=
  done (if s.flag F.SP_BANK_CTRL_RETAINED b.val then (s.put F.SP_BANK_CTRL_RETAINED 0 b.val).count 227 3 1 else s)

/-- SOFT_REPAIR (R462). -/
def execSoftRepair (b : Fin 16) (col : Fin 1024) (s : State) : Host.Outcome State Fault Refusal := done (s.softRepair b.val col.val)

/-- SOFT_REPAIR_DONE (R462). -/
def execSoftRepairDone (b : Fin 16) (s : State) : Host.Outcome State Fault Refusal := done (s.repairDone b.val)

/-- CORE_LOAD (R473). -/
def execCoreLoad (c : Fin 17) (addr : BitVec 64) (len : Fin 65) (e : MemErr) (s : State) : Host.Outcome State Fault Refusal :=
  done (s.coreIssue c (.load addr.toNat len.val e))

/-- CORE_STORE (R473). -/
def execCoreStore (c : Fin 17) (addr : BitVec 64) (data : List Byte) (posted : Bool) (s : State) :
    Host.Outcome State Fault Refusal :=
  done (s.coreIssue c (.store addr.toNat data posted))

/-- STORE_BUFFER_ISSUE (R475). -/
def execStoreBufferIssue (c : Fin 17) (s : State) : Host.Outcome State Fault Refusal := done (s.storeIssue c.val).runCores

/-- STORE_TAKES_EFFECT (R471). -/
def execStoreTakesEffect (t : Target) (s : State) : Host.Outcome State Fault Refusal := done (s.takesEffect t).runCores

/-- FENCE (R477). -/
def execFence (c : Fin 17) (s : State) : Host.Outcome State Fault Refusal := done (s.coreIssue c .fence)

/-- RESERVE_LOAD (R481). -/
def execReserveLoad (c : Fin 17) (addr : BitVec 64) (len : Fin 65) (e : MemErr) (s : State) : Host.Outcome State Fault Refusal :=
  done (s.coreIssue c (.reserveLoad addr.toNat len.val e))

/-- CONDITIONAL_STORE (R481 to R483). -/
def execConditionalStore (c : Fin 17) (addr : BitVec 64) (data : List Byte) (interrupted : Bool) (s : State) :
    Host.Outcome State Fault Refusal :=
  done (s.coreIssue c (.condStore addr.toNat data interrupted))

/-- CM_IMPRECISE_CLR (R491). -/
def execCmImpreciseClr (s : State) : Host.Outcome State Fault Refusal := done s.imprecClear

end Sys2Proof.Machine
end

