-- ==== Sys2Proof/Machine/SecurityOps.lean ====
section
/-!
DEFINITION. The commands of the isolation, keys and lifecycle chapter that no ECP row carries (R410 to R422), and the debug
unlock of R417.
-/
namespace Sys2Proof.Machine

/-- TAMPER_SIGNAL (R420). -/
def execTamperSignal (n : Fin 4) (s : State) : Host.Outcome State Fault Refusal := done (s.tamper n.val)

/-- TAMPER_SOURCE_END (R422). -/
def execTamperSourceEnd (n : Fin 4) (s : State) : Host.Outcome State Fault Refusal := done (s.tamperEnd n.val)

/-- DEBUG_CTRL_LOCK (R418). -/
def execDebugCtrlLock (s : State) : Host.Outcome State Fault Refusal := done s.debugLock

/-! ## Debug unlock (R417) -/

/-- A nonce for the unlock, while attempts are allowed and there is something to unlock. -/
def State.unlockNonce (s : State) : Option Nat × State :=
  if s.flag F.DEBUG_STATUS_LOCKED_OUT || s.get F.LC_STATE_V == 0 then (none, s)
  else let (x, s) := s.draw 256; (some x, s.withSec (fun c => { c with nonce := some x }))

/-- A token returns: one that verifies makes the unlock pending; the eighth failure locks attempts out. -/
def State.unlockToken (s : State) (verifies : Bool) : Bool × State :=
  if s.flag F.DEBUG_STATUS_LOCKED_OUT || s.sec.nonce.isNone then (false, s)
  else
    let s := s.withSec (fun c => { c with nonce := none })
    if verifies then (true, s.put F.DEBUG_STATUS_UNLOCK_PENDING 1)
    else
      let n := min 8 (s.get F.DEBUG_STATUS_UNLOCK_FAILS + 1)
      let s := s.put F.DEBUG_STATUS_UNLOCK_FAILS n
      (false, if n == 8 then s.put F.DEBUG_STATUS_LOCKED_OUT 1 else s)

/-! ## JTAG (R416, R419) -/

/-- A debug access: what is shifted out. -/
def State.debugRead (s : State) (addr len : Nat) : State :=
  match s.busRead .debug addr len with
  | (some b, s) => s.emit (.jtag (leNat b))
  | (none, s) => s.emit .accessError

/-- Boundary scan takes a lane, or gives it back (R54): a port with a lane under scan takes part in no link. -/
def State.scanLane (s : State) (p k : Nat) (on : Bool) : State :=
  let rest := s.lanes.scan.filter (fun x => x != 8 * p + k)
  let s := { s with lanes := { s.lanes with scan := if on then rest ++ [8 * p + k] else rest } }
  let q := s.linkPort p
  if s.scanned q then (if s.linkState q == lsScan then s else s.linkFalls q lsScan)
  else if s.linkState q == lsScan then s.setLinkState q (s.restState q) else s

/-- A JTAG instruction: while debug is locked, only boundary scan, the identity code and the unlock of R417 respond. -/
def State.jtagDo (s : State) (j : Jtag) : State :=
  match j with
  | .boundaryScan p k on =>
    if s.carriesBinding p.val then s.emit (.jtag 0) else let (x, s) := s.draw 32; (s.scanLane p.val k.val on).emit (.jtag x)
  | .identity => s.emit (.jtag (s.rd .ID_JTAG).toNat)
  | .challenge => match s.unlockNonce with | (some x, s) => s.emit (.jtag x) | (none, s) => s.emit (.jtag 0)
  | .token v => (s.unlockToken v).2
  | .read addr len => if s.debugUnlocked then s.debugRead addr.toNat len.val else s.emit (.jtag 0)
  | .write addr data =>
    if s.debugUnlocked then
      let (ok, s) := s.busWrite .debug addr.toNat data
      if ok then s else s.emit .accessError
    else s.emit (.jtag 0)
  | .halt c b =>
    if s.debugUnlocked then (s.setCore c.val { s.core c.val with halted := b }).runCores else s.emit (.jtag 0)
  | .coreStep c =>
    if s.debugUnlocked then
      if (s.core c.val).halted then
        let s := (s.setCore c.val { s.core c.val with halted := false }).runCore c.val 1
        s.setCore c.val { s.core c.val with halted := true }
      else s
    else s.emit (.jtag 0)
  | .inject l v => if s.debugUnlocked && (isSeam l.val || s.isCascade l.val) then s.llInjectArm l.val v.toNat else s.emit (.jtag 0)
  | .force n b => if s.debugUnlocked then s.setForce n.val b else s.emit (.jtag 0)

/-- JTAG_ACCESS (R416). -/
def execJtagAccess (j : Jtag) (s : State) : Host.Outcome State Fault Refusal :=
  done (if s.rung == rungBanked || s.rung == rungEmber then s else s.jtagDo j)

/-! ## SPDM (R103, R414, R415, R422) -/

/-- The number of a requester: its port, 96 SMBus, 97 I3C. -/
def requesterId : Requester → Nat
  | .port p => p.val
  | .smbus => 96
  | .i3c => 97

/-- The host of a requester on a Host port. -/
def State.requesterHost (s : State) : Requester → Option Nat
  | .port p => if s.isHostPort p.val then some (s.get F.PORT_CFG_HOST_ID p.val) else none
  | _ => none

/-- The requester's message leaves the queue of the Hearth. -/
def State.requesterTaken (s : State) : Requester → State
  | .port p => s.consume p.val
  | _ => s

/-- Whether the Hearth answers SPDM requesters. -/
def State.spdmRuns (s : State) : Bool := !s.hearthDown && !s.sec.recovery && s.rung != rungBanked && s.rung != rungEmber

/-- Whether the device responds to a requester (R103, R414): the host on a Host port, and management over MCTP. -/
def State.responds (s : State) : Requester → Bool
  | .port p => s.isHostPort p.val
  | _ => true

/-- Whether a port carries key management at all (R100): Host, Device and Cascade native ports. -/
def State.spdmPort (s : State) : Requester → Bool
  | .port p => s.hasIde p.val
  | _ => true

/-- SPDM_GET_MEASUREMENTS (R414, R415). -/
def execSpdmGetMeasurements (r : Requester) (index : BitVec 8) (s : State) : Host.Outcome State Fault Refusal :=
  done (if s.spdmRuns && s.spdmPort r then
      let s := s.requesterTaken r
      let i := index.toNat
      if s.responds r && ((1 ≤ i && i ≤ 4) || (i == 254 && (s.requesterHost r).isSome)) then
        s.say (requesterId r) (.measurement i (s.measure (s.requesterHost r) i))
      else s
    else s)

/-- A key-management session at the end that answers (R103, R422): refused while the tamper latch is set. -/
def State.spdmAnswer (s : State) (id : Nat) : SpdmMsg → State
  | .setUp => if s.flag F.TAMPER_STATUS_TAMPER_LATCHED then s.say id (.spdm false) else (s.spdmOpen id).say id (.spdm true)
  | .finish => (s.withSec (fun c => { c with spdm := c.spdm.filter (fun x => x != id) })).say id (.spdm true)
  | .other => s.say id (.spdm (s.sec.spdm.contains id))

/-- A key-management session in which the device is requester, on Device and Cascade ports (R103): the partner's answers. -/
def State.spdmRequest (s : State) (id : Nat) : SpdmMsg → State
  | .setUp => if s.flag F.TAMPER_STATUS_TAMPER_LATCHED then s else s.spdmOpen id
  | .finish => s.withSec (fun c => { c with spdm := c.spdm.filter (fun x => x != id) })
  | .other => s

/-- SPDM_SESSION_MESSAGE (R100, R103, R422). -/
def execSpdmSessionMessage (r : Requester) (m : SpdmMsg) (s : State) : Host.Outcome State Fault Refusal :=
  done (if s.spdmRuns && s.spdmPort r then
      let s := s.requesterTaken r
      if s.responds r then s.spdmAnswer (requesterId r) m else s.spdmRequest (requesterId r) m
    else s)

end Sys2Proof.Machine
end

