-- ==== Sys2Proof/Machine/EcpCore.lean ====
section
/-!
DEFINITION. Eloaley Command Protocol, what every command shares (R424 to R448): who is answered, tags and sequence numbers,
permissions, replies, operations, paging and register lists.
-/
namespace Sys2Proof.Machine

/-! ## Commands, permissions and answers (R406, R437, R451) -/

/-- The status and the values of a reply. -/
abbrev Ans := Status × List Nat

/-- A row of R451: the opcode and the permissions it needs. -/
structure Cmd where
  opcode : Nat
  needs : Perms := {}

/-- The permissions of R451's column. -/
def pObserve : Perms := { observe := true }
def pConfigure : Perms := { configure := true }
def pUnlock : Perms := { unlock := true }
def pLifecycle : Perms := { lifecycle := true }

/-- Configure includes Observe (R437). -/
def Perms.full (p : Perms) : Perms := { p with observe := p.observe || p.configure }

/-- Whether permissions cover what a command needs. -/
def Perms.covers (p need : Perms) : Bool :=
  (!need.observe || p.observe) && (!need.configure || p.configure) && (!need.unlock || p.unlock)
    && (!need.lifecycle || p.lifecycle)

/-- Whether a command needs at most Observe (R555). -/
def Cmd.reads (c : Cmd) : Bool := !(c.needs.configure || c.needs.inspect || c.needs.unlock || c.needs.lifecycle)

/-- GET_IDENTITY, the session commands, and the commands of Observe kind: answered in Ash (R504). -/
def Cmd.inAsh (c : Cmd) : Bool := decide (c.opcode ≤ 6) || c.needs.observe

/-- Bytes 4 to 7 of ERROR_DETAIL where no item failed (R429). -/
def noItem : Nat := 0xFFFFFFFF

/-- A refusal that no parameter of R429 and no item caused. -/
def refuse (st : Status) : Ans := (st, [0, noItem])

/-- An answer without values. -/
def okAns : Ans := (.ok, [])

/-! ## The audit log (R407) -/

/-- An entry for a use of Inspect or Unlock. -/
def State.audit (s : State) (x : Session) (opcode : Nat) (objects : List Nat) : State :=
  let e : AuditEntry := { time := s.now, session := x.id, credential := x.credential, opcode := opcode, objects := objects }
  s.withFlash (fun f => { f with audit := f.audit ++ [e] })

/-! ## Who is answered (R413, R431 to R434) -/

/-- Whether the Hearth runs firmware, or the boot ROM that serves boot-recovery. -/
def State.ecpRuns (s : State) : Bool := !s.hearthDown && s.rung != rungBanked && s.rung != rungEmber

/-- Whether packets of a source are taken: a datagram's source is among ACCEPT, unless that is empty; CXL.io on Host ports. -/
def State.admits (s : State) : Source → Bool
  | .udp a _ => s.flash.accept.isEmpty || s.accepts a
  | .cxl p => s.isHostPort p.val && !s.sec.recovery
  | _ => true

/-- A packet is received: over CXL.io it leaves the Hearth's queue; MCTP messages are counted (R218, R564). -/
def State.received (s : State) : Source → State
  | .udp _ _ => s
  | .cxl p => (s.consume p.val).count 228 2 1
  | _ => s.count 228 2 1

/-- A packet is discarded and counted (R425, R427, R440). -/
def State.discard (s : State) (f : Ecp → Ecp) : State := (s.withEcp f).count 228 1 1

/-! ## Sequence numbers (R440, R441) -/

/-- What becomes of a sequence number. -/
inductive Fate where
  | take
  | resend (r : Reply)
  | drop
  | uncached
  | replayed
deriving DecidableEq, Repr

/-- Whether a command of the session is queued or running. -/
def Session.working (x : Session) (seq : Nat) : Bool :=
  x.waiting.any (fun e => e.1 == seq) || (match x.held with | some (_, q) => q == seq | none => false)

/-- R440. -/
def Session.fate (x : Session) (seq : Nat) : Fate :=
  if x.high < seq then .take
  else if seq = 0 ∨ seq + 63 < x.high then .replayed
  else if !x.record.contains seq then .take
  else
    match x.cache.find? (fun e => e.1 == seq) with
    | some e => .resend e.2
    | none => if x.working seq then .drop else .uncached

/-- The session after it accepted a sequence number. -/
def Session.accept (x : Session) (seq : Nat) : Session :=
  let h := max x.high seq
  { x with high := h, record := (x.record ++ [seq]).filter (fun n => decide (h ≤ n + 63)) }

/-- Store a session. -/
def State.setSession (s : State) (x : Session) : State :=
  { s with sessions := s.sessions.map (fun y => if y.id == x.id then x else y) }

/-- An open session. -/
def State.session (s : State) (id : Nat) : Option Session := s.sessions.find? (fun x => x.id == id)

/-! ## Running a command -/

/-- What a command does for a session: its answer, or none while it is held or stays unanswered. -/
abbrev Body := Session → State → Option Ans × State

/-- The checks that come before a command's own: permission (R437), Ash (R504), verification after kindling (R555), parameters
(R429). -/
def State.judge (s : State) (x : Session) (c : Cmd) (e : Option Nat) (run : Body) : Option Ans × State :=
  let s := if c.needs.unlock then s.audit x c.opcode [] else s
  if !x.perms.covers c.needs then (some (refuse .denied), s)
  else if s.flag F.FC_STATUS_ASH && !c.inAsh then (some (refuse .faulted), s)
  else if s.power.verifying && !c.reads then (some (refuse .busy), s)
  else
    match e with
    | some n => (some (.invalid, [n, noItem]), s)
    | none => run x s

/-- Whether a status is no refusal (R444). -/
def Status.good (st : Status) : Bool := decide (st = .ok) || decide (st = .accepted) || decide (st = .alreadyDone)

/-- A command replies (R426); refusals are counted (R564). -/
def State.replyTo (s : State) (src : Source) (id seq opcode : Nat) (a : Ans) : State :=
  let s := if a.1.good then s else s.count 228 3 1
  s.answer src id seq { opcode := opcode, status := a.1, values := a.2 }

/-- The last sequence number a session can carry (R438). -/
def lastSeq : Nat := 2 ^ 32 - 1

/-- Run a command of an open session and reply to it. The command with the last sequence number ends the session. -/
def State.runCommand (s : State) (x : Session) (seq : Nat) (c : Cmd) (e : Option Nat) (run : Body) : State :=
  match s.judge x c e run with
  | (none, s) => s
  | (some a, s) =>
    let s := s.replyTo x.source x.id seq c.opcode a
    if seq = lastSeq then s.endSessions (fun y => y.id == x.id) else s

/-- Whether an opcode is a firmware update command, which the boot ROM serves in boot-recovery (R413, R439). -/
def isFwUpdate (opcode : Nat) : Bool := decide (0x0A08 ≤ opcode) && decide (opcode ≤ 0x0A0A)

/-- The session that stands for session 0. -/
def sessionZero (src : Source) : Session := { id := 0, credential := 0, perms := { observe := true, lifecycle := true }, source := src }

/-- A command on session 0 (R439). -/
def State.onZero (s : State) (h : EcpHdr) (c : Cmd) (run : Body) : State :=
  if (if s.sec.recovery then c.opcode == 0 || isFwUpdate c.opcode else decide (c.opcode ≤ 1)) then
    match s.judge (sessionZero h.src) c (h.paramErr.map Fin.val) run with
    | (none, s) => s
    | (some a, s) => s.replyTo h.src 0 h.seq.toNat c.opcode a
  else s.replyTo h.src 0 h.seq.toNat c.opcode (refuse .denied)

/-- The reply to a packet that names a session that is not open, or is bound to another source (R433, R439). -/
def State.noSession (s : State) (h : EcpHdr) (opcode : Nat) : State := s.replyTo h.src 0 h.seq.toNat opcode (.noSession, [])

/-- A command accepted by an open session: it runs, waits behind a held abort, or is the ninth to wait (R442, R448). -/
def State.acceptCommand (s : State) (i : Instr) (x : Session) (seq : Nat) (c : Cmd) (e : Option Nat) (run : Body) : State :=
  let x := x.accept seq
  let s := (s.setSession x).count 228 0 1
  if x.held.isNone && x.waiting.isEmpty then s.runCommand x seq c e run
  else if x.waiting.length < 8 then s.setSession { x with waiting := x.waiting ++ [(seq, i)] }
  else s.replyTo x.source x.id seq c.opcode (refuse .busy)

/-- A packet of an open session: its tag, its source, its sequence number (R427, R433, R440). -/
def State.onSession (s : State) (i : Instr) (h : EcpHdr) (x : Session) (c : Cmd) (run : Body) : State :=
  let seq := h.seq.toNat
  if !h.tagOk then s.discard (fun e => { e with authFails := e.authFails + 1 })
  else if x.source ≠ h.src then s.noSession h c.opcode
  else
    match x.fate seq with
    | .take => s.acceptCommand i x seq c (h.paramErr.map Fin.val) run
    | .resend r => s.say (sourcePort x.source) (.reply x.source x.id seq r)
    | .drop => s
    | .uncached => s.discard (fun e => { e with uncached := e.uncached + 1 })
    | .replayed => s.discard (fun e => { e with replayed := e.replayed + 1 })

/-- A command packet. Where a session's queue releases a command that waited, it runs without the checks that it passed when it
was accepted. -/
def State.ecpPacket (s : State) (i : Instr) (h : EcpHdr) (c : Cmd) (run : Body) : State :=
  match s.ecp.release with
  | some n =>
    let s := s.withEcp (fun e => { e with release := none })
    match s.session n with
    | some x => s.runCommand x h.seq.toNat c (h.paramErr.map Fin.val) run
    | none => s
  | none =>
    if !s.ecpRuns || !s.admits h.src then s
    else
      let s := s.received h.src
      if h.sess.val = 0 then s.onZero h c run
      else
        match s.session h.sess.val with
        | some x => s.onSession i h x c run
        | none => s.noSession h c.opcode

/-- The meaning of a command of R451 that always answers. -/
def ecpDo (s : State) (i : Instr) (h : EcpHdr) (c : Cmd) (run : Session → State → Ans × State) : Host.Outcome State Fault Refusal :=
  done (s.ecpPacket i h c (fun x s => let (a, s) := run x s; (some a, s)))

/-- A command that waits and may run now: the first of a session with no held abort (R442). A session whose last command was
answered ends (R438). -/
def State.readyCommand (s : State) : Option (Instr × State) :=
  match s.sessions.find? (fun x => x.held.isNone && !x.waiting.isEmpty) with
  | some x =>
    match x.waiting with
    | (_, i) :: rest => some (i, (s.setSession { x with waiting := rest }).withEcp (fun e => { e with release := some x.id }))
    | [] => none
  | none => none

/-! ## Operations (R445) -/

/-- Operations that run. -/
def State.running (s : State) : Nat := (s.ops.filter (fun o => decide (o.status = .accepted))).length

/-- Start an operation: its ID from the counter in the Ember store. -/
def State.startOp (s : State) (x : Session) (k : OpKind) : Nat × State :=
  let o : Operation := { id := s.nextOp, kind := k, session := x.id, status := .accepted, credential := x.credential }
  (s.nextOp, { s with ops := s.ops ++ [o], nextOp := (if s.nextOp + 1 = 2 ^ 32 then 1 else s.nextOp + 1) })

/-- A long command: it replies ACCEPTED, and `go` starts its work; the 65th operation is refused. -/
def State.long (s : State) (x : Session) (k : OpKind) (go : State → State) : Ans × State :=
  if 64 ≤ s.running then (refuse .noResource, s)
  else
    let (id, s) := s.startOp x k
    ((.accepted, [id]), go s)

/-- A long command whose work is a transaction of firmware's own in slot 3 (R274). -/
def State.longFw (s : State) (x : Session) (k : OpKind) (w : Nat → FwTxn) : Ans × State :=
  if 64 ≤ s.running then (refuse .noResource, s)
  else
    let (id, s) := s.startOp x k
    ((.accepted, [id]), s.fwTxn (w id))

/-- The same for a list of items. -/
def State.longTxn (s : State) (x : Session) (items : List (Key × Word)) (restoring : Option Nat) : Ans × State :=
  s.longFw x (.commit 3) (fun n => .op n items restoring)

/-! ## Register lists and pages (R17, R430, R451) -/

/-- The registers that start in a range of the register space, with their addresses, ascending. -/
def keysIn (lo len : Nat) : List (Nat × Key) :=
  (List.range (len / 4)).filterMap (fun n => match regAt (lo + 4 * n) with | some (k, 0) => some (lo + 4 * n, k) | _ => none)

/-- Firmware reads a register whole: RC fields clear (R15). -/
def State.fwRead (s : State) (k : Key) : Nat × State :=
  let s := s.sense k
  ((s.view k).toNat, s.readClears k (2 ^ 64 - 1))

/-- ADDRESS and VALUE pairs. -/
def State.readAll (s : State) (l : List (Nat × Key)) : List Nat × State :=
  l.foldl (fun (acc : List Nat × State) e => let (v, s) := acc.2.fwRead e.2; (acc.1 ++ [e.1, v], s)) ([], s)

/-- Whether every half that addresses reach answers; a read of its registers is an exit cause of Smoulder (R541), and one that does not
answer within 2 ms is recorded (R35). -/
def State.reach (s : State) (addrs : List Nat) : Bool × State :=
  let s := addrs.foldl (fun s a => s.farWakes a) s
  match addrs.find? (fun a => !s.farAnswers a) with
  | some a => (false, s.flueTimedOut ((farHalf a).getD 0) (some a))
  | none => (true, s)

/-- What a GET command answers: its object's registers, or TIMEOUT where their half does not answer. -/
def State.getObject (s : State) (ranges : List (Nat × Nat)) : Ans × State :=
  let (ok, s) := s.reach (ranges.map Prod.fst)
  if ok then
    let (vs, s) := s.readAll (ranges.flatMap (fun e => keysIn e.1 e.2))
    ((.ok, vs), s)
  else (refuse .timeout, s)

/-- A page of a list: NEXT_INDEX and whole items of at most `bytes` bytes each, up to the reply limit (R430). -/
def pageOf (limit bytes start : Nat) (items : List (List Nat)) : Ans :=
  let n := (limit - 40) / bytes
  if n = 0 then refuse .tooLarge
  else
    let rest := items.drop start
    (.ok, (if rest.length ≤ n then 0xFFFFFFFF else start + n) :: (rest.take n).flatten)

end Sys2Proof.Machine
end

