-- ==== Sys2Proof/Machine/Telemetry.lean ====
section
/-!
DEFINITION. The commands of the telemetry chapter (R562 to R584), of the interrupt aggregator and of the clocks (R592, R597).
-/
namespace Sys2Proof.Machine

/-- PMU_RESET (R567). -/
def execPmuReset (u : Fin 229) (s : State) : Host.Outcome State Fault Refusal := done (s.pmuReset (fun k => k == u.val))

/-- PMU_FREEZE (R566). -/
def execPmuFreeze (u : Fin 229) (b : Bool) (s : State) : Host.Outcome State Fault Refusal := done (s.pmuFreeze u.val b)

/-- FREEZE_ALL (R569). -/
def execFreezeAll (b : Bool) (s : State) : Host.Outcome State Fault Refusal := done (s.putFlag F.PMU_GLOBAL_FREEZE_ALL b)

/-- RESET_ALL (R567). -/
def execResetAll (s : State) : Host.Outcome State Fault Refusal := done (s.pmuReset (fun _ => true))

/-- COUNTER_OVERFLOW (R566): a running counter passes 2^48 − 1 and holds the remainder. -/
def execCounterOverflow (u : Fin 229) (i : Fin 8) (rest : BitVec 48) (s : State) : Host.Outcome State Fault Refusal :=
  done (s.pmuOverflow u.val i.val rest.toNat)

/-- SNAPSHOT_TAKE (R570, R571). -/
def execSnapshotTake (s : State) : Host.Outcome State Fault Refusal := done s.snapTake

/-- SNAPSHOT_MARK_RECEIVE (R570 to R572). -/
def execSnapshotMarkReceive (s : State) : Host.Outcome State Fault Refusal := done s.snapMark

/-- HOST_COUNTER_REFRESH (R574, R575). -/
def execHostCounterRefresh (st : StallId) (s : State) : Host.Outcome State Fault Refusal :=
  done (if s.hearthDown then s else s.hostRefresh st.val)

/-! ## The wear record -/

/-- The logical channel that uses a physical channel of a half (R344, R370). -/
def State.channelOfPhys (s : State) (h phys : Nat) : Option Nat :=
  (List.range 14).find? (fun c => Word.bits (s.rd .PORTER_MAP h) (4 * c) 4 == phys && s.ch (14 * h + c) != chRetired)

/-- A commit is Validating or Applying (R581). -/
def State.committing (s : State) : Bool := s.applying || (List.range 4).any (fun t => s.txState t == txValidating)

/-- The retirement that a threshold asks for (R579), and its ACTION (R577, R581): 1 where a spare came in, 2 without one, 3
refused, 4 left to the fabric manager, 5 a soft repair; none while it must wait. -/
def State.wearAct (s : State) (kind el : Nat) : Option (Nat × State) :=
  match kind with
  | 0 =>
    let h := el / 256
    if 2 ≤ h then some (3, s)
    else if s.committing then none
    else
      let spare := (List.range 256).any (fun b => s.get F.BANK_CTRL_STATE h b == 1)
      let t := s.bankRetire h (el % 256)
      some (wearResult (t.get F.BANK_CTRL_STATE h (el % 256) != s.get F.BANK_CTRL_STATE h (el % 256)) spare, t)
  | 1 =>
    let h := el / 4096
    let g := el % 4096 / 18
    if 2 ≤ h || 192 ≤ g then some (3, s)
    else if s.committing then none
    else
      let t := s.wayRetire h g (el % 4096 % 18)
      some (wearResult (t.market.retiring.length != s.market.retiring.length) (s.groupSpare h g).isSome, t)
  | 2 =>
    let t := s.softRepair (el / 1024 % 16) (el % 1024)
    some (if t.hearth.repairs.length != s.hearth.repairs.length then 5 else 3, t)
  | 3 =>
    match s.channelOfPhys (el / 16 % 2) (el % 16) with
    | none => some (3, s)
    | some c =>
      let l := 14 * (el / 16 % 2) + c
      if s.ch l != chIdle then none
      else let t := s.chRetire l; some (if t.ch l == chRetired then 2 else 1, t)
  | 4 =>
    let t := s.coreRetire el
    let spares := 17 - s.coresActive - s.coresRetired
    some (wearResult (t.hearth.retiring.length != s.hearth.retiring.length) (decide (s.hearth.retiring.length < spares)), t)
  | 5 =>
    let p := el / 8
    if 96 ≤ p then some (3, s)
    else if s.isCascade p || s.flag F.WEAR_POLICY_AUTO_DOWNSHIFT then
      let t := s.retireLane p (el % 8)
      some (wearResult (t.get F.LANE_RETIRE_RETIRED p != s.get F.LANE_RETIRE_RETIRED p) false, t)
    else some (4, s)
  | _ => some (4, s)

/-- Whether firmware samples and acts: at Blaze, with no banking and no Ash (R583). -/
def State.wearRuns (s : State) : Bool :=
  s.rung == rungBlaze && !s.hearthDown && !s.flag F.FC_STATUS_ASH && !s.flag F.FEED_STATUS_BANK_REQ

/-- The action of a threshold: carried out and recorded, or waiting (R579, R581). -/
def State.wearTry (s : State) (e : WearEntry) : State :=
  match s.wearAct e.kind e.element with
  | none => s.withTelem (fun t => { t with waits := t.waits.filter (fun x => !(x.kind == e.kind && x.element == e.element)) ++ [e] })
  | some (a, s) => (s.wearAction { e with action := a }).wearEvent e.kind e.element

/-- Retirements that waited are issued once they may be (R581). -/
def State.wearRetry (s : State) : State :=
  if s.wearRuns then s.telem.waits.foldl State.wearTry (s.withTelem (fun t => { t with waits := [] })) else s

/-- Firmware samples an element (R578 to R583): a sample entry for a figure that is not 0, and the action of the threshold. -/
def State.wearSampled (s : State) (kind el value : Nat) (grave : Bool) : State :=
  if !s.wearRuns then s
  else
    let e : WearEntry := { life := s.flash.life / 10 ^ 9, kind := kind, action := 0, element := el, value := value,
                           threshold := wearThreshold kind, epoch := s.get F.EPOCH_V }
    let s := if value == 0 then s else s.wearSample e
    if !wearMet kind value grave then s
    else if s.flag F.WEAR_POLICY_AUTO_RETIRE then s.wearTry e
    else (s.wearAction { e with action := 4 }).wearEvent kind el

/-- WEAR_SAMPLE (R578). `value` is the figure over the window of R579; `grave` an uncorrectable error, a margin below the
limits, or a health worse than normal. -/
def execWearSample (kind : Fin 8) (element : BitVec 16) (value : BitVec 32) (grave : Bool) (s : State) :
    Host.Outcome State Fault Refusal :=
  done (s.wearSampled kind.val element.toNat value.toNat grave)

/-! ## The aggregator and the clocks -/

/-- IA_PENDING_CLEAR (R597). -/
def execIaPendingClear (n : Fin 2048) (s : State) : Host.Outcome State Fault Refusal := done (s.irqClear n.val)

/-- IA_SOFT_SET (R597). -/
def execIaSoftSet (n : Fin 2048) (s : State) : Host.Outcome State Fault Refusal := done (s.irqSoft n.val true false)

/-- IA_SOFT_CLEAR (R597). -/
def execIaSoftClear (n : Fin 2048) (s : State) : Host.Outcome State Fault Refusal := done (s.irqSoft n.val false true)

/-- KCLK_CALIBRATION_REFRESH (R592): `v` is the HBCLK cycles of the last 1,024 KCLK cycles. -/
def execKclkCalibrationRefresh (v : BitVec 32) (s : State) : Host.Outcome State Fault Refusal :=
  done (if s.rung == rungBlaze || s.rung == rungGlow || s.rung == rungSmoulder then s.put F.CLK_KCLK_CAL_V v.toNat else s)

/-- XSPI_OPERATION_COMPLETE (R593). -/
def execXspiOperationComplete (s : State) : Host.Outcome State Fault Refusal := done (s.irqEvent 267)

end Sys2Proof.Machine
end

