-- ==== Sys2Proof/Machine/Clock.lean ====
section
/-!
DEFINITION. The passage of time: what an idle step lets pass, with no command waiting (log entry 6): 10 ns, or one KCLK cycle in
Banked and Ember (R509): FC_TIME, powered life, the counter
units' own clocks and conditions (R562 to R565), the Bulk credits (R216).
-/
namespace Sys2Proof.Machine

/-- Cycles of a clock of `num` / `den` GHz in the 10 ns after a moment. -/
def cyclesIn (now num den : Nat) : Nat := (now + 10) * num / den - now * num / den

/-- Cycles of a unit's clock in the next 10 ns (R36, R562). -/
def State.pmuCycles (s : State) (u : Nat) : Nat :=
  let lclk (p : Nat) : Nat := cyclesIn s.now (rateTenths (s.get F.PHY_STATUS_CUR_RATE p)) 1280
  if u < 96 then lclk u
  else if 192 ≤ u && u < 216 then lclk (4 * (u - 192))
  else if u < 226 then cyclesIn s.now 2 1
  else cyclesIn s.now 11 10

/-- The quantity of a condition or level event in a cycle (R564); none for events that are counted where they happen. -/
def State.pmuQuantity (s : State) (u code : Nat) : Option Nat :=
  let h := u % 2
  if code == 0x3FF then some 1
  else match pmuType u, code with
    | 0, 5 => some (flagNat ((List.range 5).any (fun q => match s.queue u q with | m :: _ => !s.headCredits u q m | [] => false)))
    | 0, 0xB => some (flagNat (s.linkState u == lsL0))
    | 1, 6 => some (s.get F.BULK_STATUS_PROMOTED (u - 96))
    | 1, 7 => some (flagNat (s.isHeld (u - 96)))
    | 3, 5 => some (s.sharedUsed h)
    | 3, 6 => some (flagNat (s.poolClosed h))
    | 4, 5 => some (s.market.flows.filter (fun f => f.half == h && decide (f.phase = .holdWait))).length
    | 4, 6 => some (s.market.flows.filter (fun f => f.half == h)).length
    | 5, 3 => some (flagNat ((seamChannels h).any (fun l => (s.link l).available 0 == 0)))
    | 6, 4 => some ((List.range 14).filter (fun c => s.ch (14 * h + c) == chRunning)).length
    | 8, 3 => some (flagNat (decide (64 ≤ s.hearth.queued.length)))
    | _, _ => none

/-- One counter in the next 10 ns: at level, the quantity in every cycle; at edge, 1 where the condition begins (R564). -/
def State.pmuCounter (s : State) (u n : Nat) (e : Key × Word) : State :=
  let id := 8 * u + e.1.j
  match s.pmuQuantity u (Word.bits e.2 0 10) with
  | none => s
  | some q =>
    let rises := q != 0 && !s.telem.held.contains id
    let s := s.withTelem (fun t =>
      { t with held := t.held.filter (fun x => x != id) ++ (if q != 0 then [id] else []) })
    if Word.bits e.2 30 1 == 1 then (if rises then s.pmuAdd u e.1.j 1 else s) else if q == 0 then s else s.pmuAdd u e.1.j (q * n)

/-- A unit in the next 10 ns. -/
def State.pmuTick (s : State) (u : Nat) : State :=
  if s.pmuRuns u then
    let n := s.pmuCycles u
    let on := s.regs.filter (fun (e : Key × Word) => decide (e.1.reg = .PMU_EVSEL) && e.1.i == u && Word.bits e.2 31 1 == 1)
    on.foldl (fun s e => s.pmuCounter u n e) (s.bumpWrap F.PMU_CYCLE_V n u)
  else s

/-- The nanoseconds of one idle step: 10; in Banked and Ember, where FC_TIME steps once a KCLK cycle, 30,518 (R39, R509). -/
def State.tickNs (s : State) : Nat := if s.rung == rungBanked || s.rung == rungEmber then 30518 else 10

/-- The Bulk credit of a port in the next 10 ns, 20 FCLK cycles, while its half is at Blaze (R216, R217). -/
def State.bulkTick (s : State) (p : Nat) : State :=
  if s.atBlaze (halfOf p) && !s.resetHalves.contains (halfOf p) then (s.bulkAccrue p 20).bulkSettle p else s

/-- The time of one idle step passes with no command. -/
def tick (s : State) : State :=
  let n := s.tickNs
  let s := if s.rung == rungBanked || s.rung == rungEmber then s else (List.range 229).foldl State.pmuTick s
  let s := ((List.range 96).foldl State.bulkTick s).wearRetry
  let s := s.withFlash (fun f => { f with life := f.life + n })
  s.bumpWrap F.FC_TIME_V n

/-- A step with no command waiting and none held: 10 ns pass. A session whose last sequence number has been used ends first
(R440). -/
def idle (s : State) : Host.Outcome State Fault Refusal :=
  done (tick (s.endSessions (fun x => x.high == lastSeq && x.held.isNone)))

end Sys2Proof.Machine
end

