-- ==== Sys2Proof/Machine/Binding.lean ====
section
/-!
DEFINITION. Address Windows, Decoders and Stalls: the emulated devices' requests and mailboxes (R29, R246 to R255), Stall
resets (R259 to R262), the scrubber's events (R268, R270).
-/
namespace Sys2Proof.Machine

/-- CONFIG_REQUEST_TO_STALL (R29). -/
def execConfigRequestToStall (p : Port) (id : Nat) (t : CfgTarget) (a : CfgAccess) (s : State) : Host.Outcome State Fault Refusal :=
  done (s.configRequest p.val id t a)

/-- HDM_COMMITTED_SET (R247). -/
def execHdmCommittedSet (st : StallId) (k : Fin 4) (s : State) : Host.Outcome State Fault Refusal := done (s.hdmCommitted st.val k.val)

/-- HOT_PLUG_NOTIFY (R255): the oldest report that firmware owes. -/
def execHotPlugNotify (s : State) : Host.Outcome State Fault Refusal :=
  done (match s.txns.plugs with
    | e :: rest => if s.hearthDown then s else (s.withTxns (fun t => { t with plugs := rest })).plugEvent e.1 e.2.1 e.2.2
    | [] => s)

/-- MAILBOX_DOORBELL (R29): accepted, also while the Hearth is in reset. -/
def execMailboxDoorbell (st : StallId) (s : State) : Host.Outcome State Fault Refusal :=
  done (s.setEmul st.val { s.emul st.val with doorbell := true })

/-- GET_EVENT_RECORDS (R252): handles, kinds and vendor records, oldest first. -/
def execGetEventRecords (st : StallId) (s : State) : Host.Outcome State Fault Refusal :=
  done (s.mail st.val 0x0100 .success ((s.emul st.val).log.flatMap (fun r => r.handle :: r.kind :: r.record.map BitVec.toNat)) id)

/-- CLEAR_EVENT_RECORDS (R252): the records with the given handles. -/
def execClearEventRecords (st : StallId) (handles : List Nat) (s : State) : Host.Outcome State Fault Refusal :=
  done (if handles.all (fun h => (s.emul st.val).log.any (fun r => r.handle == h)) then
      s.mail st.val 0x0101 .success [] (fun e => { e with log := e.log.filter (fun r => !handles.contains r.handle) })
    else s.mail st.val 0x0101 .invalid [] id)

/-- GET_TIMESTAMP (R252). -/
def execGetTimestamp (st : StallId) (s : State) : Host.Outcome State Fault Refusal :=
  done (let e := s.emul st.val
    s.mail st.val 0x0300 .success [match e.stampAt with | some t => e.timestamp + (s.now - t) | none => 0] id)

/-- SET_TIMESTAMP (R252). -/
def execSetTimestamp (st : StallId) (v : BitVec 64) (s : State) : Host.Outcome State Fault Refusal :=
  done (let t := s.now
    s.mail st.val 0x0301 .success [] (fun e => { e with timestamp := v.toNat, stampAt := some t }))

/-- GET_SUPPORTED_LOGS (R252): one log, the Command Effects Log. -/
def execGetSupportedLogs (st : StallId) (s : State) : Host.Outcome State Fault Refusal := done (s.mail st.val 0x0400 .success [1] id)

/-- GET_LOG (R252). -/
def execGetLog (st : StallId) (off : Nat) (len : Fin 4097) (s : State) : Host.Outcome State Fault Refusal :=
  done (s.mail st.val 0x0401 .success ((List.range len.val).map (fun i => (Config.effectsLog (off + i)).toNat)) id)

/-- IDENTIFY_MEMORY_DEVICE (R252): capacity in units of 256 MiB, and 1 where it is persistent. -/
def execIdentifyMemoryDevice (st : StallId) (s : State) : Host.Outcome State Fault Refusal :=
  done (s.mail st.val 0x4000 .success [s.get F.STALL_LAYOUT_CAP st.val, if s.stallPersistent st.val then 1 else 0] id)

/-- GET_PARTITION_INFO (R252): volatile and persistent capacity in units of 256 MiB. -/
def execGetPartitionInfo (st : StallId) (s : State) : Host.Outcome State Fault Refusal :=
  done (let c := s.get F.STALL_LAYOUT_CAP st.val
    s.mail st.val 0x4100 .success (if s.stallPersistent st.val then [0, c] else [c, 0]) id)

/-- GET_HEALTH_INFO (R252): the worst of what the devices report. -/
def execGetHealthInfo (st : StallId) (reports : List Health) (s : State) : Host.Outcome State Fault Refusal :=
  done (s.mail st.val 0x4200 .success ((worst reports).bits.toNat :: (worst reports).levels) id)

/-- GET_POISON_LIST (R252): offsets in the Stall's space. -/
def execGetPoisonList (st : StallId) (s : State) : Host.Outcome State Fault Refusal :=
  done (s.mail st.val 0x4300 .success (s.emul st.val).poison id)

/-- Whether an offset lies in a Stall. -/
def State.inStall (s : State) (st off : Nat) : Bool := decide (off < s.get F.STALL_LAYOUT_CAP st * 2 ^ 28)

/-- INJECT_POISON (R252): refused unless debug is unlocked. -/
def execInjectPoison (st : StallId) (off : BitVec 64) (s : State) : Host.Outcome State Fault Refusal :=
  done (let o := off.toNat / 64 * 64
    if !s.mailRuns st.val then s
    else if !s.debugUnlocked then s.mail st.val 0x4301 .unsupported [] id
    else if !s.inStall st.val o then s.mail st.val 0x4301 .invalid [] id
    else
      let (r, x) := s.stallLine st.val o
      let s := s.hearthWrite r x zeros64 true
      s.mail st.val 0x4301 .success [] (fun e => { e with poison := e.poison.filter (fun y => y != o) ++ [o] }))

/-- CLEAR_POISON (R252). -/
def execClearPoison (st : StallId) (off : BitVec 64) (data : List Byte) (s : State) : Host.Outcome State Fault Refusal :=
  done (let o := off.toNat / 64 * 64
    if !s.mailRuns st.val then s
    else if !s.inStall st.val o then s.mail st.val 0x4302 .invalid [] id
    else
      let (r, x) := s.stallLine st.val o
      let s := s.hearthWrite r x data false
      s.mail st.val 0x4302 .success [] (fun e => { e with poison := e.poison.filter (fun y => y != o) }))

/-- SANITIZE (R253). -/
def execSanitize (st : StallId) (s : State) : Host.Outcome State Fault Refusal := done (s.eraseStart st.val 0x4400)

/-- SECURE_ERASE (R253). -/
def execSecureErase (st : StallId) (s : State) : Host.Outcome State Fault Refusal := done (s.eraseStart st.val 0x4401)

/-- MAILBOX_BG_OP_COMPLETE (R253). -/
def execMailboxBgOpComplete (st : StallId) (s : State) : Host.Outcome State Fault Refusal := done (s.eraseDone st.val)

/-- MAILBOX_UNSUPPORTED (R252). -/
def execMailboxUnsupported (st : StallId) (opcode : BitVec 16) (s : State) : Host.Outcome State Fault Refusal :=
  done (s.mail st.val opcode.toNat .unsupported [] id)

/-- STALL_DRAIN_END (R260). -/
def execStallDrainEnd (st : StallId) (s : State) : Host.Outcome State Fault Refusal := done (s.drainEnds st.val)

/-- STALL_RESET_COMPLETE (R262). -/
def execStallResetComplete (st : StallId) (s : State) : Host.Outcome State Fault Refusal := done (s.stallResetDone st.val)

/-- SCRUB_BARRIER_CONFIRMED (R268). -/
def execScrubBarrierConfirmed (p : Port) (s : State) : Host.Outcome State Fault Refusal := done (s.scrubbed p.val)

/-- SCRUB_WRITE_FAIL (R270). -/
def execScrubWriteFail (p : Port) (s : State) : Host.Outcome State Fault Refusal := done (s.scrubFails p.val)

end Sys2Proof.Machine
end

