-- ==== Sys2Proof/Machine/Boot.lean ====
section
/-!
DEFINITION. The cold boot (R413, R456, R560), with the retirements and repairs of the wear record (R582).
-/
namespace Sys2Proof.Machine

/-- What the action entries of the wear record brought about (R577): a spare brought in, a retirement, a repair. -/
def State.wearDone (s : State) (kind : Nat) : List Nat :=
  (s.flash.actions.filter (fun e => e.kind == kind && (e.action == 1 || e.action == 2))).map WearEntry.element

/-- Firmware reapplies bank, Ledger way and Porter channel retirements and soft repairs at a cold boot (R582). -/
def State.wearReapply (s : State) : State :=
  let s := (s.wearDone 0).foldl (fun s el => s.bankRetire (el / 256 % 2) (el % 256)) s
  let s := (s.wearDone 1).foldl (fun s el =>
    (s.wayRetire (el / 4096 % 2) (el % 4096 / 18) (el % 4096 % 18)).wayRetired (el / 4096 % 2) (el % 4096 / 18)) s
  let s := (s.wearDone 3).foldl (fun s el => match s.channelOfPhys (el / 16 % 2) (el % 16) with
    | some c => s.chRetire (14 * (el / 16 % 2) + c)
    | none => s) s
  s.repairsAgain

/-- Lane retirements come from the wear record where no image was restored (R582). -/
def State.lanesAgain (s : State) : State := (s.wearDone 5).foldl (fun s el => if el < 768 then s.retireLane (el / 8) (el % 8) else s) s

/-- The cold boot ends (R413, R456, R560): failing elements are retired; boot-recovery, or forwarding under the restored or
the empty configuration. -/
def State.coldBoot (s : State) (b : BootIn) : State :=
  if s.power.booted || !s.power.mains then s
  else
    let s := (s.withHearth (fun h => { h with retiring := b.cores.map (fun c => c.val) })).retireCores
    let s := (b.banks.foldl (fun s e => s.bankRetire (hix e.1) e.2.val) s).wearReapply
    let s := ((s.put F.BOOT_STATUS_RUNNING b.running.val).putFlag F.BOOT_STATUS_A_REJECTED b.aRejected).putFlag F.BOOT_STATUS_B_REJECTED b.bRejected
    let s := (s.put F.FW_SECURITY_RUNNING b.version.toNat)
    let s := s.putFlag F.ISO_STATUS_DEBUG_LOCKED (s.get F.LC_STATE_V != 0)
    let s := if b.aRejected || b.bRejected then s.raise 790 else s
    if b.running.val = 0 then (s.withSec (fun x => { x with recovery := true })).raise 790
    else
      let (f, image, s) := s.keepRestore 0 b.keep
      let s := if image = 0 then s else s.lanesAgain
      let s := ((s.put F.KINDLE_STATUS_FROM f).put F.KINDLE_STATUS_IMAGE image).put F.ISO_STATUS_WESIS_OK 1
      let s := ((s.put F.CLK_STATUS_FCLK_E_LOCK 1).put F.CLK_STATUS_FCLK_W_LOCK 1).put F.KINDLE_STATUS_WESIS_VERIFIED 1
      let s := (s.settleTxns.halfReload 0).halfReload 1
      let s := s.withSec (fun x => { x with recovery := false })
      s.withPower (fun p => { p with booted := true, sealed := .live })

/-- COLD_BOOT_COMPLETE (R560). -/
def execColdBootComplete (b : BootIn) (s : State) : Host.Outcome State Fault Refusal := done (s.coldBoot b)

end Sys2Proof.Machine
end

