-- ==== Sys2Proof/Machine/EcpSession.lean ====
section
/-!
DEFINITION. ECP: packets that carry no command, sessions, operations and the management configuration (R425, R431 to R449, the
group 0x00 of R451).
-/
namespace Sys2Proof.Machine

/-! ## Packets without a command -/

/-- ECP_INVALID_PACKET (R425). -/
def execEcpInvalidPacket (src : Source) (s : State) : Host.Outcome State Fault Refusal :=
  done (if s.ecpRuns && s.admits src then (s.received src).discard (fun e => { e with malformed := e.malformed + 1 }) else s)

/-- The opcodes of R451. -/
def ecpOpcodes : List Nat :=
  ([(0x0000, 13), (0x0100, 13), (0x0200, 17), (0x0300, 8), (0x0400, 4), (0x0500, 4), (0x0510, 7), (0x0600, 4), (0x0700, 6), (0x0800, 3),
    (0x0900, 5), (0x0A00, 13), (0x0B00, 5)] : List (Nat × Nat)).flatMap (fun e => (List.range e.2).map (fun k => e.1 + k))

/-- UNKNOWN_OPCODE (R450, R451): every opcode that the table does not hold. -/
def execUnknownOpcode (h : EcpHdr) (opcode : BitVec 16) (s : State) : Host.Outcome State Fault Refusal :=
  if ecpOpcodes.contains opcode.toNat then done s
  else ecpDo s (.unknownOpcode h opcode) { h with paramErr := none } ⟨opcode.toNat, pObserve⟩ (fun _ s => ((.unknownOpcode, []), s))

/-- MGMT_NETWORK_FRAME (R431). -/
def execMgmtNetworkFrame (f : Frame) (s : State) : Host.Outcome State Fault Refusal :=
  done (if !s.ecpRuns then s
    else match f with
      | .arp => s.emit (.netReply 0)
      | .icmpEcho => s.emit (.netReply 1)
      | .neighbour => s.emit (.netReply 2)
      | .icmpv6Echo => s.emit (.netReply 3)
      | .fragment src ident =>
        s.withEcp (fun e => { e with fragments := e.fragments.filter (fun (x : Nat × Nat) => x != (src, ident)) ++ [(src, ident)] })
      | .other => s)

/-- FRAGMENT_REASSEMBLY_TIMEOUT (R431). -/
def execFragmentReassemblyTimeout (src ident : Nat) (s : State) : Host.Outcome State Fault Refusal :=
  done (s.withEcp (fun e => { e with fragments := e.fragments.filter (fun (x : Nat × Nat) => x != (src, ident)) }))

/-! ## Times that end (R436, R438, R445) -/

/-- PENDING_SESSION_EXPIRY (R436). -/
def execPendingSessionExpiry (id : Fin 65536) (s : State) : Host.Outcome State Fault Refusal :=
  done (s.withEcp (fun e => { e with opening := e.opening.filter (fun p => p.id != id.val) }))

/-- SESSION_IDLE_TIMEOUT (R438). -/
def execSessionIdleTimeout (id : Fin 65536) (s : State) : Host.Outcome State Fault Refusal :=
  done (s.endSessions (fun x => x.id == id.val))

/-- CHALLENGE_LOCKOUT_END (R436). -/
def execChallengeLockoutEnd (src : Source) (s : State) : Host.Outcome State Fault Refusal :=
  done (s.withEcp (fun e => { e with locked := e.locked.filter (fun x => x != src) }))

/-- OPERATION_STATUS_EXPIRY (R445): 600 s have passed; the status is dropped once 256 newer operations have ended. -/
def execOperationStatusExpiry (id : BitVec 32) (s : State) : Host.Outcome State Fault Refusal :=
  done (let ended := s.ops.filter (fun o => decide (o.status ≠ .accepted))
    let newer := (ended.dropWhile (fun o => o.id != id.toNat)).length - 1
    if ended.any (fun o => o.id == id.toNat) && decide (256 ≤ newer) then { s with ops := s.ops.filter (fun o => o.id != id.toNat) } else s)

/-! ## Identity and sessions (R436 to R439) -/

/-- The part number in ASCII (R2, R451): AEF-9680-B0-LC, or -LX by the temperature grade. -/
def State.partNumber (s : State) : List Nat :=
  [0x41, 0x45, 0x46, 0x2D, 0x39, 0x36, 0x38, 0x30, 0x2D, 0x42, 0x30, 0x2D, 0x4C, if s.rd .ID_GRADE = 0 then 0x43 else 0x58]

/-- What GET_IDENTITY answers (R451). -/
def State.identity (s : State) : List Nat :=
  s.partNumber ++ [(s.rd .ID_REVISION).toNat % 65536, (s.rd .ID_SERIAL).toNat, (Config.wesisVersion (s.get F.BOOT_STATUS_RUNNING)).toNat,
    s.get F.LC_STATE_V, (s.rd .BOOT_STATUS).toNat]

/-- GET_IDENTITY. -/
def execGetIdentity (h : EcpHdr) (s : State) : Host.Outcome State Fault Refusal :=
  ecpDo s (.getIdentity h) h ⟨0x0000, {}⟩ (fun _ s => ((.ok, s.identity), s))

/-- A session number that is not in use (R424). -/
def State.freshSession (s : State) : Nat × State :=
  let (r, s) := s.draw 16
  let used := s.sessions.map Session.id ++ s.ecp.opening.map PendingSession.id
  ((((List.range 32).map (fun k => (r + k) % 65535 + 1)).find? (fun n => !used.contains n)).getD 1, s)

/-- A challenge (R436): a locked-out source gets no answer. -/
def State.challenge (s : State) (src : Source) (cred nonce : Nat) : Option Ans × State :=
  if s.ecp.locked.contains src then (none, s)
  else if 16 ≤ s.sessions.length ∨ 4 ≤ s.ecp.opening.length then (some (refuse .noResource), s)
  else
    let (id, s) := s.freshSession
    let (dn, s) := s.draw 128
    let p : PendingSession := { id := id, credential := cred, source := src, clientNonce := nonce, deviceNonce := dn }
    (some (.ok, [id, dn]), s.withEcp (fun e => { e with opening := e.opening ++ [p] }))

/-- SESSION_CHALLENGE: on session 0 only. -/
def execSessionChallenge (h : EcpHdr) (cred : Fin 32) (nonce : BitVec 128) (s : State) : Host.Outcome State Fault Refusal :=
  done (s.ecpPacket (.sessionChallenge h cred nonce) h ⟨0x0001, {}⟩ (fun x s =>
    if x.id = 0 then s.challenge h.src cred.val nonce.toNat else (some (refuse .invalid), s)))

/-- Permissions as the parameter of R429. -/
def Perms.bits (p : Perms) : Nat :=
  (if p.observe then 1 else 0) + (if p.configure then 2 else 0) + (if p.inspect then 4 else 0) + (if p.unlock then 8 else 0)
    + (if p.lifecycle then 16 else 0)

/-- A failed open (R436): the sixteenth of a source within 60 s locks it out. -/
def State.openFailed (s : State) (src : Source) : State :=
  let now := s.now
  s.discard (fun e =>
    let l := e.fails.filter (fun (x : Source × Nat) => decide (now ≤ x.2 + 60000000000)) ++ [(src, now)]
    { e with openFails := e.openFails + 1, fails := l,
             locked := if 16 ≤ (l.filter (fun (x : Source × Nat) => decide (x.1 = src))).length ∧ !e.locked.contains src then e.locked ++ [src]
                       else e.locked })

/-- The management configuration in force: a field that was not written has its default (R434). -/
def mgmtDefault (f : Nat) : Nat := ([0, 0, 24, 0, 0, 0, 64, 7730, 0, 8, 9, 0, 0, 0, 300] : List Nat).getD f 0
def State.mgmt (s : State) (f : Nat) : Nat := (tabFind f s.flash.mgmt).getD (mgmtDefault f)

/-- The pending session opens, or its open fails (R436). -/
def State.openSession (s : State) (h : EcpHdr) (p : PendingSession) : State :=
  let s := s.received h.src
  if h.seq.toNat ≠ 1 then s.noSession h 0x0002
  else
    let s := s.withEcp (fun e => { e with opening := e.opening.filter (fun q => q.id != p.id) })
    match (s.flash.credentials.find? (fun c => c.1 == p.credential)).filter (fun c => h.tagOk && c.2.enabled) with
    | none => s.openFailed h.src
    | some (_, c) =>
      let x : Session := { id := p.id, credential := p.credential, perms := c.perms.full, source := h.src, high := 1, record := [1],
                           idle := s.mgmt 14 }
      let s := State.count { s with sessions := s.sessions ++ [x] } 228 0 1
      s.replyTo h.src p.id 1 0x0002 (.ok, [x.perms.bits])

/-- SESSION_OPEN: on a pending session of its source; on any other it is a command like the rest, and refused. -/
def execSessionOpen (h : EcpHdr) (s : State) : Host.Outcome State Fault Refusal :=
  match s.ecp.opening.find? (fun p => p.id == h.sess.val && decide (p.source = h.src)) with
  | some p => done (if s.ecpRuns && s.admits h.src && s.ecp.release.isNone then s.openSession h p else s)
  | none => ecpDo s (.sessionOpen h) h ⟨0x0002, {}⟩ (fun _ s => (refuse .invalid, s))

/-- SESSION_CLOSE (R438). -/
def execSessionClose (h : EcpHdr) (s : State) : Host.Outcome State Fault Refusal :=
  ecpDo s (.sessionClose h) h ⟨0x0003, {}⟩ (fun x s => (okAns, s.endSessions (fun y => y.id == x.id)))

/-- GET_SESSION. -/
def execGetSession (h : EcpHdr) (s : State) : Host.Outcome State Fault Refusal :=
  ecpDo s (.getSession h) h ⟨0x0004, {}⟩ (fun x s => ((.ok, [x.perms.bits, x.replyLimit]), s))

/-- SET_REPLY_LIMIT. -/
def execSetReplyLimit (h : EcpHdr) (count : BitVec 32) (s : State) : Host.Outcome State Fault Refusal :=
  ecpDo s (.setReplyLimit h count) h ⟨0x0005, {}⟩ (fun x s =>
    if 256 ≤ count.toNat ∧ count.toNat ≤ 4096 then (okAns, s.setSession { x with replyLimit := count.toNat })
    else ((.invalid, [0x0010, noItem]), s))

/-- SUBSCRIBE (R450). -/
def execSubscribe (h : EcpHdr) (mask : BitVec 32) (s : State) : Host.Outcome State Fault Refusal :=
  ecpDo s (.subscribe h mask) h ⟨0x0006, pObserve⟩ (fun x s =>
    if mask.toNat < 2 ^ 12 then (okAns, s.setSession { x with mask := mask.toNat }) else ((.invalid, [0x0019, noItem]), s))

/-! ## Operations (R445 to R448) -/

/-- An operation whose status is kept. -/
def State.operation (s : State) (id : Nat) : Option Operation := s.ops.find? (fun o => o.id == id)

/-- What GET_OPERATION answers. -/
def State.getOperation (s : State) (id : Nat) : Ans :=
  match s.operation id with
  | some o => (.ok, [o.status.code])
  | none => (.invalid, [0x0001, noItem])

/-- GET_OPERATION. -/
def execGetOperation (h : EcpHdr) (id : BitVec 32) (s : State) : Host.Outcome State Fault Refusal :=
  ecpDo s (.getOperation h id) h ⟨0x0007, pObserve⟩ (fun _ s => (s.getOperation id.toNat, s))

/-- A retirement that has not switched is cancelled (R448). -/
def State.retireCancel (s : State) (p k : Nat) : State :=
  let x := s.link p
  if x.switchTx.isSome || x.retireDue || (!s.isCascade p && s.flag F.LANE_RETIRE_RETIRE_BUSY p) then
    let s := s.wr .LANE_RETIRE (Word.setBits (s.rd .LANE_RETIRE p) k 1 0) p
    let s := s.setLink p { x with switchTx := none, retireAsked := false, retireDue := false }
    (s.put F.LANE_RETIRE_RETIRE_BUSY 0 p).put F.LL_STATUS_RETIRING 0 p
  else s

/-- The transaction of an operation waits for slot 3: it is dropped. -/
def State.fwDrop (s : State) (o : Operation) : State :=
  (s.withTxns (fun t => { t with fw := t.fw.filter (fun x => x.opId != some o.id) })).endOperation o .aborted

/-- The transaction of an operation in a slot of its own: dropped while it waits, refused while it is validated (R286). -/
def State.abortTxn (s : State) (o : Operation) (t : Nat) : Option State :=
  if s.txns.fw.any (fun x => x.opId == some o.id) then some (s.fwDrop o)
  else if s.txState t == txValidating && (t != 3 || (s.tx 3).fw.bind FwTxn.opId == some o.id) then some (s.commitRefused t .aborted none)
  else none

/-- Stop an operation before its point of no return (R448): none where it has none left. -/
def State.abortOp (s : State) (o : Operation) : Option State :=
  match o.kind with
  | .commit t => s.abortTxn o t
  | .relocStarting => s.abortTxn o 3
  | .relocation x => if s.rlState x == rlFree || s.rlState x == rlCommitting then none else some (s.rlBack x).2
  | .chain c => some (s.chAbort c)
  | .unfence r host => some ((s.recallEnd r host).endOperation o .aborted)
  | .retireLane p k => some ((s.retireCancel p k).endOperation o .aborted)
  | .marginLane p => some ((s.put F.MARGIN_STATUS_BUSY 0 p).endOperation o .aborted)
  | _ => none

/-- ABORT_OPERATION (R447). -/
def State.abort (s : State) (x : Session) (id seq : Nat) : Option Ans × State :=
  match s.operation id with
  | none => (some (.invalid, [0x0001, noItem]), s)
  | some o =>
    if o.session ≠ x.id ∧ o.credential ≠ x.credential then (some (refuse .denied), s)
    else if o.status ≠ .accepted then (some (.alreadyDone, [o.status.code]), s)
    else
      match s.abortOp o with
      | some s => (some okAns, s)
      | none => (none, s.setSession { x with held := some (id, seq) })

/-- ABORT_OPERATION. -/
def execAbortOperation (h : EcpHdr) (id : BitVec 32) (s : State) : Host.Outcome State Fault Refusal :=
  done (s.ecpPacket (.abortOperation h id) h ⟨opAbort, {}⟩ (fun x s => s.abort x id.toNat h.seq.toNat))

/-- LIST_OPERATIONS. -/
def execListOperations (h : EcpHdr) (start : BitVec 32) (s : State) : Host.Outcome State Fault Refusal :=
  ecpDo s (.listOperations h start) h ⟨0x0009, pObserve⟩ (fun x s =>
    (pageOf x.replyLimit 16 start.toNat (s.ops.map (fun o => [o.id, o.status.code])), s))

/-! ## Statistics and the management configuration (R434) -/

/-- GET_ECP_STATS: the counts of R425, R427, R436 and R440. -/
def execGetEcpStats (h : EcpHdr) (s : State) : Host.Outcome State Fault Refusal :=
  ecpDo s (.getEcpStats h) h ⟨0x000A, pObserve⟩ (fun _ s =>
    ((.ok, [s.ecp.malformed, s.ecp.authFails, s.ecp.openFails, s.ecp.replayed, s.ecp.uncached]), s))

/-- GET_MGMT_CONFIG: field numbers and values; ACCEPT once per prefix. -/
def execGetMgmtConfig (h : EcpHdr) (s : State) : Host.Outcome State Fault Refusal :=
  ecpDo s (.getMgmtConfig h) h ⟨0x000B, pObserve⟩ (fun _ s =>
    ((.ok, ([0, 1, 2, 3, 4, 5, 6, 7] : List Nat).flatMap (fun f => [f, s.mgmt f]) ++ s.flash.accept.flatMap (fun a => [8, a])
      ++ ([9, 10, 11, 12, 13, 14] : List Nat).flatMap (fun f => [f, s.mgmt f])), s))

/-- The range of a field (R434). -/
def mgmtAllows (f v : Nat) : Bool :=
  match f with
  | 0 | 13 => decide (v ≤ 1)
  | 1 | 3 => decide (v < 2 ^ 32)
  | 2 => decide (8 ≤ v) && decide (v ≤ 30)
  | 4 | 5 | 8 | 11 => true
  | 6 => decide (16 ≤ v) && decide (v ≤ 127)
  | 7 => decide (1024 ≤ v) && decide (v ≤ 65535)
  | 9 | 10 => decide (8 ≤ v) && decide (v ≤ 254)
  | 12 => decide (v < 2 ^ 31)
  | 14 => decide (10 ≤ v) && decide (v ≤ 3600)
  | _ => false

/-- Write the fields: the values of field 8 become the ACCEPT prefixes; a value 0 names none. -/
def State.setMgmt (s : State) (l : List (Nat × Nat)) : State :=
  let acc := (l.filter (fun (e : Nat × Nat) => e.1 == 8)).map Prod.snd
  s.withFlash (fun f =>
    { f with accept := (if acc.isEmpty then f.accept else acc.filter (fun a => a != 0)),
             mgmt := (l.filter (fun (e : Nat × Nat) => e.1 != 8)).foldl (fun m e => tabInsert natLt e.1 e.2 (tabErase e.1 m)) f.mgmt })

/-- SET_MGMT_CONFIG. -/
def execSetMgmtConfig (h : EcpHdr) (fields : List (Nat × Nat)) (s : State) : Host.Outcome State Fault Refusal :=
  ecpDo s (.setMgmtConfig h fields) h ⟨0x000C, pLifecycle⟩ (fun _ s =>
    if fields.all (fun e => mgmtAllows e.1 e.2) && decide ((fields.filter (fun e => e.1 == 8)).length ≤ 8) then (okAns, s.setMgmt fields)
    else (refuse .invalid, s))

end Sys2Proof.Machine
end

