-- ==== Sys2Proof/Machine/EcpPort.lean ====
section
/-!
DEFINITION. ECP: the commands of group 0x01, ports and links (R451), each written over an action that the fabric-manager API
shares (R453).
-/
namespace Sys2Proof.Machine

/-! ## Reaching a port -/

/-- Do something at a port, over the Flue link of its half (R30): TIMEOUT where that half does not answer. -/
def State.atPort (s : State) (p : Nat) (f : State → Ans × State) : Ans × State :=
  let (ok, s) := s.reach [0x01000000 + 0x10000 * p]
  if ok then f s else (refuse .timeout, s)

/-- Whether a request can be sent to the partner of a port now. -/
def State.partnerUp (s : State) (p : Nat) : Bool :=
  (s.linkState p == lsL0 || s.linkState p == lsL0p || s.linkState p == lsL1) && !s.refuses p

/-! ## Registers and lanes -/

/-- What GET_PORT answers. -/
def State.getPort (s : State) (p : Nat) : Ans × State := s.getObject [(0x01000000 + 0x10000 * p, 0x2300)]

/-- GET_PORT. -/
def execGetPort (h : EcpHdr) (p : Port) (s : State) : Host.Outcome State Fault Refusal :=
  ecpDo s (.getPort h p) h ⟨0x0100, pObserve⟩ (fun _ s => s.getPort p.val)

/-- Take a port to Disabled, or out of it (R79): a port that carries a binding is refused Disabled; one in a test stays. -/
def State.setPortDisabled (s : State) (p : Nat) (b : Bool) : Ans × State :=
  if b then
    if s.carriesBinding p then (refuse .busy, s)
    else
      let s := { s with lanes := { s.lanes with disabled := s.lanes.disabled.filter (fun x => x != p) ++ [p] } }
      (okAns, if s.linkState p == lsDisabled then s else s.linkFalls p lsDisabled)
  else if !s.lanes.disabled.contains p then (okAns, s)
  else if s.linkState p != lsDisabled then (refuse .busy, s)
  else
    let s := { s with lanes := { s.lanes with disabled := s.lanes.disabled.filter (fun x => x != p) } }
    (okAns, s.setLinkState p (s.restState p))

/-- SET_PORT_DISABLED. -/
def execSetPortDisabled (h : EcpHdr) (p : Port) (disabled : Bool) (s : State) : Host.Outcome State Fault Refusal :=
  ecpDo s (.setPortDisabled h p disabled) h ⟨0x0101, pConfigure⟩ (fun _ s => s.atPort p.val (fun s => s.setPortDisabled p.val disabled))

/-- RETRAIN_PORT (R63). -/
def execRetrainPort (h : EcpHdr) (p : Port) (s : State) : Host.Outcome State Fault Refusal :=
  ecpDo s (.retrainPort h p) h ⟨0x0102, pConfigure⟩ (fun _ s => s.atPort p.val (fun s => (okAns, s.retrain p.val)))

/-- Reset a port as an operation (R40). -/
def State.resetPort (s : State) (x : Session) (p : Nat) : Ans × State :=
  if s.portBusy p then (refuse .busy, s) else s.atPort p (fun s => s.long x (.resetPort p) (fun s => s.rstPort p))

/-- RESET_PORT. -/
def execResetPort (h : EcpHdr) (p : Port) (s : State) : Host.Outcome State Fault Refusal :=
  ecpDo s (.resetPort h p) h ⟨0x0103, pConfigure⟩ (fun x s => s.resetPort x p.val)

/-- Hold a port, or release it: refused while another cause of R109 holds it. -/
def State.commandHold (s : State) (p : Nat) (b : Bool) : Ans × State :=
  if b then (okAns, s.holdPort p .command)
  else if (s.holdCauses p).any (fun c => decide (c ≠ .command)) then (refuse .busy, s)
  else (okAns, s.unhold p (fun c => decide (c = .command)))

/-- HOLD_PORT. -/
def execHoldPort (h : EcpHdr) (p : Port) (hold : Bool) (s : State) : Host.Outcome State Fault Refusal :=
  ecpDo s (.holdPort h p hold) h ⟨0x0104, pConfigure⟩ (fun _ s => s.atPort p.val (fun s => s.commandHold p.val hold))

/-- Retire a lane as an operation that ends when RETIRE_BUSY clears (R84, R85); a third lane of a Cascade port is a limit. -/
def State.retireOp (s : State) (x : Session) (p k : Nat) : Ans × State :=
  if s.isCascade p && decide (2 ≤ s.retiredCount p) && Word.bits (s.rd .LANE_RETIRE p) k 1 == 0 then (refuse .noResource, s)
  else
    s.long x (.retireLane p k) (fun s =>
      let s := s.retireLane p k
      if s.flag F.LANE_RETIRE_RETIRE_BUSY p then s else s.endOp (.retireLane p k) .ok)

/-- RETIRE_LANE. -/
def execRetireLane (h : EcpHdr) (p : Port) (k : Lane) (s : State) : Host.Outcome State Fault Refusal :=
  ecpDo s (.retireLane h p k) h ⟨0x0105, pConfigure⟩ (fun x s => s.atPort p.val (fun s => s.retireOp x p.val k.val))

/-- SAVE_EQUALISATION (R69). -/
def execSaveEqualisation (h : EcpHdr) (p : Port) (s : State) : Host.Outcome State Fault Refusal :=
  ecpDo s (.saveEqualisation h p) h ⟨0x0106, pConfigure⟩ (fun _ s => s.atPort p.val (fun s => (okAns, s.saveEq p.val)))

/-- MARGIN_LANE (R82): the value is that of MARGIN_CTRL. -/
def execMarginLane (h : EcpHdr) (p : Port) (v : BitVec 32) (s : State) : Host.Outcome State Fault Refusal :=
  ecpDo s (.marginLane h p v) h ⟨0x0107, pConfigure⟩ (fun x s => s.atPort p.val (fun s =>
    if s.flag F.MARGIN_STATUS_BUSY p.val then (refuse .busy, s)
    else
      let v := v.toNat
      s.long x (.marginLane p.val) (fun s =>
        s.marginStart p.val (v / 2 ^ 28 % 8) (v / 2 ^ 27 % 2) (v / 2 ^ 26 % 2) (v / 2 ^ 16 % 64) (v % 64))))

/-- The writes of SET_TEST_MODE: TEST_MODE, then LOOPBACK_CTRL and TEST_CTRL; of the register that TEST_MODE does not select, a
value that changes nothing is no write. BUSY where a write was refused (R79). -/
def State.setTestMode (s : State) (p mode loop test : Nat) : Ans × State :=
  let was := s.flag F.LOOPBACK_CTRL_REFUSED p
  let s := (s.put F.LOOPBACK_CTRL_REFUSED 0 p).regWrite ⟨.PHY_CTRL, p, 0⟩ (mode * 2 ^ 16) (3 * 2 ^ 16)
  let s := s.loopbackCtrlWrite p (loop % 2 ^ 31)
  let s := if mode = 1 ∨ test % 32 ≠ (s.rd .TEST_CTRL p).toNat % 32 then s.testCtrlWrite p test else s
  if s.flag F.LOOPBACK_CTRL_REFUSED p || s.get F.PHY_CTRL_TEST_MODE p != mode then (refuse .busy, s.put F.LOOPBACK_CTRL_REFUSED 1 p)
  else (okAns, s.putFlag F.LOOPBACK_CTRL_REFUSED was p)

/-- SET_TEST_MODE (R79 to R81). -/
def execSetTestMode (h : EcpHdr) (p : Port) (mode : Fin 4) (loop test : BitVec 32) (s : State) : Host.Outcome State Fault Refusal :=
  ecpDo s (.setTestMode h p mode loop test) h ⟨0x0108, pConfigure⟩ (fun _ s => s.atPort p.val (fun s =>
    if mode.val = 3 then ((.invalid, [0x000E, noItem]), s) else s.setTestMode p.val mode.val loop.toNat test.toNat))

/-! ## Requests to partners -/

/-- A configuration request to a partner, and its completion: none came back in time. -/
def State.configPartner (s : State) (p ld addr : Nat) (value : Option (BitVec 32)) (reply : Option (BitVec 32)) : Ans × State :=
  if !s.partnerUp p then (refuse .busy, s)
  else
    let s := s.emit (.partnerConfig p ld addr ((value.map BitVec.toNat).getD 0) value.isSome)
    match reply with
    | none => (refuse .timeout, s)
    | some r => ((.ok, if value.isSome then [] else [r.toNat]), s)

/-- A configuration request to the partner of a Device port. -/
def State.ppbConfig (s : State) (p addr : Nat) (value reply : Option (BitVec 32)) : Ans × State :=
  if s.role p < 3 ∨ 5 < s.role p then ((.invalid, [0x0005, noItem]), s)
  else s.atPort p (fun s => s.configPartner p 0 addr value reply)

/-- PPB_CONFIG_REQUEST: a read where it carries no VALUE. -/
def execPpbConfigRequest (h : EcpHdr) (p : Port) (addr : BitVec 64) (value reply : Option (BitVec 32)) (s : State) :
    Host.Outcome State Fault Refusal :=
  ecpDo s (.ppbConfigRequest h p addr value reply) h ⟨0x0109, pConfigure⟩ (fun _ s => s.ppbConfig p.val addr.toNat value reply)

/-- A configuration request to a logical device of a memory device. -/
def State.ldConfig (s : State) (p ld addr : Nat) (value reply : Option (BitVec 32)) : Ans × State :=
  if s.role p ≠ 3 then ((.invalid, [0x0005, noItem]), s)
  else if (s.deviceOf p ld).isNone then ((.invalid, [0x000D, noItem]), s)
  else s.atPort p (fun s => s.configPartner p ld addr value reply)

/-- LD_CONFIG_REQUEST: MODE 0 reads, MODE 1 writes the value. -/
def execLdConfigRequest (h : EcpHdr) (p : Port) (ld : Fin 16) (addr : BitVec 52) (value reply : Option (BitVec 32)) (s : State) :
    Host.Outcome State Fault Refusal :=
  ecpDo s (.ldConfigRequest h p ld addr value reply) h ⟨0x010A, pConfigure⟩ (fun _ s => s.ldConfig p.val ld.val addr.toNat value reply)

/-- The sealed Stalls whose slices a range overlaps (R403, R404). -/
def State.sealedIn (s : State) (x : Placed) : List Nat :=
  s.stallsDefined.filter (fun st => s.flag F.STALL_CTRL_SEALED st && (s.stallRanges st).any (fun r => r.meets x))

/-- A use of Inspect (R404, R407): refused without it, and logged either way. -/
def State.inspect (s : State) (x : Session) (opcode : Nat) (stalls : List Nat) (go : State → Ans × State) : Ans × State :=
  if stalls.isEmpty then go s
  else
    let s := s.audit x opcode stalls
    if x.perms.inspect then go s else (refuse .denied, s)

/-- Write bytes to a raw range of a logical device, line by line. -/
def State.rawWrite (s : State) (p ld dpa : Nat) (data : List Byte) : State :=
  ((cutAt 64 dpa data.length 66).filter (fun e => decide (e.2 ≠ 0))).foldl (fun s (e : Nat × Nat) =>
    let bytes := (data.drop (e.1 - dpa)).take e.2
    let m : Msg := { id := 0, cls := 1, op := .memWrite, input := 126, dst := p, addr := e.1, ld := ld, dpa := e.1, len := e.2,
                     blocks := 1, data := bytes, partialWr := decide (e.2 < 64) }
    (s.agentSend (halfOf p) m).2) s

/-- An access to a raw range of a logical device: the bytes to write, or the bytes that the device returned. -/
def State.ldMemory (s : State) (x : Session) (opcode p ld dpa count : Nat) (write : Bool) (data : List Byte) : Ans × State :=
  match (if s.role p = 3 then s.deviceOf p ld else none) with
  | none => ((.invalid, [0x0005, noItem]), s)
  | some (mib, _) =>
    if mib * 2 ^ 20 < dpa + count then ((.invalid, [0x000D, noItem]), s)
    else if write && decide (data.length ≠ count) then ((.invalid, [0x0014, noItem]), s)
    else
      s.inspect x opcode (s.sealedIn { key := ⟨.DEC_CTRL, 95, 0⟩, port := p, ld := ld, lo := dpa, len := count, raw := true }) (fun s =>
        s.atPort p (fun s =>
          if !s.partnerUp p then (refuse .busy, s)
          else if write then (okAns, s.rawWrite p ld dpa data)
          else if data.length ≠ count then (refuse .timeout, s)
          else ((.ok, data.map BitVec.toNat), s)))

/-- LD_MEMORY_ACCESS (R404). -/
def execLdMemoryAccess (h : EcpHdr) (p : Port) (ld : Fin 16) (dpa : BitVec 52) (count : Fin 4001) (write : Bool) (data : List Byte)
    (s : State) : Host.Outcome State Fault Refusal :=
  ecpDo s (.ldMemoryAccess h p ld dpa count write data) h ⟨0x010B, pConfigure⟩ (fun x s =>
    s.ldMemory x 0x010B p.val ld.val dpa.toNat count.val write data)

/-- Whether the command set reads: Get LD Info and Get LD Allocations (R454). -/
def tunnelReads : TunnelCmd → Bool
  | .ldInfo => true
  | .ldAllocations => true
  | .other => false

/-- The Unsupported return code of the mailbox that a tunnelled command is answered with. -/
def tunnelUnsupported : Nat := 0x15

/-- A management command for the memory device behind a port of ROLE 3, and what the device answered (R454). -/
def State.tunnel (s : State) (p : Nat) (c : TunnelCmd) (data : List Byte) (reply : Option (List Byte)) : Ans × State :=
  if s.role p ≠ 3 then ((.invalid, [0x0005, noItem]), s)
  else if !tunnelReads c then ((.ok, [tunnelUnsupported]), s)
  else
    s.atPort p (fun s =>
      if !s.partnerUp p then (refuse .busy, s)
      else
        let s := s.emit (.tunnel p data)
        match reply with
        | none => (refuse .timeout, s)
        | some r => ((.ok, r.map BitVec.toNat), s))

/-- LD_MGMT_TUNNEL. -/
def execLdMgmtTunnel (h : EcpHdr) (p : Port) (c : TunnelCmd) (data : List Byte) (reply : Option (List Byte)) (s : State) :
    Host.Outcome State Fault Refusal :=
  ecpDo s (.ldMgmtTunnel h p c data reply) h ⟨0x010C, pConfigure⟩ (fun _ s => s.tunnel p.val c data reply)

end Sys2Proof.Machine
end

