-- ==== Sys2Proof/Machine/EcpTxn.lean ====
section
/-!
DEFINITION. ECP: the commands of group 0x03, transactions (R274 to R288, R451).
-/
namespace Sys2Proof.Machine

/-! ## Whose transaction it is (R275, R276) -/

/-- A command that names a transaction: INVALID where the slot holds none, DENIED where it is not the session's. -/
def State.onTxn (s : State) (x : Session) (t : Nat) (f : State → Ans × State) : Ans × State :=
  if s.txState t == txFree then ((.invalid, [0x0004, noItem]), s)
  else if t = 3 ∨ (s.tx t).owner ≠ x.id then (refuse .denied, s)
  else f s

/-- The first free slot of those that sessions may open (R274). -/
def State.freeTxn (s : State) : Option Nat := ([0, 1, 2] : List Nat).find? (fun t => s.txState t == txFree)

/-- Begin (R274, R281). -/
def State.txnBegin (s : State) (x : Session) : Ans × State :=
  match s.freeTxn with
  | none => (refuse .noResource, s)
  | some t =>
    let s := s.setTx t { owner := x.id, inspect := x.perms.inspect }
    let s := (s.setTxState t txOpen).put F.SLOT_BASE_EPOCH_V (s.get F.EPOCH_V) t
    ((.ok, [t]), s)

/-- TXN_BEGIN. -/
def execTxnBegin (h : EcpHdr) (s : State) : Host.Outcome State Fault Refusal :=
  ecpDo s (.txnBegin h) h ⟨0x0300, pConfigure⟩ (fun x s => s.txnBegin x)

/-! ## Writes into the shadow (R277 to R279) -/

/-- A meter entry is one entry in both halves: its key in the shadow is East's. -/
def Key.shadowed (k : Key) : Key := if k.reg.isMeter then { k with i := 0 } else k

/-- The register, value and mask of a Write: a 4-byte VALUE writes a whole 32-bit register, or one half of a 64-bit one. -/
def itemAt (e : RegItem) : Option (Key × Nat × Nat) :=
  match regAt e.addr.toNat with
  | none => none
  | some (k, off) =>
    if e.wide then
      if off = 0 ∧ k.reg.wide then some (k, e.value.toNat, e.mask.toNat) else none
    else if off = 0 ∨ off = 4 then
      some (k, e.value.toNat % 2 ^ 32 * 2 ^ (8 * off), e.mask.toNat % 2 ^ 32 * 2 ^ (8 * off))
    else none

/-- Whether a Write is one that R279 allows. -/
def writeAllowed (k : Key) (v m : Nat) : Bool :=
  let t := k.reg.txnMask
  t != 0 && Nat.land m t == m
    && (Reg.fields k.reg).all (fun f => !(k.reg.enumField f.lo && Nat.land m f.mask == f.mask) || f.allows (f.of v))

/-- The shadow value of a register: the committed one before its first write (R278). -/
def State.shadowOf (s : State) (t : Nat) (k : Key) : Word := (tabFind k (s.tx t).shadow).getD (s.rd k.reg k.i k.j)

/-- Replace a register's shadow value; the shadow keeps the order of first writes. -/
def shadowPut (l : List (Key × Word)) (k : Key) (v : Word) : List (Key × Word) :=
  if l.any (fun e => decide (e.1 = k)) then l.map (fun e => if e.1 = k then (k, v) else e) else l ++ [(k, v)]

/-- One Write into the shadow. -/
def State.shadowWrite (s : State) (t : Nat) (k : Key) (v m : Nat) : State :=
  let k := k.shadowed
  let x := s.tx t
  let new := BitVec.ofNat 64 (blend m (s.shadowOf t k).toNat v)
  s.setTx t { x with shadow := shadowPut x.shadow k new, writes := (if x.writes.contains k then x.writes else x.writes ++ [k]) }

/-- An INVALID that an item caused. -/
def badItem (addr : Nat) : Ans := (.invalid, [0x000D, addr])

/-- TXN_WRITE: every item is checked before any is written. -/
def State.txnWrite (s : State) (t : Nat) (items : List RegItem) : Ans × State :=
  if s.txState t != txOpen then (refuse .busy, s)
  else
    match items.find? (fun e => match itemAt e with | some (k, v, m) => !writeAllowed k v m | none => true) with
    | some e => (badItem e.addr.toNat, s)
    | none =>
      let new := items.foldl (fun s e => match itemAt e with | some (k, v, m) => s.shadowWrite t k v m | none => s) s
      if 16384 < (new.tx t).writes.length then (refuse .noResource, s) else (okAns, new)

/-- TXN_WRITE. -/
def execTxnWrite (h : EcpHdr) (t : Fin 4) (items : List RegItem) (s : State) : Host.Outcome State Fault Refusal :=
  ecpDo s (.txnWrite h t items) h ⟨0x0301, pConfigure⟩ (fun x s => s.onTxn x t.val (fun s => s.txnWrite t.val items))

/-- The registers of a table entry of a kind, in ascending offset (R277, R429). -/
def entryRegs : Nat → List Reg
  | 0 => [.WIN_BASE, .WIN_SIZE, .WIN_ATTR]
  | 1 => [.DEC_CTRL, .DEC_BASE, .DEC_SIZE, .DEC_OFFSET]
  | 2 => [.STALL_SLICE]
  | 3 => [.METER_CTRL, .METER_CIR, .METER_PIR, .METER_BURST]
  | 4 => [.REGION_CTRL, .REGION_LAYOUT]
  | 5 => [.REGION_SLICE, .REGION_LEDGER]
  | _ => []

/-- The values of registers that lie one behind the other. -/
def entryValues (i j : Nat) : List Reg → List Byte → List (Key × Nat)
  | [], _ => []
  | r :: t, b => (⟨r, i, j⟩, leNat (b.take r.bytes)) :: entryValues i j t (b.drop r.bytes)

/-- The registers and values of an entry: none where its kind, its offset or its length do not fit. -/
def entryAt (e : Entry) : Option (List (Key × Nat)) :=
  let rs := entryRegs e.kind.toNat
  match regAt e.off.toNat with
  | some (k, 0) =>
    if rs.head? = some k.reg ∧ e.data.length = (rs.map Reg.bytes).foldl (fun a b => a + b) 0 then some (entryValues k.i k.j rs e.data)
    else none
  | _ => none

/-- An entry replaces the whole shadow entry (R278). -/
def State.shadowEntry (s : State) (t : Nat) (l : List (Key × Nat)) : State :=
  let x := s.tx t
  let put (sh : List (Key × Word)) (e : Key × Nat) : List (Key × Word) :=
    let k := e.1.shadowed
    shadowPut sh k (BitVec.ofNat 64 (blend k.reg.txnMask (s.shadowOf t k).toNat e.2))
  let first := (l.map (fun e => e.1.shadowed)).take 1
  s.setTx t { x with shadow := l.foldl put x.shadow,
                     entries := x.entries ++ first.filter (fun k => !x.entries.contains k) }

/-- TXN_WRITE_ENTRY. -/
def State.txnEntries (s : State) (t : Nat) (es : List Entry) : Ans × State :=
  if s.txState t != txOpen then (refuse .busy, s)
  else
    match es.find? (fun e => match entryAt e with
        | some l => l.any (fun x => !writeAllowed x.1 x.2 x.1.reg.txnMask)
        | none => true) with
    | some e => ((.invalid, [0x0015, e.off.toNat]), s)
    | none =>
      let new := es.foldl (fun s e => match entryAt e with | some l => s.shadowEntry t l | none => s) s
      if 4096 < (new.tx t).entries.length then (refuse .noResource, s) else (okAns, new)

/-- TXN_WRITE_ENTRY. -/
def execTxnWriteEntry (h : EcpHdr) (t : Fin 4) (es : List Entry) (s : State) : Host.Outcome State Fault Refusal :=
  ecpDo s (.txnWriteEntry h t es) h ⟨0x0302, pConfigure⟩ (fun x s => s.onTxn x t.val (fun s => s.txnEntries t.val es))

/-- TXN_READ: the shadow value, or the committed one of a register that the transaction did not write (R280). -/
def execTxnRead (h : EcpHdr) (t : Fin 4) (addr : BitVec 64) (s : State) : Host.Outcome State Fault Refusal :=
  ecpDo s (.txnRead h t addr) h ⟨0x0303, pConfigure⟩ (fun x s => s.onTxn x t.val (fun s =>
    match regAt addr.toNat with
    | some (k, 0) => if k.reg.txnMask = 0 then (badItem addr.toNat, s) else ((.ok, [(s.shadowOf t.val k.shadowed).toNat]), s)
    | _ => (badItem addr.toNat, s)))

/-! ## Commit and rollback (R282, R287) -/

/-- The mirroring sessions that a shadow enables with INSPECT: a use of the Inspect permission (R193, R404, R407). -/
def State.inspects (s : State) (t : Nat) : List Nat :=
  ((s.tx t).shadow.filter (fun e => decide (e.1.reg = .MIR_CTRL)
    && Word.bits e.2 F.MIR_CTRL_EN.lo 1 == 1 && Word.bits e.2 F.MIR_CTRL_INSPECT.lo 1 == 1)).map (fun e => e.1.addr)

/-- TXN_COMMIT: a long command from an Open transaction; banking and Hold refuse it at once (R282, R303); an empty shadow ends it at
once (R284). -/
def State.txnCommit (s : State) (x : Session) (t : Nat) : Ans × State :=
  if s.txState t != txOpen then ((.invalid, [0x0004, noItem]), s)
  else if s.refusing then (refuse .busy, s)
  else
    let s := if (s.inspects t).isEmpty then s else s.audit x 0x0304 (s.inspects t)
    s.long x (.commit t) (fun s => if (s.tx t).shadow.isEmpty then s.commitEmpty t else s.commitStart t)

/-- TXN_COMMIT. -/
def execTxnCommit (h : EcpHdr) (t : Fin 4) (s : State) : Host.Outcome State Fault Refusal :=
  ecpDo s (.txnCommit h t) h ⟨0x0304, pConfigure⟩ (fun x s => s.onTxn x t.val (fun s => s.txnCommit x t.val))

/-- TXN_ROLLBACK (R287): BUSY while a commit of the transaction is in progress (R286). -/
def execTxnRollback (h : EcpHdr) (t : Fin 4) (s : State) : Host.Outcome State Fault Refusal :=
  ecpDo s (.txnRollback h t) h ⟨0x0305, pConfigure⟩ (fun x s => s.onTxn x t.val (fun s =>
    if s.txState t.val != txOpen then (refuse .busy, s) else (okAns, s.txClear t.val)))

/-- TXN_STATUS. -/
def execTxnStatus (h : EcpHdr) (s : State) : Host.Outcome State Fault Refusal :=
  ecpDo s (.txnStatus h) h ⟨0x0306, pObserve⟩ (fun _ s => s.getObject [(0x05800000, 0x240)])

/-! ## Direct writes -/

/-- The value that a masked write puts on a register: RW and RWS bits outside the mask keep theirs, other bits there read 0. -/
def directValue (k : Key) (old v m : Nat) : Nat :=
  let kept := k.reg.maskOf (fun f => decide (f.acc = .RW) || decide (f.acc = .RWS))
  Nat.land (blend m old v) kept + (Nat.land v m - Nat.land (Nat.land v m) kept)

/-- WRITE_DIRECT: fields other than RWT only; window entries have a command of their own (R236). -/
def State.writeDirect (s : State) (items : List RegItem) : Ans × State :=
  match items.find? (fun e => match itemAt e with | some (k, _, m) => k.reg.isWindow || Nat.land m k.reg.txnMask != 0 | none => true) with
  | some e => (badItem e.addr.toNat, s)
  | none =>
    let (ok, s) := s.reach (items.map (fun e => e.addr.toNat))
    if !ok then (refuse .timeout, s)
    else
      (okAns, items.foldl (fun s e =>
        match itemAt e with
        | some (k, v, m) =>
          s.regWrite k (directValue k (s.rd k.reg k.i k.j).toNat v m) m
        | none => s) s)

/-- WRITE_DIRECT. -/
def execWriteDirect (h : EcpHdr) (items : List RegItem) (s : State) : Host.Outcome State Fault Refusal :=
  ecpDo s (.writeDirect h items) h ⟨0x0307, pConfigure⟩ (fun _ s => s.writeDirect items)

end Sys2Proof.Machine
end

