-- ==== Sys2Proof/Machine/EcpStall.lean ====
section
/-!
DEFINITION. ECP: the commands of group 0x02, Stalls, inventory, windows and virtual switches (R451).
-/
namespace Sys2Proof.Machine

/-- Both halves' blocks: what a command reaches that acts on a table of both. -/
def bothHalves : List Nat := [0x02000000, 0x03000000]

/-- Do something in both halves, over the Flue links (R30). -/
def State.atHalves (s : State) (f : State → Ans × State) : Ans × State :=
  let (ok, s) := s.reach bothHalves
  if ok then f s else (refuse .timeout, s)

/-! ## Stalls -/

/-- GET_STALL. -/
def execGetStall (h : EcpHdr) (st : StallId) (s : State) : Host.Outcome State Fault Refusal :=
  ecpDo s (.getStall h st) h ⟨0x0200, pObserve⟩ (fun _ s => s.getObject [(0x05400000 + 0x100 * st.val, 0x100)])

/-- LIST_STALLS: numbers and states. -/
def execListStalls (h : EcpHdr) (start : BitVec 32) (s : State) : Host.Outcome State Fault Refusal :=
  ecpDo s (.listStalls h start) h ⟨0x0201, pObserve⟩ (fun x s =>
    (pageOf x.replyLimit 16 start.toNat ((List.range 4096).map (fun st => [st, s.stall st])), s))

/-- QUENCH or unquench a Stall (R215); a Frozen Stall stays quenched (R258), and so does one that is being erased, until the end of
the erase (R253). -/
def State.quenchStall (s : State) (st : Nat) (b : Bool) : Ans × State :=
  if !b && s.stall st == stFrozen then (refuse .busy, s)
  else s.atHalves (fun s => (okAns, if s.erasing st then s.setEmul st { s.emul st with wasQuenched := b } else s.setQuench st b))

/-- QUENCH_STALL. -/
def execQuenchStall (h : EcpHdr) (st : StallId) (quench : Bool) (s : State) : Host.Outcome State Fault Refusal :=
  ecpDo s (.quenchStall h st quench) h ⟨0x0202, pConfigure⟩ (fun _ s => s.quenchStall st.val quench)

/-- Reset a Stall as an operation (R259). -/
def State.resetStall (s : State) (x : Session) (st : Nat) : Ans × State :=
  if !s.flag F.STALL_CTRL_DEFINED st then ((.invalid, [0x0007, noItem]), s)
  else if s.stall st == stResetting then (refuse .busy, s)
  else s.long x (.resetStall st) (fun s => s.stallResetStart st)

/-- RESET_STALL. -/
def execResetStall (h : EcpHdr) (st : StallId) (s : State) : Host.Outcome State Fault Refusal :=
  ecpDo s (.resetStall h st) h ⟨0x0203, pConfigure⟩ (fun x s => s.resetStall x st.val)

/-- The ports of a Stall's slices. -/
def State.slicePorts (s : State) (st : Nat) : List Nat := ((s.stallRanges st).map (fun r => r.port)).eraseDups

/-- Whether a slice of the object lies on a device that came back as another (R266, R336). -/
def State.sliceSwapped (s : State) (region : Bool) (o : Nat) : Bool := s.swapped.any (fun r => r.region == region && r.obj == o)

/-- The state that a Failed Stall returns to: Bound (R265), and what it was where it is quenched or has no binding. -/
def State.resumedState (s : State) (st : Nat) : Nat :=
  if !s.flag F.STALL_BIND_BOUND st then stDefined else if s.quenchSet st then stQuenched else stBound

/-- Resume a Failed Stall (R265): the checks in their order. -/
def State.resumeStall (s : State) (st : Nat) : Ans × State :=
  if s.stall st != stFailed then ((.invalid, [0x0007, noItem]), s)
  else
    match s.portNotBack (s.slicePorts st) with
    | some e => (refuse e, s)
    | none => if s.sliceSwapped false st then (refuse .invalid, s) else (okAns, s.setStall st (s.resumedState st))

/-- RESUME_STALL. -/
def execResumeStall (h : EcpHdr) (st : StallId) (s : State) : Host.Outcome State Fault Refusal :=
  ecpDo s (.resumeStall h st) h ⟨0x0204, pConfigure⟩ (fun _ s => s.resumeStall st.val)

/-! ## State records (R258) -/

/-- The most bytes of a state record. -/
def recordLimit : Nat := 16384

/-- Freeze a Stall and save its record (R258). -/
def State.freezeStall (s : State) (x : Session) (st : Nat) : Ans × State :=
  if !s.flag F.STALL_CTRL_DEFINED st then ((.invalid, [0x0007, noItem]), s)
  else if !(s.stall st == stDefined || s.stall st == stBound || s.stall st == stQuenched) then (refuse .busy, s)
  else
    s.long x (.freezeStall st) (fun s =>
      let s := (s.setQuench st true).setStall st stFrozen
      let bytes := (Config.recordBytes (s.stallRecord st)).take recordLimit
      (s.withEcp (fun e => { e with records := numPut [] st bytes e.records })).endOp (.freezeStall st) .ok)

/-- FREEZE_STALL. -/
def execFreezeStall (h : EcpHdr) (st : StallId) (s : State) : Host.Outcome State Fault Refusal :=
  ecpDo s (.freezeStall h st) h ⟨0x0205, pConfigure⟩ (fun x s => s.freezeStall x st.val)

/-- READ_STALL_RECORD: a page of the saved record. -/
def execReadStallRecord (h : EcpHdr) (st : StallId) (start : BitVec 32) (s : State) : Host.Outcome State Fault Refusal :=
  ecpDo s (.readStallRecord h st start) h ⟨0x0206, pConfigure⟩ (fun x s =>
    match tabFind st.val s.ecp.records with
    | none => ((.invalid, [0x0007, noItem]), s)
    | some b => (pageOf (min (x.replyLimit - 4) 4072) 1 start.toNat (b.map (fun y => [y.toNat])), s))

/-- WRITE_STALL_RECORD: what follows the page is given up. -/
def State.stageRecord (s : State) (st start : Nat) (data : List Byte) : Ans × State :=
  let old := numGet [] st s.ecp.staging
  if old.length < start then ((.invalid, [0x0011, noItem]), s)
  else if recordLimit < start + data.length then (refuse .noResource, s)
  else (okAns, s.withEcp (fun e => { e with staging := numPut [] st (old.take start ++ data) e.staging }))

/-- WRITE_STALL_RECORD. -/
def execWriteStallRecord (h : EcpHdr) (st : StallId) (start : BitVec 32) (data : List Byte) (s : State) :
    Host.Outcome State Fault Refusal :=
  ecpDo s (.writeStallRecord h st start data) h ⟨0x0207, pConfigure⟩ (fun _ s => s.stageRecord st.val start.toNat data)

/-- The items that define a Stall from its record: DEFINED, SEALED, TENANT and the serial number (R249, R258). -/
def restoreItems (st : Nat) (r : List Nat) : List (Key × Word) :=
  [(⟨.STALL_CTRL, st, 0⟩, BitVec.ofNat 64 (2 ^ 31 + 2 ^ 30 * (r.getD 2 0 % 2) + r.getD 1 0 % 2 ^ 16)),
   (⟨.STALL_SERIAL, st, 0⟩, BitVec.ofNat 64 (r.getD 0 0))]

/-- Define a Stall from staging, by a transaction in slot 3. -/
def State.restoreCommand (s : State) (x : Session) (st : Nat) : Ans × State :=
  match tabFind st s.ecp.staging with
  | none => ((.invalid, [0x0007, noItem]), s)
  | some b =>
    match Config.recordParse b with
    | none => ((.invalid, [0x0007, noItem]), s)
    | some r => s.longTxn x (restoreItems st r) (some st)

/-- RESTORE_STALL. -/
def execRestoreStall (h : EcpHdr) (st : StallId) (s : State) : Host.Outcome State Fault Refusal :=
  ecpDo s (.restoreStall h st) h ⟨0x0208, pConfigure⟩ (fun x s => s.restoreCommand x st.val)

/-! ## The inventory (R264, R270) -/

/-- An item of the inventory: port, serial number, persistent, Global Persistent Flush, the capacities in MiB, and the ranges of
the device that are quarantined. -/
def State.inventoryItem (s : State) (d : DeviceRecord) : List Nat :=
  [d.port, d.serial, if d.persistent then 1 else 0, if d.gpf then 1 else 0, d.capacities.length] ++ d.capacities
    ++ (s.ranges.filter (fun r => r.port == d.port && r.quarantined)).flatMap (fun r => [r.ld, r.start, r.len])

/-- GET_INVENTORY. -/
def execGetInventory (h : EcpHdr) (start : BitVec 32) (s : State) : Host.Outcome State Fault Refusal :=
  ecpDo s (.getInventory h start) h ⟨0x0209, pObserve⟩ (fun x s =>
    (pageOf x.replyLimit 128 start.toNat (s.inventory.map (fun d => s.inventoryItem d)), s))

/-- Clear the quarantined ranges that a span overlaps; their scrub starts again (R270). -/
def State.clearQuarantine (s : State) (x : Session) (p ld start len : Nat) : Ans × State :=
  let hit (r : DevRange) : Bool := r.quarantined && r.inSpan p ld start len
  if !s.ranges.any hit then ((.invalid, [0x000D, noItem]), s)
  else
    s.long x (.clearQuarantine p ld start len) (fun s =>
      s.setRanges (s.ranges.map (fun r => if hit r then { r with quarantined := false, scrubbed := 0 } else r)))

/-- CLEAR_QUARANTINE. -/
def execClearQuarantine (h : EcpHdr) (p : Port) (addr : BitVec 64) (count : BitVec 32) (s : State) : Host.Outcome State Fault Refusal :=
  ecpDo s (.clearQuarantine h p addr count) h ⟨0x020A, pConfigure⟩ (fun x s =>
    if addr.toNat / 2 ^ 52 % 256 ≠ 0 then ((.invalid, [0x000D, noItem]), s)
    else s.clearQuarantine x p.val (addr.toNat / 2 ^ 60) (addr.toNat % 2 ^ 52) count.toNat)

/-! ## Checkers and windows (R236 to R238) -/

/-- Write EN of a host's context (R237, R238). -/
def State.setChecker (s : State) (c : Nat) (b : Bool) : Ans × State :=
  if s.applying || !b then (okAns, s.writeEn c b)
  else
    match s.checkerOn c with
    | (true, s) => (okAns, s)
    | (false, s) => (refuse .overlap, s)

/-- SET_CHECKER. -/
def execSetChecker (h : EcpHdr) (host : HostId) (en : Bool) (s : State) : Host.Outcome State Fault Refusal :=
  ecpDo s (.setChecker h host en) h ⟨0x020B, pConfigure⟩ (fun _ s => s.atHalves (fun s => s.setChecker host.val en))

/-- Write a window entry of a host directly (R236). -/
def State.writeEntry (s : State) (c : Nat) (e : Entry) : Ans × State :=
  match (if e.kind.toNat = 0 then entryAt e else none) with
  | none => ((.invalid, [0x0015, e.off.toNat]), s)
  | some l =>
    if l.any (fun x => x.1.i != c) then ((.invalid, [0x0015, e.off.toNat]), s)
    else if s.flag F.CHK_CTRL_EN c then (refuse .busy, (l.take 1).foldl (fun s x => s.writeWindow x.1.reg x.1.i x.1.j x.2) s)
    else (okAns, l.foldl (fun s x => s.writeWindow x.1.reg x.1.i x.1.j x.2) s)

/-- WRITE_WINDOW. -/
def execWriteWindow (h : EcpHdr) (host : HostId) (e : Entry) (s : State) : Host.Outcome State Fault Refusal :=
  ecpDo s (.writeWindow h host e) h ⟨0x020C, pConfigure⟩ (fun _ s => s.atHalves (fun s => s.writeEntry host.val e))

/-! ## Virtual switches (R97, R118, R254, R255) -/

/-- What a virtual downstream port carries: 0 nothing, 1 a Stall, 2 a passed-through device. -/
def State.vportCarries (s : State) (host v : Nat) : Nat × Nat :=
  match s.stallAt host v with
  | some st => (1, st)
  | none =>
    match s.passed.find? (fun e => e.1 == host && e.2.1 == v) with
    | some e => (2, e.2.2)
    | none => (0, 0)

/-- What GET_VCS_INFO answers: the host of the port, and each virtual port that is bound. -/
def State.vcsInfo (s : State) (p : Nat) : Ans :=
  if !s.isHostPort p then (.invalid, [0x0005, noItem])
  else
    let host := s.get F.PORT_CFG_HOST_ID p
    (.ok, host :: (List.range 64).flatMap (fun v =>
      let c := s.vportCarries host v
      if c.1 = 0 then [] else [v, c.1, c.2]))

/-- GET_VCS_INFO. -/
def execGetVcsInfo (h : EcpHdr) (p : Port) (s : State) : Host.Outcome State Fault Refusal :=
  ecpDo s (.getVcsInfo h p) h ⟨0x020D, pObserve⟩ (fun _ s => (s.vcsInfo p.val, s))

/-- The items that bind a Stall to a virtual port: a HOST_PLACE decoder and one window over all of it, both at base 0 until the
host places them (R246, R254). -/
def State.bindItems (s : State) (host v st d w : Nat) : List (Key × Word) :=
  let cap := s.get F.STALL_LAYOUT_CAP st
  [(⟨.DEC_CTRL, host, d⟩, BitVec.ofNat 64 (2 ^ 31 + 2 ^ 28 + st)), (⟨.DEC_BASE, host, d⟩, 0),
   (⟨.DEC_SIZE, host, d⟩, BitVec.ofNat 64 cap), (⟨.DEC_OFFSET, host, d⟩, 0),
   (⟨.WIN_BASE, host, w⟩, BitVec.ofNat 64 (2 ^ 31)), (⟨.WIN_SIZE, host, w⟩, BitVec.ofNat 64 cap),
   (⟨.WIN_ATTR, host, w⟩, BitVec.ofNat 64 d), (⟨.STALL_BIND, st, 0⟩, BitVec.ofNat 64 (2 ^ 31 + host * 2 ^ 16 + v))]

/-- Bind a Stall (R254). -/
def State.bindStall (s : State) (x : Session) (host v st : Nat) : Ans × State :=
  match (List.range 32).find? (fun d => !s.flag F.DEC_CTRL_VALID host d), (List.range 256).find? (fun w => !s.flag F.WIN_BASE_VALID host w) with
  | some d, some w => s.longTxn x (s.bindItems host v st d w) none
  | _, _ => (refuse .noResource, s)

/-- Bind a device passed through whole (R97): its Device port has ROLE 4 or 5, and ROLE 5 for a PCIe host. -/
def State.bindPassed (s : State) (x : Session) (p host v q : Nat) : Ans × State :=
  let roleOk := s.role q == 5 || (s.role q == 4 && s.role p == 1)
  if !roleOk || (s.vportCarries host v).1 ≠ 0 || s.passed.any (fun e => e.2.2 == q) then (refuse .invalid, s)
  else if (List.range 16).any (fun n => s.flag F.MIR_CTRL_EN (n / 8) (n % 8) && s.get F.MIR_CTRL_ANALYSIS (n / 8) (n % 8) == q) then
    (refuse .busy, s)
  else if s.refusing then (refuse .busy, s)
  else
    s.long x (.passThrough host v) (fun s =>
      let s := { s with passed := s.passed ++ [(host, v, q)] }
      (s.withTxns (fun t => { t with plugs := t.plugs ++ [(host, v, true)] })).endOp (.passThrough host v) .ok)

/-- Bind vPPB: a Stall or a passed-through device; a logical device is refused (R118). -/
def State.bindVport (s : State) (x : Session) (p v : Nat) (t : BindTarget) : Ans × State :=
  if !s.isHostPort p then ((.invalid, [0x0005, noItem]), s)
  else
    let host := s.get F.PORT_CFG_HOST_ID p
    match t with
    | .stall st => if s.role p == 2 then (refuse .invalid, s) else s.bindStall x host v st.val
    | .passed q => s.bindPassed x p host v q.val
    | .logical _ _ => (refuse .invalid, s)

/-- BIND_VPPB. -/
def execBindVppb (h : EcpHdr) (p : Port) (v : Vdsp) (t : BindTarget) (s : State) : Host.Outcome State Fault Refusal :=
  ecpDo s (.bindVppb h p v t) h ⟨0x020E, pConfigure⟩ (fun x s => s.bindVport x p.val v.val t)

/-- The items that unbind a Stall: its host's decoders that name it, their windows, and BOUND (R255). -/
def State.unbindItems (s : State) (host st : Nat) : List (Key × Word) :=
  let ds := s.decodersNaming host st
  ds.map (fun d => ((⟨.DEC_CTRL, host, d⟩ : Key), (0 : Word)))
    ++ ((List.range 256).filter (fun w => s.flag F.WIN_BASE_VALID host w && ds.contains (s.get F.WIN_ATTR_DECODER host w))).map
        (fun w => ((⟨.WIN_BASE, host, w⟩ : Key), (0 : Word)))
    ++ [(⟨.STALL_BIND, st, 0⟩, Word.setBits (s.rd .STALL_BIND st) F.STALL_BIND_BOUND.lo 1 0)]

/-- Unbind what a virtual port carries (R255, R256). -/
def State.unbindVport (s : State) (x : Session) (p v : Nat) : Ans × State :=
  let host := s.get F.PORT_CFG_HOST_ID p
  if !s.isHostPort p then ((.invalid, [0x0005, noItem]), s)
  else
    match s.stallAt host v with
    | some st => s.longTxn x (s.unbindItems host st) none
    | none =>
      if (s.vportCarries host v).1 = 0 then ((.invalid, [0x000E, noItem]), s)
      else if s.refusing then (refuse .busy, s)
      else
        s.long x (.passThrough host v) (fun s =>
          let s := { s with passed := s.passed.filter (fun e => !(e.1 == host && e.2.1 == v)) }
          (s.withTxns (fun t => { t with plugs := t.plugs ++ [(host, v, false)] })).endOp (.passThrough host v) .ok)

/-- UNBIND_VPPB. -/
def execUnbindVppb (h : EcpHdr) (p : Port) (v : Vdsp) (s : State) : Host.Outcome State Fault Refusal :=
  ecpDo s (.unbindVppb h p v) h ⟨0x020F, pConfigure⟩ (fun x s => s.unbindVport x p.val v.val)

/-- An AER event on a virtual switch port of a Host port. -/
def State.generateAer (s : State) (p value : Nat) (data : List Byte) : Ans × State :=
  if !s.isHostPort p then ((.invalid, [0x0005, noItem]), s) else (okAns, s.emit (.aer p value data))

/-- GENERATE_AER. -/
def execGenerateAer (h : EcpHdr) (p : Port) (v : BitVec 32) (data : List Byte) (s : State) : Host.Outcome State Fault Refusal :=
  ecpDo s (.generateAer h p v data) h ⟨0x0210, pConfigure⟩ (fun _ s => s.generateAer p.val v.toNat data)

end Sys2Proof.Machine
end

