-- ==== Sys2Proof/Machine/EcpUnits.lean ====
section
/-!
DEFINITION. ECP: the commands of groups 0x04 to 0x09, Market regions, Porter channels, relocation, slots, the power ladder and
resets, faults, telemetry (R451).
-/
namespace Sys2Proof.Machine

/-! ## Market regions -/

/-- GET_REGION. -/
def execGetRegion (h : EcpHdr) (r : Fin 256) (s : State) : Host.Outcome State Fault Refusal :=
  ecpDo s (.getRegion h r) h ⟨0x0400, pObserve⟩ (fun _ s => s.getObject [(0x02400000 + 0x200 * r.val, 0x200)])

/-- The ports of a region's recovering slices. -/
def State.recoverPorts (s : State) (r : Nat) : List Nat :=
  ((List.range 16).filter (fun w => s.recovering r w)).map (fun w => s.get F.REGION_SLICE_PORT r w)

/-- Rewrite the recovering slices of a region as unknown (R336). -/
def State.recoverRegion (s : State) (x : Session) (r : Nat) : Ans × State :=
  if !s.flag F.REGION_CTRL_VALID r then ((.invalid, [0x0008, noItem]), s)
  else
    match s.portNotBack (s.recoverPorts r) with
    | some e => (refuse e, s)
    | none => if s.sliceSwapped true r then (refuse .invalid, s) else s.long x (.recoverRegion r) id

/-- RECOVER_REGION. -/
def execRecoverRegion (h : EcpHdr) (r : Fin 256) (s : State) : Host.Outcome State Fault Refusal :=
  ecpDo s (.recoverRegion h r) h ⟨0x0401, pConfigure⟩ (fun x s => s.recoverRegion x r.val)

/-- Recall a host from a region, whose fence is then lifted (R323). -/
def State.unfenceHost (s : State) (x : Session) (r host : Nat) : Ans × State :=
  if !s.flag F.REGION_CTRL_VALID r || !s.fenced r host then (refuse .invalid, s)
  else if s.market.recalls.contains (r, host) then (refuse .busy, s)
  else s.atHalves (fun s => s.long x (.unfence r host) (fun s => s.recallStart r host))

/-- UNFENCE_HOST. -/
def execUnfenceHost (h : EcpHdr) (r : Fin 256) (host : HostId) (s : State) : Host.Outcome State Fault Refusal :=
  ecpDo s (.unfenceHost h r host) h ⟨0x0402, pConfigure⟩ (fun x s => s.unfenceHost x r.val host.val)

/-- Reach a half. -/
def State.atHalf (s : State) (h : Nat) (f : State → Ans × State) : Ans × State :=
  let (ok, s) := s.reach [0x02000000 + 0x01000000 * h]
  if ok then f s else (refuse .timeout, s)

/-- FLUSH_LEDGER: COH_CTRL.FLUSH, BUSY while a flush runs. -/
def execFlushLedger (h : EcpHdr) (half : Half) (s : State) : Host.Outcome State Fault Refusal :=
  ecpDo s (.flushLedger h half) h ⟨0x0403, pConfigure⟩ (fun x s => s.atHalf (hix half) (fun s =>
    if s.flag F.COH_STATUS_FLUSHING (hix half) then (refuse .busy, s)
    else s.long x (.flushLedger (hix half)) (fun s => s.cohFlush (hix half))))

/-! ## Porter channels (R346, R351, R368, R370) -/

/-- The address of a channel's block. -/
def channelBlock (c : Nat) : Nat := 0x02500000 + 0x01000000 * (c / 14) + 0x100 * (c % 14)

/-- Start a chain on a channel that firmware does not keep for itself. -/
def State.startChain (s : State) (x : Session) (c addr : Nat) : Ans × State :=
  if s.flag F.CH_CFG_PRIV_OK c then (refuse .denied, s)
  else if s.ch c != chIdle then (refuse .busy, s)
  else if addr % 64 ≠ 0 ∨ 2 ^ 52 ≤ addr then ((.invalid, [0x000D, noItem]), s)
  else s.long x (.chain c) (fun s => (s.put F.CH_HEAD_V (addr / 64) c).chStart c)

/-- PORTER_START_CHAIN. -/
def execPorterStartChain (h : EcpHdr) (c : Fin 28) (addr : BitVec 64) (s : State) : Host.Outcome State Fault Refusal :=
  ecpDo s (.porterStartChain h c addr) h ⟨0x0500, pConfigure⟩ (fun x s => s.atHalf (c.val / 14) (fun s => s.startChain x c.val addr.toNat))

/-- GET_CHANNEL. -/
def execGetChannel (h : EcpHdr) (c : Fin 28) (s : State) : Host.Outcome State Fault Refusal :=
  ecpDo s (.getChannel h c) h ⟨0x0501, pObserve⟩ (fun _ s => s.getObject [(channelBlock c.val, 0x100)])

/-- PAUSE_CHANNEL (R368). -/
def execPauseChannel (h : EcpHdr) (c : Fin 28) (pause : Bool) (s : State) : Host.Outcome State Fault Refusal :=
  ecpDo s (.pauseChannel h c pause) h ⟨0x0502, pConfigure⟩ (fun _ s => s.atHalf (c.val / 14) (fun s =>
    (okAns, (s.putFlag F.CH_CTRL_PAUSE pause c.val).chPauseCheck c.val)))

/-- RETIRE_CHANNEL (R370). -/
def execRetireChannel (h : EcpHdr) (c : Fin 28) (s : State) : Host.Outcome State Fault Refusal :=
  ecpDo s (.retireChannel h c) h ⟨0x0503, pConfigure⟩ (fun _ s => s.atHalf (c.val / 14) (fun s =>
    if s.ch c.val != chIdle then (refuse .busy, s.chRetire c.val) else (okAns, s.chRetire c.val)))

/-! ## Relocation (R376 to R396) -/

/-- The start that the three values of RELOC_START ask for. -/
def relocStart (object dst ledger : Nat) (auto : Bool) : RelocStart :=
  { market := object / 2 ^ 30 % 2 == 1, remote := object / 2 ^ 29 % 2 == 1, obj := object % 2 ^ 12, way := object / 2 ^ 20 % 16,
    dst := BitVec.ofNat 64 dst, dstLedger := ledger / 2 ^ 32 % 2 ^ 27, auto := auto }

/-- Start a relocation as an operation (R376): its transaction in slot 3 refuses it or commits the context. -/
def State.relocBegin (s : State) (x : Session) (a : RelocStart) : Ans × State := s.longFw x .relocStarting (fun n => .relocStart n a)

/-- RELOC_START. -/
def execRelocStart (h : EcpHdr) (object dst ledger : BitVec 64) (auto : Bool) (s : State) : Host.Outcome State Fault Refusal :=
  ecpDo s (.relocStart h object dst ledger auto) h ⟨0x0510, pConfigure⟩ (fun x s =>
    s.atHalves (fun s => s.relocBegin x (relocStart object.toNat dst.toNat ledger.toNat auto)))

/-- What a status of a relocation command answers. -/
def statusAns (r : Status × State) : Ans × State := (if r.1.good then (r.1, []) else refuse r.1, r.2)

/-- A command that names a context: INVALID where it is Free. -/
def State.onReloc (s : State) (x : Nat) (f : State → Ans × State) : Ans × State :=
  if s.rlState x == rlFree then ((.invalid, [0x000C, noItem]), s) else f s

/-- RELOC_COMMIT (R388). -/
def execRelocCommit (h : EcpHdr) (x : Fin 8) (s : State) : Host.Outcome State Fault Refusal :=
  ecpDo s (.relocCommit h x) h ⟨0x0511, pConfigure⟩ (fun _ s => s.onReloc x.val (fun s => statusAns (s.rlCommit x.val)))

/-- RELOC_ROLLBACK (R390). -/
def execRelocRollback (h : EcpHdr) (x : Fin 8) (s : State) : Host.Outcome State Fault Refusal :=
  ecpDo s (.relocRollback h x) h ⟨0x0512, pConfigure⟩ (fun _ s => s.onReloc x.val (fun s => statusAns (s.rlBack x.val)))

/-- RELOC_PAUSE (R384). -/
def execRelocPause (h : EcpHdr) (x : Fin 8) (pause : Bool) (s : State) : Host.Outcome State Fault Refusal :=
  ecpDo s (.relocPause h x pause) h ⟨0x0513, pConfigure⟩ (fun _ s => s.onReloc x.val (fun s => (okAns, s.rlSetPause x.val pause)))

/-- RELOC_RESUME (R385). -/
def execRelocResume (h : EcpHdr) (x : Fin 8) (s : State) : Host.Outcome State Fault Refusal :=
  ecpDo s (.relocResume h x) h ⟨0x0514, pConfigure⟩ (fun _ s => s.onReloc x.val (fun s => statusAns (s.rlResume x.val)))

/-- RELOC_STATUS. -/
def execRelocStatus (h : EcpHdr) (x : Fin 8) (s : State) : Host.Outcome State Fault Refusal :=
  ecpDo s (.relocStatus h x) h ⟨0x0515, pObserve⟩ (fun _ s =>
    s.getObject [(0x02600000 + 0x01000000 * (x.val / 4) + 0x100 * (x.val % 4), 0x40)])

/-- Commit a range as the target of a relocation that comes over a Cascade port (R396): units of 256 MiB. -/
def State.relocInbound (s : State) (x : Session) (p q ld base units far : Nat) : Ans × State :=
  let r : DevRange := { port := q, ld := ld, start := 256 * base, len := 256 * units }
  let t := r.placed 0
  if !s.isCascade p || s.role q != 3 || units == 0 then (refuse .invalid, s)
  else
    match s.deviceOf q ld with
    | none => (refuse .invalid, s)
    | some (mib, _) =>
      if mib < r.start + r.len then (refuse .invalid, s)
      else if s.ranges.any (fun y => y.quarantined && y.meets t) then (refuse .denied, s)
      else if s.ranges.any (fun y => !y.quarantined && y.meets t) || s.refusing then (refuse .busy, s)
      else if (s.ownedRanges ++ s.targetRanges).any (fun o => t.meets o) || s.inbound.any (fun i => i.range.meets t) then (refuse .overlap, s)
      else s.long x (.relocInbound far) (fun s => { s with inbound := s.inbound ++ [{ cascade := p, range := r, far := far }] })

/-- RELOC_INBOUND. -/
def execRelocInbound (h : EcpHdr) (p q : Port) (ld : Fin 16) (base units : BitVec 24) (far : BitVec 32) (s : State) :
    Host.Outcome State Fault Refusal :=
  ecpDo s (.relocInbound h p q ld base units far) h ⟨0x0516, pConfigure⟩ (fun x s =>
    s.relocInbound x p.val q.val ld.val base.toNat units.toNat far.toNat)

/-! ## Slot power channels (R525, R536) -/

/-- GET_SLOT. -/
def execGetSlot (h : EcpHdr) (n : SlotId) (s : State) : Host.Outcome State Fault Refusal :=
  ecpDo s (.getSlot h n) h ⟨0x0600, pObserve⟩ (fun _ s => s.getObject [(0x04010000 + 0x100 * n.val, 0x100)])

/-- Power a slot on (R536). -/
def State.powerOn (s : State) (x : Session) (n : Nat) : Ans × State :=
  if s.sl n == slEmpty || s.sl n == slLockout then (refuse .busy, s)
  else if !s.curveOk n then (refuse .invalid, s)
  else s.long x (.slotPower n) (fun s => if s.sl n == slOn then (s.slotOn n).endOp (.slotPower n) .ok else s.slotOn n)

/-- Power a slot off (R536): the operations that power it on end first. -/
def State.powerOff (s : State) (x : Session) (n : Nat) : Ans × State :=
  if (match s.portOfSlot n with | some p => s.carriesBinding p | none => false) then (refuse .busy, s)
  else if 64 ≤ s.running then (refuse .noResource, s)
  else (s.slotOff n).long x (.slotPower n) (fun s => s.endOp (.slotPower n) .ok)

/-- SLOT_POWER. -/
def execSlotPower (h : EcpHdr) (n : SlotId) (on : Bool) (s : State) : Host.Outcome State Fault Refusal :=
  ecpDo s (.slotPower h n on) h ⟨0x0601, pConfigure⟩ (fun x s => if on then s.powerOn x n.val else s.powerOff x n.val)

/-- SLOT_CLEAR_LOCKOUT (R525). -/
def execSlotClearLockout (h : EcpHdr) (n : SlotId) (s : State) : Host.Outcome State Fault Refusal :=
  ecpDo s (.slotClearLockout h n) h ⟨0x0602, pConfigure⟩ (fun _ s =>
    if s.sl n.val != slLockout then (refuse .busy, s) else (okAns, s.slotClear n.val))

/-- SLOT_SET_FEED (R528, R529): the value in the layout of SLOT_FEED. -/
def execSlotSetFeed (h : EcpHdr) (n : SlotId) (v : BitVec 32) (s : State) : Host.Outcome State Fault Refusal :=
  ecpDo s (.slotSetFeed h n v) h ⟨0x0603, pConfigure⟩ (fun _ s =>
    let v := v.toNat
    if v / 2 ^ 16 % 4 = 0 ∨ v % 256 < 2 ∨ 200 < v % 256 then ((.invalid, [0x000E, noItem]), s)
    else (okAns, s.regWrite ⟨.SLOT_FEED, n.val, 0⟩ v (2 ^ 32 - 1)))

/-! ## The power ladder and resets (R40, R541, R552, R589) -/

/-- GET_POWER_STATE. -/
def execGetPowerState (h : EcpHdr) (s : State) : Host.Outcome State Fault Refusal :=
  ecpDo s (.getPowerState h) h ⟨0x0700, pObserve⟩ (fun _ s => s.getObject [(0x00030000, 0x5C)])

/-- The ladder command (R541). -/
def State.powerTo (s : State) (x : Session) (v : Nat) : Ans × State :=
  if 4 ≤ v then ((.invalid, [0x0013, noItem]), s)
  else if s.rungBusy v || (s.power.entering.isSome && v != rungBlaze) then (refuse .busy, s)
  else
    s.long x (.powerState v) (fun s =>
      if v = rungBanked then s.bankStart 4
      else if v = rungBlaze then
        let s := s.exitCause
        if s.rung == rungBlaze then s.endOp (.powerState rungBlaze) .ok else s
      else s.withPower (fun p => { p with entering := some v }))

/-- SET_POWER_STATE. -/
def execSetPowerState (h : EcpHdr) (rung : Fin 256) (s : State) : Host.Outcome State Fault Refusal :=
  ecpDo s (.setPowerState h rung) h ⟨0x0701, pConfigure⟩ (fun x s => s.powerTo x rung.val)

/-- The items of a Keep region (R552). -/
def State.keepItems (s : State) (p ld base : Nat) : List (Key × Word) :=
  let v := Word.setBits (s.rd .KEEP_CTRL) F.KEEP_CTRL_VALID.lo 1 1
  let v := Word.setBits v F.KEEP_CTRL_PORT.lo F.KEEP_CTRL_PORT.w p
  [(⟨.KEEP_CTRL, 0, 0⟩, Word.setBits v F.KEEP_CTRL_LD.lo F.KEEP_CTRL_LD.w ld), (⟨.KEEP_BASE, 0, 0⟩, BitVec.ofNat 64 base)]

/-- SET_KEEP_REGION: the logical device in ADDRESS [63:60], as in CLEAR_QUARANTINE. -/
def execSetKeepRegion (h : EcpHdr) (p : Port) (addr : BitVec 64) (count : BitVec 32) (s : State) : Host.Outcome State Fault Refusal :=
  ecpDo s (.setKeepRegion h p addr count) h ⟨0x0702, pConfigure⟩ (fun x s =>
    let base := addr.toNat % 2 ^ 52
    if count.toNat ≠ 2 ^ 24 then ((.invalid, [0x0010, noItem]), s)
    else if base % 2 ^ 24 ≠ 0 ∨ addr.toNat / 2 ^ 52 % 256 ≠ 0 then ((.invalid, [0x000D, noItem]), s)
    else s.longTxn x (s.keepItems p.val (addr.toNat / 2 ^ 60) base) none)

/-- A reset as an operation: a refusal is counted (R48, R589). -/
def State.resetOp (s : State) (x : Session) (k : OpKind) (busy : Bool) (go : State → State) : Ans × State :=
  if busy then (refuse .busy, s.resetRefused) else s.long x k go

/-- RESET_WARM. -/
def execResetWarm (h : EcpHdr) (s : State) : Host.Outcome State Fault Refusal :=
  ecpDo s (.resetWarm h) h ⟨0x0703, pConfigure⟩ (fun x s => s.resetOp x .resetWarm s.warmBusy (fun s => s.rstWarm))

/-- RESET_HALF. -/
def execResetHalf (h : EcpHdr) (half : Half) (s : State) : Host.Outcome State Fault Refusal :=
  ecpDo s (.resetHalf h half) h ⟨0x0704, pConfigure⟩ (fun x s =>
    s.resetOp x (.resetHalf (hix half)) (s.halfBusy (hix half)) (fun s => s.rstHalf (hix half)))

/-- RESET_HEARTH. -/
def execResetHearth (h : EcpHdr) (s : State) : Host.Outcome State Fault Refusal :=
  ecpDo s (.resetHearth h) h ⟨0x0705, pConfigure⟩ (fun x s => s.resetOp x .resetHearth s.hearthBusy (fun s => s.rstHearth))

/-! ## Faults (R499, R500, R510) -/

/-- The records of the fault ring, oldest first. -/
def State.faultRecords (s : State) : List (List Nat) :=
  let head := s.get F.FC_RING_HEAD_V
  let slot (k : Nat) : List Nat := (memGet s.mem (ringBase + 32 * ((head + k) % 1024)) 32).map BitVec.toNat
  ((List.range 1024).map slot).filter (fun b => b.any (fun y => y != 0))

/-- GET_FAULTS. -/
def execGetFaults (h : EcpHdr) (start : BitVec 32) (s : State) : Host.Outcome State Fault Refusal :=
  ecpDo s (.getFaults h start) h ⟨0x0800, pObserve⟩ (fun x s => (pageOf (min (x.replyLimit - 4) 4072) 32 start.toNat s.faultRecords, s))

/-- CLEAR_FAULT (R499). -/
def execClearFault (h : EcpHdr) (n : BitVec 32) (s : State) : Host.Outcome State Fault Refusal :=
  ecpDo s (.clearFault h n) h ⟨0x0801, pConfigure⟩ (fun _ s =>
    if 1024 ≤ n.toNat then ((.invalid, [0x000E, noItem]), s) else (okAns, s.clearSource n.toNat))

/-- SET_REACTION (R500). -/
def execSetReaction (h : EcpHdr) (n v : BitVec 32) (s : State) : Host.Outcome State Fault Refusal :=
  ecpDo s (.setReaction h n v) h ⟨0x0802, pConfigure⟩ (fun _ s =>
    if n.toNat < 1024 ∧ reactionAllowed n.toNat v.toNat then (okAns, s.setReaction n.toNat v.toNat)
    else ((.invalid, [0x000E, noItem]), s))

/-! ## Registers and telemetry (R565, R571, R572, R577) -/

/-- READ_REGISTERS. -/
def State.readRegisters (s : State) (addrs : List Nat) : Ans × State :=
  match addrs.find? (fun a => match regAt a with | some (_, 0) => false | _ => true) with
  | some a => (badItem a, s)
  | none =>
    let (ok, s) := s.reach addrs
    if !ok then (refuse .timeout, s)
    else
      let (vs, s) := s.readAll (addrs.filterMap (fun a => (regAt a).map (fun e => (a, e.1))))
      ((.ok, (vs.zipIdx.filter (fun e => e.2 % 2 == 1)).map Prod.fst), s)

/-- READ_REGISTERS. -/
def execReadRegisters (h : EcpHdr) (addrs : List (BitVec 64)) (s : State) : Host.Outcome State Fault Refusal :=
  ecpDo s (.readRegisters h addrs) h ⟨0x0900, pObserve⟩ (fun _ s => s.readRegisters (addrs.map BitVec.toNat))

/-- The registers of the counter units (R563, R568). -/
def Reg.isPmu : Reg → Bool
  | .PMU_CTRL | .PMU_OVF | .PMU_CYCLE | .PMU_EVSEL | .PMU_COUNT | .PMU_GLOBAL => true
  | _ => false

/-- PROGRAM_COUNTERS. -/
def State.programCounters (s : State) (items : List (Nat × Nat)) : Ans × State :=
  match items.find? (fun e => match regAt e.1 with | some (k, 0) => !k.reg.isPmu | _ => true) with
  | some e => (badItem e.1, s)
  | none =>
    let (ok, s) := s.reach (items.map Prod.fst)
    if !ok then (refuse .timeout, s)
    else
      (okAns, items.foldl (fun s (e : Nat × Nat) =>
        match regAt e.1 with
        | some (k, _) => s.regWrite k e.2 (2 ^ 64 - 1)
        | none => s) s)

/-- PROGRAM_COUNTERS (R565). -/
def execProgramCounters (h : EcpHdr) (items : List (BitVec 64 × BitVec 64)) (s : State) : Host.Outcome State Fault Refusal :=
  ecpDo s (.programCounters h items) h ⟨0x0901, pConfigure⟩ (fun _ s =>
    s.programCounters (items.map (fun e => (e.1.toNat, e.2.toNat))))

/-- SET_SNAPSHOT_RING (R572). -/
def State.setSnapshotRing (s : State) (addr count : Nat) : Ans × State :=
  if s.flag F.SNAP_CTRL_EN then (refuse .busy, s)
  else if addr % 64 ≠ 0 ∨ 2 ^ 52 ≤ addr then ((.invalid, [0x000D, noItem]), s)
  else if count = 0 ∨ 65536 ≤ count then ((.invalid, [0x0010, noItem]), s)
  else
    let s := (s.put F.SNAP_RING_BASE_V (addr / 64)).put F.SNAP_RING_COUNT_V count
    (okAns, s.withTelem (fun t => { t with seq := 0 }))

/-- SET_SNAPSHOT_RING. -/
def execSetSnapshotRing (h : EcpHdr) (addr : BitVec 64) (count : BitVec 32) (s : State) : Host.Outcome State Fault Refusal :=
  ecpDo s (.setSnapshotRing h addr count) h ⟨0x0902, pConfigure⟩ (fun _ s => s.setSnapshotRing addr.toNat count.toNat)

/-- A wear entry as the fields of R577. -/
def WearEntry.fields (e : WearEntry) : List Nat := [e.life, e.kind, e.action, e.element, e.value, e.threshold, e.epoch]

/-- GET_WEAR_RECORD: WRAPPED, then the action entries and the sample entries. -/
def execGetWearRecord (h : EcpHdr) (start : BitVec 32) (s : State) : Host.Outcome State Fault Refusal :=
  ecpDo s (.getWearRecord h start) h ⟨0x0903, pObserve⟩ (fun x s =>
    let (st, vs) := pageOf (x.replyLimit - 4) 32 start.toNat ((s.flash.actions ++ s.flash.samples).map WearEntry.fields)
    ((st, if st.good then (if s.flash.wrapped then 1 else 0) :: vs else vs), s))

/-- TELEMETRY_DUMP: one record in the layout of R571 at an address, as a privileged write. -/
def State.telemetryDump (s : State) (x : Session) (addr : Nat) : Ans × State :=
  s.long x .telemetry (fun s =>
    let bytes := s.snapBytes s.telem.seq s.now (s.snapUnits 0) (s.snapUnits 1)
    match s.privRecord addr bytes 0 with
    | some s => (s.emit (.dumped addr bytes)).endOp .telemetry .ok
    | none => s.endOp .telemetry .faulted)

/-- TELEMETRY_DUMP. -/
def execTelemetryDump (h : EcpHdr) (addr : BitVec 64) (s : State) : Host.Outcome State Fault Refusal :=
  ecpDo s (.telemetryDump h addr) h ⟨0x0904, pConfigure⟩ (fun x s => s.telemetryDump x addr.toNat)

end Sys2Proof.Machine
end

