-- ==== Sys2Proof/Machine/EcpSecurity.lean ====
section
/-!
DEFINITION. ECP: the commands of groups 0x0A and 0x0B, security, firmware, debug and injection (R404, R407 to R422, R451).
-/
namespace Sys2Proof.Machine

/-! ## Lifecycle and credentials -/

/-- GET_SECURITY_STATE (R423). -/
def execGetSecurityState (h : EcpHdr) (s : State) : Host.Outcome State Fault Refusal :=
  ecpDo s (.getSecurityState h) h ⟨0x0A00, pObserve⟩ (fun _ s => s.getObject [(0x06000000, 0x2C)])

/-- Whether every Stall is Free and no region is defined (R409). -/
def State.noTenants (s : State) : Bool :=
  !(List.range 4096).any (fun st => s.stall st != stFree) && !(List.range 256).any (fun r => s.get F.REGION_STATUS_STATE r != 0)

/-- Advance the lifecycle by one state (R409). -/
def State.lifecycleAdvance (s : State) (x : Session) (target : Nat) : Ans × State :=
  let now := s.get F.LC_STATE_V
  if target ≠ now + 1 ∨ 2 < target then ((.invalid, [0x0013, noItem]), s)
  else if (decide (now = 1) && !s.noTenants) || s.warmBusy then (refuse .busy, s)
  else
    s.long x .lifecycle (fun s =>
      let s := (s.put F.LC_STATE_V target).withSec (fun c => { c with advancing := true })
      ((s.endOp .lifecycle .ok).wipe true).warmRequest 7)

/-- LIFECYCLE_ADVANCE. -/
def execLifecycleAdvance (h : EcpHdr) (target : Fin 256) (s : State) : Host.Outcome State Fault Refusal :=
  ecpDo s (.lifecycleAdvance h target) h ⟨0x0A01, pLifecycle⟩ (fun x s => s.lifecycleAdvance x target.val)

/-- The permissions that the bits of PERMISSIONS name (R429). -/
def permsOf (v : Nat) : Perms :=
  { observe := v % 2 == 1, configure := v / 2 % 2 == 1, inspect := v / 4 % 2 == 1, unlock := v / 8 % 2 == 1, lifecycle := v / 16 % 2 == 1 }

/-- PROVISION_CREDENTIAL (R435): none where the key does not unwrap under the session's key. -/
def execProvisionCredential (h : EcpHdr) (cred : Fin 32) (key : Option (BitVec 256)) (perms : BitVec 32) (s : State) :
    Host.Outcome State Fault Refusal :=
  ecpDo s (.provisionCredential h cred key perms) h ⟨0x0A02, pLifecycle⟩ (fun _ s =>
    match key with
    | none => ((.invalid, [0x001B, noItem]), s)
    | some k =>
      if 32 ≤ perms.toNat then ((.invalid, [0x0018, noItem]), s)
      else
        (okAns, s.withFlash (fun f =>
          { f with credentials := numPut ⟨0, {}, false⟩ cred.val ⟨k.toNat, permsOf perms.toNat, true⟩ f.credentials })))

/-- Disable a credential and end its sessions (R437). -/
def State.revoke (s : State) (cred : Nat) : Ans × State :=
  match tabFind cred s.flash.credentials with
  | none => ((.invalid, [0x0017, noItem]), s)
  | some c =>
    let s := s.withFlash (fun f => { f with credentials := numPut ⟨0, {}, false⟩ cred { c with enabled := false } f.credentials })
    (okAns, s.endSessions (fun y => y.credential == cred))

/-- REVOKE_CREDENTIAL. -/
def execRevokeCredential (h : EcpHdr) (cred : Fin 32) (s : State) : Host.Outcome State Fault Refusal :=
  ecpDo s (.revokeCredential h cred) h ⟨0x0A03, pLifecycle⟩ (fun _ s => s.revoke cred.val)

/-- TAMPER_CLEAR (R422). -/
def execTamperClear (h : EcpHdr) (s : State) : Host.Outcome State Fault Refusal :=
  ecpDo s (.tamperClear h) h ⟨0x0A04, pLifecycle⟩ (fun _ s =>
    match s.tamperClear with
    | (true, s) => (okAns, s)
    | (false, s) => (refuse .busy, s))

/-! ## Debug unlock (R417, R418) -/

/-- UNLOCK_CHALLENGE. -/
def execUnlockChallenge (h : EcpHdr) (s : State) : Host.Outcome State Fault Refusal :=
  ecpDo s (.unlockChallenge h) h ⟨0x0A05, pUnlock⟩ (fun _ s =>
    match s.unlockNonce with
    | (some n, s) => ((.ok, [n]), s)
    | (none, s) => (refuse .denied, s))

/-- UNLOCK_RESPONSE: whether the token's signature verifies over the nonce given out. -/
def execUnlockResponse (h : EcpHdr) (verifies : Bool) (s : State) : Host.Outcome State Fault Refusal :=
  ecpDo s (.unlockResponse h verifies) h ⟨0x0A06, pUnlock⟩ (fun _ s =>
    if s.flag F.DEBUG_STATUS_LOCKED_OUT then (refuse .denied, s)
    else if s.sec.nonce.isNone then ((.invalid, [0x001C, noItem]), s)
    else
      match s.unlockToken verifies with
      | (true, s) => (okAns, s)
      | (false, s) => (refuse .denied, s))

/-- DEBUG_LOCK (R418): open to every session. -/
def execDebugLock (h : EcpHdr) (s : State) : Host.Outcome State Fault Refusal :=
  ecpDo s (.debugLock h) h ⟨0x0A07, {}⟩ (fun _ s => (okAns, s.debugLock))

/-! ## Firmware images (R412, R451) -/

/-- FW_BEGIN: a new write to a slot; one that was under way is given up. -/
def execFwBegin (h : EcpHdr) (slot : Fin 2) (count : BitVec 32) (s : State) : Host.Outcome State Fault Refusal :=
  ecpDo s (.fwBegin h slot count) h ⟨0x0A08, pLifecycle⟩ (fun _ s =>
    (okAns, s.withSec (fun c => { c with fw := some (slot.val, count.toNat, []) })))

/-- Image data, one piece behind the other. -/
def State.fwData (s : State) (start : Nat) (data : List Byte) : Ans × State :=
  match s.sec.fw with
  | none => (refuse .invalid, s)
  | some (slot, count, got) =>
    if start ≠ got.length then ((.invalid, [0x0011, noItem]), s)
    else if count < got.length + data.length then ((.invalid, [0x0014, noItem]), s)
    else (okAns, s.withSec (fun c => { c with fw := some (slot, count, got ++ data) }))

/-- FW_DATA. -/
def execFwData (h : EcpHdr) (start : BitVec 32) (data : List Byte) (s : State) : Host.Outcome State Fault Refusal :=
  ecpDo s (.fwData h start data) h ⟨0x0A09, pLifecycle⟩ (fun _ s => s.fwData start.toNat data)

/-- The slot holds the bytes; the operation ends by their verification (R412). -/
def State.fwEnd (s : State) (x : Session) (verified : Bool) : Ans × State :=
  match s.sec.fw with
  | none => (refuse .invalid, s)
  | some (slot, count, got) =>
    if got.length ≠ count then (refuse .invalid, s)
    else
      s.long x (.firmware slot) (fun s =>
        let s := s.withSec (fun c => { c with fw := none, images := numPut [] slot got c.images })
        s.endOp (.firmware slot) (if verified then .ok else .faulted))

/-- FW_END. -/
def execFwEnd (h : EcpHdr) (verified : Bool) (s : State) : Host.Outcome State Fault Refusal :=
  ecpDo s (.fwEnd h verified) h ⟨0x0A0A, pLifecycle⟩ (fun x s => s.fwEnd x verified)

/-- SET_PREFERRED_SLOT (R412). -/
def execSetPreferredSlot (h : EcpHdr) (slot : Fin 2) (s : State) : Host.Outcome State Fault Refusal :=
  ecpDo s (.setPreferredSlot h slot) h ⟨0x0A0B, pLifecycle⟩ (fun _ s => (okAns, s.put F.BOOT_STATUS_PREFERRED slot.val))

/-- An entry of the audit log (R407). -/
def AuditEntry.fields (e : AuditEntry) : List Nat := [e.time, e.session, e.credential, e.opcode, e.objects.length] ++ e.objects

/-- GET_AUDIT_LOG. -/
def execGetAuditLog (h : EcpHdr) (start : BitVec 32) (s : State) : Host.Outcome State Fault Refusal :=
  ecpDo s (.getAuditLog h start) h ⟨0x0A0C, pObserve⟩ (fun x s =>
    (pageOf x.replyLimit 64 start.toNat (s.flash.audit.map AuditEntry.fields), s))

/-! ## Debug and injection (R404, R451) -/

/-- A command of group 0x0B: DENIED unless debug is open. -/
def State.ifDebug (s : State) (f : State → Ans × State) : Ans × State := if s.debugAllowed then f s else (refuse .denied, s)

/-- A use of a sealed Stall by a debug or injection command: Inspect, and debug unlocked (R404); it is logged (R407). -/
def State.inspectDebug (s : State) (x : Session) (opcode : Nat) (stalls : List Nat) (go : State → Ans × State) : Ans × State :=
  s.inspect x opcode stalls (fun s => if stalls.isEmpty || s.debugUnlocked then go s else (refuse .denied, s))

/-- The pieces of a debug access: words of the register space, lines elsewhere. -/
def debugPieces (addr len : Nat) : List (Nat × Nat) :=
  (if addr < 0x07000000 then cutAt 4 addr len (len + 2) else cutAt 64 addr len (len + 2)).filter (fun e => decide (e.2 ≠ 0))

/-- What a path of context 95 refuses a debug access with. -/
def pathStatus (a : Nat) : Path → Option Status
  | .internal => if inSealed a then some .denied else none
  | .device _ => none
  | .denied _ _ => some .denied
  | .busError _ => some .faulted
  | .waits => some .busy

/-- The sealed Stalls that a message reaches. -/
def State.sealedBy (s : State) (m : Msg) : List Nat :=
  match m.slice with
  | some r => if !r.region && s.flag F.STALL_CTRL_SEALED r.obj then [r.obj] else []
  | none => s.sealedIn { key := ⟨.DEC_CTRL, 95, 0⟩, port := m.dst, ld := m.ld, lo := m.dpa, len := m.len, raw := true }

/-- The sealed Stalls that a path reaches. -/
def State.sealedOn (s : State) : Path → List Nat
  | .device m => s.sealedBy m
  | _ => []

/-- One piece of a read: internal memory, or the bytes that a memory device returned. -/
def State.debugRead1 (s : State) (addr : Nat) (returned : List Byte) (e : Nat × Nat) : Option (List Byte) × State :=
  match s.privPath 0 e.1 e.2 false with
  | .internal => s.busRead (.porter 0) e.1 e.2
  | _ =>
    let b := (returned.drop (e.1 - addr)).take e.2
    (if b.length = e.2 then some b else none, s)

/-- One piece of a write. -/
def State.debugWrite1 (s : State) (addr : Nat) (data : List Byte) (e : Nat × Nat) : Bool × State :=
  let b := (data.drop (e.1 - addr)).take e.2
  match s.privPath 0 e.1 e.2 true with
  | .internal => s.busWrite (.porter 0) e.1 b
  | .device m => (true, (s.agentSend 0 { m with input := 126, data := b, blocks := 1 }).2)
  | _ => (false, s)

/-- The checks of a debug access before any piece of it is made. -/
def State.debugAccess (s : State) (x : Session) (opcode addr len : Nat) (write : Bool) (go : State → Ans × State) : Ans × State :=
  s.ifDebug (fun s =>
    let ps := (debugPieces addr len).map (fun e => (e.1, s.privPath 0 e.1 e.2 write))
    match ps.findSome? (fun e => pathStatus e.1 e.2) with
    | some st => (refuse st, if ps.any (fun e => decide (e.2 = .internal) && inSealed e.1) then s.sealedDenied addr else s)
    | none => s.inspectDebug x opcode (ps.flatMap (fun e => s.sealedOn e.2)).eraseDups go)

/-- A debug read, piece by piece. -/
def State.debugReadAll (s : State) (addr len : Nat) (returned : List Byte) : Ans × State :=
  let (b, s) := (debugPieces addr len).foldl (fun (acc : Option (List Byte) × State) e =>
    match acc with
    | (some l, s) => let (b, s) := s.debugRead1 addr returned e; (b.map (fun x => l ++ x), s)
    | (none, s) => (none, s)) (some [], s)
  match b with
  | some l => ((.ok, l.map BitVec.toNat), s)
  | none => (refuse .faulted, s)

/-- DEBUG_READ_MEMORY: `returned` is what memory devices returned of the range. -/
def execDebugReadMemory (h : EcpHdr) (addr : BitVec 64) (count : Fin 4001) (returned : List Byte) (s : State) :
    Host.Outcome State Fault Refusal :=
  ecpDo s (.debugReadMemory h addr count returned) h ⟨0x0B00, pConfigure⟩ (fun x s =>
    s.debugAccess x 0x0B00 addr.toNat count.val false (fun s => s.debugReadAll addr.toNat count.val returned))

/-- A debug write, piece by piece. -/
def State.debugWriteAll (s : State) (addr : Nat) (data : List Byte) : Ans × State :=
  let (ok, s) := (debugPieces addr data.length).foldl (fun (acc : Bool × State) e =>
    if acc.1 then acc.2.debugWrite1 addr data e else acc) (true, s)
  (if ok then okAns else refuse .faulted, s)

/-- DEBUG_WRITE_MEMORY. -/
def execDebugWriteMemory (h : EcpHdr) (addr : BitVec 64) (data : List Byte) (s : State) : Host.Outcome State Fault Refusal :=
  ecpDo s (.debugWriteMemory h addr data) h ⟨0x0B01, pConfigure⟩ (fun x s =>
    s.debugAccess x 0x0B01 addr.toNat data.length true (fun s => s.debugWriteAll addr.toNat data))

/-- FORCE_FAULT (R501). -/
def execForceFault (h : EcpHdr) (n : BitVec 32) (s : State) : Host.Outcome State Fault Refusal :=
  ecpDo s (.forceFault h n) h ⟨0x0B02, pConfigure⟩ (fun _ s => s.ifDebug (fun s =>
    if 1024 ≤ n.toNat then ((.invalid, [0x000E, noItem]), s) else (okAns, s.setForce n.toNat true)))

/-- The injector registers (R160). -/
def Reg.isInject : Reg → Bool
  | .LL_INJECT | .LL_INJECT_N | .LL_INJECT_MASK => true
  | _ => false

/-- LINK_INJECT (R158 to R160). -/
def execLinkInject (h : EcpHdr) (addr : BitVec 64) (v : BitVec 32) (s : State) : Host.Outcome State Fault Refusal :=
  ecpDo s (.linkInject h addr v) h ⟨0x0B03, pConfigure⟩ (fun _ s => s.ifDebug (fun s =>
    match regAt addr.toNat with
    | some (k, 0) =>
      if !k.reg.isInject then (badItem addr.toNat, s)
      else
        let (ok, s) := s.reach [addr.toNat]
        if ok then (okAns, s.regWrite k v.toNat (2 ^ 32 - 1)) else (refuse .timeout, s)
    | _ => (badItem addr.toNat, s)))

/-- POISON_LINE: the line of a Stall at an offset is written poisoned. -/
def State.poisonLine (s : State) (x : Session) (st off : Nat) : Ans × State :=
  if !s.flag F.STALL_CTRL_DEFINED st || !s.inStall st off then ((.invalid, [0x000D, noItem]), s)
  else
    s.inspectDebug x 0x0B04 (if s.flag F.STALL_CTRL_SEALED st then [st] else []) (fun s =>
      let (r, o) := s.stallLine st off
      (okAns, s.hearthWrite r o (List.replicate 64 0) true))

/-- POISON_LINE. -/
def execPoisonLine (h : EcpHdr) (st : StallId) (off : BitVec 64) (s : State) : Host.Outcome State Fault Refusal :=
  ecpDo s (.poisonLine h st off) h ⟨0x0B04, pConfigure⟩ (fun x s => s.ifDebug (fun s => s.poisonLine x st.val off.toNat))

end Sys2Proof.Machine
end

