-- ==== Sys2Proof/Machine/FabricManager.lean ====
section
/-!
DEFINITION. The fabric-manager API (R117, R118, R452 to R454): each command runs as an ECP command, and its status maps to a
return code.
-/
namespace Sys2Proof.Machine

/-- The return code of a status (R453). -/
def fmCode : Status → MailCode
  | .ok => .success
  | .alreadyDone => .success
  | .accepted => .backgroundStarted
  | .busy => .busy
  | .denied => .securityState
  | .invalid => .invalid
  | .overlap => .invalid
  | .staleEpoch => .invalid
  | .tooLarge => .invalid
  | .noResource => .exhausted
  | .timeout => .internal
  | .faulted => .internal
  | .aborted => .aborted
  | .noSession => .unsupported
  | .unknownOpcode => .unsupported

/-- Whether a source is answered (R452): a Host port whose host FM_API_PORTS names, MCTP while FM_API_MCTP is 1. -/
def State.fmAllows (s : State) : Source → Bool
  | .udp _ _ => false
  | .cxl p =>
    let host := s.get F.PORT_CFG_HOST_ID p.val
    s.isHostPort p.val && !s.sec.recovery && (s.mgmt (if host < 64 then 11 else 12) / 2 ^ (host % 64) % 2 == 1)
  | .smbus _ => s.mgmt 13 == 1 && !s.sec.recovery
  | .i3c _ => s.mgmt 13 == 1 && !s.sec.recovery

/-- The response limit of a source. -/
def State.fmLimit (s : State) (src : Source) : Nat := ((s.ecp.fmLimits.find? (fun e => decide (e.1 = src))).map Prod.snd).getD 1440

/-- The credential number of sources of this API, which no session has. -/
def fmCredential : Nat := 999

/-- The session that a source acts as: Observe and Configure (R452). -/
def State.fmSession (s : State) (src : Source) : Session :=
  { id := 0, credential := fmCredential, perms := { observe := true, configure := true }, source := src, replyLimit := s.fmLimit src }

/-- The background operation of a source: its last one. -/
def State.fmOp (s : State) (src : Source) : Option Operation :=
  match s.ecp.fmOps.find? (fun e => decide (e.1 = src)) with
  | some e => s.operation e.2
  | none => none

/-- Whether a background operation of a source runs. -/
def State.fmBusy (s : State) (src : Source) : Bool :=
  match s.fmOp src with
  | some o => decide (o.status = .accepted)
  | none => false

/-- Answer a source; an operation that started is its background operation. -/
def State.fmAnswer (s : State) (src : Source) (a : Ans) : State :=
  let s := if a.1 = .accepted then
      s.withEcp (fun e => { e with fmOps := e.fmOps.filter (fun (x : Source × Nat) => decide (x.1 ≠ src)) ++ [(src, a.2.headD 0)] })
    else s
  s.say (sourcePort src) (.fmReply src (fmCode a.1) a.2)

/-- A command of the API: run as a command of ECP by the session of its source; a second long one waits for nothing. -/
def State.fmRun (s : State) (src : Source) (c : Cmd) (long : Bool) (run : Session → State → Ans × State) : State :=
  if !s.ecpRuns then s
  else
    let s := s.received src
    if !s.fmAllows src then s.say (sourcePort src) (.fmReply src .unsupported [])
    else if long && s.fmBusy src then s.say (sourcePort src) (.fmReply src .busy [])
    else
      match s.judge (s.fmSession src) c none (fun x s => let (a, s) := run x s; (some a, s)) with
      | (some a, s) => s.fmAnswer src a
      | (none, s) => s

/-- FM_IDENTIFY: GET_IDENTITY. -/
def execFmIdentify (src : Source) (s : State) : Host.Outcome State Fault Refusal :=
  done (s.fmRun src ⟨0x0000, {}⟩ false (fun _ s => ((.ok, s.identity), s)))

/-- FM_BACKGROUND_OPERATION_STATUS: GET_OPERATION for the source's operation. -/
def execFmBackgroundOperationStatus (src : Source) (s : State) : Host.Outcome State Fault Refusal :=
  done (s.fmRun src ⟨0x0007, pObserve⟩ false (fun x s =>
    (match s.fmOp x.source with
      | some o => s.getOperation o.id
      | none => (.invalid, []), s)))

/-- FM_GET_RESPONSE_MESSAGE_LIMIT: GET_SESSION. -/
def execFmGetResponseMessageLimit (src : Source) (s : State) : Host.Outcome State Fault Refusal :=
  done (s.fmRun src ⟨0x0004, {}⟩ false (fun x s => ((.ok, [x.replyLimit]), s)))

/-- FM_SET_RESPONSE_MESSAGE_LIMIT: SET_REPLY_LIMIT. -/
def execFmSetResponseMessageLimit (src : Source) (limit : BitVec 32) (s : State) : Host.Outcome State Fault Refusal :=
  done (s.fmRun src ⟨0x0005, {}⟩ false (fun _ s =>
    if 256 ≤ limit.toNat ∧ limit.toNat ≤ 4096 then
      ((.ok, [limit.toNat]), s.withEcp (fun e =>
        { e with fmLimits := e.fmLimits.filter (fun (y : Source × Nat) => decide (y.1 ≠ src)) ++ [(src, limit.toNat)] }))
    else ((.invalid, []), s)))

/-- FM_IDENTIFY_SWITCH_DEVICE: GET_IDENTITY. -/
def execFmIdentifySwitchDevice (src : Source) (s : State) : Host.Outcome State Fault Refusal :=
  done (s.fmRun src ⟨0x0000, {}⟩ false (fun _ s => ((.ok, s.identity), s)))

/-- FM_GET_PHYSICAL_PORT_STATE: GET_PORT. -/
def execFmGetPhysicalPortState (src : Source) (p : Port) (s : State) : Host.Outcome State Fault Refusal :=
  done (s.fmRun src ⟨0x0100, pObserve⟩ false (fun _ s => s.getPort p.val))

/-- FM_PHYSICAL_PORT_CONTROL: SET_PORT_DISABLED or RESET_PORT; BUSY on a port with a binding (R118). -/
def execFmPhysicalPortControl (src : Source) (p : Port) (op : PortControl) (s : State) : Host.Outcome State Fault Refusal :=
  done (match op with
    | .disable b =>
      s.fmRun src ⟨0x0101, pConfigure⟩ false (fun _ s =>
        if s.carriesBinding p.val then (refuse .busy, s) else s.atPort p.val (fun s => s.setPortDisabled p.val b))
    | .reset =>
      s.fmRun src ⟨0x0103, pConfigure⟩ true (fun x s => if s.carriesBinding p.val then (refuse .busy, s) else s.resetPort x p.val))

/-- FM_SEND_PPB_CONFIG_REQUEST: PPB_CONFIG_REQUEST. -/
def execFmSendPpbConfigRequest (src : Source) (p : Port) (addr : BitVec 64) (value reply : Option (BitVec 32)) (s : State) :
    Host.Outcome State Fault Refusal :=
  done (s.fmRun src ⟨0x0109, pConfigure⟩ false (fun _ s => s.ppbConfig p.val addr.toNat value reply))

/-- FM_GET_VCS_INFO: GET_VCS_INFO. -/
def execFmGetVcsInfo (src : Source) (p : Port) (s : State) : Host.Outcome State Fault Refusal :=
  done (s.fmRun src ⟨0x020D, pObserve⟩ false (fun _ s => (s.vcsInfo p.val, s)))

/-- FM_BIND_VPPB: BIND_VPPB (R118, R254). -/
def execFmBindVppb (src : Source) (p : Port) (v : Vdsp) (t : BindTarget) (s : State) : Host.Outcome State Fault Refusal :=
  done (s.fmRun src ⟨0x020E, pConfigure⟩ true (fun x s => s.bindVport x p.val v.val t))

/-- FM_UNBIND_VPPB: UNBIND_VPPB. -/
def execFmUnbindVppb (src : Source) (p : Port) (v : Vdsp) (s : State) : Host.Outcome State Fault Refusal :=
  done (s.fmRun src ⟨0x020F, pConfigure⟩ true (fun x s => s.unbindVport x p.val v.val))

/-- FM_GENERATE_AER_EVENT: GENERATE_AER. -/
def execFmGenerateAerEvent (src : Source) (p : Port) (v : BitVec 32) (data : List Byte) (s : State) : Host.Outcome State Fault Refusal :=
  done (s.fmRun src ⟨0x0210, pConfigure⟩ false (fun _ s => s.generateAer p.val v.toNat data))

/-- FM_TUNNEL_MANAGEMENT_COMMAND: LD_MGMT_TUNNEL; a command that does not read is Unsupported (R454). -/
def execFmTunnelManagementCommand (src : Source) (p : Port) (c : TunnelCmd) (data : List Byte) (reply : Option (List Byte)) (s : State) :
    Host.Outcome State Fault Refusal :=
  done (s.fmRun src ⟨0x010C, pConfigure⟩ false (fun _ s => s.tunnel p.val c data reply))

/-- FM_SEND_LD_CONFIG_REQUEST: LD_CONFIG_REQUEST. -/
def execFmSendLdConfigRequest (src : Source) (p : Port) (ld : Fin 16) (addr : BitVec 52) (value reply : Option (BitVec 32)) (s : State) :
    Host.Outcome State Fault Refusal :=
  done (s.fmRun src ⟨0x010A, pConfigure⟩ false (fun _ s => s.ldConfig p.val ld.val addr.toNat value reply))

/-- FM_SEND_LD_MEMORY_REQUEST: LD_MEMORY_ACCESS; never with Inspect (R404, R452). -/
def execFmSendLdMemoryRequest (src : Source) (p : Port) (ld : Fin 16) (dpa : BitVec 52) (count : Fin 4001) (write : Bool) (data : List Byte)
    (s : State) : Host.Outcome State Fault Refusal :=
  done (s.fmRun src ⟨0x010B, pConfigure⟩ false (fun x s => s.ldMemory x 0x010B p.val ld.val dpa.toNat count.val write data))

/-- The commands of R117. -/
def fmOpcodes : List Nat :=
  [0x0001, 0x0002, 0x0003, 0x0004, 0x5100, 0x5101, 0x5102, 0x5103, 0x5200, 0x5201, 0x5202, 0x5203, 0x5300, 0x5301, 0x5302]

/-- FM_UNSUPPORTED_COMMAND (R117): every command that the table of R117 does not hold. -/
def execFmUnsupportedCommand (src : Source) (opcode : BitVec 16) (s : State) : Host.Outcome State Fault Refusal :=
  done (if fmOpcodes.contains opcode.toNat || !s.ecpRuns then s else (s.received src).say (sourcePort src) (.fmReply src .unsupported []))

end Sys2Proof.Machine
end

