-- ==== Sys2Proof/Machine/Faults.lean ====
section
/-!
DEFINITION. Fault Collection and Reaction: the commands of the collector (R499, R501, R506).
-/
namespace Sys2Proof.Machine

/-- FC_CLEAR (R499). -/
def execFcClear (n : Fin 1024) (s : State) : Host.Outcome State Fault Refusal := done (s.clearSource n.val)

/-- FC_FORCE (R501): a write of FC_SRC.FORCE. -/
def execFcForce (n : Fin 1024) (b : Bool) (s : State) : Host.Outcome State Fault Refusal := done (s.setForce n.val b)

/-- COLLECTOR_PARITY_ERROR (R506). -/
def execCollectorParityError (trusted : Bool) (s : State) : Host.Outcome State Fault Refusal := done (s.selfCheckFails trusted)

end Sys2Proof.Machine
end

