-- ==== Sys2Proof/Machine/Dispatch.lean ====
section
/-!
DEFINITION. One arm per command: a direct call of its meaning.
-/
namespace Sys2Proof.Machine

def exec (i : Instr) (s : State) : Host.Outcome State Fault Refusal :=
  match i with
  | .registerWrite a addr data => Sys2Proof.Machine.execRegisterWrite a addr data s
  | .ingressRequest p r => Sys2Proof.Machine.execIngressRequest p r s
  | .holdListRetry h seam input dst q => Sys2Proof.Machine.execHoldListRetry h seam input dst q s
  | .egressMessageStart p e deferred => Sys2Proof.Machine.execEgressMessageStart p e deferred s
  | .mirrorIdleTimer h n => Sys2Proof.Machine.execMirrorIdleTimer h n s
  | .deviceResponse p id data how => Sys2Proof.Machine.execDeviceResponse p id data how s
  | .deviceBiSnoop p addr => Sys2Proof.Machine.execDeviceBiSnoop p addr s
  | .memTimeoutExpiry p id => Sys2Proof.Machine.execMemTimeoutExpiry p id s
  | .ioTimeoutExpiry p id => Sys2Proof.Machine.execIoTimeoutExpiry p id s
  | .configRequestToStall p id t a => Sys2Proof.Machine.execConfigRequestToStall p id t a s
  | .hdmCommittedSet st k => Sys2Proof.Machine.execHdmCommittedSet st k s
  | .hotPlugNotify => Sys2Proof.Machine.execHotPlugNotify s
  | .mailboxDoorbell st => Sys2Proof.Machine.execMailboxDoorbell st s
  | .getEventRecords st => Sys2Proof.Machine.execGetEventRecords st s
  | .clearEventRecords st handles => Sys2Proof.Machine.execClearEventRecords st handles s
  | .getTimestamp st => Sys2Proof.Machine.execGetTimestamp st s
  | .setTimestamp st v => Sys2Proof.Machine.execSetTimestamp st v s
  | .getSupportedLogs st => Sys2Proof.Machine.execGetSupportedLogs st s
  | .getLog st off len => Sys2Proof.Machine.execGetLog st off len s
  | .identifyMemoryDevice st => Sys2Proof.Machine.execIdentifyMemoryDevice st s
  | .getPartitionInfo st => Sys2Proof.Machine.execGetPartitionInfo st s
  | .getHealthInfo st reports => Sys2Proof.Machine.execGetHealthInfo st reports s
  | .getPoisonList st => Sys2Proof.Machine.execGetPoisonList st s
  | .injectPoison st off => Sys2Proof.Machine.execInjectPoison st off s
  | .clearPoison st off data => Sys2Proof.Machine.execClearPoison st off data s
  | .sanitize st => Sys2Proof.Machine.execSanitize st s
  | .secureErase st => Sys2Proof.Machine.execSecureErase st s
  | .mailboxBgOpComplete st => Sys2Proof.Machine.execMailboxBgOpComplete st s
  | .mailboxUnsupported st opcode => Sys2Proof.Machine.execMailboxUnsupported st opcode s
  | .configMessageReceive h epoch id => Sys2Proof.Machine.execConfigMessageReceive h epoch id s
  | .flueHeartbeat h => Sys2Proof.Machine.execFlueHeartbeat h s
  | .flueSilenceTimeout h => Sys2Proof.Machine.execFlueSilenceTimeout h s
  | .flueTransferTimeout x => Sys2Proof.Machine.execFlueTransferTimeout x s
  | .flueResponse w => Sys2Proof.Machine.execFlueResponse w s
  | .semaphoreExpiry c => Sys2Proof.Machine.execSemaphoreExpiry c s
  | .slotHoldLineAssert n => Sys2Proof.Machine.execSlotHoldLineAssert n s
  | .slotHoldLineRelease n => Sys2Proof.Machine.execSlotHoldLineRelease n s
  | .grateEventReport n => Sys2Proof.Machine.execGrateEventReport n s
  | .coldReset => Sys2Proof.Machine.execColdReset s
  | .coldBootComplete b => Sys2Proof.Machine.execColdBootComplete b s
  | .resetNAssert k => Sys2Proof.Machine.execResetNAssert k s
  | .resetNRelease => Sys2Proof.Machine.execResetNRelease s
  | .rstWarm => Sys2Proof.Machine.execRstWarm s
  | .rstHalfE => Sys2Proof.Machine.execRstHalfE s
  | .rstHalfW => Sys2Proof.Machine.execRstHalfW s
  | .rstHearth => Sys2Proof.Machine.execRstHearth s
  | .rstPort p => Sys2Proof.Machine.execRstPort p s
  | .seamDownHoldExpiry h => Sys2Proof.Machine.execSeamDownHoldExpiry h s
  | .halfResetRelease h => Sys2Proof.Machine.execHalfResetRelease h s
  | .portResetRelease p => Sys2Proof.Machine.execPortResetRelease p s
  | .stallDrainEnd st => Sys2Proof.Machine.execStallDrainEnd st s
  | .stallResetComplete st => Sys2Proof.Machine.execStallResetComplete st s
  | .pllLockLoss g => Sys2Proof.Machine.execPllLockLoss g s
  | .pllRelock g => Sys2Proof.Machine.execPllRelock g s
  | .fclkLockLoss h => Sys2Proof.Machine.execFclkLockLoss h s
  | .skpOrderedSet p k drift set => Sys2Proof.Machine.execSkpOrderedSet p k drift set s
  | .receiverDetected p t => Sys2Proof.Machine.execReceiverDetected p t s
  | .detectQuietTimer p => Sys2Proof.Machine.execDetectQuietTimer p s
  | .trainingTimeout p => Sys2Proof.Machine.execTrainingTimeout p s
  | .linkReachesL0 p viral => Sys2Proof.Machine.execLinkReachesL0 p viral s
  | .eqPhaseComplete p own partner => Sys2Proof.Machine.execEqPhaseComplete p own partner s
  | .speedChangeTimeout p => Sys2Proof.Machine.execSpeedChangeTimeout p s
  | .eqPhaseTimeout p => Sys2Proof.Machine.execEqPhaseTimeout p s
  | .eqBypassFallback p => Sys2Proof.Machine.execEqBypassFallback p s
  | .adaptationUpdate p k signs => Sys2Proof.Machine.execAdaptationUpdate p k signs s
  | .retrain p => Sys2Proof.Machine.execRetrain p s
  | .saveEq p => Sys2Proof.Machine.execSaveEq p s
  | .bond p b => Sys2Proof.Machine.execBond p b s
  | .loopbackCtrlWrite p v => Sys2Proof.Machine.execLoopbackCtrlWrite p v s
  | .testCtrlWrite p v => Sys2Proof.Machine.execTestCtrlWrite p v s
  | .partnerLoopbackRequest p => Sys2Proof.Machine.execPartnerLoopbackRequest p s
  | .laneSlipWrite p k pos => Sys2Proof.Machine.execLaneSlipWrite p k pos s
  | .marginStart p lane axis dir limit steps => Sys2Proof.Machine.execMarginStart p lane axis dir limit steps s
  | .marginStepEnd p errors => Sys2Proof.Machine.execMarginStepEnd p errors s
  | .partnerMarginRequest p k step errors => Sys2Proof.Machine.execPartnerMarginRequest p k step errors s
  | .laneRetire p mask => Sys2Proof.Machine.execLaneRetire p mask s
  | .retireControlFlit p mask ack => Sys2Proof.Machine.execRetireControlFlit p mask ack s
  | .retireSwitch p receiver => Sys2Proof.Machine.execRetireSwitch p receiver s
  | .retireAckTimeout p => Sys2Proof.Machine.execRetireAckTimeout p s
  | .ideMacFailure p rx what => Sys2Proof.Machine.execIdeMacFailure p rx what s
  | .ideKeyProgram p rx tx => Sys2Proof.Machine.execIdeKeyProgram p rx tx s
  | .keyRollover p => Sys2Proof.Machine.execKeyRollover p s
  | .oldKeyWindowEnd p => Sys2Proof.Machine.execOldKeyWindowEnd p s
  | .viralReceived p => Sys2Proof.Machine.execViralReceived p s
  | .viralFromHost p => Sys2Proof.Machine.execViralFromHost p s
  | .deviceInventoryRead p d => Sys2Proof.Machine.execDeviceInventoryRead p d s
  | .flitReceive l f deferrals => Sys2Proof.Machine.execFlitReceive l f deferrals s
  | .ackCoalesceReached l => Sys2Proof.Machine.execAckCoalesceReached l s
  | .ackTimerExpiry l => Sys2Proof.Machine.execAckTimerExpiry l s
  | .replayTimerExpiry l => Sys2Proof.Machine.execReplayTimerExpiry l s
  | .linkMessageSend l => Sys2Proof.Machine.execLinkMessageSend l s
  | .initTimeout l => Sys2Proof.Machine.execInitTimeout l s
  | .linkLayerDown p => Sys2Proof.Machine.execLinkLayerDown p s
  | .seamRealign h c ok => Sys2Proof.Machine.execSeamRealign h c ok s
  | .seamActiveTimeout h => Sys2Proof.Machine.execSeamActiveTimeout h s
  | .llInjectArm l v => Sys2Proof.Machine.execLlInjectArm l v s
  | .injectorFire l => Sys2Proof.Machine.execInjectorFire l s
  | .poolStateSend h => Sys2Proof.Machine.execPoolStateSend h s
  | .poolStateStale h => Sys2Proof.Machine.execPoolStateStale h s
  | .censusStart h => Sys2Proof.Machine.execCensusStart h s
  | .censusComplete h doubled => Sys2Proof.Machine.execCensusComplete h doubled s
  | .censusRunNow h => Sys2Proof.Machine.execCensusRunNow h s
  | .bankRetire h b => Sys2Proof.Machine.execBankRetire h b s
  | .meterTokenRefill h => Sys2Proof.Machine.execMeterTokenRefill h s
  | .bulkPromote p => Sys2Proof.Machine.execBulkPromote p s
  | .histSample h => Sys2Proof.Machine.execHistSample h s
  | .histClear p => Sys2Proof.Machine.execHistClear p s
  | .windowDirectWrite c w r v => Sys2Proof.Machine.execWindowDirectWrite c w r v s
  | .checkerDisable c => Sys2Proof.Machine.execCheckerDisable c s
  | .checkerEnable c => Sys2Proof.Machine.execCheckerEnable c s
  | .checkerEnabled c => Sys2Proof.Machine.execCheckerEnabled c s
  | .checkerHoldExpired c => Sys2Proof.Machine.execCheckerHoldExpired c s
  | .scrubBarrierConfirmed p => Sys2Proof.Machine.execScrubBarrierConfirmed p s
  | .scrubWriteFail p => Sys2Proof.Machine.execScrubWriteFail p s
  | .txnIdleTimeout t => Sys2Proof.Machine.execTxnIdleTimeout t s
  | .commitValidated t => Sys2Proof.Machine.execCommitValidated t s
  | .recallWalkDone what => Sys2Proof.Machine.execRecallWalkDone what s
  | .halfApply h => Sys2Proof.Machine.execHalfApply h s
  | .halfApplyQuiesced h ok => Sys2Proof.Machine.execHalfApplyQuiesced h ok s
  | .applyQuiesceTimeout h => Sys2Proof.Machine.execApplyQuiesceTimeout h s
  | .appliedReport h => Sys2Proof.Machine.execAppliedReport h s
  | .applyFailedReport h => Sys2Proof.Machine.execApplyFailedReport h s
  | .commitTimeout t => Sys2Proof.Machine.execCommitTimeout t s
  | .chargeReassert => Sys2Proof.Machine.execChargeReassert s
  | .chargeReceive h => Sys2Proof.Machine.execChargeReceive h s
  | .epochMarkSend h => Sys2Proof.Machine.execEpochMarkSend h s
  | .homeRequest h => Sys2Proof.Machine.execHomeRequest h s
  | .homeFlowStart h ecc => Sys2Proof.Machine.execHomeFlowStart h ecc s
  | .ledgerFill h what entry => Sys2Proof.Machine.execLedgerFill h what entry s
  | .ledgerWayFreed h => Sys2Proof.Machine.execLedgerWayFreed h s
  | .snoopResponse p h id kept => Sys2Proof.Machine.execSnoopResponse p h id kept s
  | .homeWriteback h => Sys2Proof.Machine.execHomeWriteback h s
  | .snoopTimeout h id => Sys2Proof.Machine.execSnoopTimeout h id s
  | .wbGraceExpiry h id => Sys2Proof.Machine.execWbGraceExpiry h id s
  | .minHoldExpiry h id => Sys2Proof.Machine.execMinHoldExpiry h id s
  | .ledgerWayRetire h g way => Sys2Proof.Machine.execLedgerWayRetire h g way s
  | .ledgerWayRetireDone h g => Sys2Proof.Machine.execLedgerWayRetireDone h g s
  | .regionRecoveryDone r => Sys2Proof.Machine.execRegionRecoveryDone r s
  | .cohFlush h => Sys2Proof.Machine.execCohFlush h s
  | .ledgerFlushDone h => Sys2Proof.Machine.execLedgerFlushDone h s
  | .chStart c => Sys2Proof.Machine.execChStart c s
  | .chAbort c => Sys2Proof.Machine.execChAbort c s
  | .chTrigger c => Sys2Proof.Machine.execChTrigger c s
  | .chPause c b => Sys2Proof.Machine.execChPause c b s
  | .descriptorFetch c f => Sys2Proof.Machine.execDescriptorFetch c f s
  | .porterReadReturn c e => Sys2Proof.Machine.execPorterReadReturn c e s
  | .descriptorComplete c => Sys2Proof.Machine.execDescriptorComplete c s
  | .porterLateWriteError c => Sys2Proof.Machine.execPorterLateWriteError c s
  | .porterDoorbell c v => Sys2Proof.Machine.execPorterDoorbell c v s
  | .tailReread c f => Sys2Proof.Machine.execTailReread c f s
  | .porterPaceTimer c => Sys2Proof.Machine.execPorterPaceTimer c s
  | .porterRetire c => Sys2Proof.Machine.execPorterRetire c s
  | .relocChunkDelivered x => Sys2Proof.Machine.execRelocChunkDelivered x s
  | .relocJournalAcked x => Sys2Proof.Machine.execRelocJournalAcked x s
  | .watermarkMessage x => Sys2Proof.Machine.execWatermarkMessage x s
  | .watermarkAck x => Sys2Proof.Machine.execWatermarkAck x s
  | .relocSourceDrained x => Sys2Proof.Machine.execRelocSourceDrained x s
  | .relocChunkFailed x => Sys2Proof.Machine.execRelocChunkFailed x s
  | .mirroredWriteComplete id => Sys2Proof.Machine.execMirroredWriteComplete id s
  | .relocHandoverDone x => Sys2Proof.Machine.execRelocHandoverDone x s
  | .handoverEndMarker x => Sys2Proof.Machine.execHandoverEndMarker x s
  | .relocSourceRelease x => Sys2Proof.Machine.execRelocSourceRelease x s
  | .relocTargetFailure x => Sys2Proof.Machine.execRelocTargetFailure x s
  | .tamperSignal n => Sys2Proof.Machine.execTamperSignal n s
  | .jtagAccess j => Sys2Proof.Machine.execJtagAccess j s
  | .debugCtrlLock => Sys2Proof.Machine.execDebugCtrlLock s
  | .spdmGetMeasurements r index => Sys2Proof.Machine.execSpdmGetMeasurements r index s
  | .spdmSessionMessage r m => Sys2Proof.Machine.execSpdmSessionMessage r m s
  | .wesisVerified => Sys2Proof.Machine.execWesisVerified s
  | .ecpInvalidPacket src => Sys2Proof.Machine.execEcpInvalidPacket src s
  | .unknownOpcode h opcode => Sys2Proof.Machine.execUnknownOpcode h opcode s
  | .mgmtNetworkFrame f => Sys2Proof.Machine.execMgmtNetworkFrame f s
  | .fragmentReassemblyTimeout src ident => Sys2Proof.Machine.execFragmentReassemblyTimeout src ident s
  | .pendingSessionExpiry id => Sys2Proof.Machine.execPendingSessionExpiry id s
  | .sessionIdleTimeout id => Sys2Proof.Machine.execSessionIdleTimeout id s
  | .challengeLockoutEnd src => Sys2Proof.Machine.execChallengeLockoutEnd src s
  | .operationStatusExpiry id => Sys2Proof.Machine.execOperationStatusExpiry id s
  | .getIdentity h => Sys2Proof.Machine.execGetIdentity h s
  | .sessionChallenge h cred nonce => Sys2Proof.Machine.execSessionChallenge h cred nonce s
  | .sessionOpen h => Sys2Proof.Machine.execSessionOpen h s
  | .sessionClose h => Sys2Proof.Machine.execSessionClose h s
  | .getSession h => Sys2Proof.Machine.execGetSession h s
  | .setReplyLimit h count => Sys2Proof.Machine.execSetReplyLimit h count s
  | .subscribe h mask => Sys2Proof.Machine.execSubscribe h mask s
  | .getOperation h id => Sys2Proof.Machine.execGetOperation h id s
  | .abortOperation h id => Sys2Proof.Machine.execAbortOperation h id s
  | .listOperations h start => Sys2Proof.Machine.execListOperations h start s
  | .getEcpStats h => Sys2Proof.Machine.execGetEcpStats h s
  | .getMgmtConfig h => Sys2Proof.Machine.execGetMgmtConfig h s
  | .setMgmtConfig h fields => Sys2Proof.Machine.execSetMgmtConfig h fields s
  | .getPort h p => Sys2Proof.Machine.execGetPort h p s
  | .setPortDisabled h p disabled => Sys2Proof.Machine.execSetPortDisabled h p disabled s
  | .retrainPort h p => Sys2Proof.Machine.execRetrainPort h p s
  | .resetPort h p => Sys2Proof.Machine.execResetPort h p s
  | .holdPort h p hold => Sys2Proof.Machine.execHoldPort h p hold s
  | .retireLane h p k => Sys2Proof.Machine.execRetireLane h p k s
  | .saveEqualisation h p => Sys2Proof.Machine.execSaveEqualisation h p s
  | .marginLane h p v => Sys2Proof.Machine.execMarginLane h p v s
  | .setTestMode h p mode loop test => Sys2Proof.Machine.execSetTestMode h p mode loop test s
  | .ppbConfigRequest h p addr value reply => Sys2Proof.Machine.execPpbConfigRequest h p addr value reply s
  | .ldConfigRequest h p ld addr value reply => Sys2Proof.Machine.execLdConfigRequest h p ld addr value reply s
  | .ldMemoryAccess h p ld dpa count write data => Sys2Proof.Machine.execLdMemoryAccess h p ld dpa count write data s
  | .ldMgmtTunnel h p c data reply => Sys2Proof.Machine.execLdMgmtTunnel h p c data reply s
  | .getStall h st => Sys2Proof.Machine.execGetStall h st s
  | .listStalls h start => Sys2Proof.Machine.execListStalls h start s
  | .quenchStall h st quench => Sys2Proof.Machine.execQuenchStall h st quench s
  | .resetStall h st => Sys2Proof.Machine.execResetStall h st s
  | .resumeStall h st => Sys2Proof.Machine.execResumeStall h st s
  | .freezeStall h st => Sys2Proof.Machine.execFreezeStall h st s
  | .readStallRecord h st start => Sys2Proof.Machine.execReadStallRecord h st start s
  | .writeStallRecord h st start data => Sys2Proof.Machine.execWriteStallRecord h st start data s
  | .restoreStall h st => Sys2Proof.Machine.execRestoreStall h st s
  | .getInventory h start => Sys2Proof.Machine.execGetInventory h start s
  | .clearQuarantine h p addr count => Sys2Proof.Machine.execClearQuarantine h p addr count s
  | .setChecker h host en => Sys2Proof.Machine.execSetChecker h host en s
  | .writeWindow h host e => Sys2Proof.Machine.execWriteWindow h host e s
  | .getVcsInfo h p => Sys2Proof.Machine.execGetVcsInfo h p s
  | .bindVppb h p v t => Sys2Proof.Machine.execBindVppb h p v t s
  | .unbindVppb h p v => Sys2Proof.Machine.execUnbindVppb h p v s
  | .generateAer h p v data => Sys2Proof.Machine.execGenerateAer h p v data s
  | .txnBegin h => Sys2Proof.Machine.execTxnBegin h s
  | .txnWrite h t items => Sys2Proof.Machine.execTxnWrite h t items s
  | .txnWriteEntry h t es => Sys2Proof.Machine.execTxnWriteEntry h t es s
  | .txnRead h t addr => Sys2Proof.Machine.execTxnRead h t addr s
  | .txnCommit h t => Sys2Proof.Machine.execTxnCommit h t s
  | .txnRollback h t => Sys2Proof.Machine.execTxnRollback h t s
  | .txnStatus h => Sys2Proof.Machine.execTxnStatus h s
  | .writeDirect h items => Sys2Proof.Machine.execWriteDirect h items s
  | .getRegion h r => Sys2Proof.Machine.execGetRegion h r s
  | .recoverRegion h r => Sys2Proof.Machine.execRecoverRegion h r s
  | .unfenceHost h r host => Sys2Proof.Machine.execUnfenceHost h r host s
  | .flushLedger h half => Sys2Proof.Machine.execFlushLedger h half s
  | .porterStartChain h c addr => Sys2Proof.Machine.execPorterStartChain h c addr s
  | .getChannel h c => Sys2Proof.Machine.execGetChannel h c s
  | .pauseChannel h c pause => Sys2Proof.Machine.execPauseChannel h c pause s
  | .retireChannel h c => Sys2Proof.Machine.execRetireChannel h c s
  | .relocStart h object dst ledger auto => Sys2Proof.Machine.execRelocStart h object dst ledger auto s
  | .relocCommit h x => Sys2Proof.Machine.execRelocCommit h x s
  | .relocRollback h x => Sys2Proof.Machine.execRelocRollback h x s
  | .relocPause h x pause => Sys2Proof.Machine.execRelocPause h x pause s
  | .relocResume h x => Sys2Proof.Machine.execRelocResume h x s
  | .relocStatus h x => Sys2Proof.Machine.execRelocStatus h x s
  | .relocInbound h p q ld base units far => Sys2Proof.Machine.execRelocInbound h p q ld base units far s
  | .getSlot h n => Sys2Proof.Machine.execGetSlot h n s
  | .slotPower h n on => Sys2Proof.Machine.execSlotPower h n on s
  | .slotClearLockout h n => Sys2Proof.Machine.execSlotClearLockout h n s
  | .slotSetFeed h n v => Sys2Proof.Machine.execSlotSetFeed h n v s
  | .getPowerState h => Sys2Proof.Machine.execGetPowerState h s
  | .setPowerState h rung => Sys2Proof.Machine.execSetPowerState h rung s
  | .setKeepRegion h p addr count => Sys2Proof.Machine.execSetKeepRegion h p addr count s
  | .resetWarm h => Sys2Proof.Machine.execResetWarm h s
  | .resetHalf h half => Sys2Proof.Machine.execResetHalf h half s
  | .resetHearth h => Sys2Proof.Machine.execResetHearth h s
  | .getFaults h start => Sys2Proof.Machine.execGetFaults h start s
  | .clearFault h n => Sys2Proof.Machine.execClearFault h n s
  | .setReaction h n v => Sys2Proof.Machine.execSetReaction h n v s
  | .readRegisters h addrs => Sys2Proof.Machine.execReadRegisters h addrs s
  | .programCounters h items => Sys2Proof.Machine.execProgramCounters h items s
  | .setSnapshotRing h addr count => Sys2Proof.Machine.execSetSnapshotRing h addr count s
  | .getWearRecord h start => Sys2Proof.Machine.execGetWearRecord h start s
  | .telemetryDump h addr => Sys2Proof.Machine.execTelemetryDump h addr s
  | .getSecurityState h => Sys2Proof.Machine.execGetSecurityState h s
  | .lifecycleAdvance h target => Sys2Proof.Machine.execLifecycleAdvance h target s
  | .provisionCredential h cred key perms => Sys2Proof.Machine.execProvisionCredential h cred key perms s
  | .revokeCredential h cred => Sys2Proof.Machine.execRevokeCredential h cred s
  | .tamperClear h => Sys2Proof.Machine.execTamperClear h s
  | .unlockChallenge h => Sys2Proof.Machine.execUnlockChallenge h s
  | .unlockResponse h verifies => Sys2Proof.Machine.execUnlockResponse h verifies s
  | .debugLock h => Sys2Proof.Machine.execDebugLock h s
  | .fwBegin h slot count => Sys2Proof.Machine.execFwBegin h slot count s
  | .fwData h start data => Sys2Proof.Machine.execFwData h start data s
  | .fwEnd h verified => Sys2Proof.Machine.execFwEnd h verified s
  | .setPreferredSlot h slot => Sys2Proof.Machine.execSetPreferredSlot h slot s
  | .getAuditLog h start => Sys2Proof.Machine.execGetAuditLog h start s
  | .debugReadMemory h addr count returned => Sys2Proof.Machine.execDebugReadMemory h addr count returned s
  | .debugWriteMemory h addr data => Sys2Proof.Machine.execDebugWriteMemory h addr data s
  | .forceFault h n => Sys2Proof.Machine.execForceFault h n s
  | .linkInject h addr v => Sys2Proof.Machine.execLinkInject h addr v s
  | .poisonLine h st off => Sys2Proof.Machine.execPoisonLine h st off s
  | .fmIdentify src => Sys2Proof.Machine.execFmIdentify src s
  | .fmBackgroundOperationStatus src => Sys2Proof.Machine.execFmBackgroundOperationStatus src s
  | .fmGetResponseMessageLimit src => Sys2Proof.Machine.execFmGetResponseMessageLimit src s
  | .fmSetResponseMessageLimit src limit => Sys2Proof.Machine.execFmSetResponseMessageLimit src limit s
  | .fmIdentifySwitchDevice src => Sys2Proof.Machine.execFmIdentifySwitchDevice src s
  | .fmGetPhysicalPortState src p => Sys2Proof.Machine.execFmGetPhysicalPortState src p s
  | .fmPhysicalPortControl src p op => Sys2Proof.Machine.execFmPhysicalPortControl src p op s
  | .fmSendPpbConfigRequest src p addr value reply => Sys2Proof.Machine.execFmSendPpbConfigRequest src p addr value reply s
  | .fmGetVcsInfo src p => Sys2Proof.Machine.execFmGetVcsInfo src p s
  | .fmBindVppb src p v t => Sys2Proof.Machine.execFmBindVppb src p v t s
  | .fmUnbindVppb src p v => Sys2Proof.Machine.execFmUnbindVppb src p v s
  | .fmGenerateAerEvent src p v data => Sys2Proof.Machine.execFmGenerateAerEvent src p v data s
  | .fmTunnelManagementCommand src p c data reply => Sys2Proof.Machine.execFmTunnelManagementCommand src p c data reply s
  | .fmSendLdConfigRequest src p ld addr value reply => Sys2Proof.Machine.execFmSendLdConfigRequest src p ld addr value reply s
  | .fmSendLdMemoryRequest src p ld dpa count write data => Sys2Proof.Machine.execFmSendLdMemoryRequest src p ld dpa count write data s
  | .fmUnsupportedCommand src opcode => Sys2Proof.Machine.execFmUnsupportedCommand src opcode s
  | .coreRetire c => Sys2Proof.Machine.execCoreRetire c s
  | .wdtKick v => Sys2Proof.Machine.execWdtKick v s
  | .watchdogExpiry => Sys2Proof.Machine.execWatchdogExpiry s
  | .bankRetentionEntry b => Sys2Proof.Machine.execBankRetentionEntry b s
  | .bankRetentionWake b => Sys2Proof.Machine.execBankRetentionWake b s
  | .softRepair b col => Sys2Proof.Machine.execSoftRepair b col s
  | .softRepairDone b => Sys2Proof.Machine.execSoftRepairDone b s
  | .coreLoad c addr len e => Sys2Proof.Machine.execCoreLoad c addr len e s
  | .coreStore c addr data posted => Sys2Proof.Machine.execCoreStore c addr data posted s
  | .storeBufferIssue c => Sys2Proof.Machine.execStoreBufferIssue c s
  | .storeTakesEffect t => Sys2Proof.Machine.execStoreTakesEffect t s
  | .fence c => Sys2Proof.Machine.execFence c s
  | .reserveLoad c addr len e => Sys2Proof.Machine.execReserveLoad c addr len e s
  | .conditionalStore c addr data interrupted => Sys2Proof.Machine.execConditionalStore c addr data interrupted s
  | .cmImpreciseClr => Sys2Proof.Machine.execCmImpreciseClr s
  | .fcClear n => Sys2Proof.Machine.execFcClear n s
  | .fcForce n b => Sys2Proof.Machine.execFcForce n b s
  | .collectorParityError trusted => Sys2Proof.Machine.execCollectorParityError trusted s
  | .presLongAssert n => Sys2Proof.Machine.execPresLongAssert n s
  | .presLongDeassert n => Sys2Proof.Machine.execPresLongDeassert n s
  | .presShortDeassert n => Sys2Proof.Machine.execPresShortDeassert n s
  | .seatingDebounceEnd n => Sys2Proof.Machine.execSeatingDebounceEnd n s
  | .prechargeComplete n => Sys2Proof.Machine.execPrechargeComplete n s
  | .prechargeTimeout n => Sys2Proof.Machine.execPrechargeTimeout n s
  | .rampComplete n within => Sys2Proof.Machine.execRampComplete n within s
  | .curveTrip n => Sys2Proof.Machine.execCurveTrip n s
  | .fastTrip n => Sys2Proof.Machine.execFastTrip n s
  | .backoffDeadline n => Sys2Proof.Machine.execBackoffDeadline n s
  | .slotCooldownExpiry n => Sys2Proof.Machine.execSlotCooldownExpiry n s
  | .pgLostTrip n => Sys2Proof.Machine.execPgLostTrip n s
  | .feedClassChange f c enter => Sys2Proof.Machine.execFeedClassChange f c enter s
  | .primaryFeedReturn n => Sys2Proof.Machine.execPrimaryFeedReturn n s
  | .feedDeadTimeEnd n => Sys2Proof.Machine.execFeedDeadTimeEnd n s
  | .feedSwitchCheck n within => Sys2Proof.Machine.execFeedSwitchCheck n within s
  | .supplyLostEntry n => Sys2Proof.Machine.execSupplyLostEntry n s
  | .supplyReturn n => Sys2Proof.Machine.execSupplyReturn n s
  | .bankReqRaise t => Sys2Proof.Machine.execBankReqRaise t s
  | .rearm pfailLow => Sys2Proof.Machine.execRearm pfailLow s
  | .slotCtrlOn n => Sys2Proof.Machine.execSlotCtrlOn n s
  | .slotCtrlOff n => Sys2Proof.Machine.execSlotCtrlOff n s
  | .clearLockout n => Sys2Proof.Machine.execClearLockout n s
  | .glowIdleExpiry stay => Sys2Proof.Machine.execGlowIdleExpiry stay s
  | .ladderExitCause => Sys2Proof.Machine.execLadderExitCause s
  | .ladderReachesBlaze h => Sys2Proof.Machine.execLadderReachesBlaze h s
  | .gpfResponse p => Sys2Proof.Machine.execGpfResponse p s
  | .gpfPhase1End => Sys2Proof.Machine.execGpfPhase1End s
  | .ledgerWritebackCutoff h => Sys2Proof.Machine.execLedgerWritebackCutoff h s
  | .gpfPhase2End => Sys2Proof.Machine.execGpfPhase2End s
  | .bankImageSeal => Sys2Proof.Machine.execBankImageSeal s
  | .keepCopyDone e => Sys2Proof.Machine.execKeepCopyDone e s
  | .mainSupplyLost => Sys2Proof.Machine.execMainSupplyLost s
  | .mainSupplyGood k => Sys2Proof.Machine.execMainSupplyGood k s
  | .vbankRise => Sys2Proof.Machine.execVbankRise s
  | .vbankLoss => Sys2Proof.Machine.execVbankLoss s
  | .bankedWake w k => Sys2Proof.Machine.execBankedWake w k s
  | .autoKindleTimer k => Sys2Proof.Machine.execAutoKindleTimer k s
  | .kindlingReachesBlaze fellBack => Sys2Proof.Machine.execKindlingReachesBlaze fellBack s
  | .pmuReset u => Sys2Proof.Machine.execPmuReset u s
  | .pmuFreeze u b => Sys2Proof.Machine.execPmuFreeze u b s
  | .freezeAll b => Sys2Proof.Machine.execFreezeAll b s
  | .resetAll => Sys2Proof.Machine.execResetAll s
  | .counterOverflow u n rest => Sys2Proof.Machine.execCounterOverflow u n rest s
  | .snapshotTake => Sys2Proof.Machine.execSnapshotTake s
  | .snapshotMarkReceive => Sys2Proof.Machine.execSnapshotMarkReceive s
  | .wearSample kind element value grave => Sys2Proof.Machine.execWearSample kind element value grave s
  | .hostCounterRefresh st => Sys2Proof.Machine.execHostCounterRefresh st s
  | .iaPendingClear n => Sys2Proof.Machine.execIaPendingClear n s
  | .iaSoftSet n => Sys2Proof.Machine.execIaSoftSet n s
  | .iaSoftClear n => Sys2Proof.Machine.execIaSoftClear n s
  | .kclkCalibrationRefresh v => Sys2Proof.Machine.execKclkCalibrationRefresh v s
  | .portLeavesL0 p k => Sys2Proof.Machine.execPortLeavesL0 p k s
  | .partnerLinkCredits p covered => Sys2Proof.Machine.execPartnerLinkCredits p covered s
  | .tamperSourceEnd n => Sys2Proof.Machine.execTamperSourceEnd n s
  | .warmResetDeferLimit => Sys2Proof.Machine.execWarmResetDeferLimit s
  | .powerRungReached stay => Sys2Proof.Machine.execPowerRungReached stay s
  | .xspiOperationComplete => Sys2Proof.Machine.execXspiOperationComplete s

end Sys2Proof.Machine
end

