-- ==== Sys2Proof/Safety.lean ====
section
/-!
DEFINITION. What the statements call a sound state: the register file and the memory are in their canonical forms, and
no reaction is under way; and the words in which they say what a command answers and what it leaves alone.
-/
namespace Sys2Proof.Machine

/-- The register file lists registers in rising order and none at its reset value. -/
def RegsCanonical (r : List (Key × Word)) : Prop :=
  r.Pairwise (fun a b => Key.lt a.1 b.1 = true) ∧ ∀ e ∈ r, e.2 ≠ resetWord e.1

/-- The memory lists addresses in rising order and no byte that reads as an unlisted one. -/
abbrev Memory.wf (m : List Host.Cell) : Prop :=
  m.Pairwise (fun a b => a.1 < b.1) ∧ ∀ c ∈ m, c.2 ≠ 0

/-- No reaction of the fault collector is under way: the state between two commands (R503). -/
abbrev Quiet (s : State) : Prop := s.todo = []

/-- The counter units are frozen (R569), so that no command steps a counter of theirs. -/
abbrev Frozen (s : State) : Prop := s.flag F.PMU_GLOBAL_FREEZE_ALL = true

/-- The command answers a next state, and `P` holds of it. -/
def Gives (c : Instr) (s : State) (P : State → Prop) : Prop := ∃ t, exec c s = .next t ∧ P t

/-- Every register outside a list reads as before. -/
def KeepsRegs (s t : State) (ks : List Key) : Prop := ∀ k, k ∉ ks → t.rd k.reg k.i k.j = s.rd k.reg k.i k.j

/-- Nothing differs but the registers of a list. -/
def OnlyRegs (s t : State) (ks : List Key) : Prop := KeepsRegs s t ks ∧ { t with regs := s.regs } = s

/-- A field of 0 to `2 ^ w - 1` after `n` is added to it, where it saturates. -/
def saturated (w v n : Nat) : Nat := min (2 ^ w - 1) (v + n)

/-- The registers that follow a port's link as it falls: its status, and the equalisers of its lanes, those of a bonded port in
both blocks. -/
def linkRegs (p : Nat) : List Key :=
  [⟨.PHY_STATUS, p, 0⟩, ⟨.PORT_STATUS, p, 0⟩] ++ (List.range 16).flatMap (fun k =>
    [⟨.LANE_RXEQ, p + k / 8, k % 8⟩, ⟨.LANE_DFE0, p + k / 8, k % 8⟩, ⟨.LANE_DFE1, p + k / 8, k % 8⟩, ⟨.LANE_DFE2, p + k / 8, k % 8⟩])

/-- The Hearth said `x` to a port: a class 9 message with the next ID waits in its staging (R219); a receiver of another kind (96 and
above) has it at once. -/
abbrev Says (s t : State) (p : Nat) (x : Said) : Prop :=
  t.msgs = s.msgs ++ (if p < 96 then [hearthMsg s.nextId p x] else []) ∧ t.nextId = s.nextId + (if p < 96 then 1 else 0)
    ∧ t.out = s.out ++ (if p < 96 then [] else [x.out p])

/-! ## Commands of ECP -/

/-- A packet over UDP or MCTP that the one open session `x`, which subscribed to nothing, takes as its next command: it passes the
checks of R427, R431 to R434, R438 to R440 and R442, and neither Ash nor a verification holds it back (R504, R555). -/
abbrev Takes (s : State) (h : EcpHdr) (x : Session) : Prop :=
  s.ecpRuns = true ∧ s.rung = rungBlaze ∧ s.power.entering = none ∧ s.ecp.release = none ∧ s.admits h.src = true ∧ onCxl h.src = false
    ∧ h.sess.val = x.id ∧ x.id ≠ 0 ∧ s.sessions = [x] ∧ h.tagOk = true ∧ x.source = h.src
    ∧ x.high < h.seq.toNat ∧ h.seq.toNat < lastSeq ∧ h.paramErr = none ∧ x.held = none ∧ x.waiting = [] ∧ x.mask = 0
    ∧ s.flag F.FC_STATUS_ASH = false ∧ s.power.verifying = false

/-- The state in which a command that `x` takes is carried out: its sequence number is recorded (R440). -/
def State.heard (s : State) (h : EcpHdr) (x : Session) : State := { s with sessions := [x.accept h.seq.toNat] }

/-- The one reply to a packet left the device, and the session keeps it (R426, R441). -/
abbrev Replies (s t : State) (h : EcpHdr) (x : Session) (opcode : Nat) (st : Status) (vs : List Nat) : Prop :=
  Says s t (sourcePort h.src) (.reply h.src x.id h.seq.toNat ⟨opcode, st, vs⟩)
    ∧ t.sessions.map (fun y => (y.id, y.high, y.cache.getLast?)) = [(x.id, h.seq.toNat, some (h.seq.toNat, ⟨opcode, st, vs⟩))]

/-- An operation of session `x` started, with the next ID (R445). -/
abbrev Started (s t : State) (x : Session) (k : OpKind) (st : Status) : Prop :=
  t.ops = s.ops ++ [{ id := s.nextOp, kind := k, session := x.id, status := st, credential := x.credential }]
    ∧ t.nextOp = (s.nextOp + 1) % 2 ^ 32

end Sys2Proof.Machine
end

