-- ==== Sys2Proof/Certificates/Slice0/Obligations.lean ====
section
/-!
DEFINITION. The statements for the provers.
-/

section
open Sys2Proof Sys2Proof.Machine

/-- Reference clocks, skip sets and bring-up: what each command leaves (R56, R58, R60, R61, R64). Clauses of it rest on the model's choices: log entries 6, 141, 144, 145. -/
def Obligations.ClocksAndBringUp : Prop :=
  (∀ (s : State) (g : Fin 24), Quiet s → Frozen s → (∀ k : Fin 4, s.linkState (4 * g.val + k.val) = lsDetect ∧ s.flag F.FC_SRC_LATCHED (8 * (4 * g.val + k.val)) = true) → 
    Gives (.pllLockLoss g) s (fun t => Word.bits (t.rd .CLK_GROUP_LOCK) g.val 1 = 0 ∧
      t.get F.CLK_LOSS_GROUPS = saturated 8 (s.get F.CLK_LOSS_GROUPS) 1 ∧
      (∀ k : Fin 4, t.get F.PHY_STATUS_REFCLK_LOST (4 * g.val + k.val) = 1 ∧ t.get F.FC_SRC_COUNT (8 * (4 * g.val + k.val)) = saturated 8 (s.get F.FC_SRC_COUNT (8 * (4 * g.val + k.val))) 1) ∧
      (t.out = s.out ++ ((List.range 4).filter (fun k => s.isHostPort (4 * g.val + k) && !s.hearthDown)).map (fun k => .linkError (4 * g.val + k))) ∧
      KeepsRegs s t ([⟨.CLK_GROUP_LOCK, 0, 0⟩, ⟨.CLK_LOSS, 0, 0⟩] ++ (List.range 4).flatMap (fun k => [⟨.PHY_STATUS, 4 * g.val + k, 0⟩, ⟨.FC_SRC, 8 * (4 * g.val + k), 0⟩])) ∧
      { t with regs := s.regs, out := s.out, vports := s.vports } = s)) ∧
  (∀ (s : State) (g : Fin 24), Quiet s → Frozen s → (∀ k : Fin 4, s.linkState (4 * g.val + k.val) ≠ lsDetect) → 
    Gives (.pllRelock g) s (fun t => Word.bits (t.rd .CLK_GROUP_LOCK) g.val 1 = 1 ∧
      (∀ k : Fin 4, t.get F.PHY_STATUS_REFCLK_LOST (4 * g.val + k.val) = 0) ∧
      OnlyRegs s t ([⟨.CLK_GROUP_LOCK, 0, 0⟩] ++ (List.range 4).map (fun k => ⟨.PHY_STATUS, 4 * g.val + k, 0⟩)))) ∧
  (∀ (s : State) (p : Port) (k : Lane) (drift n : Int) (enough : Bool) (e : Fin 65536), Quiet s → Frozen s → n = numGet 0 (8 * p.val + k.val) s.lanes.elastic + drift → -32 ≤ n → n ≤ 32 → 
    Gives (.skpOrderedSet p k drift ⟨enough, e⟩) s (fun t => (numGet 0 (8 * p.val + k.val) t.lanes.elastic = if n < 0 then n + 1 else if 0 < n ∧ enough = true then n - 1 else n) ∧
      t.get F.LANE_ERR_V p.val k.val = saturated 16 (s.get F.LANE_ERR_V p.val k.val) e.val ∧
      KeepsRegs s t [⟨.LANE_ERR, p.val, k.val⟩] ∧
      { t with regs := s.regs, lanes := s.lanes } = s)) ∧
  (∀ (s : State) (p : Port) (k : Lane) (drift : Int) (enough : Bool) (e : Fin 65536), Quiet s → Frozen s → 33 < numGet 0 (8 * p.val + k.val) s.lanes.elastic + drift → s.linkState (s.linkPort p.val) ≠ lsL0 → s.linkState (s.linkPort p.val) ≠ lsL0p → 
    Gives (.skpOrderedSet p k drift ⟨enough, e⟩) s (fun t => numGet 0 (8 * p.val + k.val) t.lanes.elastic = 0 ∧
      t.get F.LANE_STATUS_ELASTIC_ERR p.val k.val = 1 ∧
      t.get F.LANE_ERR_V p.val k.val = saturated 16 (saturated 16 (s.get F.LANE_ERR_V p.val k.val) e.val) 1 ∧
      KeepsRegs s t [⟨.LANE_STATUS, p.val, k.val⟩, ⟨.LANE_ERR, p.val, k.val⟩] ∧
      { t with regs := s.regs, lanes := s.lanes } = s)) ∧
  (∀ (s : State) (p : Port) (r : Training) (w : Nat) (rev : Bool), Quiet s → Frozen s → (s.mayTrain p.val = true ∨ s.linkState p.val = lsPolling) → (s.put F.PARTNER_RATES_V r.rates.toNat p.val).settleWidth p.val r = some (w, rev) → s.protocolOk p.val r = true → 
    Gives (.receiverDetected p (some r)) s (fun t => t.linkState p.val = lsConfig ∧
      t.get F.PHY_STATUS_CUR_WIDTH p.val = w % 32 ∧
      t.get F.PARTNER_RATES_V p.val = r.rates.toNat ∧
      t.flag F.PHY_STATUS_REVERSED p.val = rev ∧
      t.lanes.fromDetect.contains p.val = true ∧
      t.out = s.out ++ [.offer p.val (roleProtocol (s.role p.val)) (cxlRole (s.role p.val)) (cxlRole (s.role p.val)) (cxlRole (s.role p.val) && s.flag F.PORT_CFG_LO_FLIT_EN p.val)] ∧
      KeepsRegs s t ([⟨.PHY_STATUS, p.val, 0⟩, ⟨.PARTNER_RATES, p.val, 0⟩, ⟨.PORT_STATUS, p.val, 0⟩] ++ (List.range 16).map (fun k => ⟨.LANE_STATUS, p.val + k / 8, k % 8⟩)) ∧
      { t with regs := s.regs, lanes := s.lanes, sessions := s.sessions, out := s.out } = s)) ∧
  (∀ (s : State) (p : Port), Quiet s → Frozen s → s.mayTrain p.val = true → 
    Gives (.receiverDetected p none) s (fun t => t.linkState p.val = lsPolling ∧
      KeepsRegs s t [⟨.PHY_STATUS, p.val, 0⟩] ∧
      { t with regs := s.regs, sessions := s.sessions } = s)) ∧
  (∀ (s : State) (p : Port), Quiet s → Frozen s → s.linkState p.val = lsDetect → 
    Gives (.detectQuietTimer p) s (fun t => t.linkState p.val = s.restState p.val ∧
      KeepsRegs s t [⟨.PHY_STATUS, p.val, 0⟩] ∧
      { t with regs := s.regs, sessions := s.sessions } = s)) ∧
  (∀ (s : State) (p : Port), Quiet s → Frozen s → (s.linkState p.val = lsPolling ∨ s.linkState p.val = lsConfig) → s.isCascade p.val = false → (numGet 0 p.val s.lanes.fails + 1) % 8 ≠ 0 → 
    Gives (.trainingTimeout p) s (fun t => t.linkState p.val = lsDetect ∧
      t.get F.DETECT_FAILS_V p.val = saturated 16 (s.get F.DETECT_FAILS_V p.val) 1 ∧
      numGet 0 p.val t.lanes.fails = numGet 0 p.val s.lanes.fails + 1 ∧
      t.get F.PHY_STATUS_CUR_RATE p.val = 0 ∧
      KeepsRegs s t (⟨.DETECT_FAILS, p.val, 0⟩ :: linkRegs p.val) ∧
      { t with regs := s.regs, lanes := s.lanes, sessions := s.sessions, msgs := s.msgs, spans := s.spans } = s)) ∧
  (∀ (s : State) (p : Port) (viral : Bool) (r : Nat), Quiet s → Frozen s → s.linkState p.val = lsRecoveryEq → numGet 0 p.val s.lanes.eqPhase = 4 → s.lanes.bypassing.contains p.val = false → s.lanes.resize.contains p.val = false → s.flag F.MARGIN_STATUS_BUSY p.val = false → s.tooSlow p.val (numGet 0 p.val s.lanes.target) = false → s.nextRate p.val (numGet 0 p.val s.lanes.target) = some r → numGet 0 p.val s.lanes.target ≤ 6 → 
    Gives (.linkReachesL0 p viral) s (fun t => (t.linkState p.val = if r < 2 then lsRecovery else lsRecoveryEq) ∧
      t.get F.PHY_STATUS_CUR_RATE p.val = numGet 0 p.val s.lanes.target ∧
      numGet 0 p.val t.lanes.target = r ∧
      numGet 0 p.val t.lanes.lastGood = numGet 0 p.val s.lanes.target ∧
      t.irqPending (96 + p.val) = true ∧
      KeepsRegs s t (⟨.IA_PENDING, (96 + p.val) / 32, 0⟩ :: linkRegs p.val) ∧
      { t with regs := s.regs, lanes := s.lanes, sessions := s.sessions, agg := s.agg } = s))

/-- Failed rates, coefficient requests, adaptation and records: what each command leaves (R60, R63, R66, R67, R68, R69, R72, R77). Clauses of it rest on the model's choices: log entries 8, 20, 141, 146, 147, 148. -/
def Obligations.RatesAndEqualisation : Prop :=
  (∀ (s : State) (p : Port), Quiet s → Frozen s → s.changingRate p.val = true → s.linkState p.val ≠ lsConfig → s.lanes.bypassing.contains p.val = false → s.isCascade p.val = false → (cxlRole (s.role p.val) = false ∨ 2 ≤ numGet 0 p.val s.lanes.lastGood) → s.holds.contains (p.val, .viral) = false → s.flag F.FC_SRC_LATCHED (8 * p.val) = true → numGet 0 p.val s.lanes.target ≤ 6 → 
    Gives (.speedChangeTimeout p) s (fun t => Word.bits (t.rd .PHY_STATUS p.val) (8 + numGet 0 p.val s.lanes.target) 1 = 1 ∧
      t.get F.PHY_STATUS_CUR_RATE p.val = numGet 0 p.val s.lanes.lastGood % 8 ∧
      t.linkState p.val = lsL0 ∧
      t.get F.FC_SRC_COUNT (8 * p.val) = saturated 8 (s.get F.FC_SRC_COUNT (8 * p.val)) 1 ∧
      t.irqPending (96 + p.val) = true ∧
      t.mem = s.mem ∧
      t.msgs = s.msgs ∧
      (t.out = s.out ++ (if s.isHostPort p.val && !s.hearthDown then [.linkError p.val] else [])))) ∧
  (∀ (s : State) (p : Port), Quiet s → Frozen s → s.linkState p.val = lsRecoveryEq → 1 ≤ numGet 0 p.val s.lanes.eqPhase → numGet 0 p.val s.lanes.eqPhase < 4 → s.lanes.bypassing.contains p.val = false → s.isCascade p.val = false → (cxlRole (s.role p.val) = false ∨ 2 ≤ numGet 0 p.val s.lanes.lastGood) → s.holds.contains (p.val, .viral) = false → s.flag F.FC_SRC_LATCHED (8 * p.val) = true → numGet 0 p.val s.lanes.target ≤ 6 → 
    Gives (.eqPhaseTimeout p) s (fun t => Word.bits (t.rd .PHY_STATUS p.val) (8 + numGet 0 p.val s.lanes.target) 1 = 1 ∧
      t.get F.PHY_STATUS_CUR_RATE p.val = numGet 0 p.val s.lanes.lastGood % 8 ∧
      t.linkState p.val = lsL0 ∧
      t.get F.FC_SRC_COUNT (8 * p.val) = saturated 8 (s.get F.FC_SRC_COUNT (8 * p.val)) 1 ∧
      t.irqPending (96 + p.val) = true ∧
      t.mem = s.mem ∧
      t.msgs = s.msgs ∧
      (t.out = s.out ++ (if s.isHostPort p.val && !s.hearthDown then [.linkError p.val] else [])))) ∧
  (∀ (s : State) (p : Port) (own : List EqRequest) (partner : List (BitVec 32)), Quiet s → Frozen s → s.linkState p.val = lsRecoveryEq → numGet 0 p.val s.lanes.eqPhase < 4 → 
    Gives (.eqPhaseComplete p own partner) s (fun t => (∀ k : Lane, t.rd .LANE_TXEQ p.val k.val = (match own[k.val]? with | some r => (match requestTaps (numGet 0 p.val s.lanes.target) r with | some c => BitVec.ofNat 64 c.toNat | none => s.rd .LANE_TXEQ p.val k.val) | none => s.rd .LANE_TXEQ p.val k.val)) ∧
      (∀ k : Lane, numGet 0 (8 * p.val + k.val) t.lanes.partnerTx = (match partner[k.val]? with | some c => c.toNat | none => numGet 0 (8 * p.val + k.val) s.lanes.partnerTx)) ∧
      numGet 0 p.val t.lanes.eqPhase = numGet 0 p.val s.lanes.eqPhase + 1 ∧
      KeepsRegs s t ((List.range 16).map (fun k => ⟨.LANE_TXEQ, p.val + k / 8, k % 8⟩)) ∧
      { t with regs := s.regs, lanes := s.lanes, out := s.out } = s)) ∧
  (∀ (s : State) (p : Port) (r : Nat), Quiet s → Frozen s → s.flag F.PHY_STATUS_BYPASS_USED p.val = true → s.linkState p.val = lsL0 → s.isCascade p.val = false → s.flag F.MARGIN_STATUS_BUSY p.val = false → s.nextRate p.val 0 = some r → 
    Gives (.eqBypassFallback p) s (fun t => (t.linkState p.val = if r < 2 then lsRecovery else lsRecoveryEq) ∧
      t.get F.PHY_STATUS_BYPASS_USED p.val = 0 ∧
      (∀ k : Lane, Word.bits (t.rd .LANE_EQ_RECORD p.val (8 * k.val + 1)) 31 1 = 0) ∧
      t.mem = s.mem ∧
      t.msgs = s.msgs ∧
      t.out = s.out)) ∧
  (∀ (s : State) (p : Port) (k : Lane) (signs : List Int), Quiet s → Frozen s → s.linkState (s.linkPort p.val) = lsL0 → 2 ≤ s.get F.PHY_STATUS_CUR_RATE (s.linkPort p.val) → s.flag F.LANE_RXEQ_FREEZE p.val k.val = false → 
    Gives (.adaptationUpdate p k signs) s (fun t => (t.get F.LANE_RXEQ_CTLE p.val k.val : Int) = stepCode 0 36 (s.get F.LANE_RXEQ_CTLE p.val k.val) (signs.getD 0 0) ∧
      (t.get F.LANE_RXEQ_LF p.val k.val : Int) = stepCode 0 6 (s.get F.LANE_RXEQ_LF p.val k.val) (signs.getD 1 0) ∧
      OnlyRegs s t [⟨.LANE_RXEQ, p.val, k.val⟩, ⟨.LANE_DFE0, p.val, k.val⟩, ⟨.LANE_DFE1, p.val, k.val⟩, ⟨.LANE_DFE2, p.val, k.val⟩])) ∧
  (∀ (s : State) (p : Port) (r : Nat), Quiet s → Frozen s → s.linkState p.val = lsL0 → s.isCascade p.val = false → s.flag F.MARGIN_STATUS_BUSY p.val = false → r = ((s.clearRateFailed p.val).nextRate p.val (s.get F.PHY_STATUS_CUR_RATE p.val)).getD ((s.clearRateFailed p.val).heldRate p.val (s.get F.PHY_STATUS_CUR_RATE p.val)) → 
    Gives (.retrain p) s (fun t => (t.linkState p.val = if r < 2 then lsRecovery else lsRecoveryEq) ∧
      numGet 0 p.val t.lanes.target = r ∧
      t.get F.PHY_STATUS_RATE_FAILED p.val = 0 ∧
      t.irqPending (96 + p.val) = true ∧
      t.mem = s.mem ∧
      t.msgs = s.msgs ∧
      t.out = s.out)) ∧
  (∀ (s : State) (p : Port), Quiet s → Frozen s → s.linkState p.val = lsL0 → 
    Gives (.saveEq p) s (fun t => (∀ k : Lane, s.flag F.LANE_STATUS_IN_USE p.val k.val = true → Word.bits (t.rd .LANE_EQ_RECORD p.val (8 * k.val + 1)) 31 1 = 1 ∧ t.rd .LANE_EQ_RECORD p.val (8 * k.val + 2) = s.rd .LANE_TXEQ p.val k.val ∧ t.rd .LANE_EQ_RECORD p.val (8 * k.val + 7) = s.rd .LANE_DFE2 p.val k.val) ∧
      KeepsRegs s t ((List.range 128).map (fun n => ⟨.LANE_EQ_RECORD, p.val + n / 64, n % 64⟩)) ∧
      { t with regs := s.regs, free := s.free } = s)) ∧
  (∀ (s : State) (p : Port) (b : Bool), Quiet s → Frozen s → p.val % 2 = 0 → s.linkState p.val = lsDisabled → s.linkState (p.val + 1) = lsDisabled → (b = true → s.get F.PORT_CFG_ROLE p.val = s.get F.PORT_CFG_ROLE (p.val + 1)) → 
    Gives (.bond p b) s (fun t => t.flag F.BOND_CTRL_BOND p.val = b ∧
      t.flag F.BOND_CTRL_BOND_ACTIVE p.val = b ∧
      OnlyRegs s t [⟨.BOND_CTRL, p.val, 0⟩]))

/-- Loopbacks, patterns, margining, slip and lane retirement: what each command leaves (R78, R79, R80, R81, R82, R84, R86, R147). Clauses of it rest on the model's choices: log entries 150, 151, 152, 153, 178. -/
def Obligations.TestsMarginingAndLanes : Prop :=
  (∀ (s : State) (p : Port) (v : BitVec 32), Quiet s → Frozen s → s.linkState p.val = lsDisabled → s.get F.PHY_CTRL_TEST_MODE p.val = 2 → v.toNat % 4 ≠ 0 → v.toNat % 4 ≠ s.get F.LOOPBACK_CTRL_MODE p.val → 
    Gives (.loopbackCtrlWrite p v) s (fun t => t.get F.LOOPBACK_CTRL_MODE p.val = v.toNat % 4 ∧
      t.get F.LOOPBACK_CTRL_FOLLOW_EN p.val = v.toNat / 4 % 2 ∧
      t.linkState p.val = lsLoopLead ∧
      t.get F.PHY_STATUS_CUR_RATE p.val = s.rateCap p.val % 8 ∧
      KeepsRegs s t [⟨.LOOPBACK_CTRL, p.val, 0⟩, ⟨.PHY_STATUS, p.val, 0⟩] ∧
      { t with regs := s.regs, sessions := s.sessions } = s)) ∧
  (∀ (s : State) (p : Port) (v : BitVec 32), Quiet s → Frozen s → s.linkState p.val = lsDisabled → s.get F.PHY_CTRL_TEST_MODE p.val = 1 → v.toNat % 8 ≤ 3 → v.toNat / 8 % 4 ≠ 0 → 
    Gives (.testCtrlWrite p v) s (fun t => t.get F.TEST_CTRL_PATTERN p.val = v.toNat % 8 ∧
      t.get F.TEST_CTRL_GEN_EN p.val = v.toNat / 8 % 2 ∧
      t.get F.TEST_CTRL_CHK_EN p.val = v.toNat / 16 % 2 ∧
      t.linkState p.val = lsPattern ∧
      t.get F.PHY_STATUS_CUR_RATE p.val = s.rateCap p.val % 8 ∧
      KeepsRegs s t [⟨.TEST_CTRL, p.val, 0⟩, ⟨.PHY_STATUS, p.val, 0⟩] ∧
      { t with regs := s.regs, sessions := s.sessions } = s)) ∧
  (∀ (s : State) (p : Port), Quiet s → Frozen s → s.flag F.LOOPBACK_CTRL_FOLLOW_EN p.val = true → (s.linkState p.val = lsConfig ∨ s.linkState p.val = lsPolling) → s.isCascade p.val = false → 
    Gives (.partnerLoopbackRequest p) s (fun t => t.linkState p.val = lsLoopFollow ∧
      t.get F.PHY_STATUS_CUR_RATE p.val = 0 ∧
      KeepsRegs s t (linkRegs p.val) ∧
      { t with regs := s.regs, lanes := s.lanes, sessions := s.sessions, msgs := s.msgs, spans := s.spans } = s)) ∧
  (∀ (s : State) (p : Port) (k : Lane) (pos : Fin 128), Quiet s → Frozen s → (s.get F.PHY_CTRL_TEST_MODE (s.linkPort p.val) = 1 ∨ s.get F.PHY_CTRL_TEST_MODE (s.linkPort p.val) = 2) → (s.pam4 (s.linkPort p.val) = true → pos.val ≤ 63) → 
    Gives (.laneSlipWrite p k pos) s (fun t => t.get F.LANE_SLIP_SLIP_POS p.val k.val = pos.val ∧
      OnlyRegs s t [⟨.LANE_SLIP, p.val, k.val⟩])) ∧
  (∀ (s : State) (p : Port) (k : Lane) (axis dir : Bool) (limit steps : Fin 64), Quiet s → Frozen s → s.flag F.MARGIN_STATUS_BUSY p.val = false → s.linkState p.val = lsL0 → limit.val ≠ 0 → steps.val ≠ 0 → (axis = false → steps.val ≤ 32) → 
    Gives (.marginStart p k axis dir limit steps) s (fun t => t.get F.MARGIN_CTRL_LANE p.val = k.val ∧
      t.flag F.MARGIN_CTRL_AXIS p.val = axis ∧
      t.flag F.MARGIN_CTRL_DIRECTION p.val = dir ∧
      t.get F.MARGIN_CTRL_ERR_LIMIT p.val = limit.val ∧
      t.get F.MARGIN_CTRL_STEPS p.val = steps.val ∧
      t.get F.MARGIN_STATUS_BUSY p.val = 1 ∧
      t.get F.MARGIN_STATUS_LAST_STEP p.val = 0 ∧
      t.get F.MARGIN_STATUS_ERRORS p.val = 0 ∧
      t.get F.MARGIN_STATUS_INTERRUPTED p.val = 0 ∧
      numGet (0, 0) p.val t.lanes.margin = (limit.val, steps.val) ∧
      KeepsRegs s t [⟨.MARGIN_CTRL, p.val, 0⟩, ⟨.MARGIN_STATUS, p.val, 0⟩] ∧
      { t with regs := s.regs, lanes := s.lanes } = s)) ∧
  (∀ (s : State) (p : Port) (e n m : Nat), Quiet s → Frozen s → s.flag F.MARGIN_STATUS_BUSY p.val = true → numGet (0, 0) p.val s.lanes.margin = (n, m) → n < 64 → s.get F.MARGIN_STATUS_LAST_STEP p.val + 1 < 64 → s.get F.MARGIN_STATUS_LAST_STEP p.val + 1 < m → 
    Gives (.marginStepEnd p e) s (fun t => t.get F.MARGIN_STATUS_LAST_STEP p.val = s.get F.MARGIN_STATUS_LAST_STEP p.val + 1 ∧
      t.get F.MARGIN_STATUS_ERRORS p.val = min e n ∧
      t.flag F.MARGIN_STATUS_BUSY p.val = true ∧
      OnlyRegs s t [⟨.MARGIN_STATUS, p.val, 0⟩])) ∧
  (∀ (s : State) (p : Port) (k : Lane) (v : Bool) (step e : Fin 64), Quiet s → Frozen s → s.linkState p.val = lsL0 → (v = false → step.val ≤ 32) → 
    Gives (.partnerMarginRequest p k ⟨v, step⟩ e) s (fun t => t.out = s.out ++ [.marginReply p.val k.val step.val e.val] ∧
      { t with out := s.out } = s)) ∧
  (∀ (s : State) (p : Port) (mask : BitVec 8), Quiet s → Frozen s → s.isCascade (s.linkPort p.val) = false → s.linkState (s.linkPort p.val) = lsDisabled → 
    Gives (.laneRetire p mask) s (fun t => t.get F.LANE_RETIRE_RETIRED p.val = mask.toNat ∧
      OnlyRegs s t [⟨.LANE_RETIRE, p.val, 0⟩])) ∧
  (∀ (s : State) (p : Port) (k : LeaveKind), Quiet s → Frozen s → s.linkState p.val = lsL0 → s.isCascade p.val = false → s.flag F.MARGIN_STATUS_BUSY p.val = false → 
    Gives (.portLeavesL0 p k) s (fun t => (t.linkState p.val = (match k with | .recovery => lsRecovery | .hotReset => lsHotReset | .detect => s.restState p.val)) ∧
      t.irqPending (96 + p.val) = true ∧
      t.mem = s.mem ∧
      (t.msgs = (match k with | .recovery => s.msgs | _ => (s.cellsLost p.val).msgs)) ∧
      t.out = s.out))

/-- Receiving flits, acknowledgements, replay and the Seam channels: what each command leaves (R119, R122, R123, R130, R133, R135, R139, R149, R150, R152, R154). Clauses of it rest on the model's choices: log entries 7, 10, 27, 143, 159, 166. -/
def Obligations.LinkFlitsAndTimers : Prop :=
  (∀ (s : State) (p : Port) (b : List Byte), Quiet s → Frozen s → s.get F.LL_STATUS_STATE p.val = linkActive → crcGood p.val (padTo 256 b) = false → s.irqPending p.val = true → s.irqRotates p.val = false → 
    Gives (.flitReceive ⟨p.val, by omega⟩ (.fromPartner b) 0) s (fun t => t.get F.LL_CRC_COUNT_V p.val = saturated F.LL_CRC_COUNT_V.w (s.get F.LL_CRC_COUNT_V p.val) 1 ∧
      t.flag F.LL_ERR_CRC p.val = true ∧
      OnlyRegs s t [⟨.LL_CRC_COUNT, p.val, 0⟩, ⟨.LL_ERR, p.val, 0⟩])) ∧
  (∀ (s : State) (p : Port) (b : List Byte) (f : Flit) (i j m n : Nat) (cap : Bool), Quiet s → Frozen s → s.get F.LL_STATUS_STATE p.val = linkInit → crcGood p.val (padTo 256 b) = true → readFlit p.val (padTo 256 b) = f → f.body = .init i j m n false cap → f.version = s.linkVersion p.val → f.nextMsg = 127 → f.ackSeq = s.get F.LL_REPLAY_LAST_ACK p.val → f.replayReq = false → f.reqHdr = 0 → f.reqData = 0 → f.rspHdr = 0 → f.rspData = 0 → (s.link p.val).initGood = 0 → (s.link p.val).rxReady = false → (s.link p.val).used = [0, 0, 0, 0] → 
    Gives (.flitReceive ⟨p.val, by omega⟩ (.fromPartner b) 0) s (fun t => (t.link p.val).initGood = 1 ∧
      (t.link p.val).rxReady = false ∧
      (t.link p.val).peerA = [i, j, m, n] ∧
      KeepsRegs s t [⟨.LL_REPLAY, p.val, 0⟩] ∧
      { t with regs := s.regs, links := s.links } = s)) ∧
  (∀ (s : State) (l : LinkId), Quiet s → Frozen s → s.sending l.val = true → s.get F.LL_CTRL_ACK_COALESCE l.val ≤ (s.link l.val).accepted → s.flag F.LL_INJECT_ARM l.val = false → (s.link (l.val)).injectHeld = none → 
    Gives (.ackCoalesceReached l) s (fun t => (t.link l.val).accepted = 0 ∧
      (t.link l.val).lastAck = s.ackNow l.val ∧
      (t.link l.val).wantReplay = false ∧
      t.regs = s.regs ∧
      t.msgs = s.msgs ∧
      (t.out = s.out ++ (if isSeam l.val then [] else [.flit l.val (stripe (s.txLanes l.val) (s.link l.val).txBytes (s.onWire l.val (Flit.raw ((s.updateXoff l.val).flitHeader l.val ((s.updateXoff l.val).link l.val) .null 0 (s.ackNow l.val) true) l.val)))])) ∧
      ((t.link (seamPeer l.val)).wire = if isSeam l.val then (s.link (seamPeer l.val)).wire ++ [Flit.raw ((s.updateXoff l.val).flitHeader l.val ((s.updateXoff l.val).link l.val) .null 0 (s.ackNow l.val) true) l.val] else (s.link (seamPeer l.val)).wire))) ∧
  (∀ (s : State) (l : LinkId), Quiet s → Frozen s → s.sending l.val = true → 0 < (s.link l.val).accepted → s.flag F.LL_INJECT_ARM l.val = false → (s.link (l.val)).injectHeld = none → 
    Gives (.ackTimerExpiry l) s (fun t => (t.link l.val).accepted = 0 ∧
      (t.link l.val).lastAck = s.ackNow l.val ∧
      (t.link l.val).wantReplay = false ∧
      t.regs = s.regs ∧
      t.msgs = s.msgs ∧
      (t.out = s.out ++ (if isSeam l.val then [] else [.flit l.val (stripe (s.txLanes l.val) (s.link l.val).txBytes (s.onWire l.val (Flit.raw ((s.updateXoff l.val).flitHeader l.val ((s.updateXoff l.val).link l.val) .null 0 (s.ackNow l.val) true) l.val)))])) ∧
      ((t.link (seamPeer l.val)).wire = if isSeam l.val then (s.link (seamPeer l.val)).wire ++ [Flit.raw ((s.updateXoff l.val).flitHeader l.val ((s.updateXoff l.val).link l.val) .null 0 (s.ackNow l.val) true) l.val] else (s.link (seamPeer l.val)).wire))) ∧
  (∀ (s : State) (l : LinkId), Quiet s → Frozen s → s.sending l.val = true → (s.link l.val).replay ≠ [] → (s.link l.val).replays < 4 → 
    Gives (.replayTimerExpiry l) s (fun t => t.get F.LL_REPLAY_COUNT_V (txRegs l.val) = saturated F.LL_REPLAY_COUNT_V.w (s.get F.LL_REPLAY_COUNT_V (txRegs l.val)) 1 ∧
      t.get F.LL_STATUS_STATE l.val = linkReplay ∧
      (t.link l.val).replays = (s.link l.val).replays + 1 ∧
      (t.link l.val).replayed = 0 ∧
      (t.link l.val).replay = (s.link l.val).replay ∧
      KeepsRegs s t [⟨.LL_REPLAY_COUNT, txRegs l.val, 0⟩, ⟨.LL_STATUS, l.val, 0⟩] ∧
      { t with regs := s.regs, links := s.links } = s)) ∧
  (∀ (s : State) (l : LinkId) (f : Flit), Quiet s → Frozen s → (isSeam l.val = true ∨ s.isCascade l.val = true) → s.get F.LL_STATUS_STATE l.val = linkReplay → (s.link l.val).replay[(s.link l.val).replayed]? = some f → (s.link l.val).replayed + 1 = (s.link l.val).replay.length → s.flag F.LL_INJECT_ARM l.val = false → (s.link (l.val)).injectHeld = none → 
    Gives (.linkMessageSend l) s (fun t => t.get F.LL_STATUS_STATE l.val = linkActive ∧
      (t.link l.val).replay = (s.link l.val).replay ∧
      KeepsRegs s t [⟨.LL_STATUS, l.val, 0⟩] ∧
      t.msgs = s.msgs ∧
      (t.out = s.out ++ (if isSeam l.val then [] else [.flit l.val (stripe (s.txLanes l.val) (s.link l.val).txBytes (s.onWire l.val (Flit.raw ((s.updateXoff l.val).flitHeader l.val ((s.updateXoff l.val).link l.val) f.body f.seq (s.link l.val).lastAck false f.nextMsg) l.val)))])) ∧
      ((t.link (seamPeer l.val)).wire = if isSeam l.val then (s.link (seamPeer l.val)).wire ++ [Flit.raw ((s.updateXoff l.val).flitHeader l.val ((s.updateXoff l.val).link l.val) f.body f.seq (s.link l.val).lastAck false f.nextMsg) l.val] else (s.link (seamPeer l.val)).wire))) ∧
  (∀ (s : State) (l : LinkId) (m : Msg) (rest : List Msg), Quiet s → Frozen s → isSeam l.val = true → s.get F.LL_STATUS_STATE l.val = linkActive → s.seamHeads l.val = m :: rest → s.mayAsk l.val m.cls m.blocks = true → s.replayRoom l.val carriedWords m.blocks = true → m.colour = .green → m.charge = .staging → m.cells = [] → s.buf.skid = [] → m.data = [] → m.missing = 0 → s.flag F.LL_INJECT_ARM l.val = false → (s.link (l.val)).injectHeld = none → 
    Gives (.linkMessageSend l) s (fun t => (t.msgs = s.msgs.filter (fun x => x.id != m.id) ++ [{ m with stage := .onSeam, charge := .none, cells := [], late := 0, missing := 0 }]) ∧
      (t.link l.val).replay.length = (s.link l.val).replay.length + 1 ∧
      (t.link l.val).replay.getLast?.map Flit.body = some (.payload (padTo 480 (WireMsg.bytes (s.wire m (wirePort m.dst) [])))) ∧
      t.get F.LL_STATUS_SEQ (seamPeer l.val) = (s.get F.LL_STATUS_SEQ (seamPeer l.val) + 1) % 4096 ∧
      t.out = s.out ∧
      KeepsRegs s t [⟨.LL_STATUS, seamPeer l.val, 0⟩])) ∧
  (∀ (s : State) (l : LinkId), Quiet s → Frozen s → isSeam l.val = true → s.get F.LL_STATUS_STATE l.val = linkInit → s.flag F.FC_SRC_LATCHED (768 + seamHalf l.val) = true → 
    Gives (.initTimeout l) s (fun t => t.get F.LL_STATUS_STATE l.val = linkPaused ∧
      (t.get F.LL_STATUS_STATE (seamPeer l.val) = if s.sending (seamPeer l.val) = true then linkPaused else s.get F.LL_STATUS_STATE (seamPeer l.val)) ∧
      t.flag F.LL_ERR_INIT_TIMEOUT l.val = true ∧
      t.get F.FC_SRC_COUNT (768 + seamHalf l.val) = saturated 8 (s.get F.FC_SRC_COUNT (768 + seamHalf l.val)) 1 ∧
      OnlyRegs s t [⟨.LL_STATUS, l.val, 0⟩, ⟨.LL_STATUS, seamPeer l.val, 0⟩, ⟨.LL_ERR, l.val, 0⟩, ⟨.FC_SRC, 768 + seamHalf l.val, 0⟩])) ∧
  (∀ (s : State) (p : Port), Quiet s → Frozen s → s.isCascade p.val = true → s.get F.LL_STATUS_STATE p.val ≠ linkDownState → s.forwardedTo p.val = [] → 
    Gives (.linkLayerDown p) s (fun t => t.get F.LL_STATUS_STATE p.val = linkDownState ∧
      (t.link p.val).replay = [] ∧
      (t.link p.val).replays = 0 ∧
      KeepsRegs s t [⟨.LL_STATUS, p.val, 0⟩] ∧
      { t with regs := s.regs, links := s.links } = s)) ∧
  (∀ (s : State) (h : Half) (c : Fin 8), Quiet s → Frozen s → s.get F.LL_STATUS_STATE (96 + 8 * hix h + c.val) = linkPaused → 
    Gives (.seamRealign h c true) s (fun t => t.get F.LL_STATUS_STATE (96 + 8 * hix h + c.val) = linkInit ∧
      (t.link (96 + 8 * hix h + c.val)).initGood = 0 ∧
      (t.link (96 + 8 * hix h + c.val)).rxReady = false ∧
      (t.link (96 + 8 * hix h + c.val)).replay = (s.link (96 + 8 * hix h + c.val)).replay ∧
      t.get F.CLK_LOSS_SEAM = saturated F.CLK_LOSS_SEAM.w (s.get F.CLK_LOSS_SEAM) 1 ∧
      KeepsRegs s t [⟨.LL_STATUS, 96 + 8 * hix h + c.val, 0⟩, ⟨.CLK_LOSS, 0, 0⟩] ∧
      t.msgs = s.msgs ∧
      t.out = s.out)) ∧
  (∀ (s : State) (h : Half), Quiet s → Frozen s → s.seamUp = false → s.flag F.FC_SRC_LATCHED (768 + hix h) = true → 
    Gives (.seamActiveTimeout h) s (fun t => (∀ c : Fin 16, t.get F.LL_STATUS_STATE (96 + c.val) = linkDownState) ∧
      (t.msgs.all (fun m => decide (m.stage ≠ .onSeam)) = true) ∧
      t.get F.FC_SRC_COUNT (768 + hix h) = saturated 8 (s.get F.FC_SRC_COUNT (768 + hix h)) 1 ∧
      KeepsRegs s t (⟨.FC_SRC, 768 + hix h, 0⟩ :: (List.range 16).map (fun c => ⟨.LL_STATUS, 96 + c, 0⟩)) ∧
      t.mem = s.mem ∧
      t.out = s.out))

/-- Lane retirement, the injector and the status messages of the Seam: what each command leaves (R155, R156, R158, R159, R184, R185, R296). Clauses of it rest on the model's choices: log entries 25, 30, 32, 160. -/
def Obligations.RetirementInjectionAndStatus : Prop :=
  (∀ (s : State) (p : Port) (mask : BitVec 8), Quiet s → Frozen s → s.isCascade p.val = true → s.sending p.val = true → (s.link p.val).retireAsked = true → 
    Gives (.retireControlFlit p mask true) s (fun t => (t.link p.val).retireAsked = false ∧
      (t.link p.val).switchRx = some mask.toNat ∧
      { t with links := s.links } = s)) ∧
  (∀ (s : State) (p : Port) (m : Nat), Quiet s → Frozen s → (s.link p.val).switchTx = some m → 
    Gives (.retireSwitch p false) s (fun t => (t.link p.val).txMask = (s.link p.val).txMask / 256 * 256 + m % 256 ∧
      (t.link p.val).switchTx = none ∧
      { t with links := s.links } = s)) ∧
  (∀ (s : State) (p : Port) (m : Nat), Quiet s → Frozen s → (s.link p.val).switchRx = some m → s.ops = [] → 
    Gives (.retireSwitch p true) s (fun t => (t.link p.val).rxMask = (s.link p.val).rxMask / 256 * 256 + m % 256 ∧
      (t.link p.val).switchRx = none ∧
      t.flag F.LANE_RETIRE_RETIRE_BUSY p.val = false ∧
      (t.get F.PHY_STATUS_CUR_WIDTH p.val = ((List.range 8).filter (fun k => m / 2 ^ k % 2 == 1)).length) ∧
      (∀ k : Lane, m / 2 ^ k.val % 2 = 0 → t.flag F.LANE_STATUS_IN_USE p.val k.val = false) ∧
      KeepsRegs s t ([⟨.LANE_RETIRE, p.val, 0⟩, ⟨.LL_STATUS, p.val, 0⟩, ⟨.PHY_STATUS, p.val, 0⟩] ++ (List.range 8).map (fun k => ⟨.LANE_STATUS, p.val, k⟩)) ∧
      { t with regs := s.regs, links := s.links } = s)) ∧
  (∀ (s : State) (p : Port), Quiet s → Frozen s → s.isCascade p.val = true → (s.link p.val).retireAsked = true → s.flag F.FC_SRC_LATCHED (8 * p.val + 4) = true → s.linkState p.val = lsL0 → s.flag F.MARGIN_STATUS_BUSY p.val = false → s.ops = [] → 
    Gives (.retireAckTimeout p) s (fun t => t.flag F.LL_ERR_RETIRE_FAIL p.val = true ∧
      t.flag F.LANE_RETIRE_RETIRE_BUSY p.val = false ∧
      (t.link p.val).retireAsked = false ∧
      t.linkState p.val = lsRecovery ∧
      t.lanes.resize.contains p.val = true ∧
      t.mem = s.mem ∧
      t.msgs = s.msgs ∧
      t.out = s.out)) ∧
  (∀ (s : State) (p : Port) (v : BitVec 32), Quiet s → Frozen s → s.isCascade p.val = true → s.debugAllowed = true → v.toNat % 8 < 4 → v.toNat / 2 ^ 16 % 128 ≤ 59 → 
    Gives (.llInjectArm ⟨p.val, by omega⟩ v) s (fun t => t.get F.LL_INJECT_MODE p.val = v.toNat % 8 ∧
      t.get F.LL_INJECT_WORD p.val = v.toNat / 2 ^ 16 % 128 ∧
      t.get F.LL_INJECT_KIND p.val = v.toNat / 2 ^ 28 % 2 ∧
      t.get F.LL_INJECT_REPEAT p.val = v.toNat / 2 ^ 30 % 2 ∧
      t.get F.LL_INJECT_ARM p.val = v.toNat / 2 ^ 31 ∧
      (t.link p.val).injectLeft = s.get F.LL_INJECT_N_N p.val ∧
      KeepsRegs s t [⟨.LL_INJECT, p.val, 0⟩] ∧
      { t with regs := s.regs, links := s.links } = s)) ∧
  (∀ (s : State) (l : LinkId), Quiet s → Frozen s → s.debugAllowed = true → s.sending l.val = true → s.flag F.LL_INJECT_ARM l.val = true → s.flag F.LL_INJECT_KIND l.val = true → s.flag F.LL_INJECT_REPEAT l.val = false → s.get F.LL_INJECT_MODE l.val = 1 → (s.link l.val).injectHeld = none → 
    Gives (.injectorFire l) s (fun t => t.flag F.LL_INJECT_ARM l.val = false ∧
      t.get F.LL_INJECT_STATUS_V l.val = saturated F.LL_INJECT_STATUS_V.w (s.get F.LL_INJECT_STATUS_V l.val) 1 ∧
      KeepsRegs s t [⟨.LL_INJECT, l.val, 0⟩, ⟨.LL_INJECT_STATUS, l.val, 0⟩] ∧
      t.msgs = s.msgs)) ∧
  (∀ (s : State) (h : Half), Quiet s → Frozen s → s.atBlaze (hix h) = true → s.get F.LL_STATUS_STATE (96 + 8 * hix h) = linkActive → s.mayAsk (96 + 8 * hix h) 9 0 = true → s.replayRoom (96 + 8 * hix h) 1 0 = true → s.flag F.LL_INJECT_ARM (96 + 8 * hix h) = false → (s.link ((96 + 8 * hix h))).injectHeld = none → 
    Gives (.poolStateSend h) s (fun t => t.flag F.BUF_STATUS_OWN_CLOSED (hix h) = s.poolClosed (hix h) ∧
      ((t.link (96 + 8 * hix h)).replay.getLast?.map Flit.body = some (.payload (padTo 480 (WireMsg.bytes { cls := 9, blocks := 0, poison := false, src := 127, dst := 127, tag := s.get F.HALF_EPOCH_V (hix h), carried := leBytes 4 (if s.poolClosed (hix h) = true then 1 else 0), cells := [] })))) ∧
      t.get F.LL_STATUS_SEQ (96 + 8 * (1 - hix h)) = (s.get F.LL_STATUS_SEQ (96 + 8 * (1 - hix h)) + 1) % 4096 ∧
      (t.link (96 + 8 * hix h)).replay.length = (s.link (96 + 8 * hix h)).replay.length + 1 ∧
      KeepsRegs s t [⟨.BUF_STATUS, hix h, 0⟩, ⟨.LL_STATUS, 96 + 8 * (1 - hix h), 0⟩] ∧
      t.msgs = s.msgs ∧
      t.out = s.out)) ∧
  (∀ (s : State) (h : Half), Quiet s → Frozen s → s.atBlaze (hix h) = true → 
    Gives (.poolStateStale h) s (fun t => t.flag F.BUF_STATUS_PEER_STALE (hix h) = true ∧
      OnlyRegs s t [⟨.BUF_STATUS, hix h, 0⟩])) ∧
  (∀ (s : State) (h : Half), Quiet s → Frozen s → s.atBlaze (hix h) = true → s.get F.LL_STATUS_STATE (96 + 8 * hix h) = linkActive → s.mayAsk (96 + 8 * hix h) 9 0 = true → s.replayRoom (96 + 8 * hix h) 1 0 = true → s.flag F.LL_INJECT_ARM (96 + 8 * hix h) = false → (s.link ((96 + 8 * hix h))).injectHeld = none → 
    Gives (.epochMarkSend h) s (fun t => (t.link (96 + 8 * hix h)).replay.getLast?.map Flit.body = some (.payload (padTo 480 (WireMsg.bytes { cls := 9, blocks := 0, poison := true, src := 127, dst := 127, tag := s.get F.HALF_EPOCH_V (hix h), carried := leBytes 4 (s.get F.HALF_COMMIT_V (hix h)), cells := [] }))) ∧
      t.get F.LL_STATUS_SEQ (96 + 8 * (1 - hix h)) = (s.get F.LL_STATUS_SEQ (96 + 8 * (1 - hix h)) + 1) % 4096 ∧
      (t.link (96 + 8 * hix h)).replay.length = (s.link (96 + 8 * hix h)).replay.length + 1 ∧
      KeepsRegs s t [⟨.LL_STATUS, 96 + 8 * (1 - hix h), 0⟩] ∧
      t.msgs = s.msgs ∧
      t.out = s.out))

/-- Hold lists, the egress, partner credits, mirror timers and the census: what each command leaves (R178, R187, R189, R191, R196, R204, R205, R218). Clauses of it rest on the model's choices: log entries 26, 158, 162, 163. -/
def Obligations.SwitchQueuesAndMirrors : Prop :=
  (∀ (s : State) (h : Half) (k d : Fin 128) (m : Msg), Quiet s → Frozen s → d.val = 127 → s.holdHead (hix h) false k.val 127 0 = some m → m.stage = .held → m.dst = 127 → m.cls = 9 → m.op = .mgmt → s.buf.skid = [] → (∀ n : Fin 8, s.flag F.MIR_CTRL_EN (hix h) n.val = false) → (∀ x ∈ s.msgs, x.op ≠ .mirror) → m.half = hix h → s.txns.lost.contains (hix h) = false → m.wait = none → m.twin = none → m.colour = .green → m.charge = .receive → s.isCascade m.input = false → (s.msgs.filter (fun x => x.half == m.half && x.hdrMgmt)).length < 256 → s.charged m.half .mgmt + m.blocks ≤ s.get F.BUF_MGMT_RESERVE_V m.half → 
    Gives (.holdListRetry h false k d 0) s (fun t => (t.msgs = s.msgs.filter (fun x => x.id != m.id) ++ [{ m with stage := .atHearth, charge := .mgmt, hdrMgmt := true }]) ∧
      { t with msgs := s.msgs } = s)) ∧
  (∀ (s : State) (p : Port) (m : Msg), Quiet s → Frozen s → s.nextStart p.val = some m → m.op = .memResp → m.cls = 3 → m.data ≠ [] → m.data.length = 64 * m.blocks → m.poison = false → m.cells = [] → s.buf.skid = [] → m.missing = 0 → m.said = none → s.isHostPort p.val = true → 
    Gives (.egressMessageStart p .none 0) s (fun t => t.out = s.out ++ [.toHost p.val m.id .memResp m.data false m.devLoad] ∧
      (t.msgs = s.msgs.filter (fun x => x.id != m.id)) ∧
      KeepsRegs s t [] ∧
      { t with regs := s.regs, out := s.out, msgs := s.msgs } = s)) ∧
  (∀ (s : State) (p : Port) (covered : BitVec 4), Quiet s → Frozen s → 
    Gives (.partnerLinkCredits p covered) s (fun t => (∀ q : Fin 4, t.buf.starved.contains (4 * p.val + q.val) = !covered.getLsbD q.val) ∧
      { t with buf := { t.buf with starved := s.buf.starved } } = s)) ∧
  (∀ (s : State) (h : Half) (n : Fin 8), Quiet s → Frozen s → s.flag F.MIR_CTRL_EN (hix h) n.val = true → 
    Gives (.mirrorIdleTimer h n) s (fun t => t.out = s.out ++ [.mirrorProducer (s.get F.MIR_CTRL_ANALYSIS (hix h) n.val) (8 * s.get F.MIR_PROD_ADDR_V (hix h) n.val) (s.get F.MIR_OFFSET_V (hix h) n.val)] ∧
      t.regs = s.regs ∧
      t.msgs = s.msgs)) ∧
  (∀ (s : State) (h : Half), Quiet s → Frozen s → s.atBlaze (hix h) = true → s.flag F.CENSUS_STATUS_BUSY (hix h) = false → 
    Gives (.censusStart h) s (fun t => t.flag F.CENSUS_STATUS_BUSY (hix h) = true ∧
      OnlyRegs s t [⟨.CENSUS_STATUS, hix h, 0⟩])) ∧
  (∀ (s : State) (h : Half), Quiet s → Frozen s → s.atBlaze (hix h) = true → s.flag F.CENSUS_STATUS_BUSY (hix h) = false → 
    Gives (.censusRunNow h) s (fun t => t.flag F.CENSUS_STATUS_BUSY (hix h) = true ∧
      OnlyRegs s t [⟨.CENSUS_STATUS, hix h, 0⟩])) ∧
  (∀ (s : State) (h : Half), Quiet s → Frozen s → s.flag F.CENSUS_STATUS_BUSY (hix h) = true → (∀ o ∈ s.buf.orphans, o.missed = 0) → 
    Gives (.censusComplete h []) s (fun t => t.flag F.CENSUS_STATUS_BUSY (hix h) = false ∧
      t.get F.CENSUS_STATUS_COUNT (hix h) = (s.get F.CENSUS_STATUS_COUNT (hix h) + 1) % 2 ^ F.CENSUS_STATUS_COUNT.w ∧
      (t.buf.orphans = s.buf.orphans.map (fun o => if o.half == hix h then { o with missed := 1 } else o)) ∧
      KeepsRegs s t [⟨.CENSUS_STATUS, hix h, 0⟩] ∧
      t.msgs = s.msgs ∧
      t.out = s.out))

/-- Spare banks, meters, Bulk promotion and histograms: what each command leaves (R199, R209, R217, R221, R222, R223). Clauses of it rest on the model's choices: log entry 168. -/
def Obligations.BanksMetersAndHistograms : Prop :=
  (∀ (s : State) (h : Half) (b : Fin 256) (k : Nat), Quiet s → Frozen s → s.get F.BANK_CTRL_STATE (hix h) b.val = 0 → (List.range 256).find? (fun x => s.get F.BANK_CTRL_STATE (hix h) x == 1) = some k → s.msgs = [] → s.buf.orphans = [] → 
    Gives (.bankRetire h b) s (fun t => t.get F.BANK_CTRL_STATE (hix h) b.val = 3 ∧
      t.get F.BANK_CTRL_FREE (hix h) b.val = 0 ∧
      t.get F.BANK_CTRL_STATE (hix h) k = 0 ∧
      t.get F.BANK_CTRL_FREE (hix h) k = 3072 ∧
      OnlyRegs s t [⟨.BANK_CTRL, hix h, b.val⟩, ⟨.BANK_CTRL, hix h, k⟩])) ∧
  (∀ (s : State) (h : Half) (st c r : Nat), Quiet s → Frozen s → s.atBlaze (hix h) = true → st < 4096 → s.buf.deficits = [(4096 * hix h + st, (c, r))] → 
    Gives (.meterTokenRefill h) s (fun t => t.missing (hix h) st = (c - s.get F.METER_CIR_CIR (hix h) st, r - s.get F.METER_PIR_PIR (hix h) st) ∧
      { t with buf := { t.buf with deficits := s.buf.deficits } } = s)) ∧
  (∀ (s : State) (p : Port), Quiet s → Frozen s → s.queue p.val 3 ≠ [] → 
    Gives (.bulkPromote p) s (fun t => t.flag F.BULK_STATUS_PROMOTED p.val = true ∧
      t.bulkCredit p.val = s.bulkHigh p.val ∧
      OnlyRegs s t [⟨.BULK_CREDIT, p.val, 0⟩, ⟨.BULK_STATUS, p.val, 0⟩])) ∧
  (∀ (s : State) (h : Half) (k : Fin 48), Quiet s → Frozen s → s.msgs = [] → (∀ p : Fin 48, s.flag F.HIST_CTRL_FREEZE (48 * hix h + p.val) = false) → 
    Gives (.histSample h) s (fun t => (∀ q : Fin 5, t.get F.DEPTH_HIST_V (48 * hix h + k.val) (16 * q.val) = saturated F.DEPTH_HIST_V.w (s.get F.DEPTH_HIST_V (48 * hix h + k.val) (16 * q.val)) 1 ∧ t.get F.DELAY_HIST_V (48 * hix h + k.val) (16 * q.val) = saturated F.DELAY_HIST_V.w (s.get F.DELAY_HIST_V (48 * hix h + k.val) (16 * q.val)) 1) ∧
      t.msgs = s.msgs ∧
      t.out = s.out)) ∧
  (∀ (s : State) (p : Port), Quiet s → Frozen s → 
    Gives (.histClear p) s (fun t => (∀ n : Fin 80, t.get F.DEPTH_HIST_V p.val n.val = 0 ∧ t.get F.DELAY_HIST_V p.val n.val = 0) ∧
      OnlyRegs s t ((List.range 80).flatMap (fun n => [⟨.DEPTH_HIST, p.val, n⟩, ⟨.DELAY_HIST, p.val, n⟩]))))

/-- Requests, responses, snoops and timeouts at the ports: what each command leaves (R26, R28, R100, R109, R115, R218, R264). Clauses of it rest on the model's choices: log entries 66, 156. -/
def Obligations.RequestsAndResponses : Prop :=
  (∀ (s : State) (p : Port) (a : BitVec 64) (l : Nat), Quiet s → Frozen s → s.linkState p.val = lsL0 → s.isHostPort p.val = true → s.refuses p.val = false → s.txns.lost = [] → s.awaitsKeys p.val = false → s.rung = rungBlaze → s.power.entering = none → s.msgs = [] → s.spans = [] → s.credited p.val (9, 0) = true → (∀ n : Fin 8, s.flag F.MIR_CTRL_EN (halfOf p.val) n.val = false) → s.nextId ≠ 0 → s.charged (halfOf p.val) .mgmt ≤ s.get F.BUF_MGMT_RESERVE_V (halfOf p.val) → 
    Gives (.ingressRequest p ⟨.fmMailbox, a, l, [], false, 0, .share, true, 0⟩) s (fun t => (t.msgs.map (fun m => (m.id, m.cls, m.input, m.dst, m.stage)) = [(s.nextId, 9, p.val, 127, .atHearth)]) ∧
      (t.msgs.map (fun m => (m.addr, m.len, m.host)) = [(a.toNat, l, some (s.get F.PORT_CFG_HOST_ID p.val))]) ∧
      t.nextId = s.nextId + 1 ∧
      KeepsRegs s t [] ∧
      t.out = s.out)) ∧
  (∀ (s : State) (p : Port) (id : Nat) (m : Msg), Quiet s → Frozen s → s.rung = rungBlaze → s.power.entering = none → s.spans = [] → s.isHeld p.val = false → s.awaitsKeys p.val = false → s.credited p.val (3, 0) = true → s.awaiting p.val id = some m → m.id = id → m.id ≠ 0 → m.dst = p.val → m.op = .memWrite → m.cls = 1 → m.squashed = false → m.input < 96 → s.isHeld m.input = false → halfOf m.input ≠ halfOf p.val → m.twin = none → m.wait = none → m.cells = [] → s.buf.skid = [] → m.colour = .green → 
    Gives (.deviceResponse p id [] ⟨false, true, 0⟩) s (fun t => (t.msgs.any (fun x => x.id == id && decide (x.op = .memResp) && x.input == p.val && x.dst == m.input && decide (x.stage = .held) && x.half == halfOf p.val) = true) ∧
      (t.msgs.all (fun x => x.id != id || decide (x.op = .memResp)) = true) ∧
      KeepsRegs s t [] ∧
      t.out = s.out)) ∧
  (∀ (s : State) (p : Port) (a : BitVec 52), Quiet s → Frozen s → s.rung = rungBlaze → s.power.entering = none → s.flag F.FC_SRC_LATCHED (8 * p.val + 7) = true → 
    Gives (.deviceBiSnoop p a) s (fun t => t.out = s.out ++ [.snoopInvalid p.val a.toNat] ∧
      t.get F.FC_SRC_COUNT (8 * p.val + 7) = saturated 8 (s.get F.FC_SRC_COUNT (8 * p.val + 7)) 1 ∧
      KeepsRegs s t [⟨.FC_SRC, 8 * p.val + 7, 0⟩] ∧
      { t with regs := s.regs, out := s.out } = s)) ∧
  (∀ (s : State) (p : Port) (id : Nat) (m : Msg), Quiet s → Frozen s → s.awaiting p.val id = some m → m.id = id → m.dst = p.val → m.cls = 0 → m.op = .memRead → m.squashed = false → m.input < 96 → m.host.isSome = true → m.stall = none → m.slice = none → m.cells = [] → s.buf.skid = [] → s.flag F.FC_SRC_LATCHED (8 * p.val + 1) = true → 
    Gives (.memTimeoutExpiry p id) s (fun t => t.flag F.PORT_ERR_MEM_TIMEOUT p.val = true ∧
      t.out = s.out ++ m.heldAnswer ∧
      (t.msgs = s.msgs.filter (fun x => x.id != id)) ∧
      t.irqPending p.val = true ∧
      t.get F.FC_SRC_COUNT (8 * p.val + 1) = saturated 8 (s.get F.FC_SRC_COUNT (8 * p.val + 1)) 1 ∧
      KeepsRegs s t [⟨.PORT_ERR, p.val, 0⟩, ⟨.FC_SRC, 8 * p.val + 1, 0⟩])) ∧
  (∀ (s : State) (p : Port) (id : Nat) (m : Msg), Quiet s → Frozen s → s.awaiting p.val id = some m → m.id = id → m.dst = p.val → m.cls = 4 → m.op = .ioRead → m.squashed = false → m.input < 96 → m.host.isSome = true → m.stall = none → m.slice = none → m.cells = [] → s.buf.skid = [] → s.flag F.FC_SRC_LATCHED (8 * p.val + 1) = true → 
    Gives (.ioTimeoutExpiry p id) s (fun t => t.flag F.PORT_ERR_IO_TIMEOUT p.val = true ∧
      t.out = s.out ++ m.heldAnswer ∧
      (t.msgs = s.msgs.filter (fun x => x.id != id)) ∧
      t.irqPending p.val = true ∧
      t.get F.FC_SRC_COUNT (8 * p.val + 1) = saturated 8 (s.get F.FC_SRC_COUNT (8 * p.val + 1)) 1 ∧
      KeepsRegs s t [⟨.PORT_ERR, p.val, 0⟩, ⟨.FC_SRC, 8 * p.val + 1, 0⟩])) ∧
  (∀ (s : State) (p : Port) (d : DeviceId), Quiet s → Frozen s → s.role p.val = 3 → s.linkState p.val = lsL0 → s.flag F.PORT_STATUS_CXL_ACTIVE p.val = true → s.device p.val = none → s.txns.scrubNew = false → d.switchBelow = false → 
    Gives (.deviceInventoryRead p d) s (fun t => t.inventory.contains { port := p.val, serial := d.serial.toNat, capacities := d.capacities, persistent := d.persistent, gpf := d.gpf } = true ∧
      t.get F.PORT_STATUS_PARTNER_LDS p.val = min 16 d.capacities.length ∧
      KeepsRegs s t [⟨.PORT_STATUS, p.val, 0⟩] ∧
      { t with regs := s.regs, inventory := s.inventory } = s))

/-- IDE streams, keys and Viral: what each command leaves (R103, R105, R113). -/
def Obligations.KeysAndViral : Prop :=
  (∀ (s : State) (p : Port), Quiet s → Frozen s → s.isHostPort p.val = true → s.get F.IDE_STATUS_RX p.val = 2 → s.msgs = [] → s.flag F.FC_SRC_LATCHED (8 * p.val + 2) = true → s.holds.contains (p.val, .insecure) = false → 
    Gives (.ideMacFailure p true .mac) s (fun t => t.get F.IDE_STATUS_RX p.val = 3 ∧
      t.get F.IDE_STATUS_MAC p.val = saturated 16 (s.get F.IDE_STATUS_MAC p.val) 1 ∧
      t.flag F.PORT_ERR_IDE_FAIL p.val = true ∧
      t.holds = s.holds ++ [(p.val, .insecure)] ∧
      t.flag F.PORT_STATUS_HELD p.val = true ∧
      t.linkState p.val = s.linkState p.val ∧
      t.msgs = s.msgs ∧
      t.out = s.out)) ∧
  (∀ (s : State) (p : Port), Quiet s → Frozen s → s.flag F.TAMPER_STATUS_TAMPER_LATCHED = false → s.hasIde p.val = true → s.flag F.IDE_CTRL_EN p.val = true → 
    Gives (.ideKeyProgram p true true) s (fun t => t.secure p.val = true ∧
      t.get F.IDE_STATUS_RX p.val = 2 ∧
      t.get F.IDE_STATUS_TX p.val = 2 ∧
      t.sec.spdm.contains p.val = true ∧
      t.holds.contains (p.val, .insecure) = false ∧
      KeepsRegs s t [⟨.IDE_STATUS, p.val, 0⟩, ⟨.PORT_STATUS, p.val, 0⟩] ∧
      t.msgs = s.msgs ∧
      t.out = s.out)) ∧
  (∀ (s : State) (p : Port), Quiet s → Frozen s → s.flag F.TAMPER_STATUS_TAMPER_LATCHED = false → s.secure p.val = true → s.sec.spdm.contains p.val = true → 
    Gives (.keyRollover p) s (fun t => t.get F.IDE_STATUS_ROLLOVERS p.val = (s.get F.IDE_STATUS_ROLLOVERS p.val + 1) % 256 ∧
      t.oldKeys.contains p.val = true ∧
      KeepsRegs s t [⟨.IDE_STATUS, p.val, 0⟩] ∧
      { t with regs := s.regs, oldKeys := s.oldKeys } = s)) ∧
  (∀ (s : State) (p : Port), Quiet s → Frozen s → 
    Gives (.oldKeyWindowEnd p) s (fun t => (t.oldKeys = s.oldKeys.filter (fun x => x != p.val)) ∧
      { t with oldKeys := s.oldKeys } = s)) ∧
  (∀ (s : State) (p : Port), Quiet s → Frozen s → (s.role p.val = 3 ∨ s.role p.val = 4) → s.slicesOn p.val = [] → s.flag F.FC_SRC_LATCHED (8 * p.val + 3) = true → s.isHeld p.val = true → s.holds.contains (p.val, .viral) = false → s.linkState p.val = lsL0 → s.flag F.MARGIN_STATUS_BUSY p.val = false → 
    Gives (.viralReceived p) s (fun t => t.flag F.PORT_ERR_VIRAL_RX p.val = true ∧
      t.holds = s.holds ++ [(p.val, .viral)] ∧
      t.flag F.PORT_STATUS_HELD p.val = true ∧
      t.linkState p.val = s.restState p.val ∧
      t.mem = s.mem ∧
      t.out = s.out)) ∧
  (∀ (s : State) (p : Port) (st : StallId), Quiet s → Frozen s → s.isHostPort p.val = true → (s.stallsOf (s.get F.PORT_CFG_HOST_ID p.val)).contains st.val = true → 
    Gives (.viralFromHost p) s (fun t => t.stall st.val = stFailed ∧
      KeepsRegs s t ((s.stallsOf (s.get F.PORT_CFG_HOST_ID p.val)).map (fun x => ⟨.STALL_STATE, x, 0⟩)) ∧
      { t with regs := s.regs, sessions := s.sessions } = s))

/-- Requests, flows, snoops and writebacks of the home engine: what each command leaves (R314, R316, R318, R320, R322, R323, R325, R327). Clauses of it rest on the model's choices: log entries 24, 28, 44. -/
def Obligations.CoherenceFlows : Prop :=
  (∀ (s : State) (h : Half) (m : Msg), Quiet s → Frozen s → s.homeTakes (hix h) true = some m → m.charge = .staging → m.cells = [] → s.buf.skid = [] → m.stall = none → m.metered = false → s.recovering m.regionWay.1 m.regionWay.2 = false → s.fenced m.regionWay.1 (m.host.getD 127) = false → 
    Gives (.homeRequest h) s (fun t => (t.msgs = s.msgs.filter (fun x => x.id != m.id) ++ [{ m with stage := .atHome, charge := .none, cells := [], hdrMgmt := false }]) ∧
      { t with msgs := s.msgs } = s)) ∧
  (∀ (s : State) (h : Half) (m : Msg) (x : Nat) (e : LedgerLine), Quiet s → Frozen s → s.market.quiet.contains (hix h) = false → s.market.flows = [] → s.flowNext (hix h) = some m → s.msgs = [m] → m.op = .memInv → m.mkt = .own → m.host = some x → m.slice.isSome = true → m.cells = [] → s.buf.skid = [] → m.input < 96 → halfOf m.input ≠ hix h → m.id ≠ 0 → s.ledgerFind (hix h) m.regionWay.1 m.regionWay.2 m.line = some e → e.st = 0 → 
    Gives (.homeFlowStart h .good) s (fun t => t.ledgerFind (hix h) m.regionWay.1 m.regionWay.2 m.line = some { e with st := 2, coarse := false, holders := [x], busy := false, dirty := true, granted := some s.now } ∧
      (t.msgs.map (fun a => (a.id, a.op, a.dst)) = [(m.id, .memResp, m.input)]) ∧
      t.market.flows = [] ∧
      t.out = s.out)) ∧
  (∀ (s : State) (h : Half) (m l : Msg) (x : Nat) (e : LedgerLine), Quiet s → Frozen s → s.msgs = [m, l] → m.stage = .atHome → l.op = .ledgerRead → l.stage = .atDevice → l.input = 124 + hix h → l.id ≠ m.id → l.cells = [] → m.op = .memInv → m.mkt = .own → m.host = some x → m.slice.isSome = true → m.cells = [] → s.buf.skid = [] → m.input < 96 → halfOf m.input ≠ hix h → m.id ≠ 0 → s.ledgerFind (hix h) m.regionWay.1 m.regionWay.2 m.line = some e → e.half = hix h → s.market.flows = [{ id := m.id, half := hix h, region := m.regionWay.1, way := m.regionWay.2, line := m.line, memId := some l.id }] → 
    Gives (.ledgerFill h (.reply l.id false) 0) s (fun t => t.ledgerFind (hix h) m.regionWay.1 m.regionWay.2 m.line = some { e with st := 2, coarse := false, holders := [x], busy := false, dirty := true, granted := some s.now } ∧
      (t.msgs.map (fun a => (a.id, a.op, a.dst)) = [(m.id, .memResp, m.input)]) ∧
      t.market.flows = [])) ∧
  (∀ (s : State) (h : Half) (m : Msg) (k : Nat), Quiet s → Frozen s → s.market.wayWaits = [m.id] → s.msgs = [m] → m.dst = 124 + hix h → s.market.cache = [] → s.ledgerWay (hix h) (ledgerSet m.regionWay.1 m.regionWay.2 m.line) = some (k, none) → m.device = true → 
    Gives (.ledgerWayFreed h) s (fun t => t.market.wayWaits = [] ∧
      t.market.cache = [{ half := hix h, region := m.regionWay.1, way := m.regionWay.2, line := m.line, cacheWay := k, busy := true }] ∧
      (t.market.flows.any (fun f => f.id == m.id && f.memId.isSome) = true))) ∧
  (∀ (s : State) (p : Port) (h : Half) (id x : Nat) (m : Msg) (f : Flow), Quiet s → Frozen s → s.msgs.find? (fun m => m.id == id && decide (m.op = .snoop) && m.dst == p.val && decide (m.stage = .atDevice)) = some m → s.flow m.session = some f → m.host = some x → m.cells = [] → s.buf.skid = [] → f.owner ≠ some x → f.snoops.any (fun e => e.1 != id) = true → s.rung = rungBlaze → s.power.entering = none → 
    Gives (.snoopResponse p h id false) s (fun t => (t.flow f.id = some { f with snoops := f.snoops.filter (fun e => e.1 != id) }) ∧
      (t.msgs = s.msgs.filter (fun a => a.id != m.id)) ∧
      t.regs = s.regs ∧
      t.out = s.out)) ∧
  (∀ (s : State) (h : Half) (m : Msg) (x : Nat) (e : LedgerLine), Quiet s → Frozen s → s.homeTakes (hix h) false = some m → s.msgs = [m] → s.market.handing = [] → m.op = .memInv → m.mkt = .evict → m.host = some x → m.slice.isSome = true → m.cells = [] → s.buf.skid = [] → m.input < 96 → halfOf m.input ≠ hix h → m.id ≠ 0 → m.charge = .staging → m.stall = none → m.metered = false → m.half = hix h → s.recovering m.regionWay.1 m.regionWay.2 = false → s.fenced m.regionWay.1 x = false → s.market.flows = [] → s.ledgerFind (hix h) m.regionWay.1 m.regionWay.2 m.line = some e → e.st = 2 → e.holders = [x] → 
    Gives (.homeWriteback h) s (fun t => t.ledgerFind (hix h) m.regionWay.1 m.regionWay.2 m.line = some { e with st := 0, holders := [], dirty := true, busy := false } ∧
      (t.msgs.map (fun a => (a.id, a.op, a.dst)) = [(m.id, .memResp, m.input)]) ∧
      t.get F.LEDGER_HIT_V (hix h) = saturated F.LEDGER_HIT_V.w (s.get F.LEDGER_HIT_V (hix h)) 1 ∧
      t.out = s.out)) ∧
  (∀ (s : State) (h : Half) (id x : Nat) (m : Msg) (f : Flow), Quiet s → Frozen s → s.snoopOut id = some m → m.id = id → s.flow m.session = some f → f.half = hix h → m.host = some x → m.cells = [] → s.buf.skid = [] → f.owner ≠ some x → f.snoops.any (fun e => e.1 != id) = true → s.flag F.FC_SRC_LATCHED (8 * m.dst + 6) = true → f.region < 256 → x < 95 → 
    Gives (.snoopTimeout h id) s (fun t => t.fenced f.region x = true ∧
      t.get F.SNOOP_ABSENT_V (256 * hix h + f.region) = s.get F.SNOOP_ABSENT_V (256 * hix h + f.region) ∧
      t.get F.COH_EVENTS_SNOOP_TIMEOUT (hix h) = saturated F.COH_EVENTS_SNOOP_TIMEOUT.w (s.get F.COH_EVENTS_SNOOP_TIMEOUT (hix h)) 1 ∧
      t.flag F.COH_ERR_SNOOP_TIMEOUT (hix h) = true ∧
      (t.flow f.id = some { f with snoops := f.snoops.filter (fun e => e.1 != id) }) ∧
      (t.msgs = s.msgs.filter (fun a => a.id != id)) ∧
      t.out = s.out)) ∧
  (∀ (s : State) (h : Half) (id x : Nat) (f : Flow), Quiet s → Frozen s → s.flow id = some f → f.half = hix h → f.phase = .grace → f.owner = some x → f.snoops ≠ [] → 
    Gives (.wbGraceExpiry h id) s (fun t => t.market.late = s.market.late ++ [(hix h, f.region, f.way, f.line, x)] ∧
      t.flow id = some { f with phase := .snoop } ∧
      { t with market := s.market } = s)) ∧
  (∀ (s : State) (h : Half) (m : Msg) (x y : Nat) (e : LedgerLine) (f : Flow), Quiet s → Frozen s → s.flow m.id = some f → s.market.flows = [f] → s.msgs = [m] → f.half = hix h → f.phase = .holdWait → f.forRecall = none → f.blind = false → f.snoops = [] → f.region = m.regionWay.1 → f.way = m.regionWay.2 → f.line = m.line → m.op = .memInv → m.mkt = .own → m.host = some x → m.slice.isSome = true → m.cells = [] → s.buf.skid = [] → m.input < 96 → halfOf m.input ≠ hix h → m.id ≠ 0 → s.ledgerFind (hix h) m.regionWay.1 m.regionWay.2 m.line = some e → e.st = 2 → e.coarse = false → e.holders = [y] → y ≠ x → s.hostPort y = none → 
    Gives (.minHoldExpiry h m.id) s (fun t => t.ledgerFind (hix h) m.regionWay.1 m.regionWay.2 m.line = some { e with st := 2, coarse := false, holders := [x], busy := false, dirty := true, granted := some s.now } ∧
      t.get F.SNOOP_ABSENT_V (256 * hix h + f.region) = saturated F.SNOOP_ABSENT_V.w (s.get F.SNOOP_ABSENT_V (256 * hix h + f.region)) 1 ∧
      t.market.flows = [] ∧
      (t.msgs.map (fun a => (a.id, a.op, a.dst)) = [(m.id, .memResp, m.input)])))

/-- Retirement of Ledger ways, recovery and flushes: what each command leaves (R315, R332, R336, R341). -/
def Obligations.LedgerWaysRecoveryAndFlush : Prop :=
  (∀ (s : State) (h : Half) (g : Fin 192) (w : Fin 32), Quiet s → Frozen s → s.flag F.LEDGER_GROUP_RETIRING (hix h) g.val = false → (s.groupWays (hix h) g.val).contains w.val = true → (s.groupSpare (hix h) g.val).isSome = true → 
    Gives (.ledgerWayRetire h g w) s (fun t => t.flag F.LEDGER_GROUP_RETIRING (hix h) g.val = true ∧
      t.market.retiring = s.market.retiring ++ [(192 * hix h + g.val, w.val)] ∧
      KeepsRegs s t [⟨.LEDGER_GROUP, hix h, g.val⟩] ∧
      { t with regs := s.regs, market := s.market } = s)) ∧
  (∀ (s : State) (h : Half) (g : Fin 192) (w k : Nat), Quiet s → Frozen s → s.market.retiring = [(192 * hix h + g.val, w)] → s.market.cache = [] → (s.groupWays (hix h) g.val).contains w = true → s.groupSpare (hix h) g.val = some k → k ≠ w → 
    Gives (.ledgerWayRetireDone h g) s (fun t => t.flag F.LEDGER_GROUP_RETIRING (hix h) g.val = false ∧
      Word.bits (t.rd .LEDGER_GROUP (hix h) g.val) w 1 = 0 ∧
      t.get F.LEDGER_GROUP_ACTIVE (hix h) g.val < 2 ^ 18 ∧
      t.market.retiring = [] ∧
      t.market.gone = s.market.gone ++ [(192 * hix h + g.val, w)] ∧
      KeepsRegs s t [⟨.LEDGER_GROUP, hix h, g.val⟩])) ∧
  (∀ (s : State) (r : Fin 256) (o : Operation), Quiet s → Frozen s → s.runningOp (.recoverRegion r.val) = some o → s.sessions = [] → 
    Gives (.regionRecoveryDone r) s (fun t => t.get F.REGION_STATUS_RECOVERING r.val = 0 ∧
      (t.get F.REGION_STATUS_STATE r.val = (if s.get F.REGION_STATUS_STATE r.val = 3 then 1 else s.get F.REGION_STATUS_STATE r.val)) ∧
      (t.ops = s.ops.filter (fun x => x.id != o.id) ++ [{ o with status := .ok }]) ∧
      KeepsRegs s t [⟨.REGION_STATUS, r.val, 0⟩] ∧
      t.msgs = s.msgs ∧
      (t.out = s.out ++ ((List.range 16).filter (fun w => s.recovering r.val w)).map (fun w => .ledgerUnknown r.val w (s.unknownHolders r.val))))) ∧
  (∀ (s : State) (h : Half), Quiet s → Frozen s → s.flag F.COH_STATUS_FLUSHING (hix h) = false → (∀ e ∈ s.market.cache, (e.dirty && e.half == hix h) = false) → 
    Gives (.cohFlush h) s (fun t => t.flag F.COH_STATUS_FLUSHING (hix h) = true ∧
      OnlyRegs s t [⟨.COH_STATUS, hix h, 0⟩]))

/-- Checkers, direct window writes, and commits up to their validation: what each command leaves (R236, R237, R238, R239, R276, R282, R294, R332). Clauses of it rest on the model's choices: log entry 41. -/
def Obligations.CheckersAndValidation : Prop :=
  (∀ (s : State) (c : Context), Quiet s → Frozen s → s.applying = false → 
    Gives (.checkerDisable c) s (fun t => t.flag F.CHK_CTRL_EN c.val = false ∧
      t.txns.enabling.contains c.val = false ∧
      KeepsRegs s t [⟨.CHK_CTRL, c.val, 0⟩] ∧
      { t with regs := s.regs, txns := s.txns } = s)) ∧
  (∀ (s : State) (c : Context), Quiet s → Frozen s → s.applying = false → s.flag F.CHK_CTRL_EN c.val = false → s.windowsOverlap c.val = false → (∀ w : Fin 256, s.windowLive 0 c.val w.val = false ∨ s.windowFits c.val w.val = true) → 
    Gives (.checkerEnable c) s (fun t => t.txns.enabling.contains c.val = true ∧
      { t with txns := s.txns } = s)) ∧
  (∀ (s : State) (c : Context), Quiet s → Frozen s → s.txns.enabling.contains c.val = true → s.msgs = [] → 
    Gives (.checkerEnabled c) s (fun t => t.flag F.CHK_CTRL_EN c.val = true ∧
      t.txns.enabling.contains c.val = false ∧
      t.txns.dirty.contains c.val = false ∧
      KeepsRegs s t [⟨.CHK_CTRL, c.val, 0⟩] ∧
      { t with regs := s.regs, txns := s.txns } = s)) ∧
  (∀ (s : State) (c : Context), Quiet s → Frozen s → s.flag F.CHK_CTRL_EN c.val = false → s.flag F.FC_SRC_LATCHED (s.checkerSource c.val) = true → s.msgs = [] → 
    Gives (.checkerHoldExpired c) s (fun t => t.flag F.CHK_CTRL_HOLD_EXPIRED c.val = true ∧
      t.get F.FC_SRC_COUNT (s.checkerSource c.val) = saturated 8 (s.get F.FC_SRC_COUNT (s.checkerSource c.val)) 1 ∧
      OnlyRegs s t [⟨.CHK_CTRL, c.val, 0⟩, ⟨.FC_SRC, s.checkerSource c.val, 0⟩])) ∧
  (∀ (s : State) (c : Context) (w : Fin 256) (v : BitVec 32), Quiet s → Frozen s → s.flag F.CHK_CTRL_EN c.val = false → 
    Gives (.windowDirectWrite c w .base v) s (fun t => t.get F.WIN_BASE_VALID c.val w.val = v.toNat / 2 ^ 31 ∧
      t.get F.WIN_BASE_BASE c.val w.val = v.toNat % 2 ^ 24 ∧
      t.txns.dirty.contains c.val = true ∧
      KeepsRegs s t [⟨.WIN_BASE, c.val, w.val⟩] ∧
      { t with regs := s.regs, txns := s.txns } = s)) ∧
  (∀ (s : State) (t0 : Fin 4), Quiet s → Frozen s → s.txState t0.val = txOpen → 
    Gives (.txnIdleTimeout t0) s (fun t => t.txState t0.val = txFree ∧
      t.tx t0.val = {} ∧
      KeepsRegs s t [⟨.TXSLOT_STATE, t0.val, 0⟩, ⟨.SLOT_BASE_EPOCH, t0.val, 0⟩] ∧
      { t with regs := s.regs, txns := s.txns } = s)) ∧
  (∀ (s : State) (t0 : Fin 4), Quiet s → Frozen s → s.txState t0.val = txValidating → (s.tx t0.val).own = false → (s.tx t0.val).recalls = [] → (s.tx t0.val).validations < 8 → s.commitCheck t0.val = none → (∀ c : Fin 28, s.ch c.val = chIdle) → 
    Gives (.commitValidated t0) s (fun t => t.txState t0.val = txStaged ∧
      t.get F.JOURNAL_PHASE_PHASE t0.val = jPrepared ∧
      t.get F.JOURNAL_EPOCH_V t0.val = s.nextEpoch ∧
      t.get F.JOURNAL_ID_V t0.val ≠ 0 ∧
      t.txns.queue = s.txns.queue ++ [t0.val] ∧
      (t.tx t0.val).redo = (s.tx t0.val).shadow ∧
      ((t.tx t0.val).undo = (s.tx t0.val).shadow.map (fun e => (e.1, s.rd e.1.reg e.1.i e.1.j))) ∧
      KeepsRegs s t [⟨.TXSLOT_STATE, t0.val, 0⟩, ⟨.JOURNAL_PHASE, t0.val, 0⟩, ⟨.JOURNAL_EPOCH, t0.val, 0⟩, ⟨.JOURNAL_ID, t0.val, 0⟩])) ∧
  (∀ (s : State) (r : Fin 256) (x : HostId) (o : Operation), Quiet s → Frozen s → s.runningOp (.unfence r.val x.val) = some o → s.recallIdle r.val x.val = true → s.sessions = [] → 
    Gives (.recallWalkDone (.unfence r x)) s (fun t => t.fenced r.val x.val = false ∧
      (t.ops = s.ops.filter (fun y => y.id != o.id) ++ [{ o with status := .ok }]) ∧
      t.market.recalls.contains (r.val, x.val) = false ∧
      KeepsRegs s t [⟨.REGION_FENCED, r.val, x.val / 32⟩, ⟨.REGION_STATUS, r.val, 0⟩] ∧
      t.msgs = s.msgs)) ∧
  (∀ (s : State) (t0 : Fin 4) (o : Operation), Quiet s → Frozen s → s.txState t0.val = txApplying → s.runningOp (.commit t0.val) = some o → s.flag F.FC_SRC_LATCHED 782 = true → s.sessions = [] → 
    Gives (.commitTimeout t0) s (fun t => (t.ops = s.ops.filter (fun y => y.id != o.id) ++ [{ o with status := .timeout }]) ∧
      t.txState t0.val = txApplying ∧
      KeepsRegs s t [⟨.FC_SRC, 782, 0⟩] ∧
      { t with regs := s.regs, ops := s.ops } = s))

/-- Applying a commit in the halves, their reports, and charge: what each command leaves (R290, R291, R294, R295, R298). Clauses of it rest on the model's choices: log entry 45. -/
def Obligations.ApplyAndCharge : Prop :=
  (∀ (s : State) (h : Half) (t0 : Fin 4), Quiet s → Frozen s → s.applySlot = some t0.val → (s.tx t0.val).stepOf (hix h) = some .sent → s.txns.lost.contains (hix h) = false → s.flag F.HALF_STATE_HOLD (hix h) = false → s.flag F.HALF_STATE_SPLIT (hix h) = false → s.get F.HALF_EPOCH_V (hix h) = s.get F.EPOCH_V → s.get F.JOURNAL_EPOCH_V t0.val = s.nextEpoch → 
    Gives (.halfApply h) s (fun t => t.flag F.HALF_STATE_APPLYING (hix h) = true ∧
      (t.tx t0.val).stepOf (hix h) = some .closed ∧
      (∀ p ∈ s.affected (s.applyItems t0.val) (hix h), t.txns.closed.contains p = true) ∧
      KeepsRegs s t [⟨.HALF_STATE, hix h, 0⟩] ∧
      { t with regs := s.regs, txns := s.txns } = s)) ∧
  (∀ (s : State) (h : Half) (t0 : Fin 4), Quiet s → Frozen s → s.applySlot = some t0.val → s.txState t0.val = txApplying → (s.tx t0.val).stepOf (hix h) = some .closed → s.msgs = [] → (∀ c : Fin 28, s.ch c.val = chIdle) → 
    Gives (.halfApplyQuiesced h true) s (fun t => t.get F.HALF_EPOCH_V (hix h) = s.get F.JOURNAL_EPOCH_V t0.val ∧
      t.get F.HALF_COMMIT_V (hix h) = s.get F.JOURNAL_ID_V t0.val ∧
      t.flag F.HALF_STATE_APPLYING (hix h) = false ∧
      (t.tx t0.val).stepOf (hix h) = some .applied ∧
      (t.ahead = s.ahead.filter (fun e => e.1 != hix h) ++ [(hix h, (s.tx t0.val).redo)]) ∧
      (t.txns.closed = s.txns.closed.filter (fun p => halfOf p != hix h)) ∧
      KeepsRegs s t [⟨.HALF_STATE, hix h, 0⟩, ⟨.HALF_EPOCH, hix h, 0⟩, ⟨.HALF_COMMIT, hix h, 0⟩])) ∧
  (∀ (s : State) (h : Half) (t0 : Fin 4), Quiet s → Frozen s → s.applySlot = some t0.val → (s.tx t0.val).stepOf (hix h) = some .closed → s.msgs = [] → (∀ c : Fin 28, s.ch c.val = chIdle) → 
    Gives (.applyQuiesceTimeout h) s (fun t => (t.tx t0.val).stepOf (hix h) = some .failed ∧
      t.flag F.HALF_STATE_APPLYING (hix h) = false ∧
      (t.txns.closed = s.txns.closed.filter (fun p => halfOf p != hix h)) ∧
      KeepsRegs s t [⟨.HALF_STATE, hix h, 0⟩] ∧
      { t with regs := s.regs, txns := s.txns } = s)) ∧
  (∀ (s : State) (h : Half) (t0 : Fin 4), Quiet s → Frozen s → s.applySlot = some t0.val → (s.tx t0.val).stepOf (hix h) = some .applied → (s.tx t0.val).stepOf (1 - hix h) = some .sent → s.power.warmWaits = none → (∀ c : Fin 28, s.ch c.val = chIdle) → 
    Gives (.appliedReport h) s (fun t => (t.tx t0.val).stepOf (hix h) = some .toldApplied ∧
      (t.tx t0.val).stepOf (1 - hix h) = some .sent ∧
      { t with txns := s.txns } = s)) ∧
  (∀ (s : State) (h : Half) (t0 : Fin 4), Quiet s → Frozen s → s.applySlot = some t0.val → (s.tx t0.val).stepOf (hix h) = some .failed → (s.tx t0.val).stepOf (1 - hix h) = some .sent → s.flag F.FC_SRC_LATCHED 782 = true → s.power.warmWaits = none → (∀ c : Fin 28, s.ch c.val = chIdle) → 
    Gives (.applyFailedReport h) s (fun t => (t.tx t0.val).stepOf (hix h) = some .toldFailed ∧
      t.get F.FC_SRC_COUNT 782 = saturated 8 (s.get F.FC_SRC_COUNT 782) 1 ∧
      KeepsRegs s t [⟨.FC_SRC, 782, 0⟩] ∧
      { t with regs := s.regs, txns := s.txns } = s)) ∧
  (∀ (s : State), Quiet s → Frozen s → s.hearthDown = false → s.txns.lost = [] → (∀ k : Fin 4, s.txState k.val = txFree ∨ s.txState k.val = txOpen) → s.ahead = [] → s.msgs = [] → s.get F.HALF_EPOCH_V 0 = s.get F.EPOCH_V → s.get F.HALF_COMMIT_V 0 = s.get F.COMMIT_ID_V → s.get F.HALF_EPOCH_V 1 = s.get F.EPOCH_V → s.get F.HALF_COMMIT_V 1 = s.get F.COMMIT_ID_V → (∀ c : Fin 28, s.ch c.val = chIdle) → 
    Gives (.chargeReassert) s (fun t => t.txns.charge = [0, 1] ∧
      t.get F.EPOCH_V = s.get F.EPOCH_V ∧
      t.flag F.HALF_STATE_APPLYING 0 = false ∧
      t.flag F.HALF_STATE_APPLYING 1 = false ∧
      KeepsRegs s t [⟨.HALF_STATE, 0, 0⟩, ⟨.HALF_STATE, 1, 0⟩] ∧
      { t with regs := s.regs, txns := s.txns } = s)) ∧
  (∀ (s : State) (h : Half), Quiet s → Frozen s → s.txns.charge.contains (hix h) = true → s.get F.HALF_EPOCH_V (hix h) = s.get F.EPOCH_V → s.get F.HALF_COMMIT_V (hix h) = s.get F.COMMIT_ID_V → 
    Gives (.chargeReceive h) s (fun t => t.flag F.HALF_STATE_HOLD (hix h) = false ∧
      t.flag F.HALF_STATE_SPLIT (hix h) = false ∧
      (t.txns.charge = s.txns.charge.filter (fun x => x != hix h)) ∧
      KeepsRegs s t [⟨.HALF_STATE, hix h, 0⟩] ∧
      { t with regs := s.regs, txns := s.txns } = s))

/-- Porter channels: start, control, descriptors and data: what each command leaves (R346, R348, R349, R354, R358, R359, R361, R362, R364, R366, R368, R370). Clauses of it rest on the model's choices: log entries 53, 54, 187. -/
def Obligations.PorterChannels : Prop :=
  (∀ (s : State) (c : Fin 28), Quiet s → Frozen s → s.ch c.val = chIdle → s.rung = rungBlaze → s.power.entering = none → s.chPauses c.val = false → 
    Gives (.chStart c) s (fun t => t.ch c.val = chRunning ∧
      t.get F.CH_CUR_V c.val = 64 * s.get F.CH_HEAD_V c.val ∧
      t.rd .CH_SEEN c.val = s.rd .CH_DOORBELL c.val ∧
      (t.chan c.val).fetching = true ∧
      (t.chan c.val).desc = none ∧
      KeepsRegs s t [⟨.CH_STATUS, c.val, 0⟩, ⟨.CH_CUR, c.val, 0⟩, ⟨.CH_SEEN, c.val, 0⟩] ∧
      t.msgs = s.msgs ∧
      t.mem = s.mem)) ∧
  (∀ (s : State) (c : Fin 28), Quiet s → Frozen s → s.ch c.val = chAtTail → s.msgs = [] → s.ops = [] → 
    Gives (.chAbort c) s (fun t => t.ch c.val = chIdle ∧
      (t.chan c.val).desc = none ∧
      KeepsRegs s t [⟨.CH_STATUS, c.val, 0⟩] ∧
      t.msgs = s.msgs ∧
      t.mem = s.mem)) ∧
  (∀ (s : State) (c : Fin 28), Quiet s → Frozen s → s.get F.CH_STATUS_TRIG_PENDING c.val < 255 → s.ch c.val ≠ chWaiting → 
    Gives (.chTrigger c) s (fun t => t.get F.CH_STATUS_TRIG_PENDING c.val = s.get F.CH_STATUS_TRIG_PENDING c.val + 1 ∧
      OnlyRegs s t [⟨.CH_STATUS, c.val, 0⟩])) ∧
  (∀ (s : State) (c : Fin 28), Quiet s → Frozen s → s.get F.CH_PACE_TRIG_SRC c.val = 1 → s.get F.CH_PACE_PERIOD c.val ≠ 0 → s.atBlaze (c.val / 14) = true → s.get F.CH_STATUS_TRIG_PENDING c.val < 255 → s.ch c.val ≠ chWaiting → 
    Gives (.porterPaceTimer c) s (fun t => t.get F.CH_STATUS_TRIG_PENDING c.val = s.get F.CH_STATUS_TRIG_PENDING c.val + 1 ∧
      OnlyRegs s t [⟨.CH_STATUS, c.val, 0⟩])) ∧
  (∀ (s : State) (c : Fin 28) (b : Bool), Quiet s → Frozen s → s.ch c.val ≠ chWaiting → s.ch c.val ≠ chPaused → 
    Gives (.chPause c b) s (fun t => t.flag F.CH_CTRL_PAUSE c.val = b ∧
      OnlyRegs s t [⟨.CH_CTRL, c.val, 0⟩])) ∧
  (∀ (s : State) (c : Fin 28) (b : List Byte) (m : Msg), Quiet s → Frozen s → s.ch c.val = chRunning → (s.chan c.val).fetching = true → s.privPath c.val (s.get F.CH_CUR_V c.val) 64 false = .device m → b.length = 64 → (descriptorOf b).invalid = false → (descriptorOf b).priv = true → s.flag F.CH_CFG_PRIV_OK c.val = true → (descriptorOf b).at 27 1 = 1 → s.chPauses c.val = false → s.get F.CH_STATUS_TRIG_PENDING c.val = 0 → 
    Gives (.descriptorFetch c (.data b)) s (fun t => t.ch c.val = chWaiting ∧
      (t.chan c.val).desc = some (descriptorOf b) ∧
      (t.chan c.val).fetching = false ∧
      (t.chan c.val).started = false ∧
      KeepsRegs s t [⟨.CH_STATUS, c.val, 0⟩] ∧
      t.msgs = s.msgs ∧
      t.mem = s.mem)) ∧
  (∀ (s : State) (c : Fin 28) (d : Descriptor) (r : PorterRead) (m : Msg), Quiet s → Frozen s → (s.chan c.val).desc = some d → (s.chan c.val).started = true → (s.chan c.val).bad = false → (s.chan c.val).reads = [r] → r.zeros = false → r.msg = some m.id → s.msgs = [m] → m.input = 96 + c.val → m.op = .bulkRead → m.stage = .returned → m.squashed = false → m.cells = [] → s.buf.skid = [] → m.data.length = r.len → d.fill = false → d.length ≤ (s.chan c.val).asked → (s.chan c.val).put < d.length → (s.chan c.val).pack.length + r.len < d.dstWidth → 
    Gives (.porterReadReturn c .good) s (fun t => (t.chan c.val).reads = [] ∧
      ((t.chan c.val).pack = (s.chan c.val).pack ++ m.data.map (fun v => (v, m.poison))) ∧
      (t.chan c.val).poisoned = ((s.chan c.val).poisoned || m.poison) ∧
      t.msgs = [] ∧
      t.regs = s.regs ∧
      t.mem = s.mem)) ∧
  (∀ (s : State) (c : Fin 28) (d : Descriptor), Quiet s → Frozen s → s.msgs = [] → s.chReady c.val = true → (s.chan c.val).desc = some d → (s.chan c.val).status d = 1 → d.tail = true → d.at 29 1 = 0 → d.at 28 1 = 0 → s.hearthDown = false → s.txns.lost.contains (c.val / 14) = false → s.ops = [] → s.privPath c.val (s.get F.CH_CUR_V c.val + 32) 16 true = .internal → inScratchpad (s.get F.CH_CUR_V c.val) = true → inSealed (s.get F.CH_CUR_V c.val) = false → s.rd .CH_DOORBELL c.val = s.rd .CH_SEEN c.val → 
    Gives (.descriptorComplete c) s (fun t => t.ch c.val = chAtTail ∧
      memGet t.mem (s.get F.CH_CUR_V c.val + 32) 4 = [1, 0, 0, 0] ∧
      t.get F.CH_DONE_COUNT_V c.val = saturated 32 (s.get F.CH_DONE_COUNT_V c.val) 1 ∧
      (t.chan c.val).desc = none ∧
      (t.chan c.val).serial = (s.chan c.val).serial + 1 ∧
      t.msgs = s.msgs ∧
      t.out = s.out)) ∧
  (∀ (s : State) (c : Fin 28) (m : Msg), Quiet s → Frozen s → s.msgs = [m] → m.input = 96 + c.val → m.op = .bulkWrite → m.stage = .returned → m.session ≠ (s.chan c.val).serial → m.cells = [] → s.buf.skid = [] → s.flag F.FC_SRC_LATCHED (776 + c.val / 14) = true → 
    Gives (.porterLateWriteError c) s (fun t => t.flag F.CH_ERR_LATE_WRITE_ERR c.val = true ∧
      t.get F.CH_ERR_ADDR_V c.val = m.addr % 2 ^ 64 ∧
      (t.chan c.val).lateErr = true ∧
      t.msgs = [] ∧
      KeepsRegs s t [⟨.CH_ERR, c.val, 0⟩, ⟨.CH_ERR_ADDR, c.val, 0⟩, ⟨.FC_SRC, 776 + c.val / 14, 0⟩] ∧
      t.mem = s.mem)) ∧
  (∀ (s : State) (c : Fin 28) (v : BitVec 32), Quiet s → Frozen s → s.ch c.val = chAtTail → (s.chan c.val).rereading = false → s.get F.CH_SEEN_V c.val ≠ v.toNat → 
    Gives (.porterDoorbell c v) s (fun t => t.get F.CH_DOORBELL_V c.val = v.toNat ∧
      t.get F.CH_SEEN_V c.val = v.toNat ∧
      (t.chan c.val).rereading = true ∧
      KeepsRegs s t [⟨.CH_DOORBELL, c.val, 0⟩, ⟨.CH_SEEN, c.val, 0⟩] ∧
      { t with regs := s.regs, channels := s.channels } = s)) ∧
  (∀ (s : State) (c : Fin 28) (b : List Byte) (m : Msg), Quiet s → Frozen s → s.ch c.val = chAtTail → (s.chan c.val).rereading = true → s.privPath c.val (s.get F.CH_CUR_V c.val) 64 false = .device m → b.length = 64 → (descriptorOf b).tail = false → s.chPauses c.val = false → 
    Gives (.tailReread c (.data b)) s (fun t => t.ch c.val = chRunning ∧
      t.get F.CH_CUR_V c.val = (descriptorOf b).next ∧
      (t.chan c.val).fetching = true ∧
      (t.chan c.val).rereading = false ∧
      KeepsRegs s t [⟨.CH_STATUS, c.val, 0⟩, ⟨.CH_CUR, c.val, 0⟩] ∧
      t.msgs = s.msgs ∧
      t.mem = s.mem)) ∧
  (∀ (s : State) (c : Fin 28) (p : Nat), Quiet s → Frozen s → s.ch c.val = chIdle → (List.range 16).find? (fun k => Word.bits (s.rd .PORTER_PHYS (c.val / 14)) (F.PORTER_PHYS_ACTIVE.lo + k) 1 == 0 && Word.bits (s.rd .PORTER_PHYS (c.val / 14)) (F.PORTER_PHYS_RETIRED.lo + k) 1 == 0) = some p → 
    Gives (.porterRetire c) s (fun t => Word.bits (t.rd .PORTER_MAP (c.val / 14)) (4 * (c.val % 14)) 4 = p ∧
      Word.bits (t.rd .PORTER_PHYS (c.val / 14)) (F.PORTER_PHYS_RETIRED.lo + Word.bits (s.rd .PORTER_MAP (c.val / 14)) (4 * (c.val % 14)) 4) 1 = 1 ∧
      Word.bits (t.rd .PORTER_PHYS (c.val / 14)) (F.PORTER_PHYS_ACTIVE.lo + p) 1 = 1 ∧
      OnlyRegs s t [⟨.PORTER_PHYS, c.val / 14, 0⟩, ⟨.PORTER_MAP, c.val / 14, 0⟩]))

/-- Live relocation: what each event of a context leaves (R274, R379, R382, R385, R387, R388, R389, R390, R392). Clauses of it rest on the model's choices: log entries 16, 174, 175. -/
def Obligations.RelocationEvents : Prop :=
  (∀ (s : State) (x : Fin 8), Quiet s → Frozen s → s.rlState x.val = rlCopying → (s.reloc x.val).step = .copying → (s.reloc x.val).back = false → 
    Gives (.relocChunkDelivered x) s (fun t => (t.reloc x.val).step = .journal ∧
      (t.reloc x.val).journalled = (s.reloc x.val).journalled + 1 ∧
      (t.reloc x.val).fails = 0 ∧
      { t with relocs := s.relocs } = s)) ∧
  (∀ (s : State) (x : Fin 8), Quiet s → Frozen s → s.rlState x.val = rlCopying → (s.reloc x.val).step = .journal → (s.reloc x.val).back = false → s.hearthDown = false → s.msgs = [] → s.rlPauses x.val = false → (s.reloc x.val).journalled < s.get F.RELOC_CHUNKS_N x.val → 
    Gives (.relocJournalAcked x) s (fun t => t.get F.RELOC_WATERMARK_W x.val = (s.reloc x.val).journalled ∧
      t.get F.RELOC_IN_COPY_C x.val = (s.reloc x.val).journalled ∧
      (t.reloc x.val).step = .publish ∧
      KeepsRegs s t [⟨.RELOC_WATERMARK, x.val, 0⟩, ⟨.RELOC_IN_COPY, x.val, 0⟩] ∧
      { t with regs := s.regs, relocs := s.relocs } = s)) ∧
  (∀ (s : State) (x : Fin 8), Quiet s → Frozen s → (s.reloc x.val).step = .publish → s.seamUp = true → s.msgs = [] → s.get F.HALF_EPOCH_V 0 = s.get F.HALF_EPOCH_V 1 → s.get F.HALF_COMMIT_V 0 = s.get F.HALF_COMMIT_V 1 → 
    Gives (.watermarkMessage x) s (fun t => t.wmark (1 - x.val / 4) x.val = s.wmark (x.val / 4) x.val ∧
      t.inCopy (1 - x.val / 4) x.val = s.inCopy (x.val / 4) x.val ∧
      t.wmark (x.val / 4) x.val = s.wmark (x.val / 4) x.val ∧
      KeepsRegs s t [⟨.RELOC_PEER_WATERMARK, 4 * (1 - x.val / 4) + x.val % 4, 0⟩, ⟨.RELOC_PEER_IN_COPY, 4 * (1 - x.val / 4) + x.val % 4, 0⟩] ∧
      { t with regs := s.regs } = s)) ∧
  (∀ (s : State) (x : Fin 8), Quiet s → Frozen s → s.rlState x.val = rlCopying → (s.reloc x.val).step = .publish → s.seamUp = true → s.txns.lost.contains (x.val / 4) = false → s.wmark (1 - x.val / 4) x.val = s.wmark (x.val / 4) x.val → s.inCopy (1 - x.val / 4) x.val = s.inCopy (x.val / 4) x.val → s.wmark (x.val / 4) x.val ≠ s.get F.RELOC_CHUNKS_N x.val → s.inCopy (x.val / 4) x.val ≠ noChunk → 
    Gives (.watermarkAck x) s (fun t => (t.reloc x.val).step = .drain ∧
      { t with relocs := s.relocs } = s)) ∧
  (∀ (s : State) (x : Fin 8), Quiet s → Frozen s → s.rlState x.val = rlCopying → (s.reloc x.val).step = .drain → s.inCopy (x.val / 4) x.val ≠ noChunk → s.sourceWrites x.val = false → 
    Gives (.relocSourceDrained x) s (fun t => (t.reloc x.val).step = .copying ∧
      { t with relocs := s.relocs } = s)) ∧
  (∀ (s : State) (x : Fin 8), Quiet s → Frozen s → (s.rlState x.val = rlCopying ∨ s.rlState x.val = rlReverse) → (s.reloc x.val).step = .copying → (s.reloc x.val).fails < 2 → 
    Gives (.relocChunkFailed x) s (fun t => (t.reloc x.val).fails = (s.reloc x.val).fails + 1 ∧
      (t.reloc x.val).step = .copying ∧
      t.get F.RELOC_RETRIES_V x.val = saturated 8 (s.get F.RELOC_RETRIES_V x.val) 1 ∧
      KeepsRegs s t [⟨.RELOC_RETRIES, x.val, 0⟩] ∧
      { t with regs := s.regs, relocs := s.relocs } = s)) ∧
  (∀ (s : State) (m c : Msg), Quiet s → Frozen s → s.msgs = [m, c] → m.id ≠ 0 → m.id ≠ c.id → m.stage = .atDevice → c.stage = .atDevice → m.twin = some c.id → c.twin = some m.id → m.squashed = false → c.squashed = false → m.answered = false → c.answered = false → m.copy = false → c.copy = true → m.input < 96 → c.input = m.input → m.op = .memWrite → m.cls = 1 → m.cells = [] → s.buf.skid = [] → c.cells = [] → m.colour = .green → s.isHeld m.input = false → halfOf m.input ≠ halfOf m.dst → 
    Gives (.mirroredWriteComplete m.id) s (fun t => (t.msgs.map (fun a => (a.id, a.op, a.dst)) = [(m.id, .memResp, m.input)]) ∧
      t.regs = s.regs ∧
      t.out = s.out)) ∧
  (∀ (s : State) (x : Fin 8), Quiet s → Frozen s → 
    Gives (.handoverEndMarker x) s (fun t => (t.market.awaiting = s.market.awaiting.filter (fun y => y != s.rlSlice x.val)) ∧
      { t with market := { t.market with awaiting := s.market.awaiting } } = s)) ∧
  (∀ (s : State) (x : Fin 8) (o : Operation), Quiet s → Frozen s → s.rlState x.val = rlCommitting → s.rlOnSource 2 x.val = false → s.market.awaiting = [] → s.msgs = [] → s.flag F.RELOC_OBJECT_REMOTE x.val = false → s.flag F.RELOC_OBJECT_MARKET x.val = false → 256 ≤ s.get F.RELOC_CHUNKS_N x.val → s.ops = [o] → o.kind = .relocation x.val → o.status = .accepted → s.sessions = [] → 
    Gives (.relocSourceRelease x) s (fun t => t.rlState x.val = rlFree ∧
      t.flag F.RELOC_OBJECT_VALID x.val = false ∧
      t.ranges = s.ranges ++ [sliceRange (s.rd .RELOC_SRC x.val) (s.get F.RELOC_CHUNKS_N x.val / 256) none] ∧
      t.ops = [{ o with status := .ok }] ∧
      t.reloc x.val = {} ∧
      t.msgs = s.msgs ∧
      t.mem = s.mem)) ∧
  (∀ (s : State) (x : Fin 8), Quiet s → Frozen s → s.rlState x.val = rlCopying → s.rlTargetCounts x.val = true → s.flag F.RELOC_STATE_TAINTED x.val = false → s.msgs = [] → s.flag F.RELOC_OBJECT_REMOTE x.val = false → s.flag F.RELOC_OBJECT_MARKET x.val = false → 1 ≤ s.get F.RELOC_CHUNKS_N x.val → s.ops = [] → s.flag F.FC_SRC_LATCHED (778 + x.val / 4) = true → 
    Gives (.relocTargetFailure x) s (fun t => t.rlState x.val = rlFree ∧
      t.get F.RELOC_WATERMARK_W x.val = 0 ∧
      t.get F.RELOC_IN_COPY_C x.val = noChunk ∧
      t.get F.RELOC_PEER_WATERMARK_W (4 * (1 - x.val / 4) + x.val % 4) = 0 ∧
      t.ranges = s.ranges ++ [s.rlTargetRange x.val] ∧
      t.get F.FC_SRC_COUNT (778 + x.val / 4) = saturated 8 (s.get F.FC_SRC_COUNT (778 + x.val / 4)) 1 ∧
      t.msgs = s.msgs ∧
      t.mem = s.mem)) ∧
  (∀ (s : State) (x : Fin 8), Quiet s → Frozen s → s.rlState x.val = rlHandover → s.market.flows = [] → s.market.cache = [] → s.refusing = false → s.flag F.RELOC_OBJECT_REMOTE x.val = false → s.txState 3 = txFree → s.tx 3 = {} → s.txns.fw = [] → 
    Gives (.relocHandoverDone x) s (fun t => t.txState 3 = txValidating ∧
      (t.tx 3).fw = some (.relocCommit x.val) ∧
      (t.tx 3).shadow = s.rlItems x.val ∧
      (t.tx 3).recalls = [] ∧
      t.get F.SLOT_BASE_EPOCH_V 3 = s.get F.EPOCH_V ∧
      t.rlState x.val = rlHandover ∧
      KeepsRegs s t [⟨.TXSLOT_STATE, 3, 0⟩, ⟨.SLOT_BASE_EPOCH, 3, 0⟩] ∧
      { t with regs := s.regs, txns := s.txns } = s)) ∧
  (∀ (s : State) (x : Fin 8), Quiet s → Frozen s → s.rlState x.val = rlRollingBack → (s.reloc x.val).step = .drain → s.rlPairs x.val = false → s.flag F.RELOC_OBJECT_REMOTE x.val = false → s.flag F.RELOC_OBJECT_MARKET x.val = false → 1 ≤ s.get F.RELOC_CHUNKS_N x.val → s.ops = [] → 
    Gives (.relocSourceDrained x) s (fun t => t.rlState x.val = rlFree ∧
      t.flag F.RELOC_OBJECT_VALID x.val = false ∧
      t.ranges = s.ranges ++ [s.rlTargetRange x.val] ∧
      t.reloc x.val = {} ∧
      t.msgs = s.msgs ∧
      t.mem = s.mem))

/-- Emulated devices: configuration, decoders, and the mailbox commands of a Stall (R29, R219, R247, R252, R255). Clauses of it rest on the model's choices: log entries 72, 73, 140, 157. -/
def Obligations.EmulatedDeviceAndMailbox : Prop :=
  (∀ (s : State) (p : Port) (id : Nat) (g : CfgTarget) (off : Fin 4096), Quiet s → s.isHostPort p.val = true → s.takes p.val = true → s.flag F.PORT_STATUS_LOW_RATE p.val = false → s.cfgOwns (s.get F.PORT_CFG_HOST_ID p.val) g = true → s.hearthDown = false → s.txns.lost.contains (halfOf p.val) = false → 
    Gives (.configRequestToStall p id g (.read off)) s (fun t => Says s t p.val (.config (s.cfgRead (s.get F.PORT_CFG_HOST_ID p.val) g off.val)) ∧
      { t with msgs := s.msgs, nextId := s.nextId } = s)) ∧
  (∀ (s : State) (p : Port) (id : Nat) (st : StallId) (k : Fin 4) (d : Nat) (g : CfgTarget) (x : Hdm) (y : Nat), Quiet s → g = .stall st → y = s.get F.PORT_CFG_HOST_ID p.val → s.isHostPort p.val = true → s.takes p.val = true → s.flag F.PORT_STATUS_LOW_RATE p.val = false → s.cfgOwns (s.get F.PORT_CFG_HOST_ID p.val) g = true → s.hearthDown = false → s.txns.lost.contains (halfOf p.val) = false → (s.decodersNaming y st.val)[k.val]? = some d → (s.emul st.val).dec k.val = x → x.ways = 1 → x.size = s.get F.DEC_SIZE_V y d * 2 ^ 28 → x.base = s.get F.DEC_BASE_V y d * 2 ^ 28 → s.flag F.DEC_CTRL_HOST_PLACE y d = false → 
    Gives (.configRequestToStall p id g (.hdmCommit k)) s (fun t => (t.emul st.val).dec k.val = { x with waiting := true, error := false } ∧
      Says s t p.val (.config 0) ∧
      { t with msgs := s.msgs, nextId := s.nextId, emulated := s.emulated } = s)) ∧
  (∀ (s : State) (st : StallId) (k : Fin 4), Quiet s → s.hearthDown = false → ((s.emul st.val).dec k.val).waiting = true → 
    Gives (.hdmCommittedSet st k) s (fun t => (t.emul st.val).dec k.val = { (s.emul st.val).dec k.val with committed := true, waiting := false } ∧
      { t with emulated := s.emulated } = s)) ∧
  (∀ (s : State) (h v : Nat) (b : Bool) (rest : List (Nat × Nat × Bool)), Quiet s → s.hearthDown = false → s.txns.plugs = (h, v, b) :: rest → 
    Gives (.hotPlugNotify) s (fun t => t.out = s.out ++ [.hotPlug h v b] ∧
      t.txns.plugs = rest ∧
      { t with out := s.out, txns := s.txns, vports := s.vports } = s)) ∧
  (∀ (s : State) (st : StallId), Quiet s → 
    Gives (.mailboxDoorbell st) s (fun t => t.emul st.val = { s.emul st.val with doorbell := true } ∧
      { t with emulated := s.emulated } = s)) ∧
  (∀ (s : State) (st : StallId), Quiet s → s.mailRuns st.val = true → 
    Gives (.getEventRecords st) s (fun t => (Says s t (s.mailPort st.val) (.mailbox st.val 0x0100 .success ((s.emul st.val).log.flatMap (fun r => r.handle :: r.kind :: r.record.map BitVec.toNat)))) ∧
      t.emul st.val = { s.emul st.val with doorbell := false } ∧
      { t with msgs := s.msgs, nextId := s.nextId, out := s.out, emulated := s.emulated } = s)) ∧
  (∀ (s : State) (st : StallId) (hs : List Nat), Quiet s → s.mailRuns st.val = true → (∀ x ∈ hs, (s.emul st.val).log.any (fun r => r.handle == x) = true) → 
    Gives (.clearEventRecords st hs) s (fun t => Says s t (s.mailPort st.val) (.mailbox st.val 0x0101 .success []) ∧
      (t.emul st.val = { s.emul st.val with doorbell := false, log := (s.emul st.val).log.filter (fun r => !hs.contains r.handle) }) ∧
      { t with msgs := s.msgs, nextId := s.nextId, out := s.out, emulated := s.emulated } = s)) ∧
  (∀ (s : State) (st : StallId) (m : Nat), Quiet s → s.mailRuns st.val = true → (s.emul st.val).stampAt = some m → 
    Gives (.getTimestamp st) s (fun t => Says s t (s.mailPort st.val) (.mailbox st.val 0x0300 .success [(s.emul st.val).timestamp + (s.now - m)]) ∧
      t.emul st.val = { s.emul st.val with doorbell := false } ∧
      { t with msgs := s.msgs, nextId := s.nextId, out := s.out, emulated := s.emulated } = s)) ∧
  (∀ (s : State) (st : StallId) (v : BitVec 64), Quiet s → s.mailRuns st.val = true → 
    Gives (.setTimestamp st v) s (fun t => Says s t (s.mailPort st.val) (.mailbox st.val 0x0301 .success []) ∧
      t.emul st.val = { s.emul st.val with doorbell := false, timestamp := v.toNat, stampAt := some s.now } ∧
      { t with msgs := s.msgs, nextId := s.nextId, out := s.out, emulated := s.emulated } = s)) ∧
  (∀ (s : State) (st : StallId), Quiet s → s.mailRuns st.val = true → 
    Gives (.getSupportedLogs st) s (fun t => Says s t (s.mailPort st.val) (.mailbox st.val 0x0400 .success [1]) ∧
      t.emul st.val = { s.emul st.val with doorbell := false } ∧
      { t with msgs := s.msgs, nextId := s.nextId, out := s.out, emulated := s.emulated } = s)) ∧
  (∀ (s : State) (st : StallId) (off : Nat) (len : Fin 4097), Quiet s → s.mailRuns st.val = true → 
    Gives (.getLog st off len) s (fun t => (Says s t (s.mailPort st.val) (.mailbox st.val 0x0401 .success ((List.range len.val).map (fun i => (Config.effectsLog (off + i)).toNat)))) ∧
      t.emul st.val = { s.emul st.val with doorbell := false } ∧
      { t with msgs := s.msgs, nextId := s.nextId, out := s.out, emulated := s.emulated } = s))

/-- Mailbox commands of a Stall: identity, partitions, health, the poison list and its commands, unsupported ones (R219, R252). Clauses of it rest on the model's choices: log entry 71. -/
def Obligations.MailboxIdentityHealthPoison : Prop :=
  (∀ (s : State) (st : StallId), Quiet s → s.mailRuns st.val = true → 
    Gives (.identifyMemoryDevice st) s (fun t => (Says s t (s.mailPort st.val) (.mailbox st.val 0x4000 .success [s.get F.STALL_LAYOUT_CAP st.val, if s.stallPersistent st.val then 1 else 0])) ∧
      t.emul st.val = { s.emul st.val with doorbell := false } ∧
      { t with msgs := s.msgs, nextId := s.nextId, out := s.out, emulated := s.emulated } = s)) ∧
  (∀ (s : State) (st : StallId), Quiet s → s.mailRuns st.val = true → s.stallPersistent st.val = false → 
    Gives (.getPartitionInfo st) s (fun t => Says s t (s.mailPort st.val) (.mailbox st.val 0x4100 .success [s.get F.STALL_LAYOUT_CAP st.val, 0]) ∧
      t.emul st.val = { s.emul st.val with doorbell := false } ∧
      { t with msgs := s.msgs, nextId := s.nextId, out := s.out, emulated := s.emulated } = s)) ∧
  (∀ (s : State) (st : StallId) (a b : Health), Quiet s → s.mailRuns st.val = true → a.levels.length = 1 → b.levels.length = 1 → 
    Gives (.getHealthInfo st [a, b]) s (fun t => Says s t (s.mailPort st.val) (.mailbox st.val 0x4200 .success [(a.bits ||| b.bits).toNat, max (a.levels.getD 0 0) (b.levels.getD 0 0)]) ∧
      t.emul st.val = { s.emul st.val with doorbell := false } ∧
      { t with msgs := s.msgs, nextId := s.nextId, out := s.out, emulated := s.emulated } = s)) ∧
  (∀ (s : State) (st : StallId), Quiet s → s.mailRuns st.val = true → 
    Gives (.getPoisonList st) s (fun t => Says s t (s.mailPort st.val) (.mailbox st.val 0x4300 .success (s.emul st.val).poison) ∧
      t.emul st.val = { s.emul st.val with doorbell := false } ∧
      { t with msgs := s.msgs, nextId := s.nextId, out := s.out, emulated := s.emulated } = s)) ∧
  (∀ (s : State) (st : StallId) (o : BitVec 64) (m : Msg) (r : SliceRef) (x p l b : Nat), Quiet s → s.mailRuns st.val = true → s.debugUnlocked = true → o.toNat % 64 = 0 → o.toNat < s.get F.STALL_LAYOUT_CAP st.val * 2 ^ 28 → s.stallLine st.val o.toNat = (r, x) → s.sliceOf 0 r = (p, l, b) → s.sliceOf (halfOf p) r = (p, l, b) → s.relocOf r = none → s.refuses p = false → s.msgs = [m] → m.id ≠ s.nextId → m.stage = .held → m.input = 126 → m.dst = p → m.half = halfOf p → m.queueIx = 2 → 
    Gives (.injectPoison st o) s (fun t => ((t.msgs.take 2).map (fun y => (y.op, y.input, y.dst, y.ld, y.dpa)) = [(m.op, m.input, m.dst, m.ld, m.dpa), (.memWrite, 126, p, l, b + x)]) ∧
      ((t.msgs.take 2).map (fun y => (y.data, y.poison)) = [(m.data, m.poison), (zeros64, true)]) ∧
      (t.emul st.val = { s.emul st.val with doorbell := false, poison := (s.emul st.val).poison.filter (fun y => y != o.toNat) ++ [o.toNat] }) ∧
      (t.msgs.drop 2 = if s.mailPort st.val < 96 then [hearthMsg (s.nextId + 1) (s.mailPort st.val) (.mailbox st.val 0x4301 .success [])] else []) ∧
      (t.out = s.out ++ (if s.mailPort st.val < 96 then [] else [.mailbox st.val 0x4301 .success []])) ∧
      KeepsRegs s t [])) ∧
  (∀ (s : State) (st : StallId) (o : BitVec 64) (m : Msg) (r : SliceRef) (x p l b : Nat) (d : List Byte), Quiet s → s.mailRuns st.val = true → o.toNat % 64 = 0 → o.toNat < s.get F.STALL_LAYOUT_CAP st.val * 2 ^ 28 → s.stallLine st.val o.toNat = (r, x) → s.sliceOf 0 r = (p, l, b) → s.sliceOf (halfOf p) r = (p, l, b) → s.relocOf r = none → s.refuses p = false → s.msgs = [m] → m.id ≠ s.nextId → m.stage = .held → m.input = 126 → m.dst = p → m.half = halfOf p → m.queueIx = 2 → 
    Gives (.clearPoison st o d) s (fun t => ((t.msgs.take 2).map (fun y => (y.op, y.input, y.dst, y.ld, y.dpa)) = [(m.op, m.input, m.dst, m.ld, m.dpa), (.memWrite, 126, p, l, b + x)]) ∧
      ((t.msgs.take 2).map (fun y => (y.data, y.poison)) = [(m.data, m.poison), (d, false)]) ∧
      (t.emul st.val = { s.emul st.val with doorbell := false, poison := (s.emul st.val).poison.filter (fun y => y != o.toNat) }) ∧
      (t.msgs.drop 2 = if s.mailPort st.val < 96 then [hearthMsg (s.nextId + 1) (s.mailPort st.val) (.mailbox st.val 0x4302 .success [])] else []) ∧
      (t.out = s.out ++ (if s.mailPort st.val < 96 then [] else [.mailbox st.val 0x4302 .success []])) ∧
      KeepsRegs s t [])) ∧
  (∀ (s : State) (st : StallId) (op : BitVec 16), Quiet s → s.mailRuns st.val = true → 
    Gives (.mailboxUnsupported st op) s (fun t => Says s t (s.mailPort st.val) (.mailbox st.val op.toNat .unsupported []) ∧
      t.emul st.val = { s.emul st.val with doorbell := false } ∧
      { t with msgs := s.msgs, nextId := s.nextId, out := s.out, emulated := s.emulated } = s))

/-- Sanitize and Secure Erase, Stall resets and the scrubber: what each command leaves (R253, R260, R262, R268, R270, R274). Clauses of it rest on the model's choices: log entries 171, 172. -/
def Obligations.ErasuresStallResetsAndScrubs : Prop :=
  (∀ (s : State) (st : StallId), Quiet s → Frozen s → s.mailRuns st.val = true → (s.emul st.val).background = none → s.stallRanges st.val = [] → s.quenchSet st.val = false → s.stall st.val = stBound → s.sessions = [] → 
    Gives (.sanitize st) s (fun t => Says s t (s.mailPort st.val) (.mailbox st.val 0x4400 .backgroundStarted []) ∧
      t.emul st.val = { s.emul st.val with doorbell := false, background := some 0x4400, wasQuenched := false, failed := false } ∧
      t.flag F.METER_CTRL_QUENCH 0 st.val = true ∧
      t.flag F.METER_CTRL_QUENCH 1 st.val = true ∧
      t.stall st.val = stQuenched ∧
      KeepsRegs s t [⟨.METER_CTRL, 0, st.val⟩, ⟨.METER_CTRL, 1, st.val⟩, ⟨.STALL_STATE, st.val, 0⟩] ∧
      { t with regs := s.regs, msgs := s.msgs, nextId := s.nextId, out := s.out, emulated := s.emulated } = s)) ∧
  (∀ (s : State) (st : StallId), Quiet s → Frozen s → s.mailRuns st.val = true → (s.emul st.val).background = none → s.stallRanges st.val = [] → s.quenchSet st.val = false → s.stall st.val = stBound → s.sessions = [] → 
    Gives (.secureErase st) s (fun t => Says s t (s.mailPort st.val) (.mailbox st.val 0x4401 .backgroundStarted []) ∧
      t.emul st.val = { s.emul st.val with doorbell := false, background := some 0x4401, wasQuenched := false, failed := false } ∧
      t.flag F.METER_CTRL_QUENCH 0 st.val = true ∧
      t.flag F.METER_CTRL_QUENCH 1 st.val = true ∧
      t.stall st.val = stQuenched ∧
      KeepsRegs s t [⟨.METER_CTRL, 0, st.val⟩, ⟨.METER_CTRL, 1, st.val⟩, ⟨.STALL_STATE, st.val, 0⟩] ∧
      { t with regs := s.regs, msgs := s.msgs, nextId := s.nextId, out := s.out, emulated := s.emulated } = s)) ∧
  (∀ (s : State) (st : StallId) (op : Nat), Quiet s → Frozen s → s.mailRuns st.val = true → (s.emul st.val).background = some op → (s.emul st.val).failed = false → (s.emul st.val).wasQuenched = false → s.ranges = [] → s.stall st.val = stQuenched → s.sessions = [] → 
    Gives (.mailboxBgOpComplete st) s (fun t => Says s t (s.mailPort st.val) (.mailbox st.val op .success []) ∧
      t.emul st.val = { s.emul st.val with doorbell := false, background := none, failed := false, poison := [] } ∧
      t.flag F.METER_CTRL_QUENCH 0 st.val = false ∧
      t.flag F.METER_CTRL_QUENCH 1 st.val = false ∧
      t.stall st.val = stBound)) ∧
  (∀ (s : State) (st : StallId) (m : Msg), Quiet s → Frozen s → s.stall st.val = stResetting → s.msgs = [m] → m.stall = some st.val → m.op = .memRead → m.cls = 0 → m.input < 96 → m.host.isSome = true → m.copy = false → m.twin = none → m.squashed = false → m.stage = .held → m.slice = none → m.cells = [] → s.buf.skid = [] → (∀ c : Fin 28, (s.chan c.val).desc = none) → 
    Gives (.stallDrainEnd st) s (fun t => t.msgs = [] ∧
      t.out = s.out ++ m.heldAnswer ∧
      t.get F.STALL_SQUASHED_V st.val = saturated F.STALL_SQUASHED_V.w (s.get F.STALL_SQUASHED_V st.val) 1 ∧
      KeepsRegs s t [⟨.STALL_SQUASHED, st.val, 0⟩] ∧
      t.mem = s.mem)) ∧
  (∀ (s : State) (st : StallId) (o : Operation), Quiet s → Frozen s → s.hearthDown = false → s.stall st.val = stResetting → s.msgs = [] → s.flag F.STALL_BIND_BOUND st.val = true → (s.emul st.val).failsAfter = false → s.placedDecoders st.val = [] → s.quenchSet st.val = false → s.ops = [o] → o.kind = .resetStall st.val → o.status = .accepted → s.sessions = [] → 
    Gives (.stallResetComplete st) s (fun t => t.stall st.val = stBound ∧
      (t.emul st.val).config = [] ∧
      (t.emul st.val).hdm = [] ∧
      t.ops = [{ o with status := .ok }] ∧
      KeepsRegs s t [⟨.STALL_STATE, st.val, 0⟩] ∧
      t.mem = s.mem)) ∧
  (∀ (s : State) (st : StallId), Quiet s → Frozen s → s.hearthDown = false → s.stall st.val = stResetting → s.msgs = [] → s.placedDecoders st.val ≠ [] → s.txState 3 = txFree → s.tx 3 = {} → s.txns.fw = [] → s.recallsOf (s.fwItems (.unplaceAll st.val)) = [] → 
    Gives (.stallResetComplete st) s (fun t => t.txState 3 = txValidating ∧
      (t.tx 3).fw = some (.unplaceAll st.val) ∧
      (t.tx 3).shadow = s.fwItems (.unplaceAll st.val) ∧
      t.get F.SLOT_BASE_EPOCH_V 3 = s.get F.EPOCH_V ∧
      t.stall st.val = stResetting ∧
      KeepsRegs s t [⟨.TXSLOT_STATE, 3, 0⟩, ⟨.SLOT_BASE_EPOCH, 3, 0⟩] ∧
      { t with regs := s.regs, txns := s.txns } = s)) ∧
  (∀ (s : State) (p : Port) (r : DevRange), Quiet s → Frozen s → s.hearthDown = false → s.ranges = [r] → r.port = p.val → r.quarantined = false → r.scrubbed + 1 < r.len → 
    Gives (.scrubBarrierConfirmed p) s (fun t => t.ranges = [{ r with scrubbed := r.scrubbed + 1 }] ∧
      t.out = s.out ++ [.scrub p.val r.ld ((r.start + r.scrubbed) * 2 ^ 20)] ∧
      KeepsRegs s t [⟨.SCRUB_ACTIVE, 0, 0⟩, ⟨.SCRUB_QUARANTINED, 0, 0⟩] ∧
      t.msgs = s.msgs)) ∧
  (∀ (s : State) (p : Port) (r : DevRange), Quiet s → Frozen s → s.ranges = [r] → r.port = p.val → r.quarantined = false → r.forErase = false → s.ops = [] → s.flag F.FC_SRC_LATCHED (8 * p.val + 7) = true → 
    Gives (.scrubWriteFail p) s (fun t => t.ranges = [{ r with quarantined := true, scrubbed := 0 }] ∧
      t.get F.FC_SRC_COUNT (8 * p.val + 7) = saturated 8 (s.get F.FC_SRC_COUNT (8 * p.val + 7)) 1 ∧
      t.get F.SCRUB_QUARANTINED_V = 1 ∧
      t.get F.SCRUB_ACTIVE_V = 0 ∧
      KeepsRegs s t [⟨.FC_SRC, 8 * p.val + 7, 0⟩, ⟨.SCRUB_ACTIVE, 0, 0⟩, ⟨.SCRUB_QUARANTINED, 0, 0⟩]))

/-- Slot power channels: pins, seating, precharge and ramp (R515, R516, R517, R518, R519, R522, R523, R524, R533, R536). -/
def Obligations.SlotPinsAndRamp : Prop :=
  (∀ (s : State) (n : SlotId), Quiet s → Frozen s → s.sl n.val = slEmpty → s.sessions = [] → s.ops = [] → 
    Gives (.presLongAssert n) s (fun t => t.sl n.val = slSeating ∧
      t.flag F.SLOT_STATE_LONG_PIN n.val = true ∧
      t.irqPending (277 + n.val) = true ∧
      KeepsRegs s t [⟨.SLOT_STATE, n.val, 0⟩, ⟨.IA_PENDING, (277 + n.val) / 32, 0⟩] ∧
      t.msgs = s.msgs ∧
      t.out = s.out)) ∧
  (∀ (s : State) (n : SlotId), Quiet s → Frozen s → s.sl n.val ≠ slLockout → s.portOfSlot n.val = none → s.sessions = [] → s.ops = [] → 
    Gives (.presLongDeassert n) s (fun t => t.sl n.val = slEmpty ∧
      t.flag F.SLOT_STATE_LONG_PIN n.val = false ∧
      (t.flag F.SLOT_STATE_PG n.val = false ∨ s.sl n.val = slEmpty) ∧
      KeepsRegs s t [⟨.SLOT_STATE, n.val, 0⟩, ⟨.IA_PENDING, (277 + n.val) / 32, 0⟩])) ∧
  (∀ (s : State) (n : SlotId) (p : Nat), Quiet s → Frozen s → s.portOfSlot n.val = some p → s.bonded p = false → s.sessions = [] → s.ops = [] → 
    Gives (.presLongDeassert n) s (fun t => (∀ k : Lane, Word.bits (t.rd .LANE_EQ_RECORD p (8 * k.val + 1)) 31 1 = 0) ∧
      t.lanes.viralRetrain.contains p = true ∧
      t.holds.contains (p, .switchBelow) = false ∧
      KeepsRegs s t [⟨.SLOT_STATE, n.val, 0⟩, ⟨.IA_PENDING, (277 + n.val) / 32, 0⟩, ⟨.PORT_STATUS, p, 0⟩, ⟨.LANE_EQ_RECORD, p, 1⟩, ⟨.LANE_EQ_RECORD, p, 9⟩, ⟨.LANE_EQ_RECORD, p, 17⟩, ⟨.LANE_EQ_RECORD, p, 25⟩, ⟨.LANE_EQ_RECORD, p, 33⟩, ⟨.LANE_EQ_RECORD, p, 41⟩, ⟨.LANE_EQ_RECORD, p, 49⟩, ⟨.LANE_EQ_RECORD, p, 57⟩] ∧
      t.msgs = s.msgs ∧
      t.out = s.out)) ∧
  (∀ (s : State) (n : SlotId), Quiet s → Frozen s → s.sl n.val = slOn → s.flag F.SLOT_STATE_LONG_PIN n.val = true → s.sessions = [] → s.ops = [] → 
    Gives (.presShortDeassert n) s (fun t => t.sl n.val = slSeating ∧
      t.flag F.SLOT_STATE_SHORT_PIN n.val = false ∧
      t.flag F.SLOT_ERR_UNSEAT n.val = true ∧
      t.flag F.SLOT_STATE_PG n.val = false ∧
      KeepsRegs s t [⟨.SLOT_STATE, n.val, 0⟩, ⟨.IA_PENDING, (277 + n.val) / 32, 0⟩, ⟨.SLOT_ERR, n.val, 0⟩] ∧
      { t with regs := s.regs, agg := s.agg, slots := s.slots } = s)) ∧
  (∀ (s : State) (n : SlotId), Quiet s → Frozen s → s.sl n.val = slSeating → s.flag F.SLOT_STATE_LONG_PIN n.val = true → s.flag F.SLOT_CTRL_AUTO_ON n.val = false → s.flag F.SLOT_STATE_POWER_REQ n.val = false → s.sessions = [] → s.ops = [] → 
    Gives (.seatingDebounceEnd n) s (fun t => t.sl n.val = slReady ∧
      t.flag F.SLOT_STATE_SHORT_PIN n.val = true ∧
      KeepsRegs s t [⟨.SLOT_STATE, n.val, 0⟩, ⟨.IA_PENDING, (277 + n.val) / 32, 0⟩])) ∧
  (∀ (s : State) (n : SlotId), Quiet s → Frozen s → s.sl n.val = slSeating → s.flag F.SLOT_STATE_LONG_PIN n.val = true → s.flag F.SLOT_CTRL_AUTO_ON n.val = true → (s.slot n.val).deadline = none → s.curveOk n.val = true → s.sessions = [] → s.ops = [] → 
    Gives (.seatingDebounceEnd n) s (fun t => t.sl n.val = slPrecharge ∧
      t.flag F.SLOT_STATE_POWER_REQ n.val = true ∧
      t.get F.SLOT_STATE_FEED_IN_USE n.val = s.feedChoice n.val ∧
      KeepsRegs s t [⟨.SLOT_STATE, n.val, 0⟩, ⟨.IA_PENDING, (277 + n.val) / 32, 0⟩])) ∧
  (∀ (s : State) (n : SlotId), Quiet s → Frozen s → s.sl n.val = slPrecharge → s.sessions = [] → s.ops = [] → 
    Gives (.prechargeComplete n) s (fun t => t.sl n.val = slRamp ∧
      KeepsRegs s t [⟨.SLOT_STATE, n.val, 0⟩, ⟨.IA_PENDING, (277 + n.val) / 32, 0⟩] ∧
      { t with regs := s.regs, agg := s.agg, slots := s.slots } = s)) ∧
  (∀ (s : State) (n : SlotId), Quiet s → Frozen s → s.sl n.val = slRamp → s.sessions = [] → s.ops = [] → 
    Gives (.rampComplete n true) s (fun t => t.sl n.val = slOn ∧
      t.flag F.SLOT_STATE_PG n.val = true ∧
      KeepsRegs s t [⟨.SLOT_STATE, n.val, 0⟩, ⟨.IA_PENDING, (277 + n.val) / 32, 0⟩] ∧
      { t with regs := s.regs, agg := s.agg, slots := s.slots } = s)) ∧
  (∀ (s : State) (n : SlotId), Quiet s → Frozen s → s.sl n.val = slPrecharge → s.flag F.SLOT_STATE_SHORT_PIN n.val = true → s.get F.SLOT_STATE_RETRIES n.val < s.get F.SLOT_CTRL_RETRY_LIMIT n.val → s.flag F.FC_SRC_LATCHED (960 + n.val) = true → s.sessions = [] → s.ops = [] → 
    Gives (.prechargeTimeout n) s (fun t => t.sl n.val = slTripped ∧
      t.get F.SLOT_STATE_LAST_TRIP n.val = 3 ∧
      t.get F.SLOT_STATE_RETRIES n.val = s.get F.SLOT_STATE_RETRIES n.val + 1 ∧
      t.get F.SLOT_TRIPS_V n.val = saturated F.SLOT_TRIPS_V.w (s.get F.SLOT_TRIPS_V n.val) 1 ∧
      t.flag F.SLOT_ERR_PRECHARGE_TO n.val = true ∧
      (t.slot n.val).deadline = some (s.now + 10000000 * 2 ^ s.get F.SLOT_STATE_RETRIES n.val) ∧
      t.flag F.SLOT_STATE_PG n.val = false ∧
      KeepsRegs s t [⟨.SLOT_STATE, n.val, 0⟩, ⟨.IA_PENDING, (277 + n.val) / 32, 0⟩, ⟨.SLOT_TRIPS, n.val, 0⟩, ⟨.SLOT_ERR, n.val, 0⟩, ⟨.FC_SRC, 960 + n.val, 0⟩] ∧
      { t with regs := s.regs, agg := s.agg, slots := s.slots } = s)) ∧
  (∀ (s : State) (n : SlotId), Quiet s → Frozen s → s.sl n.val = slOn → s.flag F.SLOT_STATE_SHORT_PIN n.val = true → s.get F.SLOT_STATE_RETRIES n.val < s.get F.SLOT_CTRL_RETRY_LIMIT n.val → s.flag F.FC_SRC_LATCHED (960 + n.val) = true → s.sessions = [] → s.ops = [] → 
    Gives (.curveTrip n) s (fun t => t.sl n.val = slTripped ∧
      t.get F.SLOT_STATE_LAST_TRIP n.val = 1 ∧
      t.get F.SLOT_STATE_RETRIES n.val = s.get F.SLOT_STATE_RETRIES n.val + 1 ∧
      t.get F.SLOT_TRIPS_V n.val = saturated F.SLOT_TRIPS_V.w (s.get F.SLOT_TRIPS_V n.val) 1 ∧
      t.flag F.SLOT_ERR_CURVE_TRIP n.val = true ∧
      (t.slot n.val).deadline = some (s.now + 10000000 * 2 ^ s.get F.SLOT_STATE_RETRIES n.val) ∧
      t.flag F.SLOT_STATE_PG n.val = false ∧
      KeepsRegs s t [⟨.SLOT_STATE, n.val, 0⟩, ⟨.IA_PENDING, (277 + n.val) / 32, 0⟩, ⟨.SLOT_TRIPS, n.val, 0⟩, ⟨.SLOT_ERR, n.val, 0⟩, ⟨.FC_SRC, 960 + n.val, 0⟩] ∧
      { t with regs := s.regs, agg := s.agg, slots := s.slots } = s)) ∧
  (∀ (s : State) (n : SlotId), Quiet s → Frozen s → s.sl n.val = slOn → s.flag F.SLOT_STATE_SHORT_PIN n.val = true → s.get F.SLOT_STATE_RETRIES n.val < s.get F.SLOT_CTRL_RETRY_LIMIT n.val → s.flag F.FC_SRC_LATCHED (960 + n.val) = true → s.sessions = [] → s.ops = [] → 
    Gives (.fastTrip n) s (fun t => t.sl n.val = slTripped ∧
      t.get F.SLOT_STATE_LAST_TRIP n.val = 2 ∧
      t.get F.SLOT_STATE_RETRIES n.val = s.get F.SLOT_STATE_RETRIES n.val + 1 ∧
      t.get F.SLOT_TRIPS_V n.val = saturated F.SLOT_TRIPS_V.w (s.get F.SLOT_TRIPS_V n.val) 1 ∧
      t.flag F.SLOT_ERR_FAST_TRIP n.val = true ∧
      (t.slot n.val).deadline = some (s.now + 10000000 * 2 ^ s.get F.SLOT_STATE_RETRIES n.val) ∧
      t.flag F.SLOT_STATE_PG n.val = false ∧
      KeepsRegs s t [⟨.SLOT_STATE, n.val, 0⟩, ⟨.IA_PENDING, (277 + n.val) / 32, 0⟩, ⟨.SLOT_TRIPS, n.val, 0⟩, ⟨.SLOT_ERR, n.val, 0⟩, ⟨.FC_SRC, 960 + n.val, 0⟩] ∧
      { t with regs := s.regs, agg := s.agg, slots := s.slots } = s)) ∧
  (∀ (s : State) (n : SlotId), Quiet s → Frozen s → s.sl n.val = slOn → s.feedGood (s.get F.SLOT_STATE_FEED_IN_USE n.val) = true → (s.slot n.val).checking = false → s.flag F.SLOT_STATE_SHORT_PIN n.val = true → s.get F.SLOT_STATE_RETRIES n.val < s.get F.SLOT_CTRL_RETRY_LIMIT n.val → s.flag F.FC_SRC_LATCHED (960 + n.val) = true → s.sessions = [] → s.ops = [] → 
    Gives (.pgLostTrip n) s (fun t => t.sl n.val = slTripped ∧
      t.get F.SLOT_STATE_LAST_TRIP n.val = 4 ∧
      t.get F.SLOT_STATE_RETRIES n.val = s.get F.SLOT_STATE_RETRIES n.val + 1 ∧
      t.get F.SLOT_TRIPS_V n.val = saturated F.SLOT_TRIPS_V.w (s.get F.SLOT_TRIPS_V n.val) 1 ∧
      t.flag F.SLOT_ERR_PG_LOST n.val = true ∧
      (t.slot n.val).deadline = some (s.now + 10000000 * 2 ^ s.get F.SLOT_STATE_RETRIES n.val) ∧
      t.flag F.SLOT_STATE_PG n.val = false ∧
      KeepsRegs s t [⟨.SLOT_STATE, n.val, 0⟩, ⟨.IA_PENDING, (277 + n.val) / 32, 0⟩, ⟨.SLOT_TRIPS, n.val, 0⟩, ⟨.SLOT_ERR, n.val, 0⟩, ⟨.FC_SRC, 960 + n.val, 0⟩] ∧
      { t with regs := s.regs, agg := s.agg, slots := s.slots } = s))

/-- Slot power channels: retries, feeds, lost supplies and the commands of SLOT_CTRL (R525, R526, R528, R529, R530, R531, R532, R536, R537). Clauses of it rest on the model's choices: log entry 49. -/
def Obligations.SlotRetriesFeedsAndSupplies : Prop :=
  (∀ (s : State) (n : SlotId), Quiet s → Frozen s → s.sl n.val = slTripped → (s.slot n.val).deadline.isSome = true → s.slSupplied n.val = true → s.curveOk n.val = true → s.sessions = [] → s.ops = [] → 
    Gives (.backoffDeadline n) s (fun t => t.sl n.val = slPrecharge ∧
      (t.slot n.val).deadline = none ∧
      t.get F.SLOT_STATE_FEED_IN_USE n.val = s.feedChoice n.val ∧
      KeepsRegs s t [⟨.SLOT_STATE, n.val, 0⟩, ⟨.IA_PENDING, (277 + n.val) / 32, 0⟩] ∧
      { t with regs := s.regs, agg := s.agg, slots := s.slots } = s)) ∧
  (∀ (s : State) (n : SlotId), Quiet s → Frozen s → s.sl n.val = slOn → s.sessions = [] → s.ops = [] → 
    Gives (.slotCooldownExpiry n) s (fun t => t.get F.SLOT_STATE_RETRIES n.val = 0 ∧
      (t.slot n.val).deadline = none ∧
      t.sl n.val = slOn ∧
      KeepsRegs s t [⟨.SLOT_STATE, n.val, 0⟩])) ∧
  (∀ (s : State), Quiet s → Frozen s → s.feedPresent 0 = true → s.feedClass 0 = 0 → s.flag F.FC_SRC_LATCHED 1008 = true → s.sessions = [] → s.ops = [] → 
    Gives (.feedClassChange .a .ripple true) s (fun t => s.feedGood 0 = t.feedGood 0 ∧
      t.get F.FEED_STATUS_CLASS_A = 8 ∧
      t.get F.FEED_EVENTS_RIPPLES = saturated F.FEED_EVENTS_RIPPLES.w (s.get F.FEED_EVENTS_RIPPLES) 1 ∧
      t.flag F.FEED_ERR_A_RIPPLE = true ∧
      t.irqPending 325 = true ∧
      KeepsRegs s t [⟨.FEED_STATUS, 0, 0⟩, ⟨.FEED_EVENTS, 0, 0⟩, ⟨.FEED_ERR, 0, 0⟩, ⟨.FC_SRC, 1008, 0⟩])) ∧
  (∀ (s : State) (n : SlotId), Quiet s → Frozen s → s.sl n.val = slOn → s.feedUsable n.val (s.get F.SLOT_FEED_PRIMARY n.val) = true → s.get F.SLOT_STATE_FEED_IN_USE n.val ≠ s.get F.SLOT_FEED_PRIMARY n.val → (s.slot n.val).switching = none → s.sessions = [] → s.ops = [] → 
    Gives (.primaryFeedReturn n) s (fun t => t.slot n.val = { s.slot n.val with switching := some (s.get F.SLOT_FEED_PRIMARY n.val), checking := true } ∧
      { t with slots := s.slots } = s ∧
      KeepsRegs s t [])) ∧
  (∀ (s : State) (n : SlotId), Quiet s → Frozen s → (s.slot n.val).switching = some 1 → s.sessions = [] → s.ops = [] → 
    Gives (.feedDeadTimeEnd n) s (fun t => t.get F.SLOT_STATE_FEED_IN_USE n.val = 1 ∧
      t.slot n.val = { s.slot n.val with switching := none } ∧
      KeepsRegs s t [⟨.SLOT_STATE, n.val, 0⟩] ∧
      { t with regs := s.regs, agg := s.agg, slots := s.slots } = s)) ∧
  (∀ (s : State) (n : SlotId), Quiet s → Frozen s → (s.slot n.val).switching = none → (s.slot n.val).checking = true → s.sessions = [] → s.ops = [] → 
    Gives (.feedSwitchCheck n true) s (fun t => t.slot n.val = { s.slot n.val with checking := false } ∧
      { t with slots := s.slots } = s ∧
      KeepsRegs s t [])) ∧
  (∀ (s : State) (n : SlotId), Quiet s → Frozen s → s.sl n.val = slOn → s.slSupplied n.val = false → s.sessions = [] → s.ops = [] → 
    Gives (.supplyLostEntry n) s (fun t => t.sl n.val = slSupplyLost ∧
      t.flag F.SLOT_ERR_SUPPLY_LOST n.val = true ∧
      (t.slot n.val).pinsKept = (s.flag F.SLOT_STATE_LONG_PIN n.val && s.flag F.SLOT_STATE_SHORT_PIN n.val) ∧
      KeepsRegs s t [⟨.SLOT_STATE, n.val, 0⟩, ⟨.IA_PENDING, (277 + n.val) / 32, 0⟩, ⟨.SLOT_ERR, n.val, 0⟩] ∧
      { t with regs := s.regs, agg := s.agg, slots := s.slots } = s)) ∧
  (∀ (s : State) (n : SlotId), Quiet s → Frozen s → s.sl n.val = slSupplyLost → s.power.mains = true → s.feedUsable n.val 0 = true → (s.slot n.val).pinsKept = true → s.curveOk n.val = true → s.sessions = [] → s.ops = [] → 
    Gives (.supplyReturn n) s (fun t => t.sl n.val = slPrecharge ∧
      t.get F.SLOT_STATE_FEED_IN_USE n.val = s.feedChoice n.val ∧
      KeepsRegs s t [⟨.SLOT_STATE, n.val, 0⟩, ⟨.IA_PENDING, (277 + n.val) / 32, 0⟩] ∧
      { t with regs := s.regs, agg := s.agg, slots := s.slots } = s)) ∧
  (∀ (s : State) (n : SlotId), Quiet s → Frozen s → s.sl n.val = slReady → (s.slot n.val).deadline = none → s.curveOk n.val = true → s.sessions = [] → s.ops = [] → 
    Gives (.slotCtrlOn n) s (fun t => t.flag F.SLOT_STATE_POWER_REQ n.val = true ∧
      t.sl n.val = slPrecharge ∧
      KeepsRegs s t [⟨.SLOT_STATE, n.val, 0⟩, ⟨.IA_PENDING, (277 + n.val) / 32, 0⟩] ∧
      { t with regs := s.regs, agg := s.agg, slots := s.slots } = s)) ∧
  (∀ (s : State) (n : SlotId), Quiet s → Frozen s → s.sl n.val = slOn → s.sessions = [] → s.ops = [] → 
    Gives (.slotCtrlOff n) s (fun t => t.flag F.SLOT_STATE_POWER_REQ n.val = false ∧
      t.sl n.val = slReady ∧
      t.get F.SLOT_STATE_RETRIES n.val = s.get F.SLOT_STATE_RETRIES n.val ∧
      (t.slot n.val).deadline = (s.slot n.val).deadline ∧
      t.flag F.SLOT_STATE_PG n.val = false ∧
      KeepsRegs s t [⟨.SLOT_STATE, n.val, 0⟩, ⟨.IA_PENDING, (277 + n.val) / 32, 0⟩] ∧
      { t with regs := s.regs, agg := s.agg, slots := s.slots } = s)) ∧
  (∀ (s : State) (n : SlotId), Quiet s → Frozen s → s.sl n.val = slLockout → s.flag F.SLOT_STATE_LONG_PIN n.val = true → s.flag F.SLOT_STATE_SHORT_PIN n.val = true → s.flag F.SLOT_STATE_POWER_REQ n.val = false → s.sessions = [] → s.ops = [] → 
    Gives (.clearLockout n) s (fun t => t.sl n.val = slReady ∧
      t.get F.SLOT_STATE_RETRIES n.val = 0 ∧
      (t.slot n.val).deadline = none ∧
      KeepsRegs s t [⟨.SLOT_STATE, n.val, 0⟩, ⟨.IA_PENDING, (277 + n.val) / 32, 0⟩] ∧
      { t with regs := s.regs, agg := s.agg, slots := s.slots } = s))

/-- The fault collector: clear, force, and its own parity error (R497, R499, R501, R506, R508). -/
def Obligations.FaultCollectorCommands : Prop :=
  (∀ (s : State) (n : Fin 1024), Quiet s → Frozen s → s.flag F.FC_SRC_LATCHED n.val = true → s.get F.FC_SRC_APPLIED n.val = 0 → s.conditionNow n.val = false → s.holds = [] → s.containQuench = [] → s.sessions = [] → 
    Gives (.fcClear n) s (fun t => t.flag F.FC_SRC_LATCHED n.val = false ∧
      t.get F.FC_SRC_COUNT n.val = 0 ∧
      KeepsRegs s t [⟨.FC_SRC, n.val, 0⟩] ∧
      t.mem = s.mem ∧
      t.msgs = s.msgs)) ∧
  (∀ (s : State) (n : Fin 1024), Quiet s → Frozen s → s.debugAllowed = true → s.flag F.FC_SRC_LATCHED n.val = false → s.get F.FC_SRC_REACTION n.val = 0 → 
    Gives (.fcForce n true) s (fun t => t.flag F.FC_SRC_FORCE n.val = true ∧
      t.flag F.FC_SRC_LATCHED n.val = true ∧
      t.get F.FC_SRC_COUNT n.val = 1 ∧
      t.get F.FC_SRC_APPLIED n.val = 0 ∧
      t.get F.FC_RING_SEQ_SEQ = (s.get F.FC_RING_SEQ_SEQ + 1) % 2 ^ 32 ∧
      t.get F.FC_RING_HEAD_V = (s.get F.FC_RING_HEAD_V + 1) % 2 ^ F.FC_RING_HEAD_V.w ∧
      { t with regs := s.regs } = s.memStore (ringBase + 32 * s.get F.FC_RING_HEAD_V) (recordBytes s.now n.val true 0 {} (s.get F.EPOCH_V) ((s.get F.FC_RING_SEQ_SEQ + 1) % 2 ^ 32)) ∧
      KeepsRegs s t [⟨.FC_SRC, n.val, 0⟩, ⟨.FC_RING_SEQ, 0, 0⟩, ⟨.FC_RING_HEAD, 0, 0⟩])) ∧
  (∀ (s : State), Quiet s → Frozen s → s.flag F.FC_STATUS_ASH = true → s.flag F.FC_SRC_LATCHED 1023 = true → 
    Gives (.collectorParityError false) s (fun t => t.flag F.FC_STATUS_SELF_ERR = true ∧
      t.flag F.FC_STATUS_ASH = true ∧
      t.get F.FC_SRC_COUNT 1023 = saturated 8 (s.get F.FC_SRC_COUNT 1023) 1))

/-- Rungs of the power ladder: what each command leaves (R541, R542). -/
def Obligations.PowerRungs : Prop :=
  (∀ (s : State) (stay : List Port), Quiet s → Frozen s → s.flag F.PWR_CTRL_AUTO_GLOW = true → s.queuesEmpty = true → s.rungBusy rungGlow = false → s.flag F.FC_STATUS_ASH = false → s.sessions = [] → s.ops = [] → (∀ c : Fin 28, s.ch c.val = chIdle) → 
    Gives (.glowIdleExpiry stay) s (fun t => t.rung = rungGlow ∧
      t.below = [0, 1] ∧
      (∀ p : Port, s.linkState p.val = lsL0 → stay.contains p = false → t.linkState p.val = lsL0p) ∧
      t.msgs = s.msgs ∧
      t.out = s.out)) ∧
  (∀ (s : State) (stay : List Port), Quiet s → Frozen s → s.power.entering = some rungSmoulder → s.sessions = [] → s.ops = [] → (∀ c : Fin 28, s.ch c.val = chIdle) → 
    Gives (.powerRungReached stay) s (fun t => t.rung = rungSmoulder ∧
      t.power.entering = none ∧
      t.below = [0, 1] ∧
      (∀ p : Port, s.linkState p.val = lsL0 → stay.contains p = false → t.linkState p.val = lsL1) ∧
      t.msgs = s.msgs ∧
      t.out = s.out)) ∧
  (∀ (s : State), Quiet s → Frozen s → s.rung = rungGlow → s.power.entering = none → 
    Gives (.ladderExitCause) s (fun t => t.power = { s.power with leaving := true } ∧
      t.rung = rungGlow ∧
      { t with power := s.power } = s)) ∧
  (∀ (s : State) (h : Half), Quiet s → Frozen s → s.power.leaving = true → s.below = [hix h] → s.msgs = [] → s.seamUp = false → s.sessions = [] → s.ops = [] → (∀ c : Fin 28, s.ch c.val = chIdle) → (∀ x : Fin 8, s.rlState x.val = rlFree) → 
    Gives (.ladderReachesBlaze h) s (fun t => t.below = [] ∧
      t.rung = rungBlaze ∧
      t.power.leaving = false ∧
      (∀ p : Port, halfOf p.val = hix h → (s.linkState p.val = lsL0p ∨ s.linkState p.val = lsL1) → t.linkState p.val = lsL0)))

/-- The banking sequence: triggers, flush phases, the seal: what each command leaves (R534, R535, R543, R544, R545, R550). Clauses of it rest on the model's choices: log entry 59. -/
def Obligations.BankingSequence : Prop :=
  (∀ (s : State), Quiet s → Frozen s → s.flag F.FEED_CFG_PFAIL_EN = true → s.flag F.FEED_STATUS_BANK_REQ = false → s.flag F.FC_STATUS_ASH = false → s.rung = rungBlaze → s.power.booted = true → s.power.entering = none → s.below = [] → (∀ k : Fin 4, s.txState k.val = txFree) → s.sessions = [] → s.ops = [] → (∀ c : Fin 28, s.ch c.val = chIdle) → 
    Gives (.bankReqRaise .pfail) s (fun t => t.rung = rungBanking ∧
      t.flag F.FEED_STATUS_BANK_REQ = true ∧
      t.get F.FEED_STATUS_BANK_CAUSE = 1 ∧
      t.get F.BANK_STATUS_CAUSE = 1 ∧
      t.power.step = 2 ∧
      t.power.reference = s.now ∧
      t.power.gpf = s.gpfPorts 1 ∧
      (t.out = s.out ++ (s.gpfPorts 1).map (fun p => .gpf p 1)))) ∧
  (∀ (s : State), Quiet s → Frozen s → s.flag F.FEED_CFG_SAG_BANK_EN = false → 
    Gives (.rearm false) s (fun t => t.flag F.FEED_STATUS_BANK_REQ = false ∧
      t.get F.FEED_STATUS_BANK_CAUSE = 0 ∧
      t.flag F.FEED_STATUS_PFAIL_LOW = false ∧
      KeepsRegs s t [⟨.FEED_STATUS, 0, 0⟩] ∧
      { t with regs := s.regs, agg := s.agg } = s)) ∧
  (∀ (s : State) (p : Port), Quiet s → Frozen s → s.linkState p.val = lsL0 → s.power.step = 2 → 
    Gives (.gpfResponse p) s (fun t => (t.power = { s.power with gpf := s.power.gpf.filter (fun q => q != p.val) }) ∧
      { t with power := s.power } = s)) ∧
  (∀ (s : State), Quiet s → Frozen s → s.power.step = 2 → s.power.gpf = [] → s.market.cache = [] → 
    Gives (.gpfPhase1End) s (fun t => t.flag F.BANK_STATUS_FLUSH1_OK = true ∧
      t.get F.BANK_TIMES_PHASE1 = min 65535 (s.since s.power.phaseAt) ∧
      t.power.step = 3 ∧
      t.power.gpf = s.gpfPorts 3 ∧
      t.market.quiet = [0, 1] ∧
      t.flag F.COH_STATUS_FLUSHING 0 = true ∧
      t.flag F.COH_STATUS_FLUSHING 1 = true ∧
      (∀ p : Port, s.isHostPort p.val = true → t.txns.closed.contains p.val = true) ∧
      (t.out = s.out ++ ((s.gpfPorts 3).filter (fun p => !s.hasMarket p)).map (fun p => .gpf p 2)) ∧
      KeepsRegs s t [⟨.BANK_STATUS, 0, 0⟩, ⟨.BANK_TIMES, 0, 0⟩, ⟨.COH_STATUS, 0, 0⟩, ⟨.COH_STATUS, 1, 0⟩])) ∧
  (∀ (s : State) (h : Half), Quiet s → Frozen s → s.flag F.COH_STATUS_FLUSHING (hix h) = true → s.power.step = 3 → s.market.flows = [] → s.market.cache = [] → s.resetHalves.contains (hix h) = false → s.flag F.FC_STATUS_ASH = false → s.power.warmWaits = none → s.sessions = [] → s.ops = [] → 
    Gives (.ledgerFlushDone h) s (fun t => t.flag F.COH_STATUS_FLUSHING (hix h) = false ∧
      (t.flag (if hix h = 0 then F.BANK_STATUS_LEDGER_CLEAN_E else F.BANK_STATUS_LEDGER_CLEAN_W) = true) ∧
      (t.out = s.out ++ (s.power.gpf.filter (fun p => halfOf p == hix h && s.hasMarket p)).map (fun p => .gpf p 2)) ∧
      KeepsRegs s t [⟨.BANK_STATUS, 0, 0⟩, ⟨.COH_STATUS, hix h, 0⟩])) ∧
  (∀ (s : State) (h : Half), Quiet s → Frozen s → s.flag F.COH_STATUS_FLUSHING (hix h) = true → s.power.step = 3 → s.flag F.FC_SRC_LATCHED 791 = true → 
    Gives (.ledgerWritebackCutoff h) s (fun t => t.flag F.COH_STATUS_FLUSHING (hix h) = false ∧
      t.power.cutOff = s.power.cutOff ++ [hix h] ∧
      t.flag F.BANK_ERR_LEDGER_INCOMPLETE = true ∧
      t.get F.FC_SRC_COUNT 791 = saturated 8 (s.get F.FC_SRC_COUNT 791) 1 ∧
      KeepsRegs s t [⟨.COH_STATUS, hix h, 0⟩, ⟨.BANK_ERR, 0, 0⟩, ⟨.FC_SRC, 791, 0⟩] ∧
      t.market = s.market)) ∧
  (∀ (s : State), Quiet s → Frozen s → s.power.step = 3 → s.power.gpf = [] → 
    Gives (.gpfPhase2End) s (fun t => t.flag F.BANK_STATUS_FLUSH2_OK = true ∧
      t.get F.BANK_TIMES_PHASE2 = min 65535 (s.since s.power.phaseAt) ∧
      t.power.step = 4 ∧
      t.power.phaseAt = s.now ∧
      KeepsRegs s t [⟨.BANK_STATUS, 0, 0⟩, ⟨.BANK_TIMES, 0, 0⟩] ∧
      { t with regs := s.regs, power := s.power } = s)) ∧
  (∀ (s : State), Quiet s → Frozen s → s.power.step = 4 → s.power.douses = [] → s.power.ashWaits = false → s.power.warmWaits = none → s.flag F.KEEP_CTRL_COPY_ON_BANK = true → s.flag F.KEEP_CTRL_VALID = true → s.flag F.FC_STATUS_ASH = false → 
    Gives (.bankImageSeal) s (fun t => t.flag F.BANK_STATUS_SEALED = true ∧
      t.flag F.BANK_STATUS_ASH_MARK = false ∧
      t.get F.BANK_GENERATION_V = (s.get F.BANK_GENERATION_V + 1) % 2 ^ F.BANK_GENERATION_V.w ∧
      t.get F.BANK_SEAL_TIME_STEP4 = min 65535 (s.since s.power.phaseAt) ∧
      t.get F.BANK_SEAL_TIME_TO_SEAL = min 65535 (s.since s.power.reference) ∧
      t.power.sealed = .sealedImage ∧
      t.power.step = 5 ∧
      t.power.keepWait = true ∧
      KeepsRegs s t [⟨.BANK_STATUS, 0, 0⟩, ⟨.BANK_GENERATION, 0, 0⟩, ⟨.BANK_SEAL_TIME, 0, 0⟩] ∧
      t.msgs = s.msgs ∧
      t.out = s.out))

/-- Supplies, wakes and kindling: what each command leaves (R541, R553, R554, R555, R556, R557, R608, R610). Clauses of it rest on the model's choices: log entries 50, 56, 59, 155. -/
def Obligations.SuppliesAndKindling : Prop :=
  (∀ (s : State), Quiet s → Frozen s → s.power.keepWait = true → (∀ x ∈ s.resetHalves, x < 2) → s.rung = rungBanking → s.msgs = [] → s.market = {} → s.seamUp = false → (∀ x : Fin 8, s.rlState x.val = rlFree) → (∀ k : Fin 4, s.txState k.val = txFree) → s.sessions = [] → s.ops = [] → 
    Gives (.keepCopyDone .done) s (fun t => t.out.contains (.gpf (s.get F.KEEP_CTRL_PORT) 2) = true ∧
      t.rung = rungBanked ∧
      t.flag F.BANK_STATUS_KEEP_OK = true ∧
      (t.power.copies = s.power.copies.filter (fun e => e.1 != s.get F.BANK_GENERATION_V % 2) ++ [(s.get F.BANK_GENERATION_V % 2, (s.get F.BANK_GENERATION_V, s.imageOf))]) ∧
      t.power.keepWait = false ∧
      t.power.step = 0 ∧
      t.resetHalves = [0, 1] ∧
      t.hearthDown = true)) ∧
  (∀ (s : State), Quiet s → Frozen s → s.rung = rungBanked → s.sessions = [] → 
    Gives (.mainSupplyLost) s (fun t => t.rung = rungEmber ∧
      t.power.mains = false ∧
      t.hearth.repairs = [] ∧
      KeepsRegs s t ([⟨.PWR_STATE, 0, 0⟩, ⟨.IA_PENDING, 8, 0⟩] ++ (s.regs.filter (fun e => decide (e.1.reg = .SP_REPAIR))).map Prod.fst) ∧
      t.mem = s.mem)) ∧
  (∀ (s : State) (k : KindleIn), Quiet s → Frozen s → s.rung = rungEmber → s.power.vbank = true → s.flag F.FC_STATUS_ASH = false → s.flash.actions = [] → s.power.sealed = .sealedImage → s.power.captured = true → s.flag F.BANK_STATUS_ASH_MARK = false → k.store = .good → (∀ k : Fin 4, s.txState k.val = txFree) → (∀ x : Fin 8, s.rlState x.val = rlFree) → s.txns.fw = [] → s.sec.advancing = false → (∀ x ∈ s.resetHalves, x < 2) → (∀ p : Port, s.flag F.PORT_SLOT_VALID p.val = false) → s.sessions = [] → s.ops = [] → 
    Gives (.mainSupplyGood k) s (fun t => t.rung = rungKindling ∧
      t.get F.RST_CAUSE_V = 6 ∧
      t.get F.KINDLE_STATUS_FROM = 3 ∧
      t.get F.KINDLE_STATUS_IMAGE = 0 ∧
      t.hearthDown = false ∧
      t.resetHalves = [] ∧
      t.power.verifying = true ∧
      t.mem = s.mem ∧
      t.power.mains = true)) ∧
  (∀ (s : State) (k : KindleIn), Quiet s → Frozen s → s.rung = rungBanked → s.flag F.PWR_CTRL_WAKE_MCTP = true → s.flag F.FC_STATUS_ASH = false → s.power.sealed = .sealedImage → s.power.captured = true → s.flag F.BANK_STATUS_ASH_MARK = false → k.store = .good → (∀ k : Fin 4, s.txState k.val = txFree) → (∀ x : Fin 8, s.rlState x.val = rlFree) → s.txns.fw = [] → s.sec.advancing = false → (∀ x ∈ s.resetHalves, x < 2) → (∀ p : Port, s.flag F.PORT_SLOT_VALID p.val = false) → s.sessions = [] → s.ops = [] → 
    Gives (.bankedWake .mctp k) s (fun t => t.rung = rungKindling ∧
      t.get F.RST_CAUSE_V = 5 ∧
      t.get F.KINDLE_STATUS_FROM = 2 ∧
      t.get F.KINDLE_STATUS_IMAGE = 0 ∧
      t.hearthDown = false ∧
      t.resetHalves = [] ∧
      t.power.verifying = true ∧
      t.mem = s.mem)) ∧
  (∀ (s : State) (k : KindleIn), Quiet s → Frozen s → s.rung = rungBanked → s.flag F.PWR_CTRL_AUTO_KINDLE = true → s.get F.BANK_STATUS_CAUSE ≠ 4 → (s.put F.FEED_STATUS_PFAIL_LOW 0).anyTrigger = false → s.flag F.FC_STATUS_ASH = false → s.power.sealed = .sealedImage → s.power.captured = true → s.flag F.BANK_STATUS_ASH_MARK = false → k.store = .good → (∀ k : Fin 4, s.txState k.val = txFree) → (∀ x : Fin 8, s.rlState x.val = rlFree) → s.txns.fw = [] → s.sec.advancing = false → (∀ x ∈ s.resetHalves, x < 2) → (∀ p : Port, s.flag F.PORT_SLOT_VALID p.val = false) → s.sessions = [] → s.ops = [] → 
    Gives (.autoKindleTimer k) s (fun t => t.rung = rungKindling ∧
      t.get F.RST_CAUSE_V = 5 ∧
      t.get F.KINDLE_STATUS_FROM = 2 ∧
      t.get F.KINDLE_STATUS_IMAGE = 0 ∧
      t.hearthDown = false ∧
      t.resetHalves = [] ∧
      t.power.verifying = true ∧
      t.mem = s.mem ∧
      t.flag F.FEED_STATUS_PFAIL_LOW = false)) ∧
  (∀ (s : State), Quiet s → Frozen s → s.rung = rungKindling → s.sessions = [] → 
    Gives (.kindlingReachesBlaze []) s (fun t => t.rung = rungBlaze ∧
      t.power.sealed = .live ∧
      t.power.booted = true ∧
      t.get F.KINDLE_TIME_V = min (2 ^ 32 - 1) (s.since s.power.phaseAt) ∧
      t.get F.KINDLE_STATUS_FELL_BACK = 0 ∧
      KeepsRegs s t [⟨.PWR_STATE, 0, 0⟩, ⟨.IA_PENDING, 8, 0⟩, ⟨.KINDLE_TIME, 0, 0⟩, ⟨.KINDLE_STATUS, 0, 0⟩])) ∧
  (∀ (s : State), Quiet s → Frozen s → s.power.verifying = true → 
    Gives (.wesisVerified) s (fun t => t.flag F.ISO_STATUS_WESIS_OK = true ∧
      t.flag F.KINDLE_STATUS_WESIS_VERIFIED = true ∧
      t.power = { s.power with verifying := false } ∧
      KeepsRegs s t [⟨.ISO_STATUS, 0, 0⟩, ⟨.KINDLE_STATUS, 0, 0⟩] ∧
      { t with regs := s.regs, power := s.power } = s)) ∧
  (∀ (s : State), Quiet s → Frozen s → s.power.vbank = false → 
    Gives (.vbankRise) s (fun t => t.mem = [] ∧
      t.msgs = [] ∧
      t.out = s.out ∧
      t.pending = s.pending ∧
      t.flash = s.flash ∧
      t.power.vbank = true ∧
      t.power.sealed = .invalid ∧
      t.power.mains = s.power.mains ∧
      KeepsRegs State.reset t (⟨.BOOT_STATUS, 0, 0⟩ :: (s.regs.filter (fun e => fuseKey e.1)).map Prod.fst))) ∧
  (∀ (s : State), Quiet s → Frozen s → (∀ p : Port, s.linkState p.val = lsDetect ∨ s.linkState p.val = lsDisabled) → (∀ n : SlotId, s.slPowered n.val = false) → 
    Gives (.vbankLoss) s (fun t => t.power = { s.power with vbank := false, sealed := .invalid } ∧
      (t.mem.filter (fun c => !inEmber c.1) = s.mem.filter (fun c => !inEmber c.1)) ∧
      { t with mem := s.mem, power := s.power } = s))

/-- Flue links, configuration messages, slot hold lines, reports, Seam waits and clocks (R32, R33, R34, R46, R592). Clauses of it rest on the model's choices: log entries 45, 182. -/
def Obligations.LinksToTheHearthAndHoldLines : Prop :=
  (∀ (s : State) (h : Half) (e i : BitVec 32), Quiet s → Frozen s → s.txns.lost.contains (hix h) = false → s.power.entering = none → s.rung = rungBlaze → s.flag F.HALF_STATE_HOLD (hix h) = false → s.flag F.HALF_STATE_SPLIT (hix h) = false → e.toNat = s.get F.HALF_EPOCH_V (hix h) → i.toNat = s.get F.HALF_COMMIT_V (hix h) → 
    Gives (.configMessageReceive h e i) s (fun t => t.out = s.out ++ [.configReport (hix h) 0] ∧
      { t with out := s.out } = s)) ∧
  (∀ (s : State) (h : Half) (e i : BitVec 32), Quiet s → Frozen s → s.txns.lost.contains (hix h) = false → s.power.entering = none → s.rung = rungBlaze → s.flag F.HALF_STATE_HOLD (hix h) = false → s.flag F.HALF_STATE_SPLIT (hix h) = false → e.toNat = s.get F.HALF_EPOCH_V (hix h) → i.toNat ≠ s.get F.HALF_COMMIT_V (hix h) → 
    Gives (.configMessageReceive h e i) s (fun t => t.out = s.out ++ [.configReport (hix h) 0x23] ∧
      t.get F.HALF_STALE_V (hix h) = saturated F.HALF_STALE_V.w (s.get F.HALF_STALE_V (hix h)) 1 ∧
      KeepsRegs s t [⟨.HALF_STALE, hix h, 0⟩] ∧
      { t with regs := s.regs, out := s.out } = s)) ∧
  (∀ (s : State) (h : Half), Quiet s → Frozen s → s.hearthDown = false → s.rung = rungBlaze → (∀ x : Fin 8, s.rlState x.val = rlFree) → 
    Gives (.flueHeartbeat h) s (fun t => (t.txns.lost = s.txns.lost.filter (fun x => x != hix h)) ∧
      { t with txns := s.txns } = s)) ∧
  (∀ (s : State) (h : Half), Quiet s → Frozen s → s.resetHalves.contains (hix h) = false → s.flag F.HALF_STATE_HOLD (hix h) = false → s.flag F.FC_SRC_LATCHED (780 + hix h) = true → 
    Gives (.flueSilenceTimeout h) s (fun t => t.txns.lost.contains (hix h) = true ∧
      t.flag F.HALF_STATE_HOLD (hix h) = true ∧
      t.get F.FC_SRC_COUNT (780 + hix h) = saturated 8 (s.get F.FC_SRC_COUNT (780 + hix h)) 1 ∧
      KeepsRegs s t [⟨.HALF_STATE, hix h, 0⟩, ⟨.FC_SRC, 780 + hix h, 0⟩] ∧
      { t with regs := s.regs, txns := s.txns } = s)) ∧
  (∀ (s : State) (n : SlotId) (p : Port), Quiet s → Frozen s → s.portOfSlot n.val = some p.val → s.holdLine n.val = true → s.isHeld p.val = true → s.holds.contains (p.val, .line) = false → s.linkState p.val = lsDetect → 
    Gives (.slotHoldLineAssert n) s (fun t => t.holds = s.holds ++ [(p.val, .line)] ∧
      t.flag F.PORT_STATUS_HELD p.val = true ∧
      KeepsRegs s t [⟨.PORT_STATUS, p.val, 0⟩] ∧
      t.msgs = s.msgs)) ∧
  (∀ (s : State) (n : SlotId) (p : Port), Quiet s → Frozen s → s.portOfSlot n.val = some p.val → s.holdLine n.val = false → s.holds = [(p.val, .line)] → 
    Gives (.slotHoldLineRelease n) s (fun t => t.holds = [] ∧
      t.flag F.PORT_STATUS_HELD p.val = false ∧
      KeepsRegs s t [⟨.PORT_STATUS, p.val, 0⟩] ∧
      { t with regs := s.regs, holds := s.holds } = s)) ∧
  (∀ (s : State) (n : SlotId) (p : Port), Quiet s → Frozen s → s.hearthDown = false → s.portOfSlot n.val = some p.val → s.flag F.SLOT_STATE_LONG_PIN n.val = true → s.flag F.SLOT_STATE_SHORT_PIN n.val = true → 
    Gives (.grateEventReport n) s (fun t => (t.out = s.out ++ (s.passed.filter (fun e => e.2.2 == p.val)).map (fun e => .hotPlug e.1 e.2.1 true)) ∧
      { t with out := s.out, vports := s.vports } = s)) ∧
  (∀ (s : State) (h : Half), Quiet s → Frozen s → s.seamUp = false → s.msgs = [] → 
    Gives (.seamDownHoldExpiry h) s (fun t => (t.buf.seamRefused = s.buf.seamRefused.filter (fun x => x != hix h) ++ [hix h]) ∧
      { t with buf := s.buf } = s)) ∧
  (∀ (s : State), Quiet s → Frozen s → s.flag F.FC_SRC_LATCHED 792 = true → 
    Gives (.fclkLockLoss .east) s (fun t => t.flag F.CLK_STATUS_FCLK_E_LOCK = false ∧
      t.get F.CLK_LOSS_FCLK_E = saturated F.CLK_LOSS_FCLK_E.w (s.get F.CLK_LOSS_FCLK_E) 1 ∧
      t.get F.FC_SRC_COUNT 792 = saturated 8 (s.get F.FC_SRC_COUNT 792) 1 ∧
      OnlyRegs s t [⟨.CLK_STATUS, 0, 0⟩, ⟨.CLK_LOSS, 0, 0⟩, ⟨.FC_SRC, 792, 0⟩]))

/-- Cold, warm and Hearth-only resets: what each command leaves (R40, R45, R49, R560, R589, R622). Clauses of it rest on the model's choices: log entries 21, 45, 46. -/
def Obligations.WarmAndHearthResets : Prop :=
  (∀ (s : State), Quiet s → Frozen s → 
    Gives (.coldReset) s (fun t => t.mem = [] ∧
      t.msgs = [] ∧
      t.sessions = [] ∧
      t.out = s.out ∧
      t.flash = s.flash ∧
      t.power.mains = true ∧
      t.rung = rungBlaze ∧
      KeepsRegs State.reset t (⟨.BOOT_STATUS, 0, 0⟩ :: (s.regs.filter (fun e => fuseKey e.1)).map Prod.fst))) ∧
  (∀ (s : State) (v : BitVec 16), Quiet s → Frozen s → s.power.booted = false → s.power.mains = true → s.flash.actions = [] → (∀ p : Port, s.flag F.PORT_SLOT_VALID p.val = false) → (∀ x ∈ s.resetHalves, x < 2) → (∀ k : Fin 4, s.txState k.val = txFree) → 
    Gives (.coldBootComplete ⟨1, false, false, v, [], [], .none⟩) s (fun t => t.power.booted = true ∧
      t.power.sealed = .live ∧
      t.resetHalves = [] ∧
      t.get F.BOOT_STATUS_RUNNING = 1 ∧
      t.get F.FW_SECURITY_RUNNING = v.toNat ∧
      t.flag F.ISO_STATUS_WESIS_OK = true ∧
      t.flag F.CLK_STATUS_FCLK_E_LOCK = true ∧
      t.flag F.CLK_STATUS_FCLK_W_LOCK = true ∧
      t.get F.KINDLE_STATUS_FROM = 0 ∧
      t.get F.KINDLE_STATUS_IMAGE = 2 ∧
      t.get F.HALF_EPOCH_V 0 = s.get F.EPOCH_V ∧
      t.get F.HALF_EPOCH_V 1 = s.get F.EPOCH_V)) ∧
  (∀ (s : State), Quiet s → Frozen s → s.warmBusy = false → s.rung = rungBlaze → s.flag F.COH_STATUS_FLUSHING 0 = false → s.flag F.COH_STATUS_FLUSHING 1 = false → s.flag F.FC_STATUS_ASH = false → s.power.resetLow = false → s.sec.advancing = false → s.resetPorts = [] → s.txns.fw = [] → (∀ p : Port, s.flag F.PORT_SLOT_VALID p.val = false) → (∀ x ∈ s.resetHalves, x < 2) → s.power.sealed ≠ .invalid → s.msgs = [] → s.market.cache = [] → s.market.flows = [] → s.seamUp = false → s.inbound = [] → (∀ k : Fin 4, s.txState k.val = txFree) → (∀ x : Fin 8, s.rlState x.val = rlFree) → (∀ c : Fin 28, s.ch c.val = chIdle) → s.sessions = [] → s.ops = [] → 
    Gives (.rstWarm) s (fun t => t.rung = rungKindling ∧
      t.get F.RST_CAUSE_V = 2 ∧
      t.get F.RST_COUNT_WARM = saturated F.RST_COUNT_WARM.w (s.get F.RST_COUNT_WARM) 1 ∧
      t.hearthDown = false ∧
      t.resetHalves = [] ∧
      t.sessions = [] ∧
      t.get F.KINDLE_STATUS_FROM = 1 ∧
      t.flag F.HALF_STATE_HOLD 0 = false ∧
      t.flag F.HALF_STATE_HOLD 1 = false)) ∧
  (∀ (s : State) (k : KindleIn), Quiet s → Frozen s → s.warmBusy = false → s.rung = rungBlaze → s.flag F.COH_STATUS_FLUSHING 0 = false → s.flag F.COH_STATUS_FLUSHING 1 = false → s.flag F.FC_STATUS_ASH = false → s.power.resetLow = false → s.sec.advancing = false → s.resetPorts = [] → s.txns.fw = [] → (∀ p : Port, s.flag F.PORT_SLOT_VALID p.val = false) → (∀ x ∈ s.resetHalves, x < 2) → s.power.sealed ≠ .invalid → s.msgs = [] → s.market.cache = [] → s.market.flows = [] → s.seamUp = false → s.inbound = [] → (∀ k : Fin 4, s.txState k.val = txFree) → (∀ x : Fin 8, s.rlState x.val = rlFree) → (∀ c : Fin 28, s.ch c.val = chIdle) → s.sessions = [] → s.ops = [] → 
    Gives (.resetNAssert k) s (fun t => t.get F.RST_CAUSE_V = 1 ∧
      t.get F.RST_COUNT_WARM = saturated F.RST_COUNT_WARM.w (s.get F.RST_COUNT_WARM) 1 ∧
      t.power.resetLow = true ∧
      t.hearthDown = true ∧
      t.resetHalves = [0, 1] ∧
      t.sessions = [])) ∧
  (∀ (s : State), Quiet s → Frozen s → s.power.resetLow = true → s.power.warmWaits = none → s.flag F.FC_STATUS_ASH = false → s.rung = rungBlaze → (∀ p : Port, s.flag F.PORT_SLOT_VALID p.val = false) → (∀ x ∈ s.resetHalves, x < 2) → s.power.sealed ≠ .invalid → (∀ x : Fin 8, s.rlState x.val = rlFree) → s.sessions = [] → s.ops = [] → 
    Gives (.resetNRelease) s (fun t => t.power.resetLow = false ∧
      t.hearthDown = false ∧
      t.resetHalves = [] ∧
      t.rung = rungKindling ∧
      t.get F.KINDLE_STATUS_FROM = 1 ∧
      t.mem = s.mem)) ∧
  (∀ (s : State), Quiet s → Frozen s → s.flag F.COH_STATUS_FLUSHING 0 = false → s.flag F.COH_STATUS_FLUSHING 1 = false → s.flag F.FC_STATUS_ASH = false → s.power.resetLow = false → s.sec.advancing = false → s.resetPorts = [] → s.txns.fw = [] → (∀ p : Port, s.flag F.PORT_SLOT_VALID p.val = false) → (∀ x ∈ s.resetHalves, x < 2) → s.power.sealed ≠ .invalid → s.msgs = [] → s.market.cache = [] → s.market.flows = [] → s.seamUp = false → s.inbound = [] → (∀ k : Fin 4, s.txState k.val = txFree) → (∀ x : Fin 8, s.rlState x.val = rlFree) → (∀ c : Fin 28, s.ch c.val = chIdle) → s.sessions = [] → s.ops = [] → s.power.warmWaits = some 2 → 
    Gives (.warmResetDeferLimit) s (fun t => t.rung = rungKindling ∧
      t.get F.RST_CAUSE_V = 2 ∧
      t.get F.RST_COUNT_WARM = saturated F.RST_COUNT_WARM.w (s.get F.RST_COUNT_WARM) 1 ∧
      t.hearthDown = false ∧
      t.resetHalves = [] ∧
      t.sessions = [] ∧
      t.get F.KINDLE_STATUS_FROM = 1 ∧
      t.flag F.HALF_STATE_HOLD 0 = false ∧
      t.flag F.HALF_STATE_HOLD 1 = false ∧
      t.power.warmWaits = none ∧
      t.power.step = 0)) ∧
  (∀ (s : State), Quiet s → Frozen s → s.hearthBusy = false → s.txns.fw = [] → s.flag F.FC_SRC_LATCHED 780 = true → s.flag F.FC_SRC_LATCHED 781 = true → s.flag F.HALF_STATE_HOLD 0 = false → s.flag F.HALF_STATE_HOLD 1 = false → (∀ k : Fin 4, s.txState k.val = txFree) → s.sessions = [] → s.ops = [] → 
    Gives (.rstHearth) s (fun t => t.hearthDown = true ∧
      t.get F.RST_CAUSE_V = 3 ∧
      t.get F.RST_COUNT_HEARTH = saturated F.RST_COUNT_HEARTH.w (s.get F.RST_COUNT_HEARTH) 1 ∧
      t.txns.lost = [0, 1] ∧
      t.flag F.HALF_STATE_HOLD 0 = true ∧
      t.flag F.HALF_STATE_HOLD 1 = true ∧
      t.msgs = s.msgs ∧
      t.holds = s.holds ∧
      t.resetHalves = s.resetHalves))

/-- Half and port resets, and their release: what each command leaves (R40, R46, R107, R589, R622). Clauses of it rest on the model's choices: log entry 46. -/
def Obligations.HalfAndPortResets : Prop :=
  (∀ (s : State), Quiet s → Frozen s → s.halfBusy 0 = false → s.resetPorts = [] → s.regionSlices = [] → s.msgs = [] → s.market.cache = [] → s.market.flows = [] → s.seamUp = false → s.inbound = [] → (∀ k : Fin 4, s.txState k.val = txFree) → (∀ x : Fin 8, s.rlState x.val = rlFree) → (∀ c : Fin 28, s.ch c.val = chIdle) → s.sessions = [] → s.ops = [] → 
    Gives (.rstHalfE) s (fun t => t.resetHalves = s.resetHalves ++ [0] ∧
      (∀ p : Port, halfOf p.val = 0 → t.linkState p.val = t.restState p.val) ∧
      (∀ p : Port, halfOf p.val ≠ 0 → t.linkState p.val = s.linkState p.val) ∧
      t.msgs = [] ∧
      t.mem = s.mem ∧
      t.sessions = [] ∧
      t.hearthDown = s.hearthDown)) ∧
  (∀ (s : State), Quiet s → Frozen s → s.halfBusy 1 = false → s.resetPorts = [] → s.regionSlices = [] → s.msgs = [] → s.market.cache = [] → s.market.flows = [] → s.seamUp = false → s.inbound = [] → (∀ k : Fin 4, s.txState k.val = txFree) → (∀ x : Fin 8, s.rlState x.val = rlFree) → (∀ c : Fin 28, s.ch c.val = chIdle) → s.sessions = [] → s.ops = [] → 
    Gives (.rstHalfW) s (fun t => t.resetHalves = s.resetHalves ++ [1] ∧
      (∀ p : Port, halfOf p.val = 1 → t.linkState p.val = t.restState p.val) ∧
      (∀ p : Port, halfOf p.val ≠ 1 → t.linkState p.val = s.linkState p.val) ∧
      t.msgs = [] ∧
      t.mem = s.mem ∧
      t.sessions = [] ∧
      t.hearthDown = s.hearthDown)) ∧
  (∀ (s : State) (h : Half), Quiet s → Frozen s → s.resetHalves = [hix h] → Word.bits (s.rd .FC_DOUSED) (hix h) 1 = 0 → s.flag F.FC_STATUS_ASH = false → s.hearthDown = false → s.txns.lost = [] → s.power.resetLow = false → (∀ p : Port, s.flag F.PORT_SLOT_VALID p.val = false) → (∀ k : Fin 4, s.txState k.val = txFree) → (∀ x : Fin 8, s.rlState x.val = rlFree) → s.sessions = [] → s.ops = [] → 
    Gives (.halfResetRelease h) s (fun t => t.resetHalves = [] ∧
      t.get F.HALF_EPOCH_V (hix h) = s.get F.EPOCH_V ∧
      t.get F.HALF_COMMIT_V (hix h) = s.get F.COMMIT_ID_V ∧
      t.get F.HALF_EPOCH_V (1 - hix h) = s.get F.HALF_EPOCH_V (1 - hix h) ∧
      (∀ p : Port, halfOf p.val = hix h → t.linkState p.val = s.restState p.val) ∧
      t.msgs = s.msgs)) ∧
  (∀ (s : State) (p : Port), Quiet s → Frozen s → s.portBusy p.val = false → s.isHostPort p.val = true → s.msgs = [] → s.market = {} → s.flag F.MARGIN_STATUS_BUSY p.val = false → s.holds = [] → s.sessions = [] → s.ops = [] → 
    Gives (.rstPort p) s (fun t => t.resetPorts = s.resetPorts ++ [p.val] ∧
      t.linkState p.val = t.restState p.val ∧
      t.get F.PORT_CFG_ROLE p.val = s.get F.PORT_CFG_ROLE p.val ∧
      t.flag F.PORT_STATUS_HELD p.val = false ∧
      t.get F.IDE_STATUS_RX p.val = (resetWord ⟨.IDE_STATUS, p.val, 0⟩).toNat / 2 ^ F.IDE_STATUS_RX.lo % 4 ∧
      t.mem = s.mem ∧
      t.msgs = [])) ∧
  (∀ (s : State) (p : Port), Quiet s → Frozen s → s.resetPorts = [p.val] → s.sessions = [] → s.ops = [] → 
    Gives (.portResetRelease p) s (fun t => t.resetPorts = [] ∧
      t.linkState p.val = s.restState p.val ∧
      KeepsRegs s t [⟨.PHY_STATUS, p.val, 0⟩, ⟨.MARGIN_STATUS, p.val, 0⟩, ⟨.IA_PENDING, (96 + p.val) / 32, 0⟩] ∧
      t.msgs = s.msgs))

/-- Counter units, snapshots and the host view: what each command leaves (R566, R567, R569, R570, R571, R574). Clauses of it rest on the model's choices: log entry 127. -/
def Obligations.CountersAndSnapshots : Prop :=
  (∀ (s : State) (u : Fin 229), Quiet s → 
    Gives (.pmuReset u) s (fun t => (∀ i : Fin 8, t.get F.PMU_COUNT_V u.val i.val = 0) ∧
      t.get F.PMU_CYCLE_V u.val = 0 ∧
      (∀ k : Key, (isCount k.reg && k.i == u.val) = false → t.rd k.reg k.i k.j = s.rd k.reg k.i k.j) ∧
      { t with regs := s.regs } = s)) ∧
  (∀ (s : State) (u : Fin 229) (b : Bool), Quiet s → 
    Gives (.pmuFreeze u b) s (fun t => t.flag F.PMU_CTRL_FREEZE u.val = b ∧
      OnlyRegs s t [⟨.PMU_CTRL, u.val, 0⟩])) ∧
  (∀ (s : State) (b : Bool), Quiet s → 
    Gives (.freezeAll b) s (fun t => t.flag F.PMU_GLOBAL_FREEZE_ALL = b ∧
      OnlyRegs s t [⟨.PMU_GLOBAL, 0, 0⟩])) ∧
  (∀ (s : State), Quiet s → 
    Gives (.resetAll) s (fun t => (∀ u : Fin 229, ∀ i : Fin 8, t.get F.PMU_COUNT_V u.val i.val = 0) ∧
      (∀ u : Fin 229, t.get F.PMU_CYCLE_V u.val = 0) ∧
      (∀ k : Key, isCount k.reg = false → t.rd k.reg k.i k.j = s.rd k.reg k.i k.j) ∧
      { t with regs := s.regs } = s)) ∧
  (∀ (s : State) (u : Fin 229) (i : Fin 8) (r : BitVec 48), Quiet s → s.pmuRuns u.val = true → s.flag F.PMU_EVSEL_EN u.val i.val = true → 
    Gives (.counterOverflow u i r) s (fun t => t.get F.PMU_COUNT_V u.val i.val = r.toNat ∧
      Word.bits (t.rd .PMU_OVF u.val) i.val 1 = 1 ∧
      KeepsRegs s t [⟨.PMU_COUNT, u.val, i.val⟩, ⟨.PMU_OVF, u.val, 0⟩] ∧
      { t with regs := s.regs, agg := s.agg } = s)) ∧
  (∀ (s : State), Quiet s → s.flag F.SNAP_CTRL_EN = true → s.below = [] → s.snapBusy = false → 
    Gives (.snapshotTake) s (fun t => t.telem = { s.telem with seq := s.telem.seq + 1, latched := some (s.telem.seq + 1, s.now, s.snapUnits 0) } ∧
      { t with telem := s.telem } = s)) ∧
  (∀ (s : State) (n m a : Nat) (e : List Nat), Quiet s → s.telem.latched = some (n, m, e) → s.hearthDown = false → a = s.get F.SNAP_RING_BASE_V * 64 + 640 * s.get F.SNAP_HEAD_V → 0x10000000 ≤ a → a + 640 ≤ 0x11E00000 → s.get F.SNAP_HEAD_V + 1 < s.get F.SNAP_RING_COUNT_V → (∀ k : Fin 10, s.windowOf 0 95 (a + 64 * k.val) = none) → e.length = 36 → s.flag F.PMU_GLOBAL_FREEZE_ALL = true → 
    Gives (.snapshotMarkReceive) s (fun t => t.telem = { s.telem with latched := none } ∧
      t.mem = memPut s.mem a (s.snapBytes n m e (s.snapUnits 1)) ∧
      t.get F.SNAP_HEAD_V = s.get F.SNAP_HEAD_V + 1 ∧
      t.flag F.SNAP_CTRL_EN = s.flag F.SNAP_CTRL_EN ∧
      t.msgs = s.msgs)) ∧
  (∀ (s : State) (st : StallId), Quiet s → s.hearthDown = false → s.flag F.STALL_BIND_BOUND st.val = true → 
    Gives (.hostCounterRefresh st) s (fun t => (numGet [] st.val t.telem.shown = [0, 1, 2, 3].map (fun k => (s.stallCounts st.val).getD k 0 - (numGet [] st.val s.telem.baseline).getD k 0)) ∧
      { t with telem := s.telem } = s))

/-- The wear record, the interrupt aggregator, the clocks and the flash interface: what each command leaves (R577, R578, R579, R592, R593, R597). Clauses of it rest on the model's choices: log entries 74, 76. -/
def Obligations.WearInterruptsAndClocks : Prop :=
  (∀ (s : State) (k : Fin 8) (e : BitVec 16) (v : BitVec 32), Quiet s → s.rung = rungBlaze → s.hearthDown = false → s.flag F.FC_STATUS_ASH = false → s.flag F.FEED_STATUS_BANK_REQ = false → s.sessions = [] → v.toNat ≠ 0 → wearMet k.val v.toNat false = false → s.flash.samples.length < 61440 → 
    Gives (.wearSample k e v false) s (fun t => t.flash = { s.flash with samples := s.flash.samples ++ [{ life := s.flash.life / 10 ^ 9, kind := k.val, action := 0, element := e.toNat, value := v.toNat, threshold := wearThreshold k.val, epoch := s.get F.EPOCH_V }] } ∧
      { t with flash := s.flash } = s)) ∧
  (∀ (s : State) (k : Fin 8) (e : BitVec 16) (v : BitVec 32), Quiet s → s.rung = rungBlaze → s.hearthDown = false → s.flag F.FC_STATUS_ASH = false → s.flag F.FEED_STATUS_BANK_REQ = false → s.sessions = [] → v.toNat ≠ 0 → wearMet k.val v.toNat true = true → s.flag F.WEAR_POLICY_AUTO_RETIRE = false → s.flash.samples.length < 61440 → s.flash.actions.length < 4096 → 
    Gives (.wearSample k e v true) s (fun t => t.flash = { s.flash with samples := s.flash.samples ++ [{ life := s.flash.life / 10 ^ 9, kind := k.val, action := 0, element := e.toNat, value := v.toNat, threshold := wearThreshold k.val, epoch := s.get F.EPOCH_V }], actions := s.flash.actions ++ [{ life := s.flash.life / 10 ^ 9, kind := k.val, action := 4, element := e.toNat, value := v.toNat, threshold := wearThreshold k.val, epoch := s.get F.EPOCH_V }] } ∧
      { t with flash := s.flash } = s)) ∧
  (∀ (s : State) (n : Fin 2048), Quiet s → irqLatched n.val = true → 
    Gives (.iaPendingClear n) s (fun t => t.irqPending n.val = false ∧
      KeepsRegs s t [⟨.IA_PENDING, n.val / 32, 0⟩] ∧
      { t with regs := s.regs, agg := s.agg } = s)) ∧
  (∀ (s : State) (n : Fin 2048), Quiet s → 1024 ≤ n.val → 
    Gives (.iaSoftSet n) s (fun t => t.irqPending n.val = true ∧
      KeepsRegs s t [⟨.IA_PENDING, n.val / 32, 0⟩] ∧
      { t with regs := s.regs, agg := s.agg } = s)) ∧
  (∀ (s : State) (n : Fin 2048), Quiet s → 1024 ≤ n.val → 
    Gives (.iaSoftClear n) s (fun t => t.irqPending n.val = false ∧
      KeepsRegs s t [⟨.IA_PENDING, n.val / 32, 0⟩] ∧
      { t with regs := s.regs, agg := s.agg } = s)) ∧
  (∀ (s : State) (v : BitVec 32), Quiet s → s.rung = rungBlaze → 
    Gives (.kclkCalibrationRefresh v) s (fun t => t.get F.CLK_KCLK_CAL_V = v.toNat % 2 ^ F.CLK_KCLK_CAL_V.w ∧
      OnlyRegs s t [⟨.CLK_KCLK_CAL, 0, 0⟩])) ∧
  (∀ (s : State), Quiet s → 
    Gives (.xspiOperationComplete) s (fun t => t.irqPending 267 = true ∧
      KeepsRegs s t [⟨.IA_PENDING, 8, 0⟩] ∧
      { t with regs := s.regs, agg := s.agg } = s))

/-- Hearth cores: loads, stores, barriers and reservations: what each command leaves (R467, R471, R473, R475, R477, R481, R482, R491). Clauses of it rest on the model's choices: log entries 5, 94, 95, 137. -/
def Obligations.CoresAndControlMemory : Prop :=
  (∀ (s : State) (c : Fin 17) (a : BitVec 64) (n : Fin 65), Quiet s → Frozen s → s.agentRuns (.core c) = true → s.core c.val = {} → s.queuedOf c.val = [] → inScratchpad a.toNat = true → inSealed a.toNat = false → 1 ≤ n.val → 
    Gives (.coreLoad c a n .good) s (fun t => t.out = s.out ++ [.loaded c.val (leNat (memGet s.mem a.toNat n.val))] ∧
      t.mem = s.mem ∧
      (t.core c.val).ops = [] ∧
      KeepsRegs s t [⟨.SP_BANK_CTRL, bankOf a.toNat, 0⟩])) ∧
  (∀ (s : State) (c : Fin 17) (a : BitVec 64) (d : List Byte), Quiet s → Frozen s → s.agentRuns (.core c) = true → s.core c.val = {} → s.queuedOf c.val = [] → 
    Gives (.coreStore c a d false) s (fun t => (t.core c.val).buffer = [{ addr := a.toNat, data := d, posted := false }] ∧
      (t.core c.val).ops = [] ∧
      t.mem = s.mem ∧
      { t with hearth := s.hearth } = s)) ∧
  (∀ (s : State) (c : Fin 17) (b : StoreEntry), Quiet s → Frozen s → s.hearth.cores = [(c.val, { buffer := [b] })] → b.issued = false → b.posted = false → farHalf b.addr = none → s.earlyAck b.addr false = false → 
    Gives (.storeBufferIssue c) s (fun t => t.hearth.queued = s.hearth.queued ++ [{ core := c.val, addr := b.addr, data := b.data, posted := false, retired := false }] ∧
      (t.core c.val).buffer = [{ b with issued := true }] ∧
      t.mem = s.mem ∧
      { t with hearth := s.hearth } = s)) ∧
  (∀ (s : State) (q : QueuedStore), Quiet s → Frozen s → s.hearth.queued = [q] → s.hearth.cores = [] → q.core < 17 → q.retired = true → q.applied = false → 1 ≤ q.data.length → q.data.length ≤ 64 → inScratchpad q.addr = true → 
    Gives (.storeTakesEffect (targetOf q.addr)) s (fun t => t.mem = memPut s.mem q.addr q.data ∧
      t.hearth.queued = [] ∧
      (∀ x : Fin 4096, (x.val < q.data.length → memByte t.mem (q.addr + x.val) = q.data.getD x.val 0)) ∧
      KeepsRegs s t [⟨.SP_BANK_CTRL, bankOf q.addr, 0⟩] ∧
      t.out = s.out)) ∧
  (∀ (s : State) (c : Fin 17), Quiet s → Frozen s → s.agentRuns (.core c) = true → s.core c.val = {} → s.queuedOf c.val = [] → 
    Gives (.fence c) s (fun t => t.out = s.out ++ [.fenced c.val] ∧
      (t.core c.val).ops = [] ∧
      t.mem = s.mem)) ∧
  (∀ (s : State) (c : Fin 17) (a : BitVec 64) (n : Fin 65), Quiet s → Frozen s → s.agentRuns (.core c) = true → s.core c.val = {} → s.queuedOf c.val = [] → inScratchpad a.toNat = true → inSealed a.toNat = false → 1 ≤ n.val → 
    Gives (.reserveLoad c a n .good) s (fun t => t.out = s.out ++ [.loaded c.val (leNat (memGet s.mem a.toNat n.val))] ∧
      (t.core c.val).reserved = some (a.toNat / 64) ∧
      (t.hearth.sems = s.hearth.sems.filter (fun e => e.1 != c.val)) ∧
      t.mem = s.mem)) ∧
  (∀ (s : State) (c : Fin 17) (a : BitVec 64) (d : List Byte), Quiet s → Frozen s → s.agentRuns (.core c) = true → s.core c.val = { reserved := some (a.toNat / 64) } → s.queuedOf c.val = [] → 1 ≤ d.length → d.length ≤ 64 → inScratchpad a.toNat = true → inSealed a.toNat = false → 
    Gives (.conditionalStore c a d false) s (fun t => t.out = s.out ++ [.condStored c.val true] ∧
      t.mem = memPut s.mem a.toNat d ∧
      (t.core c.val).reserved = none ∧
      KeepsRegs s t [⟨.SP_BANK_CTRL, bankOf a.toNat, 0⟩])) ∧
  (∀ (s : State) (c : Fin 17) (a : BitVec 64) (d : List Byte), Quiet s → Frozen s → s.agentRuns (.core c) = true → s.core c.val = {} → s.queuedOf c.val = [] → isNormal a.toNat = true → 
    Gives (.conditionalStore c a d false) s (fun t => t.out = s.out ++ [.condStored c.val false] ∧
      t.mem = s.mem ∧
      t.get F.CM_RESV_FAILS_V = saturated F.CM_RESV_FAILS_V.w (s.get F.CM_RESV_FAILS_V) 1)) ∧
  (∀ (s : State), Quiet s → Frozen s → 
    Gives (.cmImpreciseClr) s (fun t => t.flag F.CM_IMPRECISE_ADDR_VALID = false ∧
      OnlyRegs s t [⟨.CM_IMPRECISE_ADDR, 0, 0⟩])) ∧
  (∀ (s : State) (c : Fin 17), Quiet s → Frozen s → 
    Gives (.semaphoreExpiry c) s (fun t => (t.hearth.sems = s.hearth.sems.filter (fun e => e.1 != c.val)) ∧
      { t with hearth := s.hearth } = s))

/-- Flue bridge answers, scratchpad banks, cores and the watchdog: what each command leaves (R456, R457, R461, R462, R464, R480). Clauses of it rest on the model's choices: log entries 80, 93. -/
def Obligations.FlueBridgeBanksAndWatchdog : Prop :=
  (∀ (s : State) (h : Half) (q : QueuedStore), Quiet s → Frozen s → s.hearth.queued = [q] → s.hearth.cores = [] → farHalf q.addr = some (hix h) → q.applied = true → q.failed = false → q.retired = true → 
    Gives (.flueResponse (.hearth h)) s (fun t => t.hearth.queued = [] ∧
      { t with hearth := s.hearth } = s)) ∧
  (∀ (s : State) (h : Half) (q : QueuedStore), Quiet s → Frozen s → s.hearth.queued = [q] → s.hearth.cores = [] → farHalf q.addr = some (hix h) → q.posted = false → q.retired = true → s.flag F.FC_SRC_LATCHED (780 + hix h) = true → s.flag F.CM_IMPRECISE_ADDR_VALID = false → 
    Gives (.flueTransferTimeout (.half h)) s (fun t => t.hearth.queued = [] ∧
      t.flag F.FLUE_ERR_TIMEOUT (hix h) = true ∧
      t.get F.FLUE_TIMEOUT_COUNT_V (hix h) = saturated F.FLUE_TIMEOUT_COUNT_V.w (s.get F.FLUE_TIMEOUT_COUNT_V (hix h)) 1 ∧
      t.get F.CM_IMPRECISE_COUNT_V = saturated F.CM_IMPRECISE_COUNT_V.w (s.get F.CM_IMPRECISE_COUNT_V) 1 ∧
      t.flag F.CM_IMPRECISE_ADDR_VALID = true ∧
      t.get F.CM_IMPRECISE_ADDR_CORE = q.core % 2 ^ F.CM_IMPRECISE_ADDR_CORE.w ∧
      t.get F.FC_SRC_COUNT (780 + hix h) = saturated 8 (s.get F.FC_SRC_COUNT (780 + hix h)) 1 ∧
      t.mem = s.mem)) ∧
  (∀ (s : State) (c : Fin 17), Quiet s → Frozen s → s.coreActive c.val = true → s.coresActive = 16 → s.coresRetired = 0 → s.hearth.retiring = [] → 
    Gives (.coreRetire c) s (fun t => t.hearth.retiring = [c.val] ∧
      { t with hearth := s.hearth } = s)) ∧
  (∀ (s : State), Quiet s → Frozen s → 
    Gives (.wdtKick 0x5A5A) s (fun t => t.hearth.kicked = s.now ∧
      { t with hearth := s.hearth } = s)) ∧
  (∀ (s : State), Quiet s → Frozen s → s.flag F.WDT_CTRL_EN = true → s.rung = rungBlaze → s.hearthDown = false → s.txns.fw = [] → s.flag F.FC_SRC_LATCHED 780 = true → s.flag F.FC_SRC_LATCHED 781 = true → s.flag F.FC_SRC_LATCHED 787 = true → s.flag F.HALF_STATE_HOLD 0 = false → s.flag F.HALF_STATE_HOLD 1 = false → (∀ k : Fin 4, s.txState k.val = txFree) → s.sessions = [] → s.ops = [] → 
    Gives (.watchdogExpiry) s (fun t => t.hearthDown = true ∧
      t.get F.RST_CAUSE_V = 4 ∧
      t.get F.WDT_RESETS_V = saturated F.WDT_RESETS_V.w (s.get F.WDT_RESETS_V) 1 ∧
      t.get F.RST_COUNT_HEARTH = saturated F.RST_COUNT_HEARTH.w (s.get F.RST_COUNT_HEARTH) 1 ∧
      t.txns.lost = [0, 1] ∧
      t.flag F.HALF_STATE_HOLD 0 = true ∧
      t.flag F.HALF_STATE_HOLD 1 = true ∧
      t.msgs = s.msgs)) ∧
  (∀ (s : State) (b : Fin 16), Quiet s → Frozen s → s.flag F.SP_BANK_CTRL_RETAIN b.val = true → 
    Gives (.bankRetentionEntry b) s (fun t => t.flag F.SP_BANK_CTRL_RETAINED b.val = true ∧
      KeepsRegs s t [⟨.SP_BANK_CTRL, b.val, 0⟩] ∧
      (∀ e ∈ t.hearth.cores, ∀ g ∈ e.2.reserved, (inScratchpad (64 * g) && bankOf (64 * g) == b.val) = false) ∧
      t.mem = s.mem)) ∧
  (∀ (s : State) (b : Fin 16), Quiet s → Frozen s → s.flag F.SP_BANK_CTRL_RETAINED b.val = true → 
    Gives (.bankRetentionWake b) s (fun t => t.flag F.SP_BANK_CTRL_RETAINED b.val = false ∧
      OnlyRegs s t [⟨.SP_BANK_CTRL, b.val, 0⟩])) ∧
  (∀ (s : State) (b : Fin 16) (c : Fin 1024), Quiet s → Frozen s → s.flag F.SP_BANK_CTRL_REPAIR_BUSY b.val = false → c.val ≤ 623 → 0 < s.get (spareField c.val) b.val → s.hearth.used.contains b.val = true → 
    Gives (.softRepair b c) s (fun t => t.hearth.repairs = s.hearth.repairs ++ [(b.val, c.val)] ∧
      t.get (spareField c.val) b.val = s.get (spareField c.val) b.val - 1 ∧
      t.flag F.SP_BANK_CTRL_REPAIR_BUSY b.val = true ∧
      KeepsRegs s t [⟨.SP_REPAIR, b.val, 0⟩, ⟨.SP_BANK_CTRL, b.val, 0⟩] ∧
      { t with regs := s.regs, hearth := s.hearth } = s)) ∧
  (∀ (s : State) (b : Fin 16), Quiet s → Frozen s → 
    Gives (.softRepairDone b) s (fun t => t.flag F.SP_BANK_CTRL_REPAIR_BUSY b.val = false ∧
      OnlyRegs s t [⟨.SP_BANK_CTRL, b.val, 0⟩]))

/-- Tamper, the debug lock, JTAG, SPDM and register writes: what each command leaves (R13, R411, R414, R416, R418, R420, R422). Clauses of it rest on the model's choices: log entries 47, 97, 138. -/
def Obligations.SecurityAndRegisterWrites : Prop :=
  (∀ (s : State) (n : Fin 4), Quiet s → Frozen s → s.flag F.FC_SRC_LATCHED 789 = true → (∀ p : Port, s.get F.IDE_STATUS_RX p.val ≠ 2) → (∀ p : Port, s.get F.IDE_STATUS_TX p.val ≠ 2) → s.sessions = [] → s.ops = [] → 
    Gives (.tamperSignal n) s (fun t => t.mem = memZero s.mem 0x11F00000 0x11FFFFFF ∧
      t.get F.WIPES_V = (s.get F.WIPES_V + 1) % 2 ^ F.WIPES_V.w ∧
      Word.bits (t.rd .TAMPER_ACTIVE) n.val 1 = 1 ∧
      Word.bits (t.rd .TAMPER_STATUS) n.val 1 = 1 ∧
      t.flag F.TAMPER_STATUS_TAMPER_LATCHED = true ∧
      t.get F.FC_SRC_COUNT 789 = saturated 8 (s.get F.FC_SRC_COUNT 789) 1 ∧
      t.sec.spdm = [] ∧
      t.ecp.opening = [] ∧
      t.oldKeys = [] ∧
      KeepsRegs s t [⟨.WIPES, 0, 0⟩, ⟨.TAMPER_ACTIVE, 0, 0⟩, ⟨.TAMPER_STATUS, 0, 0⟩, ⟨.FC_SRC, 789, 0⟩])) ∧
  (∀ (s : State) (n : Fin 4), Quiet s → Frozen s → 
    Gives (.tamperSourceEnd n) s (fun t => Word.bits (t.rd .TAMPER_ACTIVE) n.val 1 = 0 ∧
      OnlyRegs s t [⟨.TAMPER_ACTIVE, 0, 0⟩])) ∧
  (∀ (s : State), Quiet s → Frozen s → s.sessions = [] → 
    Gives (.debugCtrlLock) s (fun t => t.flag F.DEBUG_STATUS_UNLOCKED = false ∧
      t.flag F.DEBUG_STATUS_UNLOCK_PENDING = false ∧
      OnlyRegs s t ([⟨.DEBUG_STATUS, 0, 0⟩] ++ (s.regs.filter (fun e => decide (e.1.reg = .LL_INJECT))).map (fun e => ⟨.LL_INJECT, e.1.i, 0⟩)))) ∧
  (∀ (s : State), Quiet s → Frozen s → s.rung = rungBlaze → 
    Gives (.jtagAccess .identity) s (fun t => t.out = s.out ++ [.jtag (s.rd .ID_JTAG).toNat] ∧
      { t with out := s.out } = s)) ∧
  (∀ (s : State) (p : Port) (k : Lane) (on : Bool), Quiet s → Frozen s → s.rung = rungBlaze → s.carriesBinding p.val = true → 
    Gives (.jtagAccess (.boundaryScan p k on)) s (fun t => t.out = s.out ++ [.jtag 0] ∧
      { t with out := s.out } = s)) ∧
  (∀ (s : State) (a : BitVec 64) (n : Fin 65), Quiet s → Frozen s → s.rung = rungBlaze → s.debugUnlocked = false → 
    Gives (.jtagAccess (.read a n)) s (fun t => t.out = s.out ++ [.jtag 0] ∧
      { t with out := s.out } = s)) ∧
  (∀ (s : State) (i : BitVec 8), Quiet s → Frozen s → s.spdmRuns = true → 1 ≤ i.toNat → i.toNat ≤ 4 → 
    Gives (.spdmGetMeasurements .i3c i) s (fun t => t.out = s.out ++ [.measurement 97 i.toNat (s.measure none i.toNat)] ∧
      { t with out := s.out } = s)) ∧
  (∀ (s : State), Quiet s → Frozen s → s.spdmRuns = true → s.flag F.TAMPER_STATUS_TAMPER_LATCHED = false → 
    Gives (.spdmSessionMessage .smbus .setUp) s (fun t => t.out = s.out ++ [.spdm 96 true] ∧
      t.sec.spdm.contains 96 = true ∧
      { t with out := s.out, sec := s.sec } = s)) ∧
  (∀ (s : State) (c : Fin 17) (d : List Byte), Quiet s → Frozen s → s.agentRuns (.core c) = true → s.txns.lost = [] → s.resetHalves = [] → d.length = 4 → 
    Gives (.registerWrite (.core c) 0x00021000 d) s (fun t => t.get F.CM_EARLY_ACK_SCRATCHPAD = leNat d % 2 ∧
      t.get F.CM_EARLY_ACK_EMBER = leNat d / 2 % 2 ∧
      OnlyRegs s t [⟨.CM_EARLY_ACK, 0, 0⟩]))

/-- ECP: identity, sessions, operations and the management configuration: what each command answers and leaves (R426, R434, R440, R441, R445, R447, R450, R451). Clauses of it rest on the model's choices: log entries 103, 105. -/
def Obligations.SessionCommands : Prop :=
  (∀ (s : State) (h : EcpHdr) (x : Session), Quiet s → Frozen s → Takes s h x → 
    Gives (.getIdentity h) s (fun t => Replies s t h x 0x0000 .ok s.identity ∧
      { t with out := s.out, sessions := s.sessions } = s)) ∧
  (∀ (s : State) (h : EcpHdr) (x : Session), Quiet s → Frozen s → Takes s h x → 
    Gives (.getSession h) s (fun t => Replies s t h x 0x0004 .ok [x.perms.bits, x.replyLimit] ∧
      { t with out := s.out, sessions := s.sessions } = s)) ∧
  (∀ (s : State) (h : EcpHdr) (x : Session) (n : BitVec 32), Quiet s → Frozen s → Takes s h x → 256 ≤ n.toNat → n.toNat ≤ 4096 → 
    Gives (.setReplyLimit h n) s (fun t => Replies s t h x 0x0005 .ok [] ∧
      t.sessions.map Session.replyLimit = [n.toNat] ∧
      { t with out := s.out, sessions := s.sessions } = s)) ∧
  (∀ (s : State) (h : EcpHdr) (x : Session) (n : BitVec 32), Quiet s → Frozen s → Takes s h x → x.perms.observe = true → n.toNat < 2 ^ 12 → 
    Gives (.subscribe h n) s (fun t => Replies s t h x 0x0006 .ok [] ∧
      t.sessions.map Session.mask = [n.toNat] ∧
      { t with out := s.out, sessions := s.sessions } = s)) ∧
  (∀ (s : State) (h : EcpHdr) (x : Session) (n : BitVec 32) (o : Operation), Quiet s → Frozen s → Takes s h x → x.perms.observe = true → s.operation n.toNat = some o → 
    Gives (.getOperation h n) s (fun t => Replies s t h x 0x0007 .ok [o.status.code] ∧
      { t with out := s.out, sessions := s.sessions } = s)) ∧
  (∀ (s : State) (h : EcpHdr) (x : Session) (n : BitVec 32) (o : Operation), Quiet s → Frozen s → Takes s h x → s.operation n.toNat = some o → o.session = x.id → o.status ≠ .accepted → 
    Gives (.abortOperation h n) s (fun t => Replies s t h x 0x0008 .alreadyDone [o.status.code] ∧
      { t with out := s.out, sessions := s.sessions } = s)) ∧
  (∀ (s : State) (h : EcpHdr) (x : Session) (n : BitVec 32) (o : Operation) (p : Port), Quiet s → Frozen s → Takes s h x → s.ops = [o] → o.id = n.toNat → o.session = x.id → o.status = .accepted → o.kind = .marginLane p.val → 
    Gives (.abortOperation h n) s (fun t => Replies s t h x 0x0008 .ok [] ∧
      t.ops = [{ o with status := .aborted }] ∧
      t.flag F.MARGIN_STATUS_BUSY p.val = false ∧
      KeepsRegs s t [⟨.MARGIN_STATUS, p.val, 0⟩] ∧
      { t with out := s.out, sessions := s.sessions, ops := s.ops, regs := s.regs } = s)) ∧
  (∀ (s : State) (h : EcpHdr) (x : Session) (n : BitVec 32), Quiet s → Frozen s → Takes s h x → x.perms.observe = true → 56 ≤ x.replyLimit → s.ops.length ≤ n.toNat + (x.replyLimit - 40) / 16 → 
    Gives (.listOperations h n) s (fun t => (Replies s t h x 0x0009 .ok (0xFFFFFFFF :: (s.ops.drop n.toNat).flatMap (fun o => [o.id, o.status.code]))) ∧
      { t with out := s.out, sessions := s.sessions } = s)) ∧
  (∀ (s : State) (h : EcpHdr) (x : Session), Quiet s → Frozen s → Takes s h x → x.perms.observe = true → 
    Gives (.getEcpStats h) s (fun t => Replies s t h x 0x000A .ok [s.ecp.malformed, s.ecp.authFails, s.ecp.openFails, s.ecp.replayed, s.ecp.uncached] ∧
      { t with out := s.out, sessions := s.sessions } = s)) ∧
  (∀ (s : State) (h : EcpHdr) (x : Session), Quiet s → Frozen s → Takes s h x → x.perms.observe = true → 
    Gives (.getMgmtConfig h) s (fun t => (Replies s t h x 0x000B .ok (([0, 1, 2, 3, 4, 5, 6, 7] : List Nat).flatMap (fun f => [f, s.mgmt f]) ++ s.flash.accept.flatMap (fun a => [8, a]) ++ ([9, 10, 11, 12, 13, 14] : List Nat).flatMap (fun f => [f, s.mgmt f]))) ∧
      { t with out := s.out, sessions := s.sessions } = s)) ∧
  (∀ (s : State) (h : EcpHdr) (x : Session) (f : Fin 15) (v : Nat), Quiet s → Frozen s → Takes s h x → x.perms.lifecycle = true → mgmtAllows f.val v = true → f.val ≠ 8 → 
    Gives (.setMgmtConfig h [(f.val, v)]) s (fun t => Replies s t h x 0x000C .ok [] ∧
      t.mgmt f.val = v ∧
      t.flash.accept = s.flash.accept ∧
      { t with out := s.out, sessions := s.sessions, flash := s.flash } = s)) ∧
  (∀ (s : State) (h : EcpHdr) (x : Session), Quiet s → Frozen s → Takes s h x → (∀ k : Fin 4, (s.tx k.val).owner ≠ x.id) → s.ops = [] → 
    Gives (.sessionClose h) s (fun t => t.out = s.out ++ [.reply h.src x.id h.seq.toNat ⟨0x0003, .ok, []⟩] ∧
      t.sessions = [] ∧
      { t with out := s.out, sessions := s.sessions } = s))

/-- ECP: packets without a command, opening a session, and times that end: what each command leaves (R425, R431, R436, R438, R439, R445, R450). Clauses of it rest on the model's choices: log entries 102, 104, 131. -/
def Obligations.PacketsAndSessionTimes : Prop :=
  (∀ (s : State) (a : Nat) (p : Fin 65536), Quiet s → Frozen s → s.ecpRuns = true → s.admits (.udp a p) = true → 
    Gives (.ecpInvalidPacket (.udp a p)) s (fun t => t.ecp = { s.ecp with malformed := s.ecp.malformed + 1 } ∧
      { t with ecp := s.ecp } = s)) ∧
  (∀ (s : State) (h : EcpHdr) (x : Session) (n : BitVec 16), Quiet s → Frozen s → Takes s h x → x.perms.observe = true → ecpOpcodes.contains n.toNat = false → 
    Gives (.unknownOpcode h n) s (fun t => Replies s t h x n.toNat .unknownOpcode [] ∧
      { t with out := s.out, sessions := s.sessions } = s)) ∧
  (∀ (s : State), Quiet s → Frozen s → s.ecpRuns = true → 
    Gives (.mgmtNetworkFrame .arp) s (fun t => t.out = s.out ++ [.netReply 0] ∧
      { t with out := s.out } = s)) ∧
  (∀ (s : State) (a i : Nat), Quiet s → Frozen s → s.ecpRuns = true → 
    Gives (.mgmtNetworkFrame (.fragment a i)) s (fun t => t.ecp.fragments.contains (a, i) = true ∧
      { t with ecp := s.ecp } = s)) ∧
  (∀ (s : State) (a i : Nat), Quiet s → Frozen s → 
    Gives (.fragmentReassemblyTimeout a i) s (fun t => (t.ecp = { s.ecp with fragments := s.ecp.fragments.filter (fun e => e != (a, i)) }) ∧
      { t with ecp := s.ecp } = s)) ∧
  (∀ (s : State) (i : Fin 65536), Quiet s → Frozen s → 
    Gives (.pendingSessionExpiry i) s (fun t => (t.ecp = { s.ecp with opening := s.ecp.opening.filter (fun p => p.id != i.val) }) ∧
      { t with ecp := s.ecp } = s)) ∧
  (∀ (s : State) (i : Fin 65536) (x : Session), Quiet s → Frozen s → s.sessions = [x] → x.id = i.val → (∀ k : Fin 4, (s.tx k.val).owner ≠ x.id) → s.ops = [] → 
    Gives (.sessionIdleTimeout i) s (fun t => t.sessions = [] ∧
      { t with sessions := s.sessions } = s)) ∧
  (∀ (s : State) (a : Source), Quiet s → Frozen s → 
    Gives (.challengeLockoutEnd a) s (fun t => (t.ecp = { s.ecp with locked := s.ecp.locked.filter (fun y => y != a) }) ∧
      { t with ecp := s.ecp } = s)) ∧
  (∀ (s : State) (i : BitVec 32) (o : Operation) (l : List Operation), Quiet s → Frozen s → s.ops = o :: l → o.id = i.toNat → o.status ≠ .accepted → (∀ y ∈ l, y.status ≠ .accepted) → (∀ y ∈ l, y.id ≠ i.toNat) → 256 ≤ l.length → 
    Gives (.operationStatusExpiry i) s (fun t => t.ops = l ∧
      { t with ops := s.ops } = s)) ∧
  (∀ (s : State) (h : EcpHdr) (c : Fin 32) (n : BitVec 128) (a : Nat) (p : Fin 65536), Quiet s → Frozen s → s.ecpRuns = true → s.ecp.release = none → h.src = .udp a p → s.admits h.src = true → h.sess.val = 0 → h.paramErr = none → s.sec.recovery = false → s.flag F.FC_STATUS_ASH = false → s.power.verifying = false → s.ecp.locked = [] → s.sessions = [] → s.ecp.opening = [] → 
    Gives (.sessionChallenge h c n) s (fun t => (t.ecp.opening.map (fun q => (q.credential, q.source, q.clientNonce)) = [(c.val, h.src, n.toNat)]) ∧
      (t.out = s.out ++ t.ecp.opening.map (fun q => .reply h.src 0 h.seq.toNat ⟨0x0001, .ok, [q.id, q.deviceNonce]⟩)) ∧
      (∀ q ∈ t.ecp.opening, q.id ≠ 0) ∧
      { t with out := s.out, ecp := s.ecp, free := s.free } = s)) ∧
  (∀ (s : State) (h : EcpHdr) (q : PendingSession) (y : Credential) (l : List (Nat × Credential)), Quiet s → Frozen s → s.ecpRuns = true → s.ecp.release = none → s.admits h.src = true → onCxl h.src = false → s.ecp.opening = [q] → q.id = h.sess.val → q.source = h.src → h.seq.toNat = 1 → h.tagOk = true → s.flash.credentials = (q.credential, y) :: l → y.enabled = true → s.sessions = [] → q.id ≠ 0 → 
    Gives (.sessionOpen h) s (fun t => t.ecp.opening = [] ∧
      (t.sessions.map (fun z => (z.id, z.credential, z.perms, z.source, z.high)) = [(q.id, q.credential, y.perms.full, h.src, 1)]) ∧
      t.out = s.out ++ [.reply h.src q.id 1 ⟨0x0002, .ok, [y.perms.full.bits]⟩] ∧
      { t with out := s.out, ecp := s.ecp, sessions := s.sessions } = s))

/-- ECP: ports and links: what each command answers and leaves (R40, R63, R79, R82, R109, R454, R451). Clauses of it rest on the model's choices: log entries 105, 117. -/
def Obligations.PortCommands : Prop :=
  (∀ (s : State) (h : EcpHdr) (x : Session) (p : Port), Quiet s → Frozen s → Takes s h x → x.perms.observe = true → s.txns.lost = [] → s.resetHalves = [] → 
    Gives (.getPort h p) s (fun t => Replies s t h x 0x0100 .ok ((s.heard h x).readAll (keysIn (0x01000000 + 0x10000 * p.val) 0x2300)).1 ∧
      { t with out := s.out, sessions := s.sessions, regs := s.regs, free := s.free } = s)) ∧
  (∀ (s : State) (h : EcpHdr) (x : Session) (p : Port), Quiet s → Frozen s → Takes s h x → x.perms.configure = true → s.txns.lost = [] → s.resetHalves = [] → s.carriesBinding p.val = false → s.linkState p.val = lsDisabled → 
    Gives (.setPortDisabled h p true) s (fun t => Replies s t h x 0x0101 .ok [] ∧
      (t.lanes.disabled = s.lanes.disabled.filter (fun y => y != p.val) ++ [p.val]) ∧
      t.linkState p.val = lsDisabled ∧
      { t with out := s.out, sessions := s.sessions, lanes := s.lanes } = s)) ∧
  (∀ (s : State) (h : EcpHdr) (x : Session) (p : Port), Quiet s → Frozen s → Takes s h x → x.perms.configure = true → s.txns.lost = [] → s.resetHalves = [] → s.lanes.disabled.contains p.val = true → s.linkState p.val = lsDisabled → s.role p.val ≠ 0 → s.scanned p.val = false → 
    Gives (.setPortDisabled h p false) s (fun t => Replies s t h x 0x0101 .ok [] ∧
      (t.lanes.disabled = s.lanes.disabled.filter (fun y => y != p.val)) ∧
      t.linkState p.val = lsDetect ∧
      KeepsRegs s t [⟨.PHY_STATUS, p.val, 0⟩] ∧
      { t with out := s.out, sessions := s.sessions, lanes := s.lanes, regs := s.regs } = s)) ∧
  (∀ (s : State) (h : EcpHdr) (x : Session) (p : Port), Quiet s → Frozen s → Takes s h x → x.perms.configure = true → s.txns.lost = [] → s.resetHalves = [] → s.isHeld p.val = true → s.holds.contains (p.val, .command) = false → s.linkState p.val = lsDetect → 
    Gives (.holdPort h p true) s (fun t => Replies s t h x 0x0104 .ok [] ∧
      t.holds = s.holds ++ [(p.val, .command)] ∧
      t.flag F.PORT_STATUS_HELD p.val = true ∧
      KeepsRegs s t [⟨.PORT_STATUS, p.val, 0⟩] ∧
      { t with out := s.out, sessions := s.sessions, regs := s.regs, holds := s.holds } = s)) ∧
  (∀ (s : State) (h : EcpHdr) (x : Session) (p : Port), Quiet s → Frozen s → Takes s h x → x.perms.configure = true → s.txns.lost = [] → s.resetHalves = [] → s.holds = [(p.val, .command)] → 
    Gives (.holdPort h p false) s (fun t => Replies s t h x 0x0104 .ok [] ∧
      t.holds = [] ∧
      t.flag F.PORT_STATUS_HELD p.val = false ∧
      KeepsRegs s t [⟨.PORT_STATUS, p.val, 0⟩] ∧
      { t with out := s.out, sessions := s.sessions, regs := s.regs, holds := s.holds } = s)) ∧
  (∀ (s : State) (h : EcpHdr) (x : Session) (p : Port) (r : Nat), Quiet s → Frozen s → Takes s h x → x.perms.configure = true → s.txns.lost = [] → s.resetHalves = [] → s.linkState p.val = lsL0 → s.isCascade p.val = false → s.flag F.MARGIN_STATUS_BUSY p.val = false → r = ((s.clearRateFailed p.val).nextRate p.val (s.get F.PHY_STATUS_CUR_RATE p.val)).getD ((s.clearRateFailed p.val).heldRate p.val (s.get F.PHY_STATUS_CUR_RATE p.val)) → 
    Gives (.retrainPort h p) s (fun t => Replies s t h x 0x0102 .ok [] ∧
      (t.linkState p.val = if r < 2 then lsRecovery else lsRecoveryEq) ∧
      numGet 0 p.val t.lanes.target = r ∧
      t.get F.PHY_STATUS_RATE_FAILED p.val = 0 ∧
      KeepsRegs s t [⟨.PHY_STATUS, p.val, 0⟩, ⟨.IA_PENDING, (96 + p.val) / 32, 0⟩] ∧
      { t with out := s.out, sessions := s.sessions, regs := s.regs, lanes := s.lanes, agg := s.agg } = s)) ∧
  (∀ (s : State) (h : EcpHdr) (x : Session) (p : Port), Quiet s → Frozen s → Takes s h x → x.perms.configure = true → s.running < 64 → s.txns.lost = [] → s.resetHalves = [] → s.portBusy p.val = false → s.isHostPort p.val = true → s.msgs = [] → s.market = {} → s.flag F.MARGIN_STATUS_BUSY p.val = false → s.holds = [] → 
    Gives (.resetPort h p) s (fun t => Replies s t h x 0x0103 .accepted [s.nextOp] ∧
      Started s t x (.resetPort p.val) .accepted ∧
      t.resetPorts = s.resetPorts ++ [p.val] ∧
      t.linkState p.val = t.restState p.val ∧
      t.mem = s.mem)) ∧
  (∀ (s : State) (h : EcpHdr) (x : Session) (p : Port), Quiet s → Frozen s → Takes s h x → x.perms.configure = true → s.txns.lost = [] → s.resetHalves = [] → s.linkState p.val = lsL0 → 
    Gives (.saveEqualisation h p) s (fun t => Replies s t h x 0x0106 .ok [] ∧
      (∀ k : Lane, s.flag F.LANE_STATUS_IN_USE p.val k.val = true → Word.bits (t.rd .LANE_EQ_RECORD p.val (8 * k.val + 1)) 31 1 = 1) ∧
      KeepsRegs s t ((List.range 128).map (fun n => ⟨.LANE_EQ_RECORD, p.val + n / 64, n % 64⟩)) ∧
      { t with out := s.out, sessions := s.sessions, regs := s.regs, free := s.free } = s)) ∧
  (∀ (s : State) (h : EcpHdr) (x : Session) (p : Port) (v : BitVec 32), Quiet s → Frozen s → Takes s h x → x.perms.configure = true → s.running < 64 → s.txns.lost = [] → s.resetHalves = [] → s.linkState p.val = lsL0 → s.flag F.MARGIN_STATUS_BUSY p.val = false → 
    Gives (.marginLane h p v) s (fun t => Replies s t h x 0x0107 .accepted [s.nextOp] ∧
      Started s t x (.marginLane p.val) .accepted ∧
      t.flag F.MARGIN_STATUS_BUSY p.val = true ∧
      t.get F.MARGIN_STATUS_LAST_STEP p.val = 0 ∧
      t.get F.MARGIN_STATUS_ERRORS p.val = 0 ∧
      KeepsRegs s t [⟨.MARGIN_CTRL, p.val, 0⟩, ⟨.MARGIN_STATUS, p.val, 0⟩] ∧
      { t with out := s.out, sessions := s.sessions, ops := s.ops, nextOp := s.nextOp, regs := s.regs, lanes := s.lanes } = s)) ∧
  (∀ (s : State) (h : EcpHdr) (x : Session) (p : Port) (k : Lane), Quiet s → Frozen s → Takes s h x → x.perms.configure = true → s.running < 64 → s.txns.lost = [] → s.resetHalves = [] → s.ops = [] → s.linkState p.val = lsDetect → s.isCascade p.val = false → s.bondedInto p.val = false → s.flag F.LANE_RETIRE_RETIRE_BUSY p.val = false → Word.bits (s.rd .LANE_RETIRE p.val) k.val 1 = 0 → 
    Gives (.retireLane h p k) s (fun t => Replies s t h x 0x0105 .accepted [s.nextOp] ∧
      Started s t x (.retireLane p.val k.val) .ok ∧
      Word.bits (t.rd .LANE_RETIRE p.val) k.val 1 = 1 ∧
      KeepsRegs s t [⟨.LANE_RETIRE, p.val, 0⟩] ∧
      { t with out := s.out, sessions := s.sessions, ops := s.ops, nextOp := s.nextOp, regs := s.regs } = s)) ∧
  (∀ (s : State) (h : EcpHdr) (x : Session) (p : Port) (v : BitVec 32), Quiet s → Frozen s → Takes s h x → x.perms.configure = true → s.txns.lost = [] → s.resetHalves = [] → s.linkState p.val = lsDisabled → s.get F.LOOPBACK_CTRL_MODE p.val = 0 → s.get F.LOOPBACK_CTRL_FOLLOW_EN p.val = 0 → s.flag F.LOOPBACK_CTRL_REFUSED p.val = false → v.toNat % 8 ≤ 3 → v.toNat / 8 % 4 ≠ 0 → 
    Gives (.setTestMode h p 1 0 v) s (fun t => Replies s t h x 0x0108 .ok [] ∧
      t.linkState p.val = lsPattern ∧
      t.get F.PHY_CTRL_TEST_MODE p.val = 1 ∧
      t.get F.TEST_CTRL_PATTERN p.val = v.toNat % 8 ∧
      t.get F.TEST_CTRL_GEN_EN p.val = v.toNat / 8 % 2 ∧
      t.get F.TEST_CTRL_CHK_EN p.val = v.toNat / 16 % 2 ∧
      { t with out := s.out, sessions := s.sessions, regs := s.regs } = s))

/-- ECP: requests to partners, and transactions: what each command answers and leaves (R274, R277, R278, R280, R281, R282, R284, R287, R404, R451, R454). Clauses of it rest on the model's choices: log entries 114, 115, 123. -/
def Obligations.PartnerAndTransactionCommands : Prop :=
  (∀ (s : State) (h : EcpHdr) (x : Session) (p : Port) (a : BitVec 64) (r : BitVec 32), Quiet s → Frozen s → Takes s h x → x.perms.configure = true → s.txns.lost = [] → s.resetHalves = [] → s.linkState p.val = lsL0 → s.refuses p.val = false → 3 ≤ s.role p.val → s.role p.val ≤ 5 → 
    Gives (.ppbConfigRequest h p a none (some r)) s (fun t => Replies { s with out := s.out ++ [.partnerConfig p.val 0 a.toNat 0 false] } t h x 0x0109 .ok [r.toNat] ∧
      { t with out := s.out, sessions := s.sessions } = s)) ∧
  (∀ (s : State) (h : EcpHdr) (x : Session) (p : Port) (l : Fin 16) (a : BitVec 52) (v r : BitVec 32), Quiet s → Frozen s → Takes s h x → x.perms.configure = true → s.txns.lost = [] → s.resetHalves = [] → s.linkState p.val = lsL0 → s.refuses p.val = false → s.role p.val = 3 → (s.deviceOf p.val l.val).isSome = true → 
    Gives (.ldConfigRequest h p l a (some v) (some r)) s (fun t => Replies { s with out := s.out ++ [.partnerConfig p.val l.val a.toNat v.toNat true] } t h x 0x010A .ok [] ∧
      { t with out := s.out, sessions := s.sessions } = s)) ∧
  (∀ (s : State) (h : EcpHdr) (x : Session) (p : Port) (d r : List Byte), Quiet s → Frozen s → Takes s h x → x.perms.configure = true → s.txns.lost = [] → s.resetHalves = [] → s.linkState p.val = lsL0 → s.refuses p.val = false → s.role p.val = 3 → 
    Gives (.ldMgmtTunnel h p .ldInfo d (some r)) s (fun t => Replies { s with out := s.out ++ [.tunnel p.val d] } t h x 0x010C .ok (r.map BitVec.toNat) ∧
      { t with out := s.out, sessions := s.sessions } = s)) ∧
  (∀ (s : State) (h : EcpHdr) (x : Session) (p : Port) (l : Fin 16) (a : BitVec 52) (n : Fin 4001) (d : List Byte) (m : Nat) (v : Bool), Quiet s → Frozen s → Takes s h x → x.perms.configure = true → s.txns.lost = [] → s.resetHalves = [] → s.linkState p.val = lsL0 → s.refuses p.val = false → s.role p.val = 3 → s.deviceOf p.val l.val = some (m, v) → a.toNat + n.val ≤ m * 2 ^ 20 → d.length = n.val → s.stallsDefined = [] → 
    Gives (.ldMemoryAccess h p l a n false d) s (fun t => Replies s t h x 0x010B .ok (d.map BitVec.toNat) ∧
      { t with out := s.out, sessions := s.sessions } = s)) ∧
  (∀ (s : State) (h : EcpHdr) (x : Session) (k : Nat), Quiet s → Frozen s → Takes s h x → x.perms.configure = true → s.freeTxn = some k → 
    Gives (.txnBegin h) s (fun t => Replies s t h x 0x0300 .ok [k] ∧
      t.txState k = txOpen ∧
      t.tx k = { owner := x.id, inspect := x.perms.inspect } ∧
      t.get F.SLOT_BASE_EPOCH_V k = s.get F.EPOCH_V ∧
      KeepsRegs s t [⟨.TXSLOT_STATE, k, 0⟩, ⟨.SLOT_BASE_EPOCH, k, 0⟩] ∧
      { t with out := s.out, sessions := s.sessions, regs := s.regs, txns := s.txns } = s)) ∧
  (∀ (s : State) (h : EcpHdr) (x : Session) (k : Fin 4) (e : RegItem) (y : Key) (v m : Nat), Quiet s → Frozen s → Takes s h x → x.perms.configure = true → s.txState k.val = txOpen → k.val ≠ 3 → (s.tx k.val).owner = x.id → itemAt e = some (y, v, m) → writeAllowed y v m = true → (s.tx k.val).writes.length < 16384 → 
    Gives (.txnWrite h k [e]) s (fun t => Replies s t h x 0x0301 .ok [] ∧
      t.shadowOf k.val y.shadowed = BitVec.ofNat 64 (blend m (s.shadowOf k.val y.shadowed).toNat v) ∧
      (t.tx k.val).writes.contains y.shadowed = true ∧
      { t with out := s.out, sessions := s.sessions, txns := s.txns } = s)) ∧
  (∀ (s : State) (h : EcpHdr) (x : Session) (k : Fin 4) (e : Entry) (y : Key) (v : Nat), Quiet s → Frozen s → Takes s h x → x.perms.configure = true → s.txState k.val = txOpen → k.val ≠ 3 → (s.tx k.val).owner = x.id → entryAt e = some [(y, v)] → writeAllowed y v y.reg.txnMask = true → (s.tx k.val).entries.length < 4096 → 
    Gives (.txnWriteEntry h k [e]) s (fun t => Replies s t h x 0x0302 .ok [] ∧
      t.shadowOf k.val y.shadowed = BitVec.ofNat 64 (blend y.reg.txnMask (s.shadowOf k.val y.shadowed).toNat v) ∧
      (t.tx k.val).entries.contains y.shadowed = true ∧
      { t with out := s.out, sessions := s.sessions, txns := s.txns } = s)) ∧
  (∀ (s : State) (h : EcpHdr) (x : Session) (k : Fin 4) (a : BitVec 64) (y : Key), Quiet s → Frozen s → Takes s h x → x.perms.configure = true → s.txState k.val ≠ txFree → k.val ≠ 3 → (s.tx k.val).owner = x.id → regAt a.toNat = some (y, 0) → y.reg.txnMask ≠ 0 → 
    Gives (.txnRead h k a) s (fun t => Replies s t h x 0x0303 .ok [(s.shadowOf k.val y.shadowed).toNat] ∧
      { t with out := s.out, sessions := s.sessions } = s)) ∧
  (∀ (s : State) (h : EcpHdr) (x : Session) (k : Fin 4), Quiet s → Frozen s → Takes s h x → x.perms.configure = true → s.running < 64 → s.txState k.val = txOpen → k.val ≠ 3 → (s.tx k.val).owner = x.id → s.refusing = false → (s.tx k.val).shadow ≠ [] → s.inspects k.val = [] → contextsIn ((s.tx k.val).shadow.map Prod.fst) = [] → 
    Gives (.txnCommit h k) s (fun t => Replies s t h x 0x0304 .accepted [s.nextOp] ∧
      Started s t x (.commit k.val) .accepted ∧
      t.txState k.val = txValidating ∧
      KeepsRegs s t [⟨.TXSLOT_STATE, k.val, 0⟩] ∧
      { t with out := s.out, sessions := s.sessions, ops := s.ops, nextOp := s.nextOp, regs := s.regs, txns := s.txns } = s)) ∧
  (∀ (s : State) (h : EcpHdr) (x : Session) (k : Fin 4), Quiet s → Frozen s → Takes s h x → x.perms.configure = true → s.running < 64 → s.ops = [] → s.txState k.val = txOpen → k.val ≠ 3 → (s.tx k.val).owner = x.id → s.refusing = false → (s.tx k.val).shadow = [] → 
    Gives (.txnCommit h k) s (fun t => Replies s t h x 0x0304 .accepted [s.nextOp] ∧
      Started s t x (.commit k.val) .ok ∧
      t.txState k.val = txFree ∧
      t.tx k.val = {} ∧
      t.get F.EPOCH_V = s.get F.EPOCH_V ∧
      KeepsRegs s t [⟨.TXSLOT_STATE, k.val, 0⟩, ⟨.SLOT_BASE_EPOCH, k.val, 0⟩] ∧
      { t with out := s.out, sessions := s.sessions, ops := s.ops, nextOp := s.nextOp, regs := s.regs, txns := s.txns } = s)) ∧
  (∀ (s : State) (h : EcpHdr) (x : Session) (k : Fin 4), Quiet s → Frozen s → Takes s h x → x.perms.configure = true → s.txState k.val = txOpen → k.val ≠ 3 → (s.tx k.val).owner = x.id → 
    Gives (.txnRollback h k) s (fun t => Replies s t h x 0x0305 .ok [] ∧
      t.txState k.val = txFree ∧
      t.tx k.val = {} ∧
      KeepsRegs s t [⟨.TXSLOT_STATE, k.val, 0⟩, ⟨.SLOT_BASE_EPOCH, k.val, 0⟩] ∧
      { t with out := s.out, sessions := s.sessions, regs := s.regs, txns := s.txns } = s)) ∧
  (∀ (s : State) (h : EcpHdr) (x : Session), Quiet s → Frozen s → Takes s h x → x.perms.observe = true → 
    Gives (.txnStatus h) s (fun t => Replies s t h x 0x0306 .ok ((s.heard h x).readAll (keysIn 0x05800000 0x240)).1 ∧
      { t with out := s.out, sessions := s.sessions, regs := s.regs, free := s.free } = s)) ∧
  (∀ (s : State) (h : EcpHdr) (x : Session) (e : RegItem), Quiet s → Frozen s → Takes s h x → x.perms.configure = true → e.addr = 0x00021000 → e.wide = false → e.mask = 3 → 
    Gives (.writeDirect h [e]) s (fun t => Replies s t h x 0x0307 .ok [] ∧
      t.get F.CM_EARLY_ACK_SCRATCHPAD = e.value.toNat % 2 ∧
      t.get F.CM_EARLY_ACK_EMBER = e.value.toNat / 2 % 2 ∧
      KeepsRegs s t [⟨.CM_EARLY_ACK, 0, 0⟩] ∧
      { t with out := s.out, sessions := s.sessions, regs := s.regs } = s))

/-- ECP: Stalls, their records, the inventory and quarantine: what each command answers and leaves (R215, R258, R259, R264, R265, R270, R274, R451). Clauses of it rest on the model's choices: log entries 100, 105, 118, 119, 120. -/
def Obligations.StallCommands : Prop :=
  (∀ (s : State) (h : EcpHdr) (x : Session) (st : StallId), Quiet s → Frozen s → Takes s h x → x.perms.observe = true → s.txns.lost = [] → s.resetHalves = [] → 
    Gives (.getStall h st) s (fun t => Replies s t h x 0x0200 .ok ((s.heard h x).readAll (keysIn (0x05400000 + 0x100 * st.val) 0x100)).1 ∧
      { t with out := s.out, sessions := s.sessions, regs := s.regs, free := s.free } = s)) ∧
  (∀ (s : State) (h : EcpHdr) (x : Session) (n : BitVec 32), Quiet s → Frozen s → Takes s h x → x.perms.observe = true → 4095 ≤ n.toNat → 56 ≤ x.replyLimit → 
    Gives (.listStalls h n) s (fun t => (Replies s t h x 0x0201 .ok (0xFFFFFFFF :: ((List.range 4096).drop n.toNat).flatMap (fun k => [k, s.stall k]))) ∧
      { t with out := s.out, sessions := s.sessions } = s)) ∧
  (∀ (s : State) (h : EcpHdr) (x : Session) (st : StallId), Quiet s → Frozen s → Takes s h x → x.perms.configure = true → s.txns.lost = [] → s.resetHalves = [] → s.stall st.val = stBound → s.erasing st.val = false → 
    Gives (.quenchStall h st true) s (fun t => Replies s t h x 0x0202 .ok [] ∧
      t.flag F.METER_CTRL_QUENCH 0 st.val = true ∧
      t.flag F.METER_CTRL_QUENCH 1 st.val = true ∧
      t.stall st.val = stQuenched ∧
      KeepsRegs s t [⟨.METER_CTRL, 0, st.val⟩, ⟨.METER_CTRL, 1, st.val⟩, ⟨.STALL_STATE, st.val, 0⟩] ∧
      { t with out := s.out, sessions := s.sessions, regs := s.regs } = s)) ∧
  (∀ (s : State) (h : EcpHdr) (x : Session) (st : StallId), Quiet s → Frozen s → Takes s h x → x.perms.configure = true → s.running < 64 → s.flag F.STALL_CTRL_DEFINED st.val = true → s.stall st.val ≠ stResetting → (∀ y : Fin 8, s.rlState y.val = rlFree) → 
    Gives (.resetStall h st) s (fun t => Replies s t h x 0x0203 .accepted [s.nextOp] ∧
      Started s t x (.resetStall st.val) .accepted ∧
      t.stall st.val = stResetting ∧
      (t.emul st.val).failsAfter = decide (s.stall st.val = stFailed) ∧
      KeepsRegs s t [⟨.STALL_STATE, st.val, 0⟩] ∧
      { t with out := s.out, sessions := s.sessions, ops := s.ops, nextOp := s.nextOp, regs := s.regs, emulated := s.emulated } = s)) ∧
  (∀ (s : State) (h : EcpHdr) (x : Session) (st : StallId), Quiet s → Frozen s → Takes s h x → x.perms.configure = true → s.stall st.val = stFailed → s.flag F.STALL_BIND_BOUND st.val = true → s.quenchSet st.val = false → s.portNotBack (s.slicePorts st.val) = none → s.swapped = [] → 
    Gives (.resumeStall h st) s (fun t => Replies s t h x 0x0204 .ok [] ∧
      t.stall st.val = stBound ∧
      KeepsRegs s t [⟨.STALL_STATE, st.val, 0⟩] ∧
      { t with out := s.out, sessions := s.sessions, regs := s.regs } = s)) ∧
  (∀ (s : State) (h : EcpHdr) (x : Session) (st : StallId), Quiet s → Frozen s → Takes s h x → x.perms.configure = true → s.running < 64 → s.ops = [] → s.flag F.STALL_CTRL_DEFINED st.val = true → s.stall st.val = stBound → 
    Gives (.freezeStall h st) s (fun t => Replies s t h x 0x0205 .accepted [s.nextOp] ∧
      Started s t x (.freezeStall st.val) .ok ∧
      t.stall st.val = stFrozen ∧
      t.flag F.METER_CTRL_QUENCH 0 st.val = true ∧
      t.flag F.METER_CTRL_QUENCH 1 st.val = true ∧
      numGet [] st.val t.ecp.records = (Config.recordBytes (t.stallRecord st.val)).take 16384 ∧
      t.msgs = s.msgs)) ∧
  (∀ (s : State) (h : EcpHdr) (x : Session) (st : StallId) (n : BitVec 32) (d : List Byte), Quiet s → Frozen s → Takes s h x → x.perms.configure = true → tabFind st.val s.ecp.records = some d → 45 ≤ x.replyLimit → d.length ≤ n.toNat + (min (x.replyLimit - 4) 4072 - 40) → 
    Gives (.readStallRecord h st n) s (fun t => Replies s t h x 0x0206 .ok (0xFFFFFFFF :: (d.drop n.toNat).map BitVec.toNat) ∧
      { t with out := s.out, sessions := s.sessions } = s)) ∧
  (∀ (s : State) (h : EcpHdr) (x : Session) (st : StallId) (n : BitVec 32) (d : List Byte), Quiet s → Frozen s → Takes s h x → x.perms.configure = true → n.toNat ≤ (numGet [] st.val s.ecp.staging).length → n.toNat + d.length ≤ 16384 → 
    Gives (.writeStallRecord h st n d) s (fun t => Replies s t h x 0x0207 .ok [] ∧
      numGet [] st.val t.ecp.staging = (numGet [] st.val s.ecp.staging).take n.toNat ++ d ∧
      { t with out := s.out, sessions := s.sessions, ecp := s.ecp } = s)) ∧
  (∀ (s : State) (h : EcpHdr) (x : Session) (st : StallId) (d : List Byte), Quiet s → Frozen s → Takes s h x → x.perms.configure = true → s.running < 64 → s.txState 3 = txFree → s.txns.fw = [] → tabFind st.val s.ecp.staging = some d → 
    Gives (.restoreStall h st) s (fun t => (∀ r, Config.recordParse d = some r → Replies s t h x 0x0208 .accepted [s.nextOp] ∧ Started s t x (.commit 3) .accepted ∧ t.txState 3 = txValidating ∧ (t.tx 3).shadow = restoreItems st.val r ∧ (t.tx 3).fw = some (.op s.nextOp (restoreItems st.val r) (some st.val))) ∧
      (Config.recordParse d = none → Replies s t h x 0x0208 .invalid [0x0007, noItem] ∧ { t with out := s.out, sessions := s.sessions } = s))) ∧
  (∀ (s : State) (h : EcpHdr) (x : Session) (n : BitVec 32) (d : DeviceRecord), Quiet s → Frozen s → Takes s h x → x.perms.observe = true → n.toNat = 0 → s.inventory = [d] → 168 ≤ x.replyLimit → 
    Gives (.getInventory h n) s (fun t => Replies s t h x 0x0209 .ok (0xFFFFFFFF :: s.inventoryItem d) ∧
      { t with out := s.out, sessions := s.sessions } = s)) ∧
  (∀ (s : State) (h : EcpHdr) (x : Session) (p : Port) (a : BitVec 64) (n : BitVec 32) (r : DevRange), Quiet s → Frozen s → Takes s h x → x.perms.configure = true → s.running < 64 → a.toNat / 2 ^ 52 % 256 = 0 → s.ranges = [r] → r.quarantined = true → r.inSpan p.val (a.toNat / 2 ^ 60) (a.toNat % 2 ^ 52) n.toNat = true → 
    Gives (.clearQuarantine h p a n) s (fun t => Replies s t h x 0x020A .accepted [s.nextOp] ∧
      Started s t x (.clearQuarantine p.val (a.toNat / 2 ^ 60) (a.toNat % 2 ^ 52) n.toNat) .accepted ∧
      t.ranges = [{ r with quarantined := false, scrubbed := 0 }] ∧
      t.get F.SCRUB_QUARANTINED_V = 0 ∧
      KeepsRegs s t [⟨.SCRUB_ACTIVE, 0, 0⟩, ⟨.SCRUB_QUARANTINED, 0, 0⟩] ∧
      { t with out := s.out, sessions := s.sessions, ops := s.ops, nextOp := s.nextOp, regs := s.regs, ranges := s.ranges } = s))

/-- ECP: checkers, windows and virtual switches: what each command answers and leaves (R97, R118, R236, R237, R254, R255, R274, R451). Clauses of it rest on the model's choices: log entry 121. -/
def Obligations.WindowAndSwitchCommands : Prop :=
  (∀ (s : State) (h : EcpHdr) (x : Session) (c : HostId), Quiet s → Frozen s → Takes s h x → x.perms.configure = true → s.txns.lost = [] → s.resetHalves = [] → s.applying = false → 
    Gives (.setChecker h c false) s (fun t => Replies s t h x 0x020B .ok [] ∧
      t.flag F.CHK_CTRL_EN c.val = false ∧
      KeepsRegs s t [⟨.CHK_CTRL, c.val, 0⟩] ∧
      { t with out := s.out, sessions := s.sessions, regs := s.regs, txns := s.txns } = s)) ∧
  (∀ (s : State) (h : EcpHdr) (x : Session) (c : HostId) (e : Entry) (w : Fin 256) (u v y : Nat), Quiet s → Frozen s → Takes s h x → x.perms.configure = true → s.txns.lost = [] → s.resetHalves = [] → e.kind = 0 → entryAt e = some [(⟨.WIN_BASE, c.val, w.val⟩, u), (⟨.WIN_SIZE, c.val, w.val⟩, v), (⟨.WIN_ATTR, c.val, w.val⟩, y)] → s.flag F.CHK_CTRL_EN c.val = false → 
    Gives (.writeWindow h c e) s (fun t => Replies s t h x 0x020C .ok [] ∧
      t.get F.WIN_BASE_BASE c.val w.val = u % 2 ^ 24 ∧
      t.get F.WIN_SIZE_SIZE c.val w.val = v % 2 ^ F.WIN_SIZE_SIZE.w ∧
      t.txns.dirty.contains c.val = true ∧
      KeepsRegs s t [⟨.WIN_BASE, c.val, w.val⟩, ⟨.WIN_SIZE, c.val, w.val⟩, ⟨.WIN_ATTR, c.val, w.val⟩] ∧
      { t with out := s.out, sessions := s.sessions, regs := s.regs, txns := s.txns } = s)) ∧
  (∀ (s : State) (h : EcpHdr) (x : Session) (p : Port), Quiet s → Frozen s → Takes s h x → x.perms.observe = true → s.isHostPort p.val = true → 
    Gives (.getVcsInfo h p) s (fun t => (Replies s t h x 0x020D .ok (s.get F.PORT_CFG_HOST_ID p.val :: (List.range 64).flatMap (fun v => if (s.vportCarries (s.get F.PORT_CFG_HOST_ID p.val) v).1 = 0 then [] else [v, (s.vportCarries (s.get F.PORT_CFG_HOST_ID p.val) v).1, (s.vportCarries (s.get F.PORT_CFG_HOST_ID p.val) v).2]))) ∧
      { t with out := s.out, sessions := s.sessions } = s)) ∧
  (∀ (s : State) (h : EcpHdr) (x : Session) (p : Port) (v : Vdsp) (st : StallId), Quiet s → Frozen s → Takes s h x → x.perms.configure = true → s.running < 64 → s.txState 3 = txFree → s.txns.fw = [] → s.regionsValid = [] → s.role p.val = 1 → (List.range 32).find? (fun d => !s.flag F.DEC_CTRL_VALID (s.get F.PORT_CFG_HOST_ID p.val) d) = some 0 → (List.range 256).find? (fun w => !s.flag F.WIN_BASE_VALID (s.get F.PORT_CFG_HOST_ID p.val) w) = some 0 → 
    Gives (.bindVppb h p v (.stall st)) s (fun t => Replies s t h x 0x020E .accepted [s.nextOp] ∧
      Started s t x (.commit 3) .accepted ∧
      t.txState 3 = txValidating ∧
      (t.tx 3).shadow = s.bindItems (s.get F.PORT_CFG_HOST_ID p.val) v.val st.val 0 0 ∧
      (t.tx 3).fw = some (.op s.nextOp (s.bindItems (s.get F.PORT_CFG_HOST_ID p.val) v.val st.val 0 0) none) ∧
      t.get F.SLOT_BASE_EPOCH_V 3 = s.get F.EPOCH_V)) ∧
  (∀ (s : State) (h : EcpHdr) (x : Session) (p : Port) (v : Vdsp) (k : Nat), Quiet s → Frozen s → Takes s h x → x.perms.configure = true → s.running < 64 → s.txState 3 = txFree → s.txns.fw = [] → s.isHostPort p.val = true → s.stallAt (s.get F.PORT_CFG_HOST_ID p.val) v.val = some k → s.regionsValid = [] → 
    Gives (.unbindVppb h p v) s (fun t => Replies s t h x 0x020F .accepted [s.nextOp] ∧
      Started s t x (.commit 3) .accepted ∧
      t.txState 3 = txValidating ∧
      (t.tx 3).shadow = s.unbindItems (s.get F.PORT_CFG_HOST_ID p.val) k ∧
      (t.tx 3).fw = some (.op s.nextOp (s.unbindItems (s.get F.PORT_CFG_HOST_ID p.val) k) none) ∧
      t.get F.SLOT_BASE_EPOCH_V 3 = s.get F.EPOCH_V)) ∧
  (∀ (s : State) (h : EcpHdr) (x : Session) (p : Port) (v : Vdsp) (q : Port), Quiet s → Frozen s → Takes s h x → x.perms.configure = true → s.running < 64 → s.ops = [] → s.isHostPort p.val = true → s.stallAt (s.get F.PORT_CFG_HOST_ID p.val) v.val = none → s.passed = [(s.get F.PORT_CFG_HOST_ID p.val, v.val, q.val)] → s.refusing = false → 
    Gives (.unbindVppb h p v) s (fun t => Replies s t h x 0x020F .accepted [s.nextOp] ∧
      Started s t x (.passThrough (s.get F.PORT_CFG_HOST_ID p.val) v.val) .ok ∧
      t.passed = [] ∧
      t.txns.plugs = s.txns.plugs ++ [(s.get F.PORT_CFG_HOST_ID p.val, v.val, false)] ∧
      { t with out := s.out, sessions := s.sessions, ops := s.ops, nextOp := s.nextOp, passed := s.passed, txns := s.txns } = s)) ∧
  (∀ (s : State) (h : EcpHdr) (x : Session) (p : Port) (v : BitVec 32) (d : List Byte), Quiet s → Frozen s → Takes s h x → x.perms.configure = true → s.isHostPort p.val = true → 
    Gives (.generateAer h p v d) s (fun t => Replies { s with out := s.out ++ [.aer p.val v.toNat d] } t h x 0x0210 .ok [] ∧
      { t with out := s.out, sessions := s.sessions } = s))

/-- ECP: Market regions and Porter channels: what each command answers and leaves (R332, R336, R341, R346, R366, R368, R370, R451). Clauses of it rest on the model's choices: log entry 105. -/
def Obligations.RegionAndChannelCommands : Prop :=
  (∀ (s : State) (h : EcpHdr) (x : Session) (r : Fin 256), Quiet s → Frozen s → Takes s h x → x.perms.observe = true → s.txns.lost = [] → s.resetHalves = [] → 
    Gives (.getRegion h r) s (fun t => Replies s t h x 0x0400 .ok ((s.heard h x).readAll (keysIn (0x02400000 + 0x200 * r.val) 0x200)).1 ∧
      { t with out := s.out, sessions := s.sessions, regs := s.regs, free := s.free } = s)) ∧
  (∀ (s : State) (h : EcpHdr) (x : Session) (r : Fin 256), Quiet s → Frozen s → Takes s h x → x.perms.configure = true → s.running < 64 → s.flag F.REGION_CTRL_VALID r.val = true → s.portNotBack (s.recoverPorts r.val) = none → s.sliceSwapped true r.val = false → 
    Gives (.recoverRegion h r) s (fun t => Replies s t h x 0x0401 .accepted [s.nextOp] ∧
      Started s t x (.recoverRegion r.val) .accepted ∧
      { t with out := s.out, sessions := s.sessions, ops := s.ops, nextOp := s.nextOp } = s)) ∧
  (∀ (s : State) (h : EcpHdr) (x : Session) (r : Fin 256) (c : HostId), Quiet s → Frozen s → Takes s h x → x.perms.configure = true → s.running < 64 → s.txns.lost = [] → s.resetHalves = [] → s.flag F.REGION_CTRL_VALID r.val = true → s.fenced r.val c.val = true → s.market.recalls.contains (r.val, c.val) = false → s.market.cache = [] → 
    Gives (.unfenceHost h r c) s (fun t => Replies s t h x 0x0402 .accepted [s.nextOp] ∧
      Started s t x (.unfence r.val c.val) .accepted ∧
      t.get F.REGION_STATUS_STATE r.val = 2 ∧
      t.fenced r.val c.val = true ∧
      t.market = { s.market with recalls := s.market.recalls ++ [(r.val, c.val)] } ∧
      KeepsRegs s t [⟨.REGION_STATUS, r.val, 0⟩, ⟨.REGION_FENCED, r.val, c.val / 32⟩] ∧
      { t with out := s.out, sessions := s.sessions, ops := s.ops, nextOp := s.nextOp, regs := s.regs, market := s.market } = s)) ∧
  (∀ (s : State) (h : EcpHdr) (x : Session) (a : Half), Quiet s → Frozen s → Takes s h x → x.perms.configure = true → s.running < 64 → s.txns.lost = [] → s.resetHalves = [] → s.flag F.COH_STATUS_FLUSHING (hix a) = false → s.market.cache = [] → 
    Gives (.flushLedger h a) s (fun t => Replies s t h x 0x0403 .accepted [s.nextOp] ∧
      Started s t x (.flushLedger (hix a)) .accepted ∧
      t.flag F.COH_STATUS_FLUSHING (hix a) = true ∧
      KeepsRegs s t [⟨.COH_STATUS, hix a, 0⟩] ∧
      { t with out := s.out, sessions := s.sessions, ops := s.ops, nextOp := s.nextOp, regs := s.regs } = s)) ∧
  (∀ (s : State) (h : EcpHdr) (x : Session) (c : Fin 28) (a : BitVec 64), Quiet s → Frozen s → Takes s h x → x.perms.configure = true → s.running < 64 → s.txns.lost = [] → s.resetHalves = [] → s.flag F.CH_CFG_PRIV_OK c.val = false → s.ch c.val = chIdle → a.toNat % 64 = 0 → a.toNat < 2 ^ 52 → s.chPauses c.val = false → s.irqTouch (192 + c.val) = s → 
    Gives (.porterStartChain h c a) s (fun t => Replies s t h x 0x0500 .accepted [s.nextOp] ∧
      Started s t x (.chain c.val) .accepted ∧
      t.ch c.val = chRunning ∧
      t.get F.CH_HEAD_V c.val = a.toNat / 64 ∧
      t.get F.CH_CUR_V c.val = a.toNat ∧
      t.rd .CH_SEEN c.val = s.rd .CH_DOORBELL c.val ∧
      (t.chan c.val).fetching = true ∧
      (t.chan c.val).desc = none ∧
      KeepsRegs s t [⟨.CH_STATUS, c.val, 0⟩, ⟨.CH_HEAD, c.val, 0⟩, ⟨.CH_CUR, c.val, 0⟩, ⟨.CH_SEEN, c.val, 0⟩] ∧
      { t with out := s.out, sessions := s.sessions, ops := s.ops, nextOp := s.nextOp, regs := s.regs, channels := s.channels } = s)) ∧
  (∀ (s : State) (h : EcpHdr) (x : Session) (c : Fin 28), Quiet s → Frozen s → Takes s h x → x.perms.observe = true → s.txns.lost = [] → s.resetHalves = [] → 
    Gives (.getChannel h c) s (fun t => Replies s t h x 0x0501 .ok ((s.heard h x).readAll (keysIn (channelBlock c.val) 0x100)).1 ∧
      { t with out := s.out, sessions := s.sessions, regs := s.regs, free := s.free } = s)) ∧
  (∀ (s : State) (h : EcpHdr) (x : Session) (c : Fin 28) (b : Bool), Quiet s → Frozen s → Takes s h x → x.perms.configure = true → s.txns.lost = [] → s.resetHalves = [] → s.ch c.val ≠ chWaiting → s.ch c.val ≠ chPaused → 
    Gives (.pauseChannel h c b) s (fun t => Replies s t h x 0x0502 .ok [] ∧
      t.flag F.CH_CTRL_PAUSE c.val = b ∧
      KeepsRegs s t [⟨.CH_CTRL, c.val, 0⟩] ∧
      { t with out := s.out, sessions := s.sessions, regs := s.regs } = s)) ∧
  (∀ (s : State) (h : EcpHdr) (x : Session) (c : Fin 28) (p : Nat), Quiet s → Frozen s → Takes s h x → x.perms.configure = true → s.txns.lost = [] → s.resetHalves = [] → s.ch c.val = chIdle → (List.range 16).find? (fun k => Word.bits (s.rd .PORTER_PHYS (c.val / 14)) (F.PORTER_PHYS_ACTIVE.lo + k) 1 == 0 && Word.bits (s.rd .PORTER_PHYS (c.val / 14)) (F.PORTER_PHYS_RETIRED.lo + k) 1 == 0) = some p → 
    Gives (.retireChannel h c) s (fun t => Replies s t h x 0x0503 .ok [] ∧
      Word.bits (t.rd .PORTER_MAP (c.val / 14)) (4 * (c.val % 14)) 4 = p ∧
      Word.bits (t.rd .PORTER_PHYS (c.val / 14)) (F.PORTER_PHYS_RETIRED.lo + Word.bits (s.rd .PORTER_MAP (c.val / 14)) (4 * (c.val % 14)) 4) 1 = 1 ∧
      Word.bits (t.rd .PORTER_PHYS (c.val / 14)) (F.PORTER_PHYS_ACTIVE.lo + p) 1 = 1 ∧
      KeepsRegs s t [⟨.PORTER_PHYS, c.val / 14, 0⟩, ⟨.PORTER_MAP, c.val / 14, 0⟩] ∧
      { t with out := s.out, sessions := s.sessions, regs := s.regs } = s))

/-- ECP: live relocation: what each command answers and leaves (R376, R382, R384, R385, R388, R390, R391, R396, R451). Clauses of it rest on the model's choices: log entries 122, 169. -/
def Obligations.RelocationCommands : Prop :=
  (∀ (s : State) (h : EcpHdr) (x : Session) (o d l : BitVec 64) (b : Bool) (c : Nat), Quiet s → Frozen s → Takes s h x → x.perms.configure = true → s.running < 64 → s.startCtx (relocStart o.toNat d.toNat l.toNat b) = some c → s.txState 3 = txFree → s.txns.fw = [] → s.txns.lost = [] → s.resetHalves = [] → 
    Gives (.relocStart h o d l b) s (fun t => Replies s t h x 0x0510 .accepted [s.nextOp] ∧
      Started s t x .relocStarting .accepted ∧
      t.txState 3 = txValidating ∧
      (t.tx 3).fw = some (.relocStart s.nextOp (relocStart o.toNat d.toNat l.toNat b)) ∧
      (t.tx 3).shadow = s.startItems (relocStart o.toNat d.toNat l.toNat b) c ∧
      t.get F.SLOT_BASE_EPOCH_V 3 = s.get F.EPOCH_V ∧
      KeepsRegs s t [⟨.TXSLOT_STATE, 3, 0⟩, ⟨.SLOT_BASE_EPOCH, 3, 0⟩] ∧
      t.msgs = s.msgs ∧
      t.mem = s.mem ∧
      t.relocs = s.relocs)) ∧
  (∀ (s : State) (h : Half) (o d l : BitVec 64) (b : Bool) (c : Fin 8) (n : Nat) (q : Operation), Quiet s → Frozen s → s.applySlot = some 3 → s.txState 3 = txApplying → (s.tx 3).stepOf (hix h) = some .applied → (s.tx 3).stepOf (1 - hix h) = some .toldApplied → (s.tx 3).halves.map Prod.fst = [0, 1] → (s.tx 3).fw = some (.relocStart n (relocStart o.toNat d.toNat l.toNat b)) → (s.tx 3).shadow = s.startItems (relocStart o.toNat d.toNat l.toNat b) c.val → (s.tx 3).redo = s.startItems (relocStart o.toNat d.toNat l.toNat b) c.val → o.toNat / 2 ^ 30 % 2 = 0 → d.toNat / 2 ^ 63 = 1 → d.toNat / 2 ^ 48 % 128 < 96 → s.rlState c.val = rlFree → s.ops = [q] → q.id = n → s.msgs = [] → s.txns.deferred = [] → s.txns.queue = [] → s.txns.fw = [] → s.power.warmWaits = none → s.sessions = [] → (∀ c : Fin 28, s.ch c.val = chIdle) → 
    Gives (.appliedReport h) s (fun t => t.rlState c.val = rlCopying ∧
      t.wmark (c.val / 4) c.val = 0 ∧
      t.get F.RELOC_SRC_PORT c.val = s.get F.STALL_SLICE_PORT (o.toNat % 2 ^ 12) (o.toNat / 2 ^ 20 % 16) ∧
      t.get F.RELOC_SRC_DPA_BASE c.val = s.get F.STALL_SLICE_DPA_BASE (o.toNat % 2 ^ 12) (o.toNat / 2 ^ 20 % 16) ∧
      t.get F.RELOC_DST_PORT c.val = d.toNat / 2 ^ 48 % 128 ∧
      t.get F.RELOC_DST_DPA_BASE c.val = d.toNat % 2 ^ 24 ∧
      t.flag F.RELOC_OBJECT_VALID c.val = true ∧
      t.get F.RELOC_OBJECT_OBJECT c.val = o.toNat % 2 ^ 12 ∧
      t.get F.RELOC_CHUNKS_N c.val = 256 * s.sliceUnits false (o.toNat % 2 ^ 12) ∧
      t.flag F.RELOC_CTRL_AUTO_COMMIT c.val = b ∧
      t.get F.EPOCH_V = s.get F.JOURNAL_EPOCH_V 3 ∧
      (t.reloc c.val).step = .publish ∧
      t.ops = [{ q with kind := .relocation c.val }] ∧
      t.txState 3 = txFree ∧
      t.msgs = s.msgs ∧
      t.mem = s.mem)) ∧
  (∀ (s : State) (h : EcpHdr) (x : Session) (y : Fin 8), Quiet s → Frozen s → Takes s h x → x.perms.configure = true → s.rlState y.val = rlSynced → s.flag F.RELOC_OBJECT_MARKET y.val = false → s.flag F.RELOC_OBJECT_REMOTE y.val = true → s.refusing = false → s.fwHas (.relocCommit y.val) = false → 
    Gives (.relocCommit h y) s (fun t => Replies s t h x 0x0511 .ok [] ∧
      t.rlState y.val = rlCommitting ∧
      (t.reloc y.val).phase = 4 ∧
      KeepsRegs s t [⟨.RELOC_STATE, y.val, 0⟩, ⟨.IA_PENDING, (248 + y.val) / 32, 0⟩] ∧
      { t with out := s.out, sessions := s.sessions, regs := s.regs, relocs := s.relocs, agg := s.agg } = s)) ∧
  (∀ (s : State) (h : EcpHdr) (x : Session) (y : Fin 8), Quiet s → Frozen s → Takes s h x → x.perms.configure = true → s.rlState y.val = rlSynced → s.flag F.RELOC_OBJECT_MARKET y.val = false → s.flag F.RELOC_OBJECT_REMOTE y.val = false → s.refusing = false → s.txState 3 = txFree → s.txns.fw = [] → s.fwHas (.relocCommit y.val) = false → 
    Gives (.relocCommit h y) s (fun t => Replies s t h x 0x0511 .ok [] ∧
      t.rlState y.val = rlSynced ∧
      t.txState 3 = txValidating ∧
      (t.tx 3).fw = some (.relocCommit y.val) ∧
      (t.tx 3).shadow = s.rlItems y.val ∧
      t.get F.SLOT_BASE_EPOCH_V 3 = s.get F.EPOCH_V ∧
      KeepsRegs s t [⟨.TXSLOT_STATE, 3, 0⟩, ⟨.SLOT_BASE_EPOCH, 3, 0⟩] ∧
      t.msgs = s.msgs ∧
      t.mem = s.mem)) ∧
  (∀ (s : State) (y : Fin 8), Quiet s → Frozen s → s.txState 3 = txValidating → (s.tx 3).fw = some (.relocCommit y.val) → (s.tx 3).recalls = [] → (s.tx 3).validations < 8 → s.rlState y.val = rlSynced → (s.setTx 3 { s.tx 3 with shadow := s.rlItems y.val, writes := (s.rlItems y.val).map Prod.fst }).commitCheck 3 = none → s.sessions = [] → s.power.warmWaits = none → (∀ c : Fin 28, s.ch c.val = chIdle) → 
    Gives (.commitValidated 3) s (fun t => t.rlState y.val = rlCommitting ∧
      (t.reloc y.val).phase = 4 ∧
      t.txState 3 = txStaged ∧
      (t.tx 3).redo = s.rlItems y.val ∧
      t.get F.JOURNAL_EPOCH_V 3 = s.nextEpoch ∧
      t.txns.queue = s.txns.queue ++ [3] ∧
      t.msgs = s.msgs ∧
      t.mem = s.mem)) ∧
  (∀ (s : State) (h : EcpHdr) (x : Session) (y : Fin 8) (o : Operation), Quiet s → Frozen s → Takes s h x → x.perms.configure = true → s.rlState y.val = rlCopying → s.rlNeedsReverse y.val = false → (s.reloc y.val).back = false → s.msgs = [] → s.ops = [o] → o.kind = .relocation y.val → o.status = .accepted → o.session = x.id → 
    Gives (.relocRollback h y) s (fun t => Replies s t h x 0x0512 .ok [] ∧
      t.rlState y.val = rlRollingBack ∧
      t.get F.RELOC_WATERMARK_W y.val = 0 ∧
      t.get F.RELOC_IN_COPY_C y.val = noChunk ∧
      (t.reloc y.val).step = .publish ∧
      (t.reloc y.val).phase = 5 ∧
      (t.reloc y.val).journalled = 0 ∧
      t.ranges = s.ranges ∧
      t.ops = s.ops ∧
      t.msgs = s.msgs ∧
      t.mem = s.mem)) ∧
  (∀ (s : State) (h : EcpHdr) (x : Session) (y : Fin 8) (b : Bool), Quiet s → Frozen s → Takes s h x → x.perms.configure = true → s.rlState y.val ≠ rlFree → s.rlState y.val ≠ rlPaused → 
    Gives (.relocPause h y b) s (fun t => Replies s t h x 0x0513 .ok [] ∧
      t.flag F.RELOC_CTRL_PAUSE y.val = b ∧
      KeepsRegs s t [⟨.RELOC_CTRL, y.val, 0⟩] ∧
      { t with out := s.out, sessions := s.sessions, regs := s.regs } = s)) ∧
  (∀ (s : State) (h : EcpHdr) (x : Session) (y : Fin 8), Quiet s → Frozen s → Takes s h x → x.perms.configure = true → s.rlState y.val = rlStopped → (s.reloc y.val).back = false → s.portNotBack [s.get F.RELOC_SRC_PORT y.val] = none → s.swapped.contains (s.rlSlice y.val) = false → s.msgs = [] → 
    Gives (.relocResume h y) s (fun t => Replies s t h x 0x0514 .ok [] ∧
      t.rlState y.val = rlCopying ∧
      (t.reloc y.val).fails = 0 ∧
      (t.reloc y.val).step = .publish ∧
      (t.reloc y.val).journalled = s.wmark (y.val / 4) y.val ∧
      t.wmark (y.val / 4) y.val = s.wmark (y.val / 4) y.val ∧
      { t with out := s.out, sessions := s.sessions, regs := s.regs, relocs := s.relocs, agg := s.agg } = s)) ∧
  (∀ (s : State) (h : EcpHdr) (x : Session) (y : Fin 8), Quiet s → Frozen s → Takes s h x → x.perms.observe = true → s.txns.lost = [] → s.resetHalves = [] → 
    Gives (.relocStatus h y) s (fun t => Replies s t h x 0x0515 .ok ((s.heard h x).readAll (keysIn (0x02600000 + 0x01000000 * (y.val / 4) + 0x100 * (y.val % 4)) 0x40)).1 ∧
      { t with out := s.out, sessions := s.sessions, regs := s.regs, free := s.free } = s)) ∧
  (∀ (s : State) (h : EcpHdr) (x : Session) (p q : Port) (l : Fin 16) (a u : BitVec 24) (f : BitVec 32) (m : Nat) (k : Bool), Quiet s → Frozen s → Takes s h x → x.perms.configure = true → s.running < 64 → s.isCascade p.val = true → s.role q.val = 3 → u ≠ 0 → s.deviceOf q.val l.val = some (m, k) → 256 * a.toNat + 256 * u.toNat ≤ m → s.ranges = [] → s.refusing = false → s.inbound = [] → (s.ownedRanges ++ s.targetRanges).any (fun y => (DevRange.placed { port := q.val, ld := l.val, start := 256 * a.toNat, len := 256 * u.toNat } 0).meets y) = false → 
    Gives (.relocInbound h p q l a u f) s (fun t => Replies s t h x 0x0516 .accepted [s.nextOp] ∧
      Started s t x (.relocInbound f.toNat) .accepted ∧
      t.inbound = [{ cascade := p.val, range := { port := q.val, ld := l.val, start := 256 * a.toNat, len := 256 * u.toNat }, far := f.toNat }] ∧
      { t with out := s.out, sessions := s.sessions, ops := s.ops, nextOp := s.nextOp, inbound := s.inbound } = s))

/-- ECP: slots, the power ladder and resets: what each command answers and leaves (R40, R274, R525, R528, R536, R541, R552, R589, R451). Clauses of it rest on the model's choices: log entry 105. -/
def Obligations.SlotAndPowerCommands : Prop :=
  (∀ (s : State) (h : EcpHdr) (x : Session) (n : SlotId), Quiet s → Frozen s → Takes s h x → x.perms.observe = true → 
    Gives (.getSlot h n) s (fun t => Replies s t h x 0x0600 .ok ((s.heard h x).readAll (keysIn (0x04010000 + 0x100 * n.val) 0x100)).1 ∧
      { t with out := s.out, sessions := s.sessions, regs := s.regs, free := s.free } = s)) ∧
  (∀ (s : State) (h : EcpHdr) (x : Session) (n : SlotId), Quiet s → Frozen s → Takes s h x → x.perms.configure = true → s.running < 64 → s.ops = [] → s.sl n.val = slReady → (s.slot n.val).deadline = none → s.curveOk n.val = true → 
    Gives (.slotPower h n true) s (fun t => Replies s t h x 0x0601 .accepted [s.nextOp] ∧
      Started s t x (.slotPower n.val) .accepted ∧
      t.flag F.SLOT_STATE_POWER_REQ n.val = true ∧
      t.sl n.val = slPrecharge ∧
      KeepsRegs s t [⟨.SLOT_STATE, n.val, 0⟩, ⟨.IA_PENDING, (277 + n.val) / 32, 0⟩] ∧
      t.msgs = s.msgs)) ∧
  (∀ (s : State) (h : EcpHdr) (x : Session) (n : SlotId), Quiet s → Frozen s → Takes s h x → x.perms.configure = true → s.running < 64 → s.ops = [] → s.sl n.val = slOn → s.portOfSlot n.val = none → 
    Gives (.slotPower h n false) s (fun t => Replies s t h x 0x0601 .accepted [s.nextOp] ∧
      Started s t x (.slotPower n.val) .ok ∧
      t.flag F.SLOT_STATE_POWER_REQ n.val = false ∧
      t.sl n.val = slReady ∧
      t.flag F.SLOT_STATE_PG n.val = false ∧
      KeepsRegs s t [⟨.SLOT_STATE, n.val, 0⟩, ⟨.IA_PENDING, (277 + n.val) / 32, 0⟩] ∧
      t.msgs = s.msgs)) ∧
  (∀ (s : State) (h : EcpHdr) (x : Session) (n : SlotId), Quiet s → Frozen s → Takes s h x → x.perms.configure = true → s.ops = [] → s.sl n.val = slLockout → s.flag F.SLOT_STATE_LONG_PIN n.val = true → s.flag F.SLOT_STATE_SHORT_PIN n.val = true → s.flag F.SLOT_STATE_POWER_REQ n.val = false → 
    Gives (.slotClearLockout h n) s (fun t => Replies s t h x 0x0602 .ok [] ∧
      t.sl n.val = slReady ∧
      t.get F.SLOT_STATE_RETRIES n.val = 0 ∧
      (t.slot n.val).deadline = none ∧
      KeepsRegs s t [⟨.SLOT_STATE, n.val, 0⟩, ⟨.IA_PENDING, (277 + n.val) / 32, 0⟩] ∧
      { t with out := s.out, sessions := s.sessions, regs := s.regs, agg := s.agg, slots := s.slots } = s)) ∧
  (∀ (s : State) (h : EcpHdr) (x : Session) (n : SlotId) (v : BitVec 32), Quiet s → Frozen s → Takes s h x → x.perms.configure = true → s.ops = [] → v.toNat / 2 ^ 16 % 4 ≠ 0 → 2 ≤ v.toNat % 256 → v.toNat % 256 ≤ 200 → s.sl n.val = slReady → s.slSupplied n.val = true → 
    Gives (.slotSetFeed h n v) s (fun t => Replies s t h x 0x0603 .ok [] ∧
      t.flag F.SLOT_FEED_ALLOW_A n.val = decide (v.toNat / 2 ^ 16 % 2 = 1) ∧
      t.flag F.SLOT_FEED_ALLOW_B n.val = decide (v.toNat / 2 ^ 17 % 2 = 1) ∧
      t.sl n.val = slReady ∧
      KeepsRegs s t [⟨.SLOT_FEED, n.val, 0⟩, ⟨.SLOT_STATE, n.val, 0⟩])) ∧
  (∀ (s : State) (h : EcpHdr) (x : Session), Quiet s → Frozen s → Takes s h x → x.perms.observe = true → 
    Gives (.getPowerState h) s (fun t => Replies s t h x 0x0700 .ok ((s.heard h x).readAll (keysIn 0x00030000 0x5C)).1 ∧
      { t with out := s.out, sessions := s.sessions, regs := s.regs, free := s.free } = s)) ∧
  (∀ (s : State) (h : EcpHdr) (x : Session), Quiet s → Frozen s → Takes s h x → x.perms.configure = true → s.running < 64 → s.rungBusy 1 = false → 
    Gives (.setPowerState h 1) s (fun t => Replies s t h x 0x0701 .accepted [s.nextOp] ∧
      Started s t x (.powerState 1) .accepted ∧
      t.power = { s.power with entering := some rungGlow } ∧
      { t with out := s.out, sessions := s.sessions, ops := s.ops, nextOp := s.nextOp, power := s.power } = s)) ∧
  (∀ (s : State) (h : EcpHdr) (x : Session) (p : Port) (a : BitVec 64) (n : BitVec 32), Quiet s → Frozen s → Takes s h x → x.perms.configure = true → s.running < 64 → s.txState 3 = txFree → s.txns.fw = [] → n.toNat = 2 ^ 24 → a.toNat % 2 ^ 24 = 0 → a.toNat / 2 ^ 52 % 256 = 0 → 
    Gives (.setKeepRegion h p a n) s (fun t => Replies s t h x 0x0702 .accepted [s.nextOp] ∧
      Started s t x (.commit 3) .accepted ∧
      t.txState 3 = txValidating ∧
      (t.tx 3).shadow = (s.keepItems p.val (a.toNat / 2 ^ 60) (a.toNat % 2 ^ 52)) ∧
      (t.tx 3).fw = some (.op s.nextOp ((s.keepItems p.val (a.toNat / 2 ^ 60) (a.toNat % 2 ^ 52))) none) ∧
      t.get F.SLOT_BASE_EPOCH_V 3 = s.get F.EPOCH_V))

/-- ECP: warm, half and Hearth-only resets: what each command leaves (R40, R46, R589, R622, R451). Clauses of it rest on the model's choices: log entries 45, 46. -/
def Obligations.ResetCommandsOfFirmware : Prop :=
  (∀ (s : State) (h : EcpHdr) (x : Session), Quiet s → Frozen s → Takes s h x → x.perms.configure = true → s.running < 64 → s.warmBusy = false → s.flag F.COH_STATUS_FLUSHING 0 = false → s.flag F.COH_STATUS_FLUSHING 1 = false → s.power.resetLow = false → s.sec.advancing = false → s.resetPorts = [] → s.resetHalves = [] → s.txns.fw = [] → (∀ p : Port, s.flag F.PORT_SLOT_VALID p.val = false) → (∀ x ∈ s.resetHalves, x < 2) → s.power.sealed ≠ .invalid → s.regionSlices = [] → s.msgs = [] → s.market.cache = [] → s.market.flows = [] → s.seamUp = false → s.inbound = [] → (∀ k : Fin 4, s.txState k.val = txFree) → (∀ y : Fin 8, s.rlState y.val = rlFree) → (∀ c : Fin 28, s.ch c.val = chIdle) → s.ops = [] → 
    Gives (.resetWarm h) s (fun t => t.out = s.out ++ [.reply h.src x.id h.seq.toNat ⟨0x0703, .accepted, [s.nextOp]⟩] ∧
      t.rung = rungKindling ∧
      t.get F.RST_CAUSE_V = 2 ∧
      t.get F.RST_COUNT_WARM = saturated F.RST_COUNT_WARM.w (s.get F.RST_COUNT_WARM) 1 ∧
      t.hearthDown = false ∧
      t.resetHalves = [] ∧
      t.sessions = [] ∧
      t.get F.KINDLE_STATUS_FROM = 1)) ∧
  (∀ (s : State) (h : EcpHdr) (x : Session) (a : Half), Quiet s → Frozen s → Takes s h x → x.perms.configure = true → s.running < 64 → s.halfBusy (hix a) = false → s.resetPorts = [] → s.regionSlices = [] → s.msgs = [] → s.market.cache = [] → s.market.flows = [] → s.seamUp = false → s.inbound = [] → (∀ k : Fin 4, s.txState k.val = txFree) → (∀ y : Fin 8, s.rlState y.val = rlFree) → (∀ c : Fin 28, s.ch c.val = chIdle) → s.ops = [] → 
    Gives (.resetHalf h a) s (fun t => Replies s t h x 0x0704 .accepted [s.nextOp] ∧
      Started s t x (.resetHalf (hix a)) .accepted ∧
      t.resetHalves = s.resetHalves ++ [hix a] ∧
      (∀ p : Port, halfOf p.val = hix a → t.linkState p.val = t.restState p.val) ∧
      (∀ p : Port, halfOf p.val ≠ hix a → t.linkState p.val = s.linkState p.val) ∧
      t.msgs = [] ∧
      t.mem = s.mem ∧
      t.hearthDown = s.hearthDown)) ∧
  (∀ (s : State) (h : EcpHdr) (x : Session), Quiet s → Frozen s → Takes s h x → x.perms.configure = true → s.running < 64 → s.hearthBusy = false → s.txns.fw = [] → s.flag F.FC_SRC_LATCHED 780 = true → s.flag F.FC_SRC_LATCHED 781 = true → s.flag F.HALF_STATE_HOLD 0 = false → s.flag F.HALF_STATE_HOLD 1 = false → (∀ k : Fin 4, s.txState k.val = txFree) → s.ops = [] → 
    Gives (.resetHearth h) s (fun t => t.out = s.out ++ [.reply h.src x.id h.seq.toNat ⟨0x0705, .accepted, [s.nextOp]⟩] ∧
      t.hearthDown = true ∧
      t.sessions = [] ∧
      t.get F.RST_CAUSE_V = 3 ∧
      t.get F.RST_COUNT_HEARTH = saturated F.RST_COUNT_HEARTH.w (s.get F.RST_COUNT_HEARTH) 1 ∧
      t.txns.lost = [0, 1] ∧
      t.flag F.HALF_STATE_HOLD 0 = true ∧
      t.flag F.HALF_STATE_HOLD 1 = true ∧
      t.msgs = s.msgs ∧
      t.holds = s.holds ∧
      t.resetHalves = s.resetHalves))

/-- ECP: faults, registers and telemetry: what each command answers and leaves (R430, R451, R497, R499, R500, R565, R571, R572, R577). Clauses of it rest on the model's choices: log entries 105, 120, 126, 127. -/
def Obligations.FaultAndTelemetryCommands : Prop :=
  (∀ (s : State) (h : EcpHdr) (x : Session) (n : BitVec 32), Quiet s → Frozen s → Takes s h x → x.perms.observe = true → 76 ≤ x.replyLimit → s.faultRecords.length ≤ n.toNat + (min (x.replyLimit - 4) 4072 - 40) / 32 → 
    Gives (.getFaults h n) s (fun t => Replies s t h x 0x0800 .ok (0xFFFFFFFF :: (s.faultRecords.drop n.toNat).flatten) ∧
      { t with out := s.out, sessions := s.sessions } = s)) ∧
  (∀ (s : State) (h : EcpHdr) (x : Session) (n : BitVec 32), Quiet s → Frozen s → Takes s h x → x.perms.configure = true → n.toNat < 1024 → s.flag F.FC_SRC_LATCHED n.toNat = true → s.get F.FC_SRC_APPLIED n.toNat = 0 → s.conditionNow n.toNat = false → s.holds = [] → s.containQuench = [] → 
    Gives (.clearFault h n) s (fun t => Replies s t h x 0x0801 .ok [] ∧
      t.flag F.FC_SRC_LATCHED n.toNat = false ∧
      t.get F.FC_SRC_COUNT n.toNat = 0 ∧
      KeepsRegs s t [⟨.FC_SRC, n.toNat, 0⟩, ⟨.IA_PENDING, 8, 0⟩] ∧
      t.mem = s.mem ∧
      t.msgs = s.msgs)) ∧
  (∀ (s : State) (h : EcpHdr) (x : Session) (n v : BitVec 32), Quiet s → Frozen s → Takes s h x → x.perms.configure = true → n.toNat < 1024 → reactionAllowed n.toNat v.toNat = true → 
    Gives (.setReaction h n v) s (fun t => Replies s t h x 0x0802 .ok [] ∧
      t.get F.FC_SRC_REACTION n.toNat = v.toNat ∧
      KeepsRegs s t [⟨.FC_SRC, n.toNat, 0⟩] ∧
      { t with out := s.out, sessions := s.sessions, regs := s.regs } = s)) ∧
  (∀ (s : State) (h : EcpHdr) (x : Session) (a : BitVec 64) (k : Key), Quiet s → Frozen s → Takes s h x → x.perms.observe = true → regAt a.toNat = some (k, 0) → s.farAnswers a.toNat = true → 
    Gives (.readRegisters h [a]) s (fun t => Replies s t h x 0x0900 .ok [((s.sense k).view k).toNat] ∧
      { t with out := s.out, sessions := s.sessions, regs := s.regs, free := s.free } = s)) ∧
  (∀ (s : State) (h : EcpHdr) (x : Session) (a v : BitVec 64) (u : Fin 256) (i : Fin 8), Quiet s → Frozen s → Takes s h x → x.perms.configure = true → regAt a.toNat = some (⟨.PMU_COUNT, u.val, i.val⟩, 0) → s.farAnswers a.toNat = true → s.flag F.PMU_EVSEL_EN u.val i.val = false → 
    Gives (.programCounters h [(a, v)]) s (fun t => Replies s t h x 0x0901 .ok [] ∧
      KeepsRegs s t [⟨.PMU_COUNT, u.val, i.val⟩] ∧
      t.get F.PMU_COUNT_V u.val i.val = v.toNat % 2 ^ 48 ∧
      { t with out := s.out, sessions := s.sessions, regs := s.regs } = s)) ∧
  (∀ (s : State) (h : EcpHdr) (x : Session) (a : BitVec 64) (n : BitVec 32), Quiet s → Frozen s → Takes s h x → x.perms.configure = true → s.flag F.SNAP_CTRL_EN = false → a.toNat % 64 = 0 → a.toNat < 2 ^ 52 → n ≠ 0 → n.toNat < 65536 → 
    Gives (.setSnapshotRing h a n) s (fun t => Replies s t h x 0x0902 .ok [] ∧
      t.get F.SNAP_RING_BASE_V = a.toNat / 64 ∧
      t.get F.SNAP_RING_COUNT_V = n.toNat ∧
      t.telem = { s.telem with seq := 0 } ∧
      KeepsRegs s t [⟨.SNAP_RING_BASE, 0, 0⟩, ⟨.SNAP_RING_COUNT, 0, 0⟩] ∧
      { t with out := s.out, sessions := s.sessions, regs := s.regs, telem := s.telem } = s)) ∧
  (∀ (s : State) (h : EcpHdr) (x : Session) (n : BitVec 32), Quiet s → Frozen s → Takes s h x → x.perms.observe = true → 76 ≤ x.replyLimit → (s.flash.actions ++ s.flash.samples).length ≤ n.toNat + (x.replyLimit - 4 - 40) / 32 → 
    Gives (.getWearRecord h n) s (fun t => (Replies s t h x 0x0903 .ok ((if s.flash.wrapped then 1 else 0) :: 0xFFFFFFFF :: ((s.flash.actions ++ s.flash.samples).drop n.toNat).flatMap WearEntry.fields)) ∧
      { t with out := s.out, sessions := s.sessions } = s)) ∧
  (∀ (s : State) (h : EcpHdr) (x : Session) (a : BitVec 64), Quiet s → Frozen s → Takes s h x → x.perms.configure = true → s.running < 64 → s.ops = [] → s.hearthDown = false → ((∀ k : Fin 10, s.privPath 0 (a.toNat + 64 * k.val) 64 true = .internal)) → inEmber a.toNat = true → inEmber (a.toNat + 639) = true → 
    Gives (.telemetryDump h a) s (fun t => Replies { s with out := s.out ++ [.dumped a.toNat (s.snapBytes s.telem.seq s.now (s.snapUnits 0) (s.snapUnits 1))] } t h x 0x0904 .accepted [s.nextOp] ∧
      Started s t x .telemetry .ok ∧
      memGet t.mem a.toNat 640 = s.snapBytes s.telem.seq s.now (s.snapUnits 0) (s.snapUnits 1) ∧
      (t.mem.filter (fun c => decide (c.1 < a.toNat) || decide (a.toNat + 640 ≤ c.1)) = s.mem.filter (fun c => decide (c.1 < a.toNat) || decide (a.toNat + 640 ≤ c.1))) ∧
      t.regs = s.regs ∧
      t.msgs = s.msgs))

/-- ECP: lifecycle, credentials, tamper and debug unlock: what each command answers and leaves (R407, R409, R417, R418, R422, R435, R437, R451). Clauses of it rest on the model's choices: log entries 47, 129, 138. -/
def Obligations.SecurityCommands : Prop :=
  (∀ (s : State) (h : EcpHdr) (x : Session), Quiet s → Frozen s → Takes s h x → x.perms.observe = true → 
    Gives (.getSecurityState h) s (fun t => Replies s t h x 0x0A00 .ok ((s.heard h x).readAll (keysIn 0x06000000 0x2C)).1 ∧
      { t with out := s.out, sessions := s.sessions, regs := s.regs, free := s.free } = s)) ∧
  (∀ (s : State) (h : EcpHdr) (x : Session), Quiet s → Frozen s → Takes s h x → x.perms.lifecycle = true → s.get F.LC_STATE_V = 0 → (∀ p : Port, s.get F.IDE_STATUS_RX p.val ≠ 2) → (∀ p : Port, s.get F.IDE_STATUS_TX p.val ≠ 2) → s.running < 64 → s.warmBusy = false → s.flag F.COH_STATUS_FLUSHING 0 = false → s.flag F.COH_STATUS_FLUSHING 1 = false → s.power.resetLow = false → s.sec.advancing = false → s.resetPorts = [] → s.resetHalves = [] → (∀ p : Port, s.flag F.PORT_SLOT_VALID p.val = false) → (∀ x ∈ s.resetHalves, x < 2) → s.power.sealed ≠ .invalid → s.regionSlices = [] → s.msgs = [] → s.market.cache = [] → s.market.flows = [] → s.seamUp = false → s.inbound = [] → (∀ k : Fin 4, s.txState k.val = txFree) → (∀ y : Fin 8, s.rlState y.val = rlFree) → (∀ c : Fin 28, s.ch c.val = chIdle) → s.ops = [] → s.txns.fw = [] → s.flash.keepPlace = none → 
    Gives (.lifecycleAdvance h 1) s (fun t => t.get F.LC_STATE_V = 1 ∧
      t.rung = rungKindling ∧
      t.get F.RST_CAUSE_V = 7 ∧
      t.sessions = [] ∧
      t.get F.WIPES_V = (s.get F.WIPES_V + 2) % 2 ^ F.WIPES_V.w ∧
      t.out = s.out ++ [.reply h.src x.id h.seq.toNat ⟨0x0A01, .accepted, [s.nextOp]⟩])) ∧
  (∀ (s : State) (h : EcpHdr) (x : Session) (c : Fin 32) (k : BitVec 256) (v : BitVec 32), Quiet s → Frozen s → Takes s h x → x.perms.lifecycle = true → v.toNat < 32 → 
    Gives (.provisionCredential h c (some k) v) s (fun t => Replies s t h x 0x0A02 .ok [] ∧
      t.flash.credentials = numPut ⟨0, {}, false⟩ c.val ⟨k.toNat, permsOf v.toNat, true⟩ s.flash.credentials ∧
      { t.flash with credentials := s.flash.credentials } = s.flash ∧
      { t with out := s.out, sessions := s.sessions, flash := s.flash } = s)) ∧
  (∀ (s : State) (h : EcpHdr) (x : Session) (c : Fin 32) (y : Credential), Quiet s → Frozen s → Takes s h x → x.perms.lifecycle = true → tabFind c.val s.flash.credentials = some y → x.credential ≠ c.val → 
    Gives (.revokeCredential h c) s (fun t => Replies s t h x 0x0A03 .ok [] ∧
      t.flash.credentials = numPut ⟨0, {}, false⟩ c.val { y with enabled := false } s.flash.credentials ∧
      { t with out := s.out, sessions := s.sessions, flash := s.flash } = s)) ∧
  (∀ (s : State) (h : EcpHdr) (x : Session), Quiet s → Frozen s → Takes s h x → x.perms.lifecycle = true → s.get F.TAMPER_ACTIVE_V = 0 → 
    Gives (.tamperClear h) s (fun t => Replies s t h x 0x0A04 .ok [] ∧
      t.rd .TAMPER_STATUS = 0 ∧
      KeepsRegs s t [⟨.TAMPER_STATUS, 0, 0⟩, ⟨.IA_PENDING, 260 / 32, 0⟩] ∧
      { t with out := s.out, sessions := s.sessions, regs := s.regs, agg := s.agg } = s)) ∧
  (∀ (s : State) (h : EcpHdr) (x : Session), Quiet s → Frozen s → Takes s h x → x.perms.unlock = true → s.flag F.DEBUG_STATUS_LOCKED_OUT = false → s.get F.LC_STATE_V ≠ 0 → 
    Gives (.unlockChallenge h) s (fun t => t.sec.nonce.isSome = true ∧
      (t.out = s.out ++ (t.sec.nonce.toList.map (fun n => .reply h.src x.id h.seq.toNat ⟨0x0A05, .ok, [n]⟩))) ∧
      t.flash = { s.flash with audit := s.flash.audit ++ [{ time := s.now, session := x.id, credential := x.credential, opcode := 0x0A05, objects := [] }] } ∧
      t.regs = s.regs)) ∧
  (∀ (s : State) (h : EcpHdr) (x : Session) (n : Nat), Quiet s → Frozen s → Takes s h x → x.perms.unlock = true → s.flag F.DEBUG_STATUS_LOCKED_OUT = false → s.sec.nonce = some n → 
    Gives (.unlockResponse h true) s (fun t => Replies s t h x 0x0A06 .ok [] ∧
      t.flag F.DEBUG_STATUS_UNLOCK_PENDING = true ∧
      t.sec.nonce = none ∧
      t.flash = { s.flash with audit := s.flash.audit ++ [{ time := s.now, session := x.id, credential := x.credential, opcode := 0x0A06, objects := [] }] } ∧
      KeepsRegs s t [⟨.DEBUG_STATUS, 0, 0⟩] ∧
      { t with out := s.out, sessions := s.sessions, regs := s.regs, sec := s.sec, flash := s.flash } = s)) ∧
  (∀ (s : State) (h : EcpHdr) (x : Session), Quiet s → Frozen s → Takes s h x → 
    Gives (.debugLock h) s (fun t => Replies s t h x 0x0A07 .ok [] ∧
      t.flag F.DEBUG_STATUS_UNLOCKED = false ∧
      t.flag F.DEBUG_STATUS_UNLOCK_PENDING = false ∧
      KeepsRegs s t ([⟨.DEBUG_STATUS, 0, 0⟩] ++ (s.regs.filter (fun e => decide (e.1.reg = .LL_INJECT))).map (fun e => ⟨.LL_INJECT, e.1.i, 0⟩)) ∧
      { t with out := s.out, sessions := s.sessions, regs := s.regs } = s))

/-- ECP: firmware images, the audit log, debug and injection: what each command answers and leaves (R158, R252, R404, R407, R412, R497, R501, R451). Clauses of it rest on the model's choices: log entries 87, 120, 128, 130. -/
def Obligations.FirmwareAndDebugCommands : Prop :=
  (∀ (s : State) (h : EcpHdr) (x : Session) (k : Fin 2) (n : BitVec 32), Quiet s → Frozen s → Takes s h x → x.perms.lifecycle = true → 
    Gives (.fwBegin h k n) s (fun t => Replies s t h x 0x0A08 .ok [] ∧
      t.sec = { s.sec with fw := some (k.val, n.toNat, []) } ∧
      { t with out := s.out, sessions := s.sessions, sec := s.sec } = s)) ∧
  (∀ (s : State) (h : EcpHdr) (x : Session) (a : BitVec 32) (d g : List Byte) (k n : Nat), Quiet s → Frozen s → Takes s h x → x.perms.lifecycle = true → s.sec.fw = some (k, n, g) → a.toNat = g.length → g.length + d.length ≤ n → 
    Gives (.fwData h a d) s (fun t => Replies s t h x 0x0A09 .ok [] ∧
      t.sec = { s.sec with fw := some (k, n, g ++ d) } ∧
      { t with out := s.out, sessions := s.sessions, sec := s.sec } = s)) ∧
  (∀ (s : State) (h : EcpHdr) (x : Session) (b : Bool) (g : List Byte) (k n : Nat), Quiet s → Frozen s → Takes s h x → x.perms.lifecycle = true → s.running < 64 → s.sec.fw = some (k, n, g) → g.length = n → s.ops = [] → 
    Gives (.fwEnd h b) s (fun t => Replies s t h x 0x0A0A .accepted [s.nextOp] ∧
      (t.ops.map (fun o => (o.id, o.kind, o.status)) = [(s.nextOp, .firmware k, if b then .ok else .faulted)]) ∧
      t.sec = { s.sec with fw := none, images := numPut [] k g s.sec.images } ∧
      t.regs = s.regs)) ∧
  (∀ (s : State) (h : EcpHdr) (x : Session) (k : Fin 2), Quiet s → Frozen s → Takes s h x → x.perms.lifecycle = true → 
    Gives (.setPreferredSlot h k) s (fun t => Replies s t h x 0x0A0B .ok [] ∧
      t.get F.BOOT_STATUS_PREFERRED = k.val ∧
      KeepsRegs s t [⟨.BOOT_STATUS, 0, 0⟩] ∧
      { t with out := s.out, sessions := s.sessions, regs := s.regs } = s)) ∧
  (∀ (s : State) (h : EcpHdr) (x : Session) (n : BitVec 32), Quiet s → Frozen s → Takes s h x → x.perms.observe = true → 104 ≤ x.replyLimit → s.flash.audit.length ≤ n.toNat + (x.replyLimit - 40) / 64 → 
    Gives (.getAuditLog h n) s (fun t => Replies s t h x 0x0A0C .ok (0xFFFFFFFF :: (s.flash.audit.drop n.toNat).flatMap AuditEntry.fields) ∧
      { t with out := s.out, sessions := s.sessions } = s)) ∧
  (∀ (s : State) (h : EcpHdr) (x : Session) (a : BitVec 64) (d : List Byte), Quiet s → Frozen s → Takes s h x → x.perms.configure = true → s.debugAllowed = true → s.txns.lost = [] → s.privPath 0 a.toNat 4 false = .internal → a.toNat % 64 = 0 → inScratchpad a.toNat = true → inSealed a.toNat = false → inSealed (a.toNat + 3) = false → s.flag F.SP_BANK_CTRL_RETAINED (bankOf a.toNat) = false → 
    Gives (.debugReadMemory h a 4 d) s (fun t => Replies s t h x 0x0B00 .ok ((memGet s.mem a.toNat 4).map BitVec.toNat) ∧
      t.mem = s.mem)) ∧
  (∀ (s : State) (h : EcpHdr) (x : Session) (a : BitVec 64) (d : List Byte), Quiet s → Frozen s → Takes s h x → x.perms.configure = true → s.debugAllowed = true → s.txns.lost = [] → s.privPath 0 a.toNat d.length true = .internal → a.toNat % 64 = 0 → 0 < d.length → d.length ≤ 64 → inEmber a.toNat = true → 
    Gives (.debugWriteMemory h a d) s (fun t => Replies s t h x 0x0B01 .ok [] ∧
      t.mem = (s.memStore a.toNat d).mem ∧
      t.msgs = s.msgs)) ∧
  (∀ (s : State) (h : EcpHdr) (x : Session) (n : BitVec 32), Quiet s → Frozen s → Takes s h x → x.perms.configure = true → n.toNat < 1024 → s.debugAllowed = true → s.flag F.FC_SRC_LATCHED n.toNat = false → s.get F.FC_SRC_REACTION n.toNat = 0 → 
    Gives (.forceFault h n) s (fun t => Replies s t h x 0x0B02 .ok [] ∧
      t.flag F.FC_SRC_FORCE n.toNat = true ∧
      t.flag F.FC_SRC_LATCHED n.toNat = true ∧
      t.get F.FC_SRC_COUNT n.toNat = 1 ∧
      t.get F.FC_SRC_APPLIED n.toNat = 0 ∧
      t.get F.FC_RING_SEQ_SEQ = (s.get F.FC_RING_SEQ_SEQ + 1) % 2 ^ 32 ∧
      KeepsRegs s t [⟨.FC_SRC, n.toNat, 0⟩, ⟨.FC_RING_SEQ, 0, 0⟩, ⟨.FC_RING_HEAD, 0, 0⟩, ⟨.IA_PENDING, 8, 0⟩])) ∧
  (∀ (s : State) (h : EcpHdr) (x : Session) (a : BitVec 64) (v : BitVec 32) (k : Fin 112), Quiet s → Frozen s → Takes s h x → x.perms.configure = true → s.debugAllowed = true → regAt a.toNat = some (⟨.LL_INJECT_N, k.val, 0⟩, 0) → s.farAnswers a.toNat = true → s.rung = rungBlaze → (isSeam k.val = true ∨ s.isCascade k.val = true) → v.toNat % 2 ^ 16 ≠ 0 → 
    Gives (.linkInject h a v) s (fun t => Replies s t h x 0x0B03 .ok [] ∧
      t.get F.LL_INJECT_N_N k.val = v.toNat % 2 ^ 16 ∧
      KeepsRegs s t [⟨.LL_INJECT_N, k.val, 0⟩] ∧
      { t with out := s.out, sessions := s.sessions, regs := s.regs } = s)) ∧
  (∀ (s : State) (h : EcpHdr) (x : Session) (st : StallId) (o : BitVec 64), Quiet s → Frozen s → Takes s h x → x.perms.configure = true → s.debugAllowed = true → s.flag F.STALL_CTRL_DEFINED st.val = true → s.inStall st.val o.toNat = true → s.flag F.STALL_CTRL_SEALED st.val = false → 
    Gives (.poisonLine h st o) s (fun t => Replies (s.hearthWrite (s.stallLine st.val o.toNat).1 (s.stallLine st.val o.toNat).2 (List.replicate 64 0) true) t h x 0x0B04 .ok [] ∧
      { t with out := (s.hearthWrite (s.stallLine st.val o.toNat).1 (s.stallLine st.val o.toNat).2 (List.replicate 64 0) true).out, sessions := (s.hearthWrite (s.stallLine st.val o.toNat).1 (s.stallLine st.val o.toNat).2 (List.replicate 64 0) true).sessions } = (s.hearthWrite (s.stallLine st.val o.toNat).1 (s.stallLine st.val o.toNat).2 (List.replicate 64 0) true)))

/-- The fabric-manager API: what each command answers and leaves (R117, R118, R404, R452, R453, R454). Clauses of it rest on the model's choices: log entry 131. -/
def Obligations.FabricManagerCommands : Prop :=
  (∀ (s : State) (p : Port), Quiet s → Frozen s → s.ecpRuns = true → s.fmAllows (.cxl p) = true → s.flag F.FC_STATUS_ASH = false → s.power.verifying = false → 
    Gives (.fmIdentify (.cxl p)) s (fun t => Says s t p.val (.fmReply (.cxl p) .success s.identity) ∧
      { t with out := s.out, msgs := s.msgs, nextId := s.nextId, regs := s.regs } = s)) ∧
  (∀ (s : State) (p : Port), Quiet s → Frozen s → s.ecpRuns = true → s.fmAllows (.cxl p) = true → s.flag F.FC_STATUS_ASH = false → s.power.verifying = false → 
    Gives (.fmIdentifySwitchDevice (.cxl p)) s (fun t => Says s t p.val (.fmReply (.cxl p) .success s.identity) ∧
      { t with out := s.out, msgs := s.msgs, nextId := s.nextId, regs := s.regs } = s)) ∧
  (∀ (s : State) (p : Port) (o : Operation), Quiet s → Frozen s → s.ecpRuns = true → s.fmAllows (.cxl p) = true → s.flag F.FC_STATUS_ASH = false → s.power.verifying = false → s.fmOp (.cxl p) = some o → 
    Gives (.fmBackgroundOperationStatus (.cxl p)) s (fun t => Says s t p.val (.fmReply (.cxl p) .success [o.status.code]) ∧
      { t with out := s.out, msgs := s.msgs, nextId := s.nextId, regs := s.regs } = s)) ∧
  (∀ (s : State) (p : Port), Quiet s → Frozen s → s.ecpRuns = true → s.fmAllows (.cxl p) = true → s.flag F.FC_STATUS_ASH = false → s.power.verifying = false → 
    Gives (.fmGetResponseMessageLimit (.cxl p)) s (fun t => Says s t p.val (.fmReply (.cxl p) .success [s.fmLimit (.cxl p)]) ∧
      { t with out := s.out, msgs := s.msgs, nextId := s.nextId, regs := s.regs } = s)) ∧
  (∀ (s : State) (p : Port) (n : BitVec 32), Quiet s → Frozen s → s.ecpRuns = true → s.fmAllows (.cxl p) = true → s.flag F.FC_STATUS_ASH = false → s.power.verifying = false → 256 ≤ n.toNat → n.toNat ≤ 4096 → 
    Gives (.fmSetResponseMessageLimit (.cxl p) n) s (fun t => Says s t p.val (.fmReply (.cxl p) .success [n.toNat]) ∧
      t.fmLimit (.cxl p) = n.toNat ∧
      { t with out := s.out, msgs := s.msgs, nextId := s.nextId, regs := s.regs, ecp := s.ecp } = s)) ∧
  (∀ (s : State) (p : Port) (q : Port), Quiet s → Frozen s → s.ecpRuns = true → s.fmAllows (.cxl p) = true → s.flag F.FC_STATUS_ASH = false → s.power.verifying = false → s.txns.lost = [] → s.resetHalves = [] → 
    Gives (.fmGetPhysicalPortState (.cxl p) q) s (fun t => Says s t p.val (.fmReply (.cxl p) .success (s.readAll (keysIn (0x01000000 + 0x10000 * q.val) 0x2300)).1) ∧
      { t with out := s.out, msgs := s.msgs, nextId := s.nextId, regs := s.regs, free := s.free } = s)) ∧
  (∀ (s : State) (p : Port) (q : Port), Quiet s → Frozen s → s.ecpRuns = true → s.fmAllows (.cxl p) = true → s.flag F.FC_STATUS_ASH = false → s.power.verifying = false → s.txns.lost = [] → s.resetHalves = [] → s.rung = rungBlaze → s.power.entering = none → s.carriesBinding q.val = false → s.linkState q.val = lsDisabled → 
    Gives (.fmPhysicalPortControl (.cxl p) q (.disable true)) s (fun t => Says s t p.val (.fmReply (.cxl p) .success []) ∧
      (t.lanes.disabled = s.lanes.disabled.filter (fun y => y != q.val) ++ [q.val]) ∧
      { t with out := s.out, msgs := s.msgs, nextId := s.nextId, regs := s.regs, lanes := s.lanes } = s)) ∧
  (∀ (s : State) (p : Port) (q : Port) (a : BitVec 64) (r : BitVec 32), Quiet s → Frozen s → s.ecpRuns = true → s.fmAllows (.cxl p) = true → s.flag F.FC_STATUS_ASH = false → s.power.verifying = false → s.txns.lost = [] → s.resetHalves = [] → s.rung = rungBlaze → s.power.entering = none → s.linkState q.val = lsL0 → s.refuses q.val = false → 3 ≤ s.role q.val → s.role q.val ≤ 5 → 
    Gives (.fmSendPpbConfigRequest (.cxl p) q a none (some r)) s (fun t => Says { s with out := s.out ++ [.partnerConfig q.val 0 a.toNat 0 false] } t p.val (.fmReply (.cxl p) .success [r.toNat]) ∧
      { t with out := s.out, msgs := s.msgs, nextId := s.nextId, regs := s.regs } = s)) ∧
  (∀ (s : State) (p : Port) (q : Port), Quiet s → Frozen s → s.ecpRuns = true → s.fmAllows (.cxl p) = true → s.flag F.FC_STATUS_ASH = false → s.power.verifying = false → s.isHostPort q.val = true → 
    Gives (.fmGetVcsInfo (.cxl p) q) s (fun t => Says s t p.val (.fmReply (.cxl p) .success (s.vcsInfo q.val).2) ∧
      { t with out := s.out, msgs := s.msgs, nextId := s.nextId, regs := s.regs } = s)) ∧
  (∀ (s : State) (p : Port) (q : Port) (v : Vdsp) (st : StallId), Quiet s → Frozen s → s.ecpRuns = true → s.fmAllows (.cxl p) = true → s.flag F.FC_STATUS_ASH = false → s.power.verifying = false → s.running < 64 → s.fmBusy (.cxl p) = false → s.txState 3 = txFree → s.txns.fw = [] → s.regionsValid = [] → s.role q.val = 1 → (List.range 32).find? (fun d => !s.flag F.DEC_CTRL_VALID (s.get F.PORT_CFG_HOST_ID q.val) d) = some 0 → (List.range 256).find? (fun w => !s.flag F.WIN_BASE_VALID (s.get F.PORT_CFG_HOST_ID q.val) w) = some 0 → 
    Gives (.fmBindVppb (.cxl p) q v (.stall st)) s (fun t => Says s t p.val (.fmReply (.cxl p) .backgroundStarted [s.nextOp]) ∧
      t.ops = s.ops ++ [{ id := s.nextOp, kind := .commit 3, session := 0, status := .accepted, credential := fmCredential }] ∧
      t.nextOp = (s.nextOp + 1) % 2 ^ 32 ∧
      t.txState 3 = txValidating ∧
      (t.tx 3).shadow = s.bindItems (s.get F.PORT_CFG_HOST_ID q.val) v.val st.val 0 0)) ∧
  (∀ (s : State) (p : Port) (q : Port) (v : Vdsp) (k : Nat), Quiet s → Frozen s → s.ecpRuns = true → s.fmAllows (.cxl p) = true → s.flag F.FC_STATUS_ASH = false → s.power.verifying = false → s.running < 64 → s.fmBusy (.cxl p) = false → s.txState 3 = txFree → s.txns.fw = [] → s.isHostPort q.val = true → s.stallAt (s.get F.PORT_CFG_HOST_ID q.val) v.val = some k → s.regionsValid = [] → 
    Gives (.fmUnbindVppb (.cxl p) q v) s (fun t => Says s t p.val (.fmReply (.cxl p) .backgroundStarted [s.nextOp]) ∧
      t.ops = s.ops ++ [{ id := s.nextOp, kind := .commit 3, session := 0, status := .accepted, credential := fmCredential }] ∧
      t.nextOp = (s.nextOp + 1) % 2 ^ 32 ∧
      t.txState 3 = txValidating ∧
      (t.tx 3).shadow = s.unbindItems (s.get F.PORT_CFG_HOST_ID q.val) k)) ∧
  (∀ (s : State) (p : Port) (q : Port) (v : BitVec 32) (d : List Byte), Quiet s → Frozen s → s.ecpRuns = true → s.fmAllows (.cxl p) = true → s.flag F.FC_STATUS_ASH = false → s.power.verifying = false → s.isHostPort q.val = true → 
    Gives (.fmGenerateAerEvent (.cxl p) q v d) s (fun t => Says { s with out := s.out ++ [.aer q.val v.toNat d] } t p.val (.fmReply (.cxl p) .success []) ∧
      { t with out := s.out, msgs := s.msgs, nextId := s.nextId, regs := s.regs } = s)) ∧
  (∀ (s : State) (p : Port) (q : Port) (d r : List Byte), Quiet s → Frozen s → s.ecpRuns = true → s.fmAllows (.cxl p) = true → s.flag F.FC_STATUS_ASH = false → s.power.verifying = false → s.txns.lost = [] → s.resetHalves = [] → s.rung = rungBlaze → s.power.entering = none → s.linkState q.val = lsL0 → s.refuses q.val = false → s.role q.val = 3 → 
    Gives (.fmTunnelManagementCommand (.cxl p) q .ldInfo d (some r)) s (fun t => Says { s with out := s.out ++ [.tunnel q.val d] } t p.val (.fmReply (.cxl p) .success (r.map BitVec.toNat)) ∧
      { t with out := s.out, msgs := s.msgs, nextId := s.nextId, regs := s.regs } = s)) ∧
  (∀ (s : State) (p : Port) (q : Port) (l : Fin 16) (a : BitVec 52) (v r : BitVec 32), Quiet s → Frozen s → s.ecpRuns = true → s.fmAllows (.cxl p) = true → s.flag F.FC_STATUS_ASH = false → s.power.verifying = false → s.txns.lost = [] → s.resetHalves = [] → s.rung = rungBlaze → s.power.entering = none → s.linkState q.val = lsL0 → s.refuses q.val = false → s.role q.val = 3 → (s.deviceOf q.val l.val).isSome = true → 
    Gives (.fmSendLdConfigRequest (.cxl p) q l a (some v) (some r)) s (fun t => Says { s with out := s.out ++ [.partnerConfig q.val l.val a.toNat v.toNat true] } t p.val (.fmReply (.cxl p) .success []) ∧
      { t with out := s.out, msgs := s.msgs, nextId := s.nextId, regs := s.regs } = s)) ∧
  (∀ (s : State) (p : Port) (q : Port) (l : Fin 16) (a : BitVec 52) (n : Fin 4001) (d : List Byte) (m : Nat) (v : Bool), Quiet s → Frozen s → s.ecpRuns = true → s.fmAllows (.cxl p) = true → s.flag F.FC_STATUS_ASH = false → s.power.verifying = false → s.txns.lost = [] → s.resetHalves = [] → s.rung = rungBlaze → s.power.entering = none → s.linkState q.val = lsL0 → s.refuses q.val = false → s.role q.val = 3 → s.deviceOf q.val l.val = some (m, v) → a.toNat + n.val ≤ m * 2 ^ 20 → d.length = n.val → s.stallsDefined = [] → 
    Gives (.fmSendLdMemoryRequest (.cxl p) q l a n false d) s (fun t => Says s t p.val (.fmReply (.cxl p) .success (d.map BitVec.toNat)) ∧
      { t with out := s.out, msgs := s.msgs, nextId := s.nextId, regs := s.regs } = s)) ∧
  (∀ (s : State) (p : Port) (o : BitVec 16), Quiet s → Frozen s → s.ecpRuns = true → s.fmAllows (.cxl p) = true → s.flag F.FC_STATUS_ASH = false → s.power.verifying = false → fmOpcodes.contains o.toNat = false → 
    Gives (.fmUnsupportedCommand (.cxl p) o) s (fun t => Says s t p.val (.fmReply (.cxl p) .unsupported []) ∧
      { t with out := s.out, msgs := s.msgs, nextId := s.nextId, regs := s.regs } = s))

/-- A step runs the command at the front of the queue on the rest of it (00_scope). -/
def Obligations.FrontCommandRunsOnTheRestOfTheQueue : Prop :=
  ∀ (c : Instr) (s : State) (q : List Instr), step { s with pending := c :: q } = exec c { s with pending := q }

/-- With no command waiting time passes, or a waiting ECP command runs (DESIGN CHOICE, log entry 6) (R39, R442, R509). Clauses of it rest on the model's choices: log entry 6. -/
def Obligations.AnEmptyQueueLetsTimePass : Prop :=
  (∀ (s u : State) (i : Instr), s.pending = [] → s.readyCommand = some (i, u) → step s = exec i u) ∧
  (∀ (s : State), s.pending = [] → s.readyCommand = none → s.sessions = [] → Quiet s → Frozen s →
    s.telem.waits = [] → (∀ p : Port, s.queue p.val 3 = [] ∧ s.bulkCredit p.val = 0 ∧ s.flag F.BULK_STATUS_PROMOTED p.val = false) →
    ∃ t, step s = .next t ∧ t.get F.FC_TIME_V = (s.get F.FC_TIME_V + if s.rung = rungBanked ∨ s.rung = rungEmber then 30518 else 10) % 2 ^ F.FC_TIME_V.w ∧
      t.flash = { s.flash with life := s.flash.life + if s.rung = rungBanked ∨ s.rung = rungEmber then 30518 else 10 } ∧
      KeepsRegs s t [⟨.FC_TIME, 0, 0⟩] ∧ { t with regs := s.regs, flash := s.flash } = s)

/-- No command ever faults or is refused, and after every step no reaction is under way (R497, R503). Clauses of it rest on the model's choices: log entries 112, 134. -/
def Obligations.EveryStepAnswersAQuietState : Prop :=
  ∀ s : State, ∃ t, step s = .next t ∧ Quiet t

/-- After reset no reaction is under way, and the register file and the memory are in their canonical forms (R503). -/
def Obligations.TheResetStateIsQuietAndCanonical : Prop :=
  Quiet State.reset ∧ RegsCanonical State.reset.regs ∧ Memory.wf State.reset.mem

/-- What reset leaves in registers whose reset value the register tables give (R18, R243, R372, R498, R541). Clauses of it rest on the model's choices: log entry 21. -/
def Obligations.WhatResetLeaves : Prop :=
  (∀ c : Fin 28, State.reset.ch c.val = chIdle ∧ State.reset.flag F.CH_CTRL_ERR_IRQ_EN c.val = true ∧ State.reset.flag F.CH_CTRL_PAUSE c.val = false) ∧ (∀ x : Fin 8, State.reset.rlState x.val = rlFree ∧ State.reset.get F.RELOC_WATERMARK_W x.val = 0) ∧ (∀ k : Fin 4, State.reset.txState k.val = txFree) ∧ (∀ n : Fin 1024, State.reset.flag F.FC_SRC_LATCHED n.val = false ∧ State.reset.get F.FC_SRC_COUNT n.val = 0) ∧ (∀ p : Port, State.reset.role p.val = 0 ∧ State.reset.isHeld p.val = false) ∧ State.reset.rung = rungBlaze ∧ State.reset.flag F.FC_STATUS_ASH = false ∧ State.reset.pending = [] ∧ State.reset.msgs = [] ∧ State.reset.mem = [] ∧ State.reset.sessions = [] ∧ State.reset.ops = []

/-- R440: the sequence number of a packet with a valid tag decides what becomes of it (R440). -/
def Obligations.SequenceNumbersDecideWhatAPacketDoes : Prop :=
  (∀ (id cred : Nat) (p : Perms) (a : Source), ({ id := id, credential := cred, perms := p, source := a } : Session).high = 0) ∧
  (∀ (s : State) (i : Instr) (h : EcpHdr) (x : Session) (c : Cmd) (run : Body), h.tagOk = true → x.source = h.src → (x.high < h.seq.toNat ∨ (h.seq.toNat ≠ 0 ∧ x.high ≤ h.seq.toNat + 63 ∧ x.record.contains h.seq.toNat = false)) →
    s.onSession i h x c run = s.acceptCommand i x h.seq.toNat c (h.paramErr.map Fin.val) run ∧
      (x.accept h.seq.toNat).high = max x.high h.seq.toNat ∧ h.seq.toNat ∈ (x.accept h.seq.toNat).record) ∧
  (∀ (s : State) (i : Instr) (h : EcpHdr) (x : Session) (c : Cmd) (run : Body), h.tagOk = true → x.source = h.src → h.seq.toNat ≤ x.high → h.seq.toNat ≠ 0 → x.high ≤ h.seq.toNat + 63 → x.record.contains h.seq.toNat = true →
    (∀ r, x.cache.find? (fun e => e.1 == h.seq.toNat) = some (h.seq.toNat, r) →
      Says s (s.onSession i h x c run) (sourcePort h.src) (.reply h.src x.id h.seq.toNat r) ∧
      { s.onSession i h x c run with out := s.out, msgs := s.msgs, nextId := s.nextId } = s) ∧
    (x.cache.find? (fun e => e.1 == h.seq.toNat) = none → x.working h.seq.toNat = true → s.onSession i h x c run = s) ∧
    (x.cache.find? (fun e => e.1 == h.seq.toNat) = none → x.working h.seq.toNat = false → Frozen s → s.onSession i h x c run = { s with ecp := { s.ecp with uncached := s.ecp.uncached + 1 } })) ∧
  (∀ (s : State) (i : Instr) (h : EcpHdr) (x : Session) (c : Cmd) (run : Body), h.tagOk = true → x.source = h.src → h.seq.toNat ≤ x.high → (h.seq.toNat = 0 ∨ h.seq.toNat + 63 < x.high) → Frozen s →
    s.onSession i h x c run = { s with ecp := { s.ecp with replayed := s.ecp.replayed + 1 } }) ∧
  (∀ (x : Session) (n m : Nat), (∀ y ∈ x.record, y ≤ x.high) → m ∈ (x.accept n).record → (x.accept n).high ≤ m + 63 ∧ m ≤ (x.accept n).high)

/-- R275: a transaction belongs to the session that began it, and ends with it (R275). -/
def Obligations.ATransactionBelongsToItsSession : Prop :=
  (∀ (s : State) (h : EcpHdr) (x : Session) (k : Nat), Quiet s → Frozen s → Takes s h x → x.perms.configure = true → s.freeTxn = some k → 
    Gives (.txnBegin h) s (fun t => Replies s t h x 0x0300 .ok [k] ∧
      (t.tx k).owner = x.id ∧
      t.txState k = txOpen ∧
      { t with out := s.out, sessions := s.sessions, regs := s.regs, txns := s.txns } = s)) ∧
  (∀ (s : State) (h : EcpHdr) (x : Session) (k : Fin 4) (l : List RegItem), Quiet s → Frozen s → Takes s h x → x.perms.configure = true → s.txState k.val ≠ txFree → (s.tx k.val).owner ≠ x.id → 
    Gives (.txnWrite h k l) s (fun t => Replies s t h x 0x0301 .denied [0, noItem] ∧
      { t with out := s.out, sessions := s.sessions } = s)) ∧
  (∀ (s : State) (h : EcpHdr) (x : Session) (k : Fin 4) (l : List Entry), Quiet s → Frozen s → Takes s h x → x.perms.configure = true → s.txState k.val ≠ txFree → (s.tx k.val).owner ≠ x.id → 
    Gives (.txnWriteEntry h k l) s (fun t => Replies s t h x 0x0302 .denied [0, noItem] ∧
      { t with out := s.out, sessions := s.sessions } = s)) ∧
  (∀ (s : State) (h : EcpHdr) (x : Session) (k : Fin 4), Quiet s → Frozen s → Takes s h x → x.perms.configure = true → s.txState k.val ≠ txFree → (s.tx k.val).owner ≠ x.id → 
    Gives (.txnCommit h k) s (fun t => Replies s t h x 0x0304 .denied [0, noItem] ∧
      { t with out := s.out, sessions := s.sessions } = s)) ∧
  (∀ (s : State) (h : EcpHdr) (x : Session) (k : Fin 4), Quiet s → Frozen s → Takes s h x → x.perms.configure = true → s.txState k.val ≠ txFree → (s.tx k.val).owner ≠ x.id → 
    Gives (.txnRollback h k) s (fun t => Replies s t h x 0x0305 .denied [0, noItem] ∧
      { t with out := s.out, sessions := s.sessions } = s)) ∧
  (∀ (s : State) (h : EcpHdr) (x : Session), Quiet s → Frozen s → Takes s h x → (∀ k : Fin 4, s.txState k.val ≠ txValidating) → s.ops = [] → 
    Gives (.sessionClose h) s (fun t => t.sessions = [] ∧
      (∀ k : Fin 3, (s.tx k.val).owner = x.id → s.txState k.val = txOpen → t.txState k.val = txFree ∧ t.tx k.val = {}) ∧
      (∀ k : Fin 4, (s.tx k.val).owner ≠ x.id → t.txState k.val = s.txState k.val ∧ t.tx k.val = s.tx k.val)))

/-- R276: an open transaction that receives no command for its time is rolled back, and naming it is INVALID (R276). -/
def Obligations.AnIdleTransactionIsRolledBack : Prop :=
  (∀ (s : State) (k : Fin 4), Quiet s → Frozen s → s.txState k.val = txOpen → 
    Gives (.txnIdleTimeout k) s (fun t => t.txState k.val = txFree ∧
      t.tx k.val = {} ∧
      KeepsRegs s t [⟨.TXSLOT_STATE, k.val, 0⟩, ⟨.SLOT_BASE_EPOCH, k.val, 0⟩] ∧
      { t with regs := s.regs, txns := s.txns } = s)) ∧
  (∀ (s : State) (h : EcpHdr) (x : Session) (k : Fin 4) (l : List RegItem), Quiet s → Frozen s → Takes s h x → x.perms.configure = true → s.txState k.val = txFree → 
    Gives (.txnWrite h k l) s (fun t => Replies s t h x 0x0301 .invalid [4, noItem] ∧
      { t with out := s.out, sessions := s.sessions } = s)) ∧
  (∀ (s : State) (h : EcpHdr) (x : Session) (k : Fin 4) (l : List Entry), Quiet s → Frozen s → Takes s h x → x.perms.configure = true → s.txState k.val = txFree → 
    Gives (.txnWriteEntry h k l) s (fun t => Replies s t h x 0x0302 .invalid [4, noItem] ∧
      { t with out := s.out, sessions := s.sessions } = s)) ∧
  (∀ (s : State) (h : EcpHdr) (x : Session) (k : Fin 4) (a : BitVec 64), Quiet s → Frozen s → Takes s h x → x.perms.configure = true → s.txState k.val = txFree → 
    Gives (.txnRead h k a) s (fun t => Replies s t h x 0x0303 .invalid [4, noItem] ∧
      { t with out := s.out, sessions := s.sessions } = s)) ∧
  (∀ (s : State) (h : EcpHdr) (x : Session) (k : Fin 4), Quiet s → Frozen s → Takes s h x → x.perms.configure = true → s.txState k.val = txFree → 
    Gives (.txnCommit h k) s (fun t => Replies s t h x 0x0304 .invalid [4, noItem] ∧
      { t with out := s.out, sessions := s.sessions } = s)) ∧
  (∀ (s : State) (h : EcpHdr) (x : Session) (k : Fin 4), Quiet s → Frozen s → Takes s h x → x.perms.configure = true → s.txState k.val = txFree → 
    Gives (.txnRollback h k) s (fun t => Replies s t h x 0x0305 .invalid [4, noItem] ∧
      { t with out := s.out, sessions := s.sessions } = s))

/-- Rollback discards the shadow and frees the slot; of a free slot it is INVALID, during a commit BUSY (R286, R287). -/
def Obligations.RollbackDiscardsTheShadow : Prop :=
  (∀ (s : State) (h : EcpHdr) (x : Session) (k : Fin 4), Quiet s → Frozen s → Takes s h x → x.perms.configure = true → s.txState k.val = txOpen → k.val ≠ 3 → (s.tx k.val).owner = x.id → 
    Gives (.txnRollback h k) s (fun t => Replies s t h x 0x0305 .ok [] ∧
      t.txState k.val = txFree ∧
      t.tx k.val = {} ∧
      KeepsRegs s t [⟨.TXSLOT_STATE, k.val, 0⟩, ⟨.SLOT_BASE_EPOCH, k.val, 0⟩] ∧
      { t with out := s.out, sessions := s.sessions, regs := s.regs, txns := s.txns } = s)) ∧
  (∀ (s : State) (h : EcpHdr) (x : Session) (k : Fin 4), Quiet s → Frozen s → Takes s h x → x.perms.configure = true → s.txState k.val = txFree → 
    Gives (.txnRollback h k) s (fun t => Replies s t h x 0x0305 .invalid [4, noItem] ∧
      { t with out := s.out, sessions := s.sessions } = s)) ∧
  (∀ (s : State) (h : EcpHdr) (x : Session) (k : Fin 4), Quiet s → Frozen s → Takes s h x → x.perms.configure = true → s.txState k.val ≠ txOpen → s.txState k.val ≠ txFree → k.val ≠ 3 → (s.tx k.val).owner = x.id → 
    Gives (.txnRollback h k) s (fun t => Replies s t h x 0x0305 .busy [0, noItem] ∧
      { t with out := s.out, sessions := s.sessions } = s))

/-- R500: a write of REACTION takes effect at the next latch, and one that the source does not allow is discarded (R500). -/
def Obligations.ReactionsTakeEffectAtTheNextLatch : Prop :=
  (∀ (s : State) (n v : Nat) (i : FaultInfo), n < 1024 → reactionAllowed n v = true →
    (s.flag F.FC_SRC_LATCHED n = false → ((s.setReaction n v).raise n i).get F.FC_SRC_APPLIED n = v) ∧
    (s.setReaction n v).get F.FC_SRC_APPLIED n = s.get F.FC_SRC_APPLIED n ∧ (s.setReaction n v).flag F.FC_SRC_LATCHED n = s.flag F.FC_SRC_LATCHED n ∧
    (s.setReaction n v).get F.FC_SRC_COUNT n = s.get F.FC_SRC_COUNT n ∧ OnlyRegs s (s.setReaction n v) [⟨.FC_SRC, n, 0⟩]) ∧
  (∀ (s : State) (n v : Nat), reactionAllowed n v = false → s.setReaction n v = s)

/-- The first raise of a source latches it with one record; further ones only count (R497, R508). Clauses of it rest on the model's choices: log entry 99. -/
def Obligations.ARaiseLatchesOnceAndThenCounts : Prop :=
  (∀ (s : State) (n : Nat) (i : FaultInfo), n < 1024 → s.flag F.FC_SRC_LATCHED n = false → s.flag F.FC_SRC_FORCE n = false →
    (s.raise n i).flag F.FC_SRC_LATCHED n = true ∧ (s.raise n i).get F.FC_SRC_COUNT n = 1 ∧ (s.raise n i).get F.FC_SRC_APPLIED n = s.get F.FC_SRC_REACTION n ∧
    (s.raise n i).get F.FC_RING_SEQ_SEQ = (s.get F.FC_RING_SEQ_SEQ + 1) % 2 ^ 32 ∧ (s.raise n i).get F.FC_RING_HEAD_V = (s.get F.FC_RING_HEAD_V + 1) % 2 ^ F.FC_RING_HEAD_V.w ∧
    (s.raise n i).mem = (s.memStore (ringBase + 32 * s.get F.FC_RING_HEAD_V) (recordBytes s.now n false (s.get F.FC_SRC_REACTION n) i (s.get F.EPOCH_V) ((s.get F.FC_RING_SEQ_SEQ + 1) % 2 ^ 32))).mem ∧
    (s.raise n i).msgs = s.msgs ∧ KeepsRegs s (s.raise n i) [⟨.FC_SRC, n, 0⟩, ⟨.FC_RING_SEQ, 0, 0⟩, ⟨.FC_RING_HEAD, 0, 0⟩]) ∧
  (∀ (s : State) (n : Nat) (i : FaultInfo), s.flag F.FC_SRC_LATCHED n = true → (s.raise n i).get F.FC_SRC_COUNT n = saturated 8 (s.get F.FC_SRC_COUNT n) 1 ∧
    (s.raise n i).get F.FC_SRC_APPLIED n = s.get F.FC_SRC_APPLIED n ∧ (s.raise n i).flag F.FC_SRC_LATCHED n = true ∧ OnlyRegs s (s.raise n i) [⟨.FC_SRC, n, 0⟩])

/-- Only Hearth cores reach the sealed part; what another agent reads of scratchpad does not depend on it (R410). -/
def Obligations.TheSealedPartIsClosedToAllButCores : Prop :=
  (∀ (s : State) (a : Agent) (addr : Nat) (data : List Byte), isCore a = false → inScratchpad addr = true → (inSealed addr = true ∨ inSealed (addr + data.length - 1) = true) → Frozen s → s.flag F.FC_SRC_LATCHED 788 = true →
    (s.busRead a addr data.length).1 = none ∧ (s.busWrite a addr data).1 = false ∧ (s.busWrite a addr data).2 = (s.busRead a addr data.length).2 ∧
    (s.busWrite a addr data).2.get F.SEALED_DENIED_V = saturated F.SEALED_DENIED_V.w (s.get F.SEALED_DENIED_V) 1 ∧ (s.busWrite a addr data).2.get F.FC_SRC_COUNT 788 = saturated 8 (s.get F.FC_SRC_COUNT 788) 1 ∧
    OnlyRegs s (s.busWrite a addr data).2 [⟨.SEALED_DENIED, 0, 0⟩, ⟨.FC_SRC, 788, 0⟩]) ∧
  (∀ (s : State) (m : List Host.Cell) (a : Agent) (addr len : Nat), isCore a = false → inScratchpad addr = true → 0 < len → len ≤ 64 → (∀ b, inSealed b = false → memByte m b = memByte s.mem b) →
    (({ s with mem := m } : State).busRead a addr len).1 = (s.busRead a addr len).1)

/-- Every command of every form completes, from every state (00_scope, R497, R503). -/
def Obligations.EveryCommandAnswersANextState : Prop :=
  ∀ (c : Instr) (s : State), Gives c s (fun t => Quiet t)

end
end

