-- ==== Sys2Proof/Laws/Registers.lean ====
section
/-!
SUPPORT. The register file: what a read gives after a write, bit fields, and the canonical form (R4, R18).
-/
namespace Sys2Proof.Machine

/-! ## Tables -/

theorem tabFind_erase_self {κ α : Type} [DecidableEq κ] (k : κ) (t : List (κ × α)) : tabFind k (tabErase k t) = none := by
  induction t with
  | nil => rfl
  | cons e t ih =>
    by_cases h : e.1 = k
    · simpa [tabErase, h] using ih
    · simpa [tabErase, h, tabFind] using ih

theorem tabFind_erase_ne {κ α : Type} [DecidableEq κ] {k k' : κ} (h : k' ≠ k) (t : List (κ × α)) :
    tabFind k' (tabErase k t) = tabFind k' t := by
  induction t with
  | nil => rfl
  | cons e t ih =>
    by_cases he : e.1 = k
    · have : e.1 ≠ k' := fun hh => h (hh.symm.trans he)
      simpa [tabErase, he, tabFind, this, Ne.symm h] using ih
    · by_cases h' : e.1 = k'
      · simp [tabErase, tabFind, h', h]
      · simpa [tabErase, he, tabFind, h'] using ih

theorem tabFind_insert_self {κ α : Type} [DecidableEq κ] (lt : κ → κ → Bool) (k : κ) (v : α) (t : List (κ × α))
    (h : tabFind k t = none) : tabFind k (tabInsert lt k v t) = some v := by
  induction t with
  | nil => simp [tabInsert, tabFind]
  | cons e t ih =>
    have hk : e.1 ≠ k := by
      intro hh; simp [tabFind, hh] at h
    have ht : tabFind k t = none := by simpa [tabFind, hk] using h
    cases hl : lt k e.1 <;> simp [tabInsert, hl, tabFind, hk, ih ht]

theorem tabFind_insert_ne {κ α : Type} [DecidableEq κ] (lt : κ → κ → Bool) {k k' : κ} (h : k' ≠ k) (v : α)
    (t : List (κ × α)) : tabFind k' (tabInsert lt k v t) = tabFind k' t := by
  induction t with
  | nil => simp [tabInsert, tabFind, Ne.symm h]
  | cons e t ih =>
    cases hl : lt k e.1
    · by_cases he : e.1 = k' <;> simp_all [tabInsert, tabFind]
    · simp [tabInsert, hl, tabFind, Ne.symm h]

/-- The value of the written key. -/
theorem tabFind_put_self {κ α : Type} [DecidableEq κ] [DecidableEq α] (lt : κ → κ → Bool) (d : α) (k : κ) (v : α)
    (t : List (κ × α)) : (tabFind k (tabPut lt d k v t)).getD d = v := by
  by_cases h : v = d
  · simp [tabPut, h, tabFind_erase_self]
  · simp [tabPut, h, tabFind_insert_self lt k v _ (tabFind_erase_self k t)]

/-- Every other key keeps its value. -/
theorem tabFind_put_ne {κ α : Type} [DecidableEq κ] [DecidableEq α] (lt : κ → κ → Bool) (d : α) {k k' : κ} (h : k' ≠ k)
    (v : α) (t : List (κ × α)) : tabFind k' (tabPut lt d k v t) = tabFind k' t := by
  by_cases hv : v = d
  · simp [tabPut, hv, tabFind_erase_ne h]
  · simp [tabPut, hv, tabFind_insert_ne lt h, tabFind_erase_ne h]

@[simp] theorem numGet_put_self {α : Type} [DecidableEq α] (d : α) (k : Nat) (v : α) (t : List (Nat × α)) :
    numGet d k (numPut d k v t) = v := tabFind_put_self natLt d k v t

theorem numGet_put_ne {α : Type} [DecidableEq α] (d : α) {k k' : Nat} (h : k' ≠ k) (v : α) (t : List (Nat × α)) :
    numGet d k' (numPut d k v t) = numGet d k' t := by
  simp [numGet, numPut, tabFind_put_ne natLt d h]

/-! ## Bit fields -/

/-- A word is its bits below a field, the field, and its bits above. -/
theorem Word.split (n lo w : Nat) : n = 2 ^ lo * (2 ^ w * (n / 2 ^ lo / 2 ^ w) + n / 2 ^ lo % 2 ^ w) + n % 2 ^ lo := by
  rw [Nat.div_add_mod, Nat.div_add_mod]

/-- The bits of a word after a field is replaced. -/
theorem Word.testBit_setBits (v : Word) (lo w x n : Nat) (h : lo + w ≤ 64) :
    (Word.setBits v lo w x).toNat.testBit n = if lo ≤ n ∧ n < lo + w then x.testBit (n - lo) else v.toNat.testBit n := by
  have ha : v.toNat % 2 ^ lo < 2 ^ lo := Nat.mod_lt _ (by positivity)
  have hb : v.toNat / 2 ^ lo % 2 ^ w < 2 ^ w := Nat.mod_lt _ (by positivity)
  have hx : x % 2 ^ w < 2 ^ w := Nat.mod_lt _ (by positivity)
  have e : v.toNat - Word.bits v lo w * 2 ^ lo + x % 2 ^ w * 2 ^ lo
      = 2 ^ lo * (2 ^ w * (v.toNat / 2 ^ lo / 2 ^ w) + x % 2 ^ w) + v.toNat % 2 ^ lo := by
    have := Word.split v.toNat lo w
    unfold Word.bits
    rw [Nat.mul_add] at this ⊢
    rw [Nat.mul_comm _ (2 ^ lo), Nat.mul_comm (x % 2 ^ w) (2 ^ lo)]
    omega
  rw [Word.setBits, BitVec.toNat_ofNat, Nat.testBit_mod_two_pow, e, Nat.testBit_two_pow_mul_add _ ha,
    Nat.testBit_two_pow_mul_add _ hx]
  conv_rhs => rw [Word.split v.toNat lo w, Nat.testBit_two_pow_mul_add _ ha, Nat.testBit_two_pow_mul_add _ hb]
  by_cases h64 : n < 64
  · by_cases h1 : n < lo
    · simp [h64, h1, Nat.not_le.mpr h1]
    · by_cases h2 : n - lo < w
      · simp [h64, h1, h2, Nat.testBit_mod_two_pow, show lo ≤ n ∧ n < lo + w by omega]
      · simp [h64, h1, h2, show ¬ (lo ≤ n ∧ n < lo + w) by omega]
  · have hv : v.toNat.testBit n = false := Nat.testBit_lt_two_pow (lt_of_lt_of_le v.isLt (Nat.pow_le_pow_right (by omega) (by omega)))
    rw [Word.split v.toNat lo w, Nat.testBit_two_pow_mul_add _ ha, Nat.testBit_two_pow_mul_add _ hb] at hv
    simp only [h64, decide_false, Bool.false_and, show ¬ (lo ≤ n ∧ n < lo + w) by omega, if_false]
    exact hv.symm

theorem Word.testBit_bits (v : Word) (lo w n : Nat) :
    (Word.bits v lo w).testBit n = (decide (n < w) && v.toNat.testBit (n + lo)) := by
  rw [Word.bits, Nat.testBit_mod_two_pow, Nat.testBit_div_two_pow, Nat.add_comm]

/-- A field after it is written. -/
theorem Word.bits_setBits_self (v : Word) (lo w x : Nat) (h : lo + w ≤ 64) :
    Word.bits (Word.setBits v lo w x) lo w = x % 2 ^ w := by
  apply Nat.eq_of_testBit_eq
  intro n
  rw [Word.testBit_bits, Word.testBit_setBits _ _ _ _ _ h, Nat.testBit_mod_two_pow]
  by_cases hn : n < w
  · simp [hn, Nat.add_comm n lo]
  · simp [hn]

/-- A field after another is written. -/
theorem Word.bits_setBits_apart (v : Word) (lo w x lo' w' : Nat) (h : lo + w ≤ 64) (hd : lo + w ≤ lo' ∨ lo' + w' ≤ lo) :
    Word.bits (Word.setBits v lo w x) lo' w' = Word.bits v lo' w' := by
  apply Nat.eq_of_testBit_eq
  intro n
  rw [Word.testBit_bits, Word.testBit_bits, Word.testBit_setBits _ _ _ _ _ h]
  by_cases hn : n < w'
  · simp only [hn, decide_true, Bool.true_and]
    rw [if_neg (by omega)]
  · simp [hn]

/-! ## Registers and fields of a state -/

@[simp] theorem State.rd_wr_self (s : State) (r : Reg) (v : Word) (i j : Nat) : (s.wr r v i j).rd r i j = v :=
  tabFind_put_self Key.lt _ _ _ _

theorem State.rd_wr_ne (s : State) (r r' : Reg) (v : Word) (i j i' j' : Nat) (h : (⟨r', i', j'⟩ : Key) ≠ ⟨r, i, j⟩) :
    (s.wr r v i j).rd r' i' j' = s.rd r' i' j' := by
  simp [State.rd, State.wr, tabFind_put_ne Key.lt _ h]

/-- A register of another name. -/
theorem State.rd_wr_reg (s : State) (r r' : Reg) (v : Word) (i j i' j' : Nat) (h : r' ≠ r) :
    (s.wr r v i j).rd r' i' j' = s.rd r' i' j' := s.rd_wr_ne r r' v i j i' j' (by simp [h])

/-- A register of the same name at other indices. -/
theorem State.rd_wr_index (s : State) (r : Reg) (v : Word) (i j i' j' : Nat) (h : i' ≠ i ∨ j' ≠ j) :
    (s.wr r v i j).rd r i' j' = s.rd r i' j' := s.rd_wr_ne r r v i j i' j' (by
      intro e; simp only [Key.mk.injEq] at e; rcases h with h | h <;> simp_all)

theorem State.get_put_self (s : State) (f : Fld) (v i j : Nat) (h : f.lo + f.w ≤ 64) :
    (s.put f v i j).get f i j = v % 2 ^ f.w := by
  simp [State.get, State.put, Word.bits_setBits_self _ _ _ _ h]

theorem State.get_put_reg (s : State) (f g : Fld) (v i j i' j' : Nat) (h : g.reg ≠ f.reg) :
    (s.put f v i j).get g i' j' = s.get g i' j' := by
  simp [State.get, State.put, s.rd_wr_reg _ _ _ _ _ _ _ h]

theorem State.get_put_index (s : State) (f g : Fld) (v i j i' j' : Nat) (h : i' ≠ i ∨ j' ≠ j) :
    (s.put f v i j).get g i' j' = s.get g i' j' := by
  have : (⟨g.reg, i', j'⟩ : Key) ≠ ⟨f.reg, i, j⟩ := by
    intro e; simp only [Key.mk.injEq] at e; rcases h with h | h <;> simp_all
  simp [State.get, State.put, s.rd_wr_ne _ _ _ _ _ _ _ this]

theorem State.get_put_apart (s : State) (f g : Fld) (v i j : Nat) (hr : g.reg = f.reg) (h : f.lo + f.w ≤ 64)
    (hd : f.lo + f.w ≤ g.lo ∨ g.lo + g.w ≤ f.lo) : (s.put f v i j).get g i j = s.get g i j := by
  simp [State.get, State.put, hr, Word.bits_setBits_apart _ _ _ _ _ _ h hd]

/-- A register of another key after a field is written. -/
theorem State.rd_put_ne (s : State) (f : Fld) (v i j : Nat) (r : Reg) (i' j' : Nat) (h : (⟨r, i', j'⟩ : Key) ≠ ⟨f.reg, i, j⟩) :
    (s.put f v i j).rd r i' j' = s.rd r i' j' := s.rd_wr_ne _ _ _ _ _ _ _ h

theorem State.rd_put_reg (s : State) (f : Fld) (v i j : Nat) (r : Reg) (i' j' : Nat) (h : r ≠ f.reg) :
    (s.put f v i j).rd r i' j' = s.rd r i' j' := s.rd_put_ne f v i j r i' j' (by simp [h])

end Sys2Proof.Machine
end

