-- ==== Sys2Proof/Laws/State.lean ====
section
/-!
SUPPORT. What the small updates of the state leave alone: one lemma per update and field, and what a read of a register sees
of an update of another field.
-/
namespace Sys2Proof.Machine

/-! ## wr -/

@[simp] theorem State.wr_mem (s : State) (r : Reg) (v : Word) (i j : Nat) : (s.wr r v i j).mem = s.mem := rfl
@[simp] theorem State.wr_pending (s : State) (r : Reg) (v : Word) (i j : Nat) : (s.wr r v i j).pending = s.pending := rfl
@[simp] theorem State.wr_out (s : State) (r : Reg) (v : Word) (i j : Nat) : (s.wr r v i j).out = s.out := rfl
@[simp] theorem State.wr_todo (s : State) (r : Reg) (v : Word) (i j : Nat) : (s.wr r v i j).todo = s.todo := rfl
@[simp] theorem State.wr_free (s : State) (r : Reg) (v : Word) (i j : Nat) : (s.wr r v i j).free = s.free := rfl
@[simp] theorem State.wr_nextId (s : State) (r : Reg) (v : Word) (i j : Nat) : (s.wr r v i j).nextId = s.nextId := rfl
@[simp] theorem State.wr_msgs (s : State) (r : Reg) (v : Word) (i j : Nat) : (s.wr r v i j).msgs = s.msgs := rfl
@[simp] theorem State.wr_holds (s : State) (r : Reg) (v : Word) (i j : Nat) : (s.wr r v i j).holds = s.holds := rfl
@[simp] theorem State.wr_buf (s : State) (r : Reg) (v : Word) (i j : Nat) : (s.wr r v i j).buf = s.buf := rfl
@[simp] theorem State.wr_links (s : State) (r : Reg) (v : Word) (i j : Nat) : (s.wr r v i j).links = s.links := rfl
@[simp] theorem State.wr_lanes (s : State) (r : Reg) (v : Word) (i j : Nat) : (s.wr r v i j).lanes = s.lanes := rfl
@[simp] theorem State.wr_passed (s : State) (r : Reg) (v : Word) (i j : Nat) : (s.wr r v i j).passed = s.passed := rfl
@[simp] theorem State.wr_market (s : State) (r : Reg) (v : Word) (i j : Nat) : (s.wr r v i j).market = s.market := rfl
@[simp] theorem State.wr_ranges (s : State) (r : Reg) (v : Word) (i j : Nat) : (s.wr r v i j).ranges = s.ranges := rfl
@[simp] theorem State.wr_inventory (s : State) (r : Reg) (v : Word) (i j : Nat) : (s.wr r v i j).inventory = s.inventory := rfl
@[simp] theorem State.wr_relocs (s : State) (r : Reg) (v : Word) (i j : Nat) : (s.wr r v i j).relocs = s.relocs := rfl
@[simp] theorem State.wr_channels (s : State) (r : Reg) (v : Word) (i j : Nat) : (s.wr r v i j).channels = s.channels := rfl
@[simp] theorem State.wr_emulated (s : State) (r : Reg) (v : Word) (i j : Nat) : (s.wr r v i j).emulated = s.emulated := rfl
@[simp] theorem State.wr_vports (s : State) (r : Reg) (v : Word) (i j : Nat) : (s.wr r v i j).vports = s.vports := rfl
@[simp] theorem State.wr_inbound (s : State) (r : Reg) (v : Word) (i j : Nat) : (s.wr r v i j).inbound = s.inbound := rfl
@[simp] theorem State.wr_swapped (s : State) (r : Reg) (v : Word) (i j : Nat) : (s.wr r v i j).swapped = s.swapped := rfl
@[simp] theorem State.wr_oldKeys (s : State) (r : Reg) (v : Word) (i j : Nat) : (s.wr r v i j).oldKeys = s.oldKeys := rfl
@[simp] theorem State.wr_spans (s : State) (r : Reg) (v : Word) (i j : Nat) : (s.wr r v i j).spans = s.spans := rfl
@[simp] theorem State.wr_expired (s : State) (r : Reg) (v : Word) (i j : Nat) : (s.wr r v i j).expired = s.expired := rfl
@[simp] theorem State.wr_hearthDown (s : State) (r : Reg) (v : Word) (i j : Nat) : (s.wr r v i j).hearthDown = s.hearthDown := rfl
@[simp] theorem State.wr_resetPorts (s : State) (r : Reg) (v : Word) (i j : Nat) : (s.wr r v i j).resetPorts = s.resetPorts := rfl
@[simp] theorem State.wr_resetHalves (s : State) (r : Reg) (v : Word) (i j : Nat) : (s.wr r v i j).resetHalves = s.resetHalves := rfl
@[simp] theorem State.wr_containQuench (s : State) (r : Reg) (v : Word) (i j : Nat) : (s.wr r v i j).containQuench = s.containQuench := rfl
@[simp] theorem State.wr_txns (s : State) (r : Reg) (v : Word) (i j : Nat) : (s.wr r v i j).txns = s.txns := rfl
@[simp] theorem State.wr_agg (s : State) (r : Reg) (v : Word) (i j : Nat) : (s.wr r v i j).agg = s.agg := rfl
@[simp] theorem State.wr_sessions (s : State) (r : Reg) (v : Word) (i j : Nat) : (s.wr r v i j).sessions = s.sessions := rfl
@[simp] theorem State.wr_ops (s : State) (r : Reg) (v : Word) (i j : Nat) : (s.wr r v i j).ops = s.ops := rfl
@[simp] theorem State.wr_nextOp (s : State) (r : Reg) (v : Word) (i j : Nat) : (s.wr r v i j).nextOp = s.nextOp := rfl
@[simp] theorem State.wr_below (s : State) (r : Reg) (v : Word) (i j : Nat) : (s.wr r v i j).below = s.below := rfl
@[simp] theorem State.wr_ahead (s : State) (r : Reg) (v : Word) (i j : Nat) : (s.wr r v i j).ahead = s.ahead := rfl
@[simp] theorem State.wr_levels (s : State) (r : Reg) (v : Word) (i j : Nat) : (s.wr r v i j).levels = s.levels := rfl
@[simp] theorem State.wr_hearth (s : State) (r : Reg) (v : Word) (i j : Nat) : (s.wr r v i j).hearth = s.hearth := rfl
@[simp] theorem State.wr_flash (s : State) (r : Reg) (v : Word) (i j : Nat) : (s.wr r v i j).flash = s.flash := rfl
@[simp] theorem State.wr_sec (s : State) (r : Reg) (v : Word) (i j : Nat) : (s.wr r v i j).sec = s.sec := rfl
@[simp] theorem State.wr_ecp (s : State) (r : Reg) (v : Word) (i j : Nat) : (s.wr r v i j).ecp = s.ecp := rfl
@[simp] theorem State.wr_power (s : State) (r : Reg) (v : Word) (i j : Nat) : (s.wr r v i j).power = s.power := rfl
@[simp] theorem State.wr_slots (s : State) (r : Reg) (v : Word) (i j : Nat) : (s.wr r v i j).slots = s.slots := rfl
@[simp] theorem State.wr_telem (s : State) (r : Reg) (v : Word) (i j : Nat) : (s.wr r v i j).telem = s.telem := rfl

/-! ## put -/

@[simp] theorem State.put_mem (s : State) (f : Fld) (v i j : Nat) : (s.put f v i j).mem = s.mem := rfl
@[simp] theorem State.put_pending (s : State) (f : Fld) (v i j : Nat) : (s.put f v i j).pending = s.pending := rfl
@[simp] theorem State.put_out (s : State) (f : Fld) (v i j : Nat) : (s.put f v i j).out = s.out := rfl
@[simp] theorem State.put_todo (s : State) (f : Fld) (v i j : Nat) : (s.put f v i j).todo = s.todo := rfl
@[simp] theorem State.put_free (s : State) (f : Fld) (v i j : Nat) : (s.put f v i j).free = s.free := rfl
@[simp] theorem State.put_nextId (s : State) (f : Fld) (v i j : Nat) : (s.put f v i j).nextId = s.nextId := rfl
@[simp] theorem State.put_msgs (s : State) (f : Fld) (v i j : Nat) : (s.put f v i j).msgs = s.msgs := rfl
@[simp] theorem State.put_holds (s : State) (f : Fld) (v i j : Nat) : (s.put f v i j).holds = s.holds := rfl
@[simp] theorem State.put_buf (s : State) (f : Fld) (v i j : Nat) : (s.put f v i j).buf = s.buf := rfl
@[simp] theorem State.put_links (s : State) (f : Fld) (v i j : Nat) : (s.put f v i j).links = s.links := rfl
@[simp] theorem State.put_lanes (s : State) (f : Fld) (v i j : Nat) : (s.put f v i j).lanes = s.lanes := rfl
@[simp] theorem State.put_passed (s : State) (f : Fld) (v i j : Nat) : (s.put f v i j).passed = s.passed := rfl
@[simp] theorem State.put_market (s : State) (f : Fld) (v i j : Nat) : (s.put f v i j).market = s.market := rfl
@[simp] theorem State.put_ranges (s : State) (f : Fld) (v i j : Nat) : (s.put f v i j).ranges = s.ranges := rfl
@[simp] theorem State.put_inventory (s : State) (f : Fld) (v i j : Nat) : (s.put f v i j).inventory = s.inventory := rfl
@[simp] theorem State.put_relocs (s : State) (f : Fld) (v i j : Nat) : (s.put f v i j).relocs = s.relocs := rfl
@[simp] theorem State.put_channels (s : State) (f : Fld) (v i j : Nat) : (s.put f v i j).channels = s.channels := rfl
@[simp] theorem State.put_emulated (s : State) (f : Fld) (v i j : Nat) : (s.put f v i j).emulated = s.emulated := rfl
@[simp] theorem State.put_vports (s : State) (f : Fld) (v i j : Nat) : (s.put f v i j).vports = s.vports := rfl
@[simp] theorem State.put_inbound (s : State) (f : Fld) (v i j : Nat) : (s.put f v i j).inbound = s.inbound := rfl
@[simp] theorem State.put_swapped (s : State) (f : Fld) (v i j : Nat) : (s.put f v i j).swapped = s.swapped := rfl
@[simp] theorem State.put_oldKeys (s : State) (f : Fld) (v i j : Nat) : (s.put f v i j).oldKeys = s.oldKeys := rfl
@[simp] theorem State.put_spans (s : State) (f : Fld) (v i j : Nat) : (s.put f v i j).spans = s.spans := rfl
@[simp] theorem State.put_expired (s : State) (f : Fld) (v i j : Nat) : (s.put f v i j).expired = s.expired := rfl
@[simp] theorem State.put_hearthDown (s : State) (f : Fld) (v i j : Nat) : (s.put f v i j).hearthDown = s.hearthDown := rfl
@[simp] theorem State.put_resetPorts (s : State) (f : Fld) (v i j : Nat) : (s.put f v i j).resetPorts = s.resetPorts := rfl
@[simp] theorem State.put_resetHalves (s : State) (f : Fld) (v i j : Nat) : (s.put f v i j).resetHalves = s.resetHalves := rfl
@[simp] theorem State.put_containQuench (s : State) (f : Fld) (v i j : Nat) : (s.put f v i j).containQuench = s.containQuench := rfl
@[simp] theorem State.put_txns (s : State) (f : Fld) (v i j : Nat) : (s.put f v i j).txns = s.txns := rfl
@[simp] theorem State.put_agg (s : State) (f : Fld) (v i j : Nat) : (s.put f v i j).agg = s.agg := rfl
@[simp] theorem State.put_sessions (s : State) (f : Fld) (v i j : Nat) : (s.put f v i j).sessions = s.sessions := rfl
@[simp] theorem State.put_ops (s : State) (f : Fld) (v i j : Nat) : (s.put f v i j).ops = s.ops := rfl
@[simp] theorem State.put_nextOp (s : State) (f : Fld) (v i j : Nat) : (s.put f v i j).nextOp = s.nextOp := rfl
@[simp] theorem State.put_below (s : State) (f : Fld) (v i j : Nat) : (s.put f v i j).below = s.below := rfl
@[simp] theorem State.put_ahead (s : State) (f : Fld) (v i j : Nat) : (s.put f v i j).ahead = s.ahead := rfl
@[simp] theorem State.put_levels (s : State) (f : Fld) (v i j : Nat) : (s.put f v i j).levels = s.levels := rfl
@[simp] theorem State.put_hearth (s : State) (f : Fld) (v i j : Nat) : (s.put f v i j).hearth = s.hearth := rfl
@[simp] theorem State.put_flash (s : State) (f : Fld) (v i j : Nat) : (s.put f v i j).flash = s.flash := rfl
@[simp] theorem State.put_sec (s : State) (f : Fld) (v i j : Nat) : (s.put f v i j).sec = s.sec := rfl
@[simp] theorem State.put_ecp (s : State) (f : Fld) (v i j : Nat) : (s.put f v i j).ecp = s.ecp := rfl
@[simp] theorem State.put_power (s : State) (f : Fld) (v i j : Nat) : (s.put f v i j).power = s.power := rfl
@[simp] theorem State.put_slots (s : State) (f : Fld) (v i j : Nat) : (s.put f v i j).slots = s.slots := rfl
@[simp] theorem State.put_telem (s : State) (f : Fld) (v i j : Nat) : (s.put f v i j).telem = s.telem := rfl

/-! ## putFlag -/

@[simp] theorem State.putFlag_mem (s : State) (f : Fld) (b : Bool) (i j : Nat) : (s.putFlag f b i j).mem = s.mem := rfl
@[simp] theorem State.putFlag_pending (s : State) (f : Fld) (b : Bool) (i j : Nat) : (s.putFlag f b i j).pending = s.pending := rfl
@[simp] theorem State.putFlag_out (s : State) (f : Fld) (b : Bool) (i j : Nat) : (s.putFlag f b i j).out = s.out := rfl
@[simp] theorem State.putFlag_todo (s : State) (f : Fld) (b : Bool) (i j : Nat) : (s.putFlag f b i j).todo = s.todo := rfl
@[simp] theorem State.putFlag_free (s : State) (f : Fld) (b : Bool) (i j : Nat) : (s.putFlag f b i j).free = s.free := rfl
@[simp] theorem State.putFlag_nextId (s : State) (f : Fld) (b : Bool) (i j : Nat) : (s.putFlag f b i j).nextId = s.nextId := rfl
@[simp] theorem State.putFlag_msgs (s : State) (f : Fld) (b : Bool) (i j : Nat) : (s.putFlag f b i j).msgs = s.msgs := rfl
@[simp] theorem State.putFlag_holds (s : State) (f : Fld) (b : Bool) (i j : Nat) : (s.putFlag f b i j).holds = s.holds := rfl
@[simp] theorem State.putFlag_buf (s : State) (f : Fld) (b : Bool) (i j : Nat) : (s.putFlag f b i j).buf = s.buf := rfl
@[simp] theorem State.putFlag_links (s : State) (f : Fld) (b : Bool) (i j : Nat) : (s.putFlag f b i j).links = s.links := rfl
@[simp] theorem State.putFlag_lanes (s : State) (f : Fld) (b : Bool) (i j : Nat) : (s.putFlag f b i j).lanes = s.lanes := rfl
@[simp] theorem State.putFlag_passed (s : State) (f : Fld) (b : Bool) (i j : Nat) : (s.putFlag f b i j).passed = s.passed := rfl
@[simp] theorem State.putFlag_market (s : State) (f : Fld) (b : Bool) (i j : Nat) : (s.putFlag f b i j).market = s.market := rfl
@[simp] theorem State.putFlag_ranges (s : State) (f : Fld) (b : Bool) (i j : Nat) : (s.putFlag f b i j).ranges = s.ranges := rfl
@[simp] theorem State.putFlag_inventory (s : State) (f : Fld) (b : Bool) (i j : Nat) : (s.putFlag f b i j).inventory = s.inventory := rfl
@[simp] theorem State.putFlag_relocs (s : State) (f : Fld) (b : Bool) (i j : Nat) : (s.putFlag f b i j).relocs = s.relocs := rfl
@[simp] theorem State.putFlag_channels (s : State) (f : Fld) (b : Bool) (i j : Nat) : (s.putFlag f b i j).channels = s.channels := rfl
@[simp] theorem State.putFlag_emulated (s : State) (f : Fld) (b : Bool) (i j : Nat) : (s.putFlag f b i j).emulated = s.emulated := rfl
@[simp] theorem State.putFlag_vports (s : State) (f : Fld) (b : Bool) (i j : Nat) : (s.putFlag f b i j).vports = s.vports := rfl
@[simp] theorem State.putFlag_inbound (s : State) (f : Fld) (b : Bool) (i j : Nat) : (s.putFlag f b i j).inbound = s.inbound := rfl
@[simp] theorem State.putFlag_swapped (s : State) (f : Fld) (b : Bool) (i j : Nat) : (s.putFlag f b i j).swapped = s.swapped := rfl
@[simp] theorem State.putFlag_oldKeys (s : State) (f : Fld) (b : Bool) (i j : Nat) : (s.putFlag f b i j).oldKeys = s.oldKeys := rfl
@[simp] theorem State.putFlag_spans (s : State) (f : Fld) (b : Bool) (i j : Nat) : (s.putFlag f b i j).spans = s.spans := rfl
@[simp] theorem State.putFlag_expired (s : State) (f : Fld) (b : Bool) (i j : Nat) : (s.putFlag f b i j).expired = s.expired := rfl
@[simp] theorem State.putFlag_hearthDown (s : State) (f : Fld) (b : Bool) (i j : Nat) : (s.putFlag f b i j).hearthDown = s.hearthDown := rfl
@[simp] theorem State.putFlag_resetPorts (s : State) (f : Fld) (b : Bool) (i j : Nat) : (s.putFlag f b i j).resetPorts = s.resetPorts := rfl
@[simp] theorem State.putFlag_resetHalves (s : State) (f : Fld) (b : Bool) (i j : Nat) : (s.putFlag f b i j).resetHalves = s.resetHalves := rfl
@[simp] theorem State.putFlag_containQuench (s : State) (f : Fld) (b : Bool) (i j : Nat) : (s.putFlag f b i j).containQuench = s.containQuench := rfl
@[simp] theorem State.putFlag_txns (s : State) (f : Fld) (b : Bool) (i j : Nat) : (s.putFlag f b i j).txns = s.txns := rfl
@[simp] theorem State.putFlag_agg (s : State) (f : Fld) (b : Bool) (i j : Nat) : (s.putFlag f b i j).agg = s.agg := rfl
@[simp] theorem State.putFlag_sessions (s : State) (f : Fld) (b : Bool) (i j : Nat) : (s.putFlag f b i j).sessions = s.sessions := rfl
@[simp] theorem State.putFlag_ops (s : State) (f : Fld) (b : Bool) (i j : Nat) : (s.putFlag f b i j).ops = s.ops := rfl
@[simp] theorem State.putFlag_nextOp (s : State) (f : Fld) (b : Bool) (i j : Nat) : (s.putFlag f b i j).nextOp = s.nextOp := rfl
@[simp] theorem State.putFlag_below (s : State) (f : Fld) (b : Bool) (i j : Nat) : (s.putFlag f b i j).below = s.below := rfl
@[simp] theorem State.putFlag_ahead (s : State) (f : Fld) (b : Bool) (i j : Nat) : (s.putFlag f b i j).ahead = s.ahead := rfl
@[simp] theorem State.putFlag_levels (s : State) (f : Fld) (b : Bool) (i j : Nat) : (s.putFlag f b i j).levels = s.levels := rfl
@[simp] theorem State.putFlag_hearth (s : State) (f : Fld) (b : Bool) (i j : Nat) : (s.putFlag f b i j).hearth = s.hearth := rfl
@[simp] theorem State.putFlag_flash (s : State) (f : Fld) (b : Bool) (i j : Nat) : (s.putFlag f b i j).flash = s.flash := rfl
@[simp] theorem State.putFlag_sec (s : State) (f : Fld) (b : Bool) (i j : Nat) : (s.putFlag f b i j).sec = s.sec := rfl
@[simp] theorem State.putFlag_ecp (s : State) (f : Fld) (b : Bool) (i j : Nat) : (s.putFlag f b i j).ecp = s.ecp := rfl
@[simp] theorem State.putFlag_power (s : State) (f : Fld) (b : Bool) (i j : Nat) : (s.putFlag f b i j).power = s.power := rfl
@[simp] theorem State.putFlag_slots (s : State) (f : Fld) (b : Bool) (i j : Nat) : (s.putFlag f b i j).slots = s.slots := rfl
@[simp] theorem State.putFlag_telem (s : State) (f : Fld) (b : Bool) (i j : Nat) : (s.putFlag f b i j).telem = s.telem := rfl

/-! ## bumpWrap -/

@[simp] theorem State.bumpWrap_mem (s : State) (f : Fld) (n i j : Nat) : (s.bumpWrap f n i j).mem = s.mem := rfl
@[simp] theorem State.bumpWrap_pending (s : State) (f : Fld) (n i j : Nat) : (s.bumpWrap f n i j).pending = s.pending := rfl
@[simp] theorem State.bumpWrap_out (s : State) (f : Fld) (n i j : Nat) : (s.bumpWrap f n i j).out = s.out := rfl
@[simp] theorem State.bumpWrap_todo (s : State) (f : Fld) (n i j : Nat) : (s.bumpWrap f n i j).todo = s.todo := rfl
@[simp] theorem State.bumpWrap_free (s : State) (f : Fld) (n i j : Nat) : (s.bumpWrap f n i j).free = s.free := rfl
@[simp] theorem State.bumpWrap_nextId (s : State) (f : Fld) (n i j : Nat) : (s.bumpWrap f n i j).nextId = s.nextId := rfl
@[simp] theorem State.bumpWrap_msgs (s : State) (f : Fld) (n i j : Nat) : (s.bumpWrap f n i j).msgs = s.msgs := rfl
@[simp] theorem State.bumpWrap_holds (s : State) (f : Fld) (n i j : Nat) : (s.bumpWrap f n i j).holds = s.holds := rfl
@[simp] theorem State.bumpWrap_buf (s : State) (f : Fld) (n i j : Nat) : (s.bumpWrap f n i j).buf = s.buf := rfl
@[simp] theorem State.bumpWrap_links (s : State) (f : Fld) (n i j : Nat) : (s.bumpWrap f n i j).links = s.links := rfl
@[simp] theorem State.bumpWrap_lanes (s : State) (f : Fld) (n i j : Nat) : (s.bumpWrap f n i j).lanes = s.lanes := rfl
@[simp] theorem State.bumpWrap_passed (s : State) (f : Fld) (n i j : Nat) : (s.bumpWrap f n i j).passed = s.passed := rfl
@[simp] theorem State.bumpWrap_market (s : State) (f : Fld) (n i j : Nat) : (s.bumpWrap f n i j).market = s.market := rfl
@[simp] theorem State.bumpWrap_ranges (s : State) (f : Fld) (n i j : Nat) : (s.bumpWrap f n i j).ranges = s.ranges := rfl
@[simp] theorem State.bumpWrap_inventory (s : State) (f : Fld) (n i j : Nat) : (s.bumpWrap f n i j).inventory = s.inventory := rfl
@[simp] theorem State.bumpWrap_relocs (s : State) (f : Fld) (n i j : Nat) : (s.bumpWrap f n i j).relocs = s.relocs := rfl
@[simp] theorem State.bumpWrap_channels (s : State) (f : Fld) (n i j : Nat) : (s.bumpWrap f n i j).channels = s.channels := rfl
@[simp] theorem State.bumpWrap_emulated (s : State) (f : Fld) (n i j : Nat) : (s.bumpWrap f n i j).emulated = s.emulated := rfl
@[simp] theorem State.bumpWrap_vports (s : State) (f : Fld) (n i j : Nat) : (s.bumpWrap f n i j).vports = s.vports := rfl
@[simp] theorem State.bumpWrap_inbound (s : State) (f : Fld) (n i j : Nat) : (s.bumpWrap f n i j).inbound = s.inbound := rfl
@[simp] theorem State.bumpWrap_swapped (s : State) (f : Fld) (n i j : Nat) : (s.bumpWrap f n i j).swapped = s.swapped := rfl
@[simp] theorem State.bumpWrap_oldKeys (s : State) (f : Fld) (n i j : Nat) : (s.bumpWrap f n i j).oldKeys = s.oldKeys := rfl
@[simp] theorem State.bumpWrap_spans (s : State) (f : Fld) (n i j : Nat) : (s.bumpWrap f n i j).spans = s.spans := rfl
@[simp] theorem State.bumpWrap_expired (s : State) (f : Fld) (n i j : Nat) : (s.bumpWrap f n i j).expired = s.expired := rfl
@[simp] theorem State.bumpWrap_hearthDown (s : State) (f : Fld) (n i j : Nat) : (s.bumpWrap f n i j).hearthDown = s.hearthDown := rfl
@[simp] theorem State.bumpWrap_resetPorts (s : State) (f : Fld) (n i j : Nat) : (s.bumpWrap f n i j).resetPorts = s.resetPorts := rfl
@[simp] theorem State.bumpWrap_resetHalves (s : State) (f : Fld) (n i j : Nat) : (s.bumpWrap f n i j).resetHalves = s.resetHalves := rfl
@[simp] theorem State.bumpWrap_containQuench (s : State) (f : Fld) (n i j : Nat) : (s.bumpWrap f n i j).containQuench = s.containQuench := rfl
@[simp] theorem State.bumpWrap_txns (s : State) (f : Fld) (n i j : Nat) : (s.bumpWrap f n i j).txns = s.txns := rfl
@[simp] theorem State.bumpWrap_agg (s : State) (f : Fld) (n i j : Nat) : (s.bumpWrap f n i j).agg = s.agg := rfl
@[simp] theorem State.bumpWrap_sessions (s : State) (f : Fld) (n i j : Nat) : (s.bumpWrap f n i j).sessions = s.sessions := rfl
@[simp] theorem State.bumpWrap_ops (s : State) (f : Fld) (n i j : Nat) : (s.bumpWrap f n i j).ops = s.ops := rfl
@[simp] theorem State.bumpWrap_nextOp (s : State) (f : Fld) (n i j : Nat) : (s.bumpWrap f n i j).nextOp = s.nextOp := rfl
@[simp] theorem State.bumpWrap_below (s : State) (f : Fld) (n i j : Nat) : (s.bumpWrap f n i j).below = s.below := rfl
@[simp] theorem State.bumpWrap_ahead (s : State) (f : Fld) (n i j : Nat) : (s.bumpWrap f n i j).ahead = s.ahead := rfl
@[simp] theorem State.bumpWrap_levels (s : State) (f : Fld) (n i j : Nat) : (s.bumpWrap f n i j).levels = s.levels := rfl
@[simp] theorem State.bumpWrap_hearth (s : State) (f : Fld) (n i j : Nat) : (s.bumpWrap f n i j).hearth = s.hearth := rfl
@[simp] theorem State.bumpWrap_flash (s : State) (f : Fld) (n i j : Nat) : (s.bumpWrap f n i j).flash = s.flash := rfl
@[simp] theorem State.bumpWrap_sec (s : State) (f : Fld) (n i j : Nat) : (s.bumpWrap f n i j).sec = s.sec := rfl
@[simp] theorem State.bumpWrap_ecp (s : State) (f : Fld) (n i j : Nat) : (s.bumpWrap f n i j).ecp = s.ecp := rfl
@[simp] theorem State.bumpWrap_power (s : State) (f : Fld) (n i j : Nat) : (s.bumpWrap f n i j).power = s.power := rfl
@[simp] theorem State.bumpWrap_slots (s : State) (f : Fld) (n i j : Nat) : (s.bumpWrap f n i j).slots = s.slots := rfl
@[simp] theorem State.bumpWrap_telem (s : State) (f : Fld) (n i j : Nat) : (s.bumpWrap f n i j).telem = s.telem := rfl

/-! ## clearReg -/

@[simp] theorem State.clearReg_mem (s : State) (r : Reg) (i j : Nat) : (s.clearReg r i j).mem = s.mem := rfl
@[simp] theorem State.clearReg_pending (s : State) (r : Reg) (i j : Nat) : (s.clearReg r i j).pending = s.pending := rfl
@[simp] theorem State.clearReg_out (s : State) (r : Reg) (i j : Nat) : (s.clearReg r i j).out = s.out := rfl
@[simp] theorem State.clearReg_todo (s : State) (r : Reg) (i j : Nat) : (s.clearReg r i j).todo = s.todo := rfl
@[simp] theorem State.clearReg_free (s : State) (r : Reg) (i j : Nat) : (s.clearReg r i j).free = s.free := rfl
@[simp] theorem State.clearReg_nextId (s : State) (r : Reg) (i j : Nat) : (s.clearReg r i j).nextId = s.nextId := rfl
@[simp] theorem State.clearReg_msgs (s : State) (r : Reg) (i j : Nat) : (s.clearReg r i j).msgs = s.msgs := rfl
@[simp] theorem State.clearReg_holds (s : State) (r : Reg) (i j : Nat) : (s.clearReg r i j).holds = s.holds := rfl
@[simp] theorem State.clearReg_buf (s : State) (r : Reg) (i j : Nat) : (s.clearReg r i j).buf = s.buf := rfl
@[simp] theorem State.clearReg_links (s : State) (r : Reg) (i j : Nat) : (s.clearReg r i j).links = s.links := rfl
@[simp] theorem State.clearReg_lanes (s : State) (r : Reg) (i j : Nat) : (s.clearReg r i j).lanes = s.lanes := rfl
@[simp] theorem State.clearReg_passed (s : State) (r : Reg) (i j : Nat) : (s.clearReg r i j).passed = s.passed := rfl
@[simp] theorem State.clearReg_market (s : State) (r : Reg) (i j : Nat) : (s.clearReg r i j).market = s.market := rfl
@[simp] theorem State.clearReg_ranges (s : State) (r : Reg) (i j : Nat) : (s.clearReg r i j).ranges = s.ranges := rfl
@[simp] theorem State.clearReg_inventory (s : State) (r : Reg) (i j : Nat) : (s.clearReg r i j).inventory = s.inventory := rfl
@[simp] theorem State.clearReg_relocs (s : State) (r : Reg) (i j : Nat) : (s.clearReg r i j).relocs = s.relocs := rfl
@[simp] theorem State.clearReg_channels (s : State) (r : Reg) (i j : Nat) : (s.clearReg r i j).channels = s.channels := rfl
@[simp] theorem State.clearReg_emulated (s : State) (r : Reg) (i j : Nat) : (s.clearReg r i j).emulated = s.emulated := rfl
@[simp] theorem State.clearReg_vports (s : State) (r : Reg) (i j : Nat) : (s.clearReg r i j).vports = s.vports := rfl
@[simp] theorem State.clearReg_inbound (s : State) (r : Reg) (i j : Nat) : (s.clearReg r i j).inbound = s.inbound := rfl
@[simp] theorem State.clearReg_swapped (s : State) (r : Reg) (i j : Nat) : (s.clearReg r i j).swapped = s.swapped := rfl
@[simp] theorem State.clearReg_oldKeys (s : State) (r : Reg) (i j : Nat) : (s.clearReg r i j).oldKeys = s.oldKeys := rfl
@[simp] theorem State.clearReg_spans (s : State) (r : Reg) (i j : Nat) : (s.clearReg r i j).spans = s.spans := rfl
@[simp] theorem State.clearReg_expired (s : State) (r : Reg) (i j : Nat) : (s.clearReg r i j).expired = s.expired := rfl
@[simp] theorem State.clearReg_hearthDown (s : State) (r : Reg) (i j : Nat) : (s.clearReg r i j).hearthDown = s.hearthDown := rfl
@[simp] theorem State.clearReg_resetPorts (s : State) (r : Reg) (i j : Nat) : (s.clearReg r i j).resetPorts = s.resetPorts := rfl
@[simp] theorem State.clearReg_resetHalves (s : State) (r : Reg) (i j : Nat) : (s.clearReg r i j).resetHalves = s.resetHalves := rfl
@[simp] theorem State.clearReg_containQuench (s : State) (r : Reg) (i j : Nat) : (s.clearReg r i j).containQuench = s.containQuench := rfl
@[simp] theorem State.clearReg_txns (s : State) (r : Reg) (i j : Nat) : (s.clearReg r i j).txns = s.txns := rfl
@[simp] theorem State.clearReg_agg (s : State) (r : Reg) (i j : Nat) : (s.clearReg r i j).agg = s.agg := rfl
@[simp] theorem State.clearReg_sessions (s : State) (r : Reg) (i j : Nat) : (s.clearReg r i j).sessions = s.sessions := rfl
@[simp] theorem State.clearReg_ops (s : State) (r : Reg) (i j : Nat) : (s.clearReg r i j).ops = s.ops := rfl
@[simp] theorem State.clearReg_nextOp (s : State) (r : Reg) (i j : Nat) : (s.clearReg r i j).nextOp = s.nextOp := rfl
@[simp] theorem State.clearReg_below (s : State) (r : Reg) (i j : Nat) : (s.clearReg r i j).below = s.below := rfl
@[simp] theorem State.clearReg_ahead (s : State) (r : Reg) (i j : Nat) : (s.clearReg r i j).ahead = s.ahead := rfl
@[simp] theorem State.clearReg_levels (s : State) (r : Reg) (i j : Nat) : (s.clearReg r i j).levels = s.levels := rfl
@[simp] theorem State.clearReg_hearth (s : State) (r : Reg) (i j : Nat) : (s.clearReg r i j).hearth = s.hearth := rfl
@[simp] theorem State.clearReg_flash (s : State) (r : Reg) (i j : Nat) : (s.clearReg r i j).flash = s.flash := rfl
@[simp] theorem State.clearReg_sec (s : State) (r : Reg) (i j : Nat) : (s.clearReg r i j).sec = s.sec := rfl
@[simp] theorem State.clearReg_ecp (s : State) (r : Reg) (i j : Nat) : (s.clearReg r i j).ecp = s.ecp := rfl
@[simp] theorem State.clearReg_power (s : State) (r : Reg) (i j : Nat) : (s.clearReg r i j).power = s.power := rfl
@[simp] theorem State.clearReg_slots (s : State) (r : Reg) (i j : Nat) : (s.clearReg r i j).slots = s.slots := rfl
@[simp] theorem State.clearReg_telem (s : State) (r : Reg) (i j : Nat) : (s.clearReg r i j).telem = s.telem := rfl

/-! ## emit -/

@[simp] theorem State.emit_regs (s : State) (o : Out) : (s.emit o).regs = s.regs := rfl
@[simp] theorem State.emit_mem (s : State) (o : Out) : (s.emit o).mem = s.mem := rfl
@[simp] theorem State.emit_pending (s : State) (o : Out) : (s.emit o).pending = s.pending := rfl
@[simp] theorem State.emit_todo (s : State) (o : Out) : (s.emit o).todo = s.todo := rfl
@[simp] theorem State.emit_free (s : State) (o : Out) : (s.emit o).free = s.free := rfl
@[simp] theorem State.emit_nextId (s : State) (o : Out) : (s.emit o).nextId = s.nextId := rfl
@[simp] theorem State.emit_msgs (s : State) (o : Out) : (s.emit o).msgs = s.msgs := rfl
@[simp] theorem State.emit_holds (s : State) (o : Out) : (s.emit o).holds = s.holds := rfl
@[simp] theorem State.emit_buf (s : State) (o : Out) : (s.emit o).buf = s.buf := rfl
@[simp] theorem State.emit_links (s : State) (o : Out) : (s.emit o).links = s.links := rfl
@[simp] theorem State.emit_lanes (s : State) (o : Out) : (s.emit o).lanes = s.lanes := rfl
@[simp] theorem State.emit_passed (s : State) (o : Out) : (s.emit o).passed = s.passed := rfl
@[simp] theorem State.emit_market (s : State) (o : Out) : (s.emit o).market = s.market := rfl
@[simp] theorem State.emit_ranges (s : State) (o : Out) : (s.emit o).ranges = s.ranges := rfl
@[simp] theorem State.emit_inventory (s : State) (o : Out) : (s.emit o).inventory = s.inventory := rfl
@[simp] theorem State.emit_relocs (s : State) (o : Out) : (s.emit o).relocs = s.relocs := rfl
@[simp] theorem State.emit_channels (s : State) (o : Out) : (s.emit o).channels = s.channels := rfl
@[simp] theorem State.emit_emulated (s : State) (o : Out) : (s.emit o).emulated = s.emulated := rfl
@[simp] theorem State.emit_vports (s : State) (o : Out) : (s.emit o).vports = s.vports := rfl
@[simp] theorem State.emit_inbound (s : State) (o : Out) : (s.emit o).inbound = s.inbound := rfl
@[simp] theorem State.emit_swapped (s : State) (o : Out) : (s.emit o).swapped = s.swapped := rfl
@[simp] theorem State.emit_oldKeys (s : State) (o : Out) : (s.emit o).oldKeys = s.oldKeys := rfl
@[simp] theorem State.emit_spans (s : State) (o : Out) : (s.emit o).spans = s.spans := rfl
@[simp] theorem State.emit_expired (s : State) (o : Out) : (s.emit o).expired = s.expired := rfl
@[simp] theorem State.emit_hearthDown (s : State) (o : Out) : (s.emit o).hearthDown = s.hearthDown := rfl
@[simp] theorem State.emit_resetPorts (s : State) (o : Out) : (s.emit o).resetPorts = s.resetPorts := rfl
@[simp] theorem State.emit_resetHalves (s : State) (o : Out) : (s.emit o).resetHalves = s.resetHalves := rfl
@[simp] theorem State.emit_containQuench (s : State) (o : Out) : (s.emit o).containQuench = s.containQuench := rfl
@[simp] theorem State.emit_txns (s : State) (o : Out) : (s.emit o).txns = s.txns := rfl
@[simp] theorem State.emit_agg (s : State) (o : Out) : (s.emit o).agg = s.agg := rfl
@[simp] theorem State.emit_sessions (s : State) (o : Out) : (s.emit o).sessions = s.sessions := rfl
@[simp] theorem State.emit_ops (s : State) (o : Out) : (s.emit o).ops = s.ops := rfl
@[simp] theorem State.emit_nextOp (s : State) (o : Out) : (s.emit o).nextOp = s.nextOp := rfl
@[simp] theorem State.emit_below (s : State) (o : Out) : (s.emit o).below = s.below := rfl
@[simp] theorem State.emit_ahead (s : State) (o : Out) : (s.emit o).ahead = s.ahead := rfl
@[simp] theorem State.emit_levels (s : State) (o : Out) : (s.emit o).levels = s.levels := rfl
@[simp] theorem State.emit_hearth (s : State) (o : Out) : (s.emit o).hearth = s.hearth := rfl
@[simp] theorem State.emit_flash (s : State) (o : Out) : (s.emit o).flash = s.flash := rfl
@[simp] theorem State.emit_sec (s : State) (o : Out) : (s.emit o).sec = s.sec := rfl
@[simp] theorem State.emit_ecp (s : State) (o : Out) : (s.emit o).ecp = s.ecp := rfl
@[simp] theorem State.emit_power (s : State) (o : Out) : (s.emit o).power = s.power := rfl
@[simp] theorem State.emit_slots (s : State) (o : Out) : (s.emit o).slots = s.slots := rfl
@[simp] theorem State.emit_telem (s : State) (o : Out) : (s.emit o).telem = s.telem := rfl

@[simp] theorem State.emit_out (s : State) (o : Out) : (s.emit o).out = s.out ++ [o] := rfl

/-! ## Reads of registers -/

theorem State.rd_regs (s t : State) (h : t.regs = s.regs) (r : Reg) (i j : Nat) : t.rd r i j = s.rd r i j := by
  simp [State.rd, h]

theorem State.get_regs (s t : State) (h : t.regs = s.regs) (f : Fld) (i j : Nat) : t.get f i j = s.get f i j := by
  simp [State.get, State.rd, h]

@[simp] theorem State.rd_with_mem (s : State) (x) (r : Reg) (i j : Nat) : State.rd { s with mem := x } r i j = s.rd r i j := rfl
@[simp] theorem State.get_with_mem (s : State) (x) (f : Fld) (i j : Nat) : State.get { s with mem := x } f i j = s.get f i j := rfl
@[simp] theorem State.rd_with_pending (s : State) (x) (r : Reg) (i j : Nat) : State.rd { s with pending := x } r i j = s.rd r i j := rfl
@[simp] theorem State.get_with_pending (s : State) (x) (f : Fld) (i j : Nat) : State.get { s with pending := x } f i j = s.get f i j := rfl
@[simp] theorem State.rd_with_out (s : State) (x) (r : Reg) (i j : Nat) : State.rd { s with out := x } r i j = s.rd r i j := rfl
@[simp] theorem State.get_with_out (s : State) (x) (f : Fld) (i j : Nat) : State.get { s with out := x } f i j = s.get f i j := rfl
@[simp] theorem State.rd_with_todo (s : State) (x) (r : Reg) (i j : Nat) : State.rd { s with todo := x } r i j = s.rd r i j := rfl
@[simp] theorem State.get_with_todo (s : State) (x) (f : Fld) (i j : Nat) : State.get { s with todo := x } f i j = s.get f i j := rfl
@[simp] theorem State.rd_with_free (s : State) (x) (r : Reg) (i j : Nat) : State.rd { s with free := x } r i j = s.rd r i j := rfl
@[simp] theorem State.get_with_free (s : State) (x) (f : Fld) (i j : Nat) : State.get { s with free := x } f i j = s.get f i j := rfl
@[simp] theorem State.rd_with_nextId (s : State) (x) (r : Reg) (i j : Nat) : State.rd { s with nextId := x } r i j = s.rd r i j := rfl
@[simp] theorem State.get_with_nextId (s : State) (x) (f : Fld) (i j : Nat) : State.get { s with nextId := x } f i j = s.get f i j := rfl
@[simp] theorem State.rd_with_msgs (s : State) (x) (r : Reg) (i j : Nat) : State.rd { s with msgs := x } r i j = s.rd r i j := rfl
@[simp] theorem State.get_with_msgs (s : State) (x) (f : Fld) (i j : Nat) : State.get { s with msgs := x } f i j = s.get f i j := rfl
@[simp] theorem State.rd_with_holds (s : State) (x) (r : Reg) (i j : Nat) : State.rd { s with holds := x } r i j = s.rd r i j := rfl
@[simp] theorem State.get_with_holds (s : State) (x) (f : Fld) (i j : Nat) : State.get { s with holds := x } f i j = s.get f i j := rfl
@[simp] theorem State.rd_with_buf (s : State) (x) (r : Reg) (i j : Nat) : State.rd { s with buf := x } r i j = s.rd r i j := rfl
@[simp] theorem State.get_with_buf (s : State) (x) (f : Fld) (i j : Nat) : State.get { s with buf := x } f i j = s.get f i j := rfl
@[simp] theorem State.rd_with_links (s : State) (x) (r : Reg) (i j : Nat) : State.rd { s with links := x } r i j = s.rd r i j := rfl
@[simp] theorem State.get_with_links (s : State) (x) (f : Fld) (i j : Nat) : State.get { s with links := x } f i j = s.get f i j := rfl
@[simp] theorem State.rd_with_lanes (s : State) (x) (r : Reg) (i j : Nat) : State.rd { s with lanes := x } r i j = s.rd r i j := rfl
@[simp] theorem State.get_with_lanes (s : State) (x) (f : Fld) (i j : Nat) : State.get { s with lanes := x } f i j = s.get f i j := rfl
@[simp] theorem State.rd_with_passed (s : State) (x) (r : Reg) (i j : Nat) : State.rd { s with passed := x } r i j = s.rd r i j := rfl
@[simp] theorem State.get_with_passed (s : State) (x) (f : Fld) (i j : Nat) : State.get { s with passed := x } f i j = s.get f i j := rfl
@[simp] theorem State.rd_with_market (s : State) (x) (r : Reg) (i j : Nat) : State.rd { s with market := x } r i j = s.rd r i j := rfl
@[simp] theorem State.get_with_market (s : State) (x) (f : Fld) (i j : Nat) : State.get { s with market := x } f i j = s.get f i j := rfl
@[simp] theorem State.rd_with_ranges (s : State) (x) (r : Reg) (i j : Nat) : State.rd { s with ranges := x } r i j = s.rd r i j := rfl
@[simp] theorem State.get_with_ranges (s : State) (x) (f : Fld) (i j : Nat) : State.get { s with ranges := x } f i j = s.get f i j := rfl
@[simp] theorem State.rd_with_inventory (s : State) (x) (r : Reg) (i j : Nat) : State.rd { s with inventory := x } r i j = s.rd r i j := rfl
@[simp] theorem State.get_with_inventory (s : State) (x) (f : Fld) (i j : Nat) : State.get { s with inventory := x } f i j = s.get f i j := rfl
@[simp] theorem State.rd_with_relocs (s : State) (x) (r : Reg) (i j : Nat) : State.rd { s with relocs := x } r i j = s.rd r i j := rfl
@[simp] theorem State.get_with_relocs (s : State) (x) (f : Fld) (i j : Nat) : State.get { s with relocs := x } f i j = s.get f i j := rfl
@[simp] theorem State.rd_with_channels (s : State) (x) (r : Reg) (i j : Nat) : State.rd { s with channels := x } r i j = s.rd r i j := rfl
@[simp] theorem State.get_with_channels (s : State) (x) (f : Fld) (i j : Nat) : State.get { s with channels := x } f i j = s.get f i j := rfl
@[simp] theorem State.rd_with_emulated (s : State) (x) (r : Reg) (i j : Nat) : State.rd { s with emulated := x } r i j = s.rd r i j := rfl
@[simp] theorem State.get_with_emulated (s : State) (x) (f : Fld) (i j : Nat) : State.get { s with emulated := x } f i j = s.get f i j := rfl
@[simp] theorem State.rd_with_vports (s : State) (x) (r : Reg) (i j : Nat) : State.rd { s with vports := x } r i j = s.rd r i j := rfl
@[simp] theorem State.get_with_vports (s : State) (x) (f : Fld) (i j : Nat) : State.get { s with vports := x } f i j = s.get f i j := rfl
@[simp] theorem State.rd_with_inbound (s : State) (x) (r : Reg) (i j : Nat) : State.rd { s with inbound := x } r i j = s.rd r i j := rfl
@[simp] theorem State.get_with_inbound (s : State) (x) (f : Fld) (i j : Nat) : State.get { s with inbound := x } f i j = s.get f i j := rfl
@[simp] theorem State.rd_with_swapped (s : State) (x) (r : Reg) (i j : Nat) : State.rd { s with swapped := x } r i j = s.rd r i j := rfl
@[simp] theorem State.get_with_swapped (s : State) (x) (f : Fld) (i j : Nat) : State.get { s with swapped := x } f i j = s.get f i j := rfl
@[simp] theorem State.rd_with_oldKeys (s : State) (x) (r : Reg) (i j : Nat) : State.rd { s with oldKeys := x } r i j = s.rd r i j := rfl
@[simp] theorem State.rd_with_spans (s : State) (x) (r : Reg) (i j : Nat) : State.rd { s with spans := x } r i j = s.rd r i j := rfl
@[simp] theorem State.rd_with_expired (s : State) (x) (r : Reg) (i j : Nat) : State.rd { s with expired := x } r i j = s.rd r i j := rfl
@[simp] theorem State.get_with_oldKeys (s : State) (x) (f : Fld) (i j : Nat) : State.get { s with oldKeys := x } f i j = s.get f i j := rfl
@[simp] theorem State.get_with_spans (s : State) (x) (f : Fld) (i j : Nat) : State.get { s with spans := x } f i j = s.get f i j := rfl
@[simp] theorem State.get_with_expired (s : State) (x) (f : Fld) (i j : Nat) : State.get { s with expired := x } f i j = s.get f i j := rfl
@[simp] theorem State.rd_with_hearthDown (s : State) (x) (r : Reg) (i j : Nat) : State.rd { s with hearthDown := x } r i j = s.rd r i j := rfl
@[simp] theorem State.get_with_hearthDown (s : State) (x) (f : Fld) (i j : Nat) : State.get { s with hearthDown := x } f i j = s.get f i j := rfl
@[simp] theorem State.rd_with_resetPorts (s : State) (x) (r : Reg) (i j : Nat) : State.rd { s with resetPorts := x } r i j = s.rd r i j := rfl
@[simp] theorem State.get_with_resetPorts (s : State) (x) (f : Fld) (i j : Nat) : State.get { s with resetPorts := x } f i j = s.get f i j := rfl
@[simp] theorem State.rd_with_resetHalves (s : State) (x) (r : Reg) (i j : Nat) : State.rd { s with resetHalves := x } r i j = s.rd r i j := rfl
@[simp] theorem State.get_with_resetHalves (s : State) (x) (f : Fld) (i j : Nat) : State.get { s with resetHalves := x } f i j = s.get f i j := rfl
@[simp] theorem State.rd_with_containQuench (s : State) (x) (r : Reg) (i j : Nat) : State.rd { s with containQuench := x } r i j = s.rd r i j := rfl
@[simp] theorem State.get_with_containQuench (s : State) (x) (f : Fld) (i j : Nat) : State.get { s with containQuench := x } f i j = s.get f i j := rfl
@[simp] theorem State.rd_with_txns (s : State) (x) (r : Reg) (i j : Nat) : State.rd { s with txns := x } r i j = s.rd r i j := rfl
@[simp] theorem State.get_with_txns (s : State) (x) (f : Fld) (i j : Nat) : State.get { s with txns := x } f i j = s.get f i j := rfl
@[simp] theorem State.rd_with_agg (s : State) (x) (r : Reg) (i j : Nat) : State.rd { s with agg := x } r i j = s.rd r i j := rfl
@[simp] theorem State.get_with_agg (s : State) (x) (f : Fld) (i j : Nat) : State.get { s with agg := x } f i j = s.get f i j := rfl
@[simp] theorem State.rd_with_sessions (s : State) (x) (r : Reg) (i j : Nat) : State.rd { s with sessions := x } r i j = s.rd r i j := rfl
@[simp] theorem State.get_with_sessions (s : State) (x) (f : Fld) (i j : Nat) : State.get { s with sessions := x } f i j = s.get f i j := rfl
@[simp] theorem State.rd_with_ops (s : State) (x) (r : Reg) (i j : Nat) : State.rd { s with ops := x } r i j = s.rd r i j := rfl
@[simp] theorem State.get_with_ops (s : State) (x) (f : Fld) (i j : Nat) : State.get { s with ops := x } f i j = s.get f i j := rfl
@[simp] theorem State.rd_with_nextOp (s : State) (x) (r : Reg) (i j : Nat) : State.rd { s with nextOp := x } r i j = s.rd r i j := rfl
@[simp] theorem State.get_with_nextOp (s : State) (x) (f : Fld) (i j : Nat) : State.get { s with nextOp := x } f i j = s.get f i j := rfl
@[simp] theorem State.rd_with_below (s : State) (x) (r : Reg) (i j : Nat) : State.rd { s with below := x } r i j = s.rd r i j := rfl
@[simp] theorem State.get_with_below (s : State) (x) (f : Fld) (i j : Nat) : State.get { s with below := x } f i j = s.get f i j := rfl
@[simp] theorem State.rd_with_ahead (s : State) (x) (r : Reg) (i j : Nat) : State.rd { s with ahead := x } r i j = s.rd r i j := rfl
@[simp] theorem State.get_with_ahead (s : State) (x) (f : Fld) (i j : Nat) : State.get { s with ahead := x } f i j = s.get f i j := rfl
@[simp] theorem State.rd_with_levels (s : State) (x) (r : Reg) (i j : Nat) : State.rd { s with levels := x } r i j = s.rd r i j := rfl
@[simp] theorem State.get_with_levels (s : State) (x) (f : Fld) (i j : Nat) : State.get { s with levels := x } f i j = s.get f i j := rfl
@[simp] theorem State.rd_with_hearth (s : State) (x) (r : Reg) (i j : Nat) : State.rd { s with hearth := x } r i j = s.rd r i j := rfl
@[simp] theorem State.get_with_hearth (s : State) (x) (f : Fld) (i j : Nat) : State.get { s with hearth := x } f i j = s.get f i j := rfl
@[simp] theorem State.rd_with_flash (s : State) (x) (r : Reg) (i j : Nat) : State.rd { s with flash := x } r i j = s.rd r i j := rfl
@[simp] theorem State.get_with_flash (s : State) (x) (f : Fld) (i j : Nat) : State.get { s with flash := x } f i j = s.get f i j := rfl
@[simp] theorem State.rd_with_sec (s : State) (x) (r : Reg) (i j : Nat) : State.rd { s with sec := x } r i j = s.rd r i j := rfl
@[simp] theorem State.get_with_sec (s : State) (x) (f : Fld) (i j : Nat) : State.get { s with sec := x } f i j = s.get f i j := rfl
@[simp] theorem State.rd_with_ecp (s : State) (x) (r : Reg) (i j : Nat) : State.rd { s with ecp := x } r i j = s.rd r i j := rfl
@[simp] theorem State.get_with_ecp (s : State) (x) (f : Fld) (i j : Nat) : State.get { s with ecp := x } f i j = s.get f i j := rfl
@[simp] theorem State.rd_with_power (s : State) (x) (r : Reg) (i j : Nat) : State.rd { s with power := x } r i j = s.rd r i j := rfl
@[simp] theorem State.get_with_power (s : State) (x) (f : Fld) (i j : Nat) : State.get { s with power := x } f i j = s.get f i j := rfl
@[simp] theorem State.rd_with_slots (s : State) (x) (r : Reg) (i j : Nat) : State.rd { s with slots := x } r i j = s.rd r i j := rfl
@[simp] theorem State.get_with_slots (s : State) (x) (f : Fld) (i j : Nat) : State.get { s with slots := x } f i j = s.get f i j := rfl
@[simp] theorem State.rd_with_telem (s : State) (x) (r : Reg) (i j : Nat) : State.rd { s with telem := x } r i j = s.rd r i j := rfl
@[simp] theorem State.get_with_telem (s : State) (x) (f : Fld) (i j : Nat) : State.get { s with telem := x } f i j = s.get f i j := rfl

@[simp] theorem State.rd_emit (s : State) (x : Out) (r : Reg) (i j : Nat) : (s.emit x).rd r i j = s.rd r i j := rfl
@[simp] theorem State.get_emit (s : State) (x : Out) (f : Fld) (i j : Nat) : (s.emit x).get f i j = s.get f i j := rfl

end Sys2Proof.Machine
end

