-- ==== Sys2Proof/Laws/Settle.lean ====
section
/-!
SUPPORT. The end of a command: with no reaction under way the state is answered as it stands, and after every command none is
under way (R503). Counters of frozen units (R569), a fault that is latched already (R497), and the frames.
-/
namespace Sys2Proof.Machine

@[simp] theorem State.settleN_quiet (s : State) (n : Nat) (h : s.todo = []) : s.settleN n = s := by
  cases n with
  | zero => simp only [State.settleN]; rw [← h]
  | succ n => simp [State.settleN, h]

/-- Nothing to carry out: settling changes nothing. -/
theorem State.settle_quiet (s : State) (h : Quiet s) : s.settle = s := s.settleN_quiet _ h

theorem State.settleN_todo (s : State) (n : Nat) : (s.settleN n).todo = [] := by
  induction n generalizing s with
  | zero => rfl
  | succ n ih =>
    rw [State.settleN]
    cases h : s.todo with
    | nil => exact h
    | cons t rest => exact ih _

/-- After settling no reaction is under way. -/
@[simp] theorem State.settle_todo (s : State) : s.settle.todo = [] := s.settleN_todo _

/-- A command whose effect starts no reaction answers that effect. -/
theorem done_quiet (s : State) (h : Quiet s) : done s = .next s := by rw [done, s.settle_quiet h]

/-- From the effect of a command to what it gives. -/
theorem Gives.of_done {c : Instr} {s u : State} {P : State → Prop} (e : exec c s = done u) (h : Quiet u) (p : P u) :
    Gives c s P := ⟨u, by rw [e, done_quiet u h], p⟩

/-- A frozen unit counts nothing. -/
theorem State.count_frozen (s : State) (u code n : Nat) (h : Frozen s) : s.count u code n = s := by
  have : s.pmuRuns u = false := by simp [State.pmuRuns, show s.flag F.PMU_GLOBAL_FREEZE_ALL = true from h]
  simp [State.count, this]

/-- A counter that no event watches, or any counter while the units are frozen, only steps its register. -/
theorem State.bump_frozen (s : State) (f : Fld) (n i j : Nat) (h : Frozen (s.put f (min (2 ^ f.w - 1) (s.get f i j + n)) i j)) :
    s.bump f n i j = s.put f (saturated f.w (s.get f i j) n) i j := by
  unfold State.bump saturated
  cases pmuEvent f.reg i with
  | none => rfl
  | some e => exact State.count_frozen _ _ _ _ h

/-- A further raise of a latched source counts, and does nothing else (R497). -/
theorem State.raise_latched (s : State) (n : Nat) (i : FaultInfo) (h : s.flag F.FC_SRC_LATCHED n = true) :
    s.raise n i = s.put F.FC_SRC_COUNT (saturated 8 (s.get F.FC_SRC_COUNT n) 1) n := by
  simp [State.raise, h, State.bump, pmuEvent, F.FC_SRC_COUNT, saturated]

theorem OnlyRegs.refl (s : State) (ks : List Key) : OnlyRegs s s ks := ⟨fun _ _ => rfl, rfl⟩

/-- One more listed register is written. -/
theorem OnlyRegs.wr {s t : State} {ks : List Key} (h : OnlyRegs s t ks) (r : Reg) (v : Word) (i j : Nat)
    (hk : (⟨r, i, j⟩ : Key) ∈ ks) : OnlyRegs s (t.wr r v i j) ks :=
  ⟨fun k hn => by
    have e : k ≠ ⟨r, i, j⟩ := fun e => hn (e.symm ▸ hk)
    rw [t.rd_wr_ne r k.reg v i j k.i k.j e, h.1 k hn], h.2⟩

/-- One more field of a listed register is written. -/
theorem OnlyRegs.put {s t : State} {ks : List Key} (h : OnlyRegs s t ks) (f : Fld) (v i j : Nat)
    (hk : (⟨f.reg, i, j⟩ : Key) ∈ ks) : OnlyRegs s (t.put f v i j) ks := h.wr _ _ _ _ hk

theorem KeepsRegs.refl (s : State) (ks : List Key) : KeepsRegs s s ks := fun _ _ => rfl

theorem KeepsRegs.put {s t : State} {ks : List Key} (h : KeepsRegs s t ks) (f : Fld) (v i j : Nat)
    (hk : (⟨f.reg, i, j⟩ : Key) ∈ ks) : KeepsRegs s (t.put f v i j) ks :=
  fun k hn => by
    have e : k ≠ ⟨f.reg, i, j⟩ := fun e => hn (e.symm ▸ hk)
    rw [t.rd_put_ne f v i j k.reg k.i k.j e, h k hn]

/-- An update that leaves the registers alone. -/
theorem KeepsRegs.regs {s t u : State} {ks : List Key} (h : KeepsRegs s t ks) (e : u.regs = t.regs) : KeepsRegs s u ks :=
  fun k hn => by rw [State.rd_regs t u e, h k hn]

end Sys2Proof.Machine
end

