-- ==== Sys2Proof/Laws/Canonical.lean ====
section
/-!
SUPPORT. The canonical forms of the register file and of memory, which every operation over them keeps, and what memory reads
after a store (R5, R458).
-/
namespace Sys2Proof.Machine

/-! ## Tables -/

/-- Keys rise strictly, and no value is the one of an unlisted key. -/
def TabCanonical {κ α : Type} (lt : κ → κ → Bool) (d : κ → α) (t : List (κ × α)) : Prop :=
  t.Pairwise (fun a b => lt a.1 b.1 = true) ∧ ∀ e ∈ t, e.2 ≠ d e.1

theorem TabCanonical.filter {κ α : Type} {lt : κ → κ → Bool} {d : κ → α} {t : List (κ × α)} (h : TabCanonical lt d t)
    (p : κ × α → Bool) : TabCanonical lt d (t.filter p) :=
  ⟨h.1.sublist List.filter_sublist, fun e he => h.2 e (List.mem_of_mem_filter he)⟩

theorem mem_tabInsert {κ α : Type} {lt : κ → κ → Bool} {k : κ} {v : α} {t : List (κ × α)} {e : κ × α}
    (h : e ∈ tabInsert lt k v t) : e = (k, v) ∨ e ∈ t := by
  induction t with
  | nil => simpa [tabInsert] using h
  | cons x t ih =>
    rw [tabInsert] at h
    split at h
    · simpa using h
    · rcases List.mem_cons.mp h with h | h
      · exact .inr (h ▸ List.mem_cons_self)
      · exact (ih h).imp id (List.mem_cons_of_mem _)

theorem tabInsert_rises {κ α : Type} {lt : κ → κ → Bool} (trans : ∀ a b c, lt a b = true → lt b c = true → lt a c = true)
    (total : ∀ a b, a ≠ b → lt a b = false → lt b a = true) {k : κ} {v : α} {t : List (κ × α)}
    (h : t.Pairwise (fun a b => lt a.1 b.1 = true)) (hk : ∀ e ∈ t, e.1 ≠ k) :
    (tabInsert lt k v t).Pairwise (fun a b => lt a.1 b.1 = true) := by
  induction t with
  | nil => simp [tabInsert]
  | cons x t ih =>
    obtain ⟨hx, ht⟩ := List.pairwise_cons.mp h
    rw [tabInsert]
    split
    · next hl =>
      refine List.pairwise_cons.mpr ⟨fun e he => ?_, h⟩
      rcases List.mem_cons.mp he with rfl | he
      · exact hl
      · exact trans _ _ _ hl (hx e he)
    · next hl =>
      refine List.pairwise_cons.mpr ⟨fun e he => ?_, ih ht (fun e he => hk e (List.mem_cons_of_mem _ he))⟩
      rcases mem_tabInsert he with rfl | he
      · exact total _ _ (Ne.symm (hk x List.mem_cons_self)) (by simpa using hl)
      · exact hx e he

/-- A write keeps the form. -/
theorem TabCanonical.put {κ α : Type} [DecidableEq κ] [DecidableEq α] {lt : κ → κ → Bool} {d : κ → α} {t : List (κ × α)}
    (trans : ∀ a b c, lt a b = true → lt b c = true → lt a c = true) (total : ∀ a b, a ≠ b → lt a b = false → lt b a = true)
    (h : TabCanonical lt d t) (k : κ) (v : α) : TabCanonical lt d (tabPut lt (d k) k v t) := by
  have he : TabCanonical lt d (tabErase k t) := h.filter _
  rw [tabPut]
  split
  · exact he
  · next hv =>
    refine ⟨tabInsert_rises trans total he.1 (fun e hm => by simpa [tabErase] using (List.mem_filter.mp hm).2), fun e hm => ?_⟩
    rcases mem_tabInsert hm with rfl | hm
    · exact hv
    · exact he.2 e hm

/-! ## The register file -/

theorem Key.lt_trans (a b c : Key) (h : Key.lt a b = true) (h' : Key.lt b c = true) : Key.lt a c = true := by
  simp only [Key.lt, Bool.or_eq_true, Bool.and_eq_true, decide_eq_true_eq, beq_iff_eq] at *
  omega

/-- Two registers with the same number are the same. -/
theorem Reg.ctorIdx_inj (a b : Reg) (h : a.ctorIdx = b.ctorIdx) : a = b := by
  have e : ∀ r : Reg, Reg.ofNat r.ctorIdx = r := fun r => by cases r <;> rfl
  rw [← e a, ← e b, h]

theorem Key.lt_total (a b : Key) (h : a ≠ b) (h' : Key.lt a b = false) : Key.lt b a = true := by
  obtain ⟨r, i, j⟩ := a
  obtain ⟨r', i', j'⟩ := b
  have hr : r.ctorIdx = r'.ctorIdx → r = r' := Reg.ctorIdx_inj r r'
  simp only [ne_eq, Key.mk.injEq, not_and] at h
  simp only [Key.lt, Bool.or_eq_false_iff, Bool.or_eq_true, Bool.and_eq_true, Bool.and_eq_false_iff, decide_eq_true_eq, decide_eq_false_iff_not,
    beq_iff_eq, beq_eq_false_iff_ne] at *
  by_cases e : r.ctorIdx = r'.ctorIdx
  · have := h (hr e)
    omega
  · omega

/-- Writing a register keeps the canonical form. -/
theorem RegsCanonical.wr {s : State} (h : RegsCanonical s.regs) (r : Reg) (v : Word) (i j : Nat) :
    RegsCanonical (s.wr r v i j).regs :=
  TabCanonical.put (lt := Key.lt) (d := resetWord) Key.lt_trans Key.lt_total h ⟨r, i, j⟩ v

theorem RegsCanonical.put {s : State} (h : RegsCanonical s.regs) (f : Fld) (v i j : Nat) : RegsCanonical (s.put f v i j).regs :=
  h.wr _ _ _ _

theorem RegsCanonical.clearReg {s : State} (h : RegsCanonical s.regs) (r : Reg) (i j : Nat) :
    RegsCanonical (s.clearReg r i j).regs := TabCanonical.filter (lt := Key.lt) (d := resetWord) h _

/-- Returning registers to their reset values keeps the canonical form. -/
theorem RegsCanonical.resetRegs {s : State} (h : RegsCanonical s.regs) (sel : Key → Bool) : RegsCanonical (s.resetRegs sel).regs := by
  have key : ∀ (k : Key) (v : Word) (b : Key × Word), (if v = resetWord k then none else some (k, v)) = some b →
      b.1 = k ∧ b.2 ≠ resetWord b.1 := by
    intro k v b hb
    by_cases hv : v = resetWord k
    · simp [hv] at hb
    · simp only [hv, if_false, Option.some.injEq] at hb
      exact hb ▸ ⟨rfl, hv⟩
  refine ⟨List.Pairwise.filterMap _ (fun a b hab x hx y hy => ?_) h.1, fun e he => ?_⟩
  · rw [(key _ _ x hx).1, (key _ _ y hy).1]; exact hab
  · obtain ⟨a, _, ha⟩ := List.mem_filterMap.mp he
    exact (key _ _ e ha).2

/-! ## Memory -/

theorem Memory.wf_iff (m : List Host.Cell) : Memory.wf m ↔ TabCanonical natLt (fun _ => (0 : Byte)) m := by
  simp [Memory.wf, TabCanonical, natLt]

/-- Writing bytes keeps the canonical form. -/
theorem Memory.wf_put {m : List Host.Cell} (h : Memory.wf m) (a : Nat) (b : List Byte) : Memory.wf (memPut m a b) := by
  induction b generalizing m a with
  | nil => exact h
  | cons v t ih =>
    refine ih ?_ (a + 1)
    rw [Memory.wf_iff] at h ⊢
    exact h.put (fun a b c => by simp only [natLt, decide_eq_true_eq]; omega)
      (fun a b => by simp only [natLt, decide_eq_true_eq, decide_eq_false_iff_not]; omega) a v

/-- Clearing a range keeps the canonical form. -/
theorem Memory.wf_zero {m : List Host.Cell} (h : Memory.wf m) (lo hi : Nat) : Memory.wf (memZero m lo hi) := by
  rw [Memory.wf_iff] at h ⊢
  exact h.filter _

/-- A store keeps the canonical form. -/
theorem Memory.wf_store {s : State} (h : Memory.wf s.mem) (a : Nat) (b : List Byte) : Memory.wf (s.memStore a b).mem :=
  Memory.wf_put h a b

/-- The byte written. -/
theorem memByte_putByte_self (m : List Host.Cell) (a : Nat) (v : Byte) : memByte (memPutByte m a v) a = v :=
  tabFind_put_self natLt _ _ _ _

/-- Every other byte reads as before. -/
theorem memByte_putByte_ne (m : List Host.Cell) {a b : Nat} (h : b ≠ a) (v : Byte) : memByte (memPutByte m a v) b = memByte m b := by
  rw [memByte, memPutByte, tabFind_put_ne natLt _ h, memByte]

/-- A byte outside the bytes written reads as before. -/
theorem memByte_put_outside (m : List Host.Cell) (a : Nat) (d : List Byte) (b : Nat) (h : b < a ∨ a + d.length ≤ b) :
    memByte (memPut m a d) b = memByte m b := by
  induction d generalizing m a with
  | nil => rfl
  | cons v t ih =>
    simp only [List.length_cons] at h
    rw [memPut, ih _ _ (by omega), memByte_putByte_ne _ (by omega)]

/-- What was written is read. -/
theorem memGet_put (m : List Host.Cell) (a : Nat) (d : List Byte) : memGet (memPut m a d) a d.length = d := by
  induction d generalizing m a with
  | nil => rfl
  | cons v t ih =>
    rw [List.length_cons, memGet, memPut, ih, memByte_put_outside _ _ _ _ (by omega), memByte_putByte_self]

/-- A byte of a cleared range reads 0, and every other byte as before. -/
theorem memByte_zero (m : List Host.Cell) (lo hi b : Nat) :
    memByte (memZero m lo hi) b = if lo ≤ b ∧ b ≤ hi then 0 else memByte m b := by
  induction m with
  | nil => simp [memZero, memByte, tabFind]
  | cons c m ih =>
    by_cases hc : c.1 < lo ∨ hi < c.1
    · have e : memZero (c :: m) lo hi = c :: memZero m lo hi := by simp [memZero, hc]
      by_cases hb : c.1 = b
      · have hn : ¬ (lo ≤ b ∧ b ≤ hi) := by omega
        simp [e, memByte, tabFind, hb, hn]
      · simpa [e, memByte, tabFind, hb] using ih
    · have e : memZero (c :: m) lo hi = memZero m lo hi := by simp [memZero, hc]
      rw [e, ih]
      by_cases hb : c.1 = b
      · have hn : lo ≤ b ∧ b ≤ hi := by omega
        simp [hn]
      · simp [memByte, tabFind, hb]

end Sys2Proof.Machine
end

