-- ==== Sys2Proof/Laws/Ecp.lean ====
section
/-!
SUPPORT. ECP: what a packet that its session takes leads to (R426, R437 to R442), events no session subscribed to (R450), and
interrupts, which touch the aggregator only.
-/
namespace Sys2Proof.Machine

/-- Only the aggregator differs. -/
theorem State.irqTouch_frame (s : State) (n : Nat) : { s.irqTouch n with agg := s.agg } = s := by
  unfold State.irqTouch
  split
  · split
    · split <;> rfl
    · rfl
  · rfl

@[simp] theorem State.irqTouch_regs (s : State) (n : Nat) : (s.irqTouch n).regs = s.regs :=
  by have h := congrArg State.regs (s.irqTouch_frame n); exact h
@[simp] theorem State.irqTouch_msgs (s : State) (n : Nat) : (s.irqTouch n).msgs = s.msgs :=
  by have h := congrArg State.msgs (s.irqTouch_frame n); exact h
@[simp] theorem State.irqTouch_mem (s : State) (n : Nat) : (s.irqTouch n).mem = s.mem :=
  by have h := congrArg State.mem (s.irqTouch_frame n); exact h
@[simp] theorem State.irqTouch_out (s : State) (n : Nat) : (s.irqTouch n).out = s.out :=
  by have h := congrArg State.out (s.irqTouch_frame n); exact h
@[simp] theorem State.irqTouch_todo (s : State) (n : Nat) : (s.irqTouch n).todo = s.todo :=
  by have h := congrArg State.todo (s.irqTouch_frame n); exact h
@[simp] theorem State.irqTouch_sessions (s : State) (n : Nat) : (s.irqTouch n).sessions = s.sessions :=
  by have h := congrArg State.sessions (s.irqTouch_frame n); exact h
@[simp] theorem State.irqTouch_ops (s : State) (n : Nat) : (s.irqTouch n).ops = s.ops :=
  by have h := congrArg State.ops (s.irqTouch_frame n); exact h
@[simp] theorem State.irqTouch_holds (s : State) (n : Nat) : (s.irqTouch n).holds = s.holds :=
  by have h := congrArg State.holds (s.irqTouch_frame n); exact h
@[simp] theorem State.rd_irqTouch (s : State) (n : Nat) (r : Reg) (i j : Nat) : (s.irqTouch n).rd r i j = s.rd r i j := by
  rw [State.rd, s.irqTouch_regs n, State.rd]

/-- An event of a group that no session subscribed to changes nothing (R450). -/
theorem State.event_masked (s : State) (opcode : Nat) (l : List Nat) (h : ∀ x ∈ s.sessions, x.mask = 0) : s.event opcode l = s := by
  have e : s.sessions.map (fun x => if x.mask / 2 ^ (opcode / 256) % 2 == 1 && x.perms.observe &&
      !((opcode == 0x02F0 || opcode == 0x02F1) && onCxl x.source) then x.queue opcode 0 l else x) = s.sessions := by
    conv_rhs => rw [← List.map_id s.sessions]
    exact List.map_congr_left (fun x hx => by simp [h x hx])
  show { s with sessions := _ } = s
  rw [e]

/-- A packet that comes over UDP or MCTP is received without an effect while the counter units are frozen. -/
theorem State.received_frozen (s : State) (a : Source) (h : Frozen s) (hc : onCxl a = false) : s.received a = s := by
  cases a with
  | udp _ _ => rfl
  | smbus _ => exact s.count_frozen _ _ _ h
  | i3c _ => exact s.count_frozen _ _ _ h
  | cxl p => simp [onCxl] at hc

/-- A reply while the counter units are frozen: the packet leaves, and its session keeps it (R426, R441). -/
theorem State.replyTo_frozen (s : State) (src : Source) (id seq opcode : Nat) (a : Ans) (h : Frozen s) :
    s.replyTo src id seq opcode a = s.answer src id seq ⟨opcode, a.1, a.2⟩ := by
  unfold State.replyTo
  split
  · rfl
  · rw [s.count_frozen _ _ _ h]

/-- A packet that its one session takes (R440) runs: the state has heard it, and the body's answer is its reply. -/
theorem State.ecpPacket_takes {s : State} {i : Instr} {h : EcpHdr} {x : Session} {c : Cmd} {run : Body} (hf : Frozen s) (ht : Takes s h x)
    (hp : x.perms.covers c.needs = true) (hu : c.needs.unlock = false) :
    s.ecpPacket i h c run =
      match run (x.accept h.seq.toNat) (s.heard h x) with
      | (none, u) => u
      | (some a, u) => u.replyTo h.src x.id h.seq.toNat c.opcode a := by
  obtain ⟨h1, -, -, h4, h5, h6, h7, h8, h9, h10, h11, h12, h13, h14, h15, h16, -, h18, h19⟩ := ht
  have hs : s.session h.sess.val = some x := by simp [State.session, h9, h7]
  have hfate : x.fate h.seq.toNat = .take := by simp [Session.fate, h12]
  have hset : s.setSession (x.accept h.seq.toNat) = s.heard h x := by
    simp [State.setSession, State.heard, h9, Session.accept]
  have hfr : Frozen (s.heard h x) := hf
  have hash : (s.heard h x).flag F.FC_STATUS_ASH = false := h18
  have hver : (s.heard h x).power.verifying = false := h19
  have hne : ¬ h.seq.toNat = lastSeq := by omega
  have hz : ¬ h.sess.val = 0 := by rw [h7]; exact h8
  simp only [State.ecpPacket, h4, h1, h5, Bool.not_true, Bool.or_false, Bool.false_eq_true, if_false, s.received_frozen h.src hf h6, hz, hs,
    State.onSession, h10, h11, ne_eq, not_true_eq_false, hfate, State.acceptCommand, hset, h14, Option.map_none,
    State.count_frozen _ _ _ _ hfr]
  simp only [Session.accept, h15, h16, Option.isNone_none, List.isEmpty_nil, Bool.and_self, if_true]
  simp only [State.runCommand, State.judge, hu, Bool.false_eq_true, if_false, hp, Bool.not_true, hash, Bool.false_and, hver, hne]
  split <;> simp_all [Session.accept]

/-- The same for a command that always answers. -/
theorem ecpDo_takes {s : State} {i : Instr} {h : EcpHdr} {x : Session} {c : Cmd} {run : Session → State → Ans × State} (hf : Frozen s)
    (ht : Takes s h x) (hp : x.perms.covers c.needs = true) (hu : c.needs.unlock = false) :
    ecpDo s i h c run =
      done ((run (x.accept h.seq.toNat) (s.heard h x)).2.replyTo h.src x.id h.seq.toNat c.opcode
        (run (x.accept h.seq.toNat) (s.heard h x)).1) := by
  rw [ecpDo, State.ecpPacket_takes hf ht hp hu]

end Sys2Proof.Machine
end

