-- ==== Sys2Proof/WellFormed.lean ====
section
/-!
DEFINITION. Which commands are well formed: what a bounded number in the syntax does not already say. Lengths of data and
entries (R428, R429), of accesses (R470, R484), of a line (R252), of what a link carries (R124), addresses of sources (R433).
-/
namespace Sys2Proof

/-- DATA of R429. -/
def dataOk (d : List Byte) : Bool := decide (1 ≤ d.length) && decide (d.length ≤ 4032)

/-- What a partner returned, if it did. -/
def replyOk : Option (List Byte) → Bool
  | some d => decide (d.length ≤ 4032)
  | none => true

/-- The data of one access to control memory (R484). -/
def accessOk (d : List Byte) : Bool := decide (1 ≤ d.length) && decide (d.length ≤ 64)

/-- An IP address has at most 128 bits. -/
def Source.wf : Source → Bool
  | .udp a _ => decide (a < 2 ^ 128)
  | .smbus _ | .i3c _ | .cxl _ => true

def Frame.wf : Frame → Bool
  | .fragment a i => decide (a < 2 ^ 128) && decide (i < 2 ^ 32)
  | .arp | .icmpEcho | .neighbour | .icmpv6Echo | .other => true

def Wake.wf : Wake → Bool
  | .datagram a => decide (a < 2 ^ 128)
  | .mctp => true

def EcpHdr.wf (h : EcpHdr) : Bool := h.src.wf

/-- A VALUE and MASK of 4 bytes hold 32 bits. -/
def RegItem.wf (e : RegItem) : Bool := e.wide || (decide (e.value.toNat < 2 ^ 32) && decide (e.mask.toNat < 2 ^ 32))

/-- An ENTRY has 16 to 28 bytes, of which 8 are its kind and its offset. -/
def Entry.wf (e : Entry) : Bool := decide (8 ≤ e.data.length) && decide (e.data.length ≤ 20)

/-- A request moves at most 4 KiB, and its data fit its length. -/
def ReqIn.wf (r : ReqIn) : Bool := decide (r.data.length ≤ r.len) && decide (r.len ≤ 4096)

/-- A Cascade flit has 256 bytes (R119). -/
def FlitIn.wf : FlitIn → Bool
  | .fromPartner b => decide (b.length = 256)
  | .fromWire _ => true

def Jtag.wf : Jtag → Bool
  | .read _ n => decide (1 ≤ n.val)
  | .write _ d => accessOk d
  | .boundaryScan _ _ _ | .identity | .halt _ _ | .coreStep _ | .inject _ _ | .force _ _ | .challenge | .token _ => true

/-- Whether a command is well formed. -/
def Instr.wf : Instr → Bool
  | .setMgmtConfig h fs => h.wf && !fs.isEmpty && fs.all (fun e => decide (e.1 < 2 ^ 64) && decide (e.2 < 2 ^ 64))
  | .ldMemoryAccess h _ _ _ n w d => h.wf && (if w then dataOk d && decide (d.length = n.val) else decide (d.length ≤ 4032))
  | .ldMgmtTunnel h _ _ d r => h.wf && dataOk d && replyOk r
  | .writeStallRecord h _ _ d => h.wf && dataOk d
  | .generateAer h _ _ d => h.wf && dataOk d
  | .txnWrite h _ l => h.wf && !l.isEmpty && l.all RegItem.wf
  | .txnWriteEntry h _ l => h.wf && !l.isEmpty && l.all Entry.wf
  | .writeDirect h l => h.wf && !l.isEmpty && l.all RegItem.wf
  | .readRegisters h l => h.wf && !l.isEmpty
  | .programCounters h l => h.wf && !l.isEmpty
  | .fwData h _ d => h.wf && dataOk d
  | .debugReadMemory h _ _ d => h.wf && decide (d.length ≤ 4032)
  | .debugWriteMemory h _ d => h.wf && dataOk d
  | .registerWrite _ _ d => accessOk d
  | .ingressRequest _ r => r.wf
  | .deviceResponse _ _ d _ => decide (d.length ≤ 4096)
  | .clearEventRecords _ l => l.all (fun n => decide (n < 2 ^ 16))
  | .getLog _ n _ => decide (n < 2 ^ 32)
  | .clearPoison _ _ d => decide (d.length = 64)
  | .coldBootComplete b => decide b.cores.Nodup && decide b.banks.Nodup
  | .receiverDetected _ (some t) => decide (t.sets.length ≤ 16) && t.sets.all (fun x => decide (x.length ≤ 128))
  | .receiverDetected _ none => true
  | .eqPhaseComplete _ a b => decide (a.length ≤ 16) && decide (b.length ≤ 16)
  | .adaptationUpdate _ _ l => l.all (fun z => decide (-1 ≤ z) && decide (z ≤ 1))
  | .marginStepEnd _ n => decide (n < 64)
  | .deviceInventoryRead _ d => decide (1 ≤ d.capacities.length) && decide (d.capacities.length ≤ 16)
  | .flitReceive _ f _ => f.wf
  | .censusComplete _ l => decide l.Nodup
  | .jtagAccess j => j.wf
  | .ecpInvalidPacket a => a.wf
  | .mgmtNetworkFrame f => f.wf
  | .fragmentReassemblyTimeout a i => decide (a < 2 ^ 128) && decide (i < 2 ^ 32)
  | .challengeLockoutEnd a => a.wf
  | .fmGenerateAerEvent a _ _ d => a.wf && dataOk d
  | .fmTunnelManagementCommand a _ _ d r => a.wf && dataOk d && replyOk r
  | .fmSendLdMemoryRequest a _ _ _ n w d => a.wf && (if w then dataOk d && decide (d.length = n.val) else decide (d.length ≤ 4032))
  | .softRepair _ n => decide (n.val < 624)
  | .coreLoad _ _ n _ => decide (1 ≤ n.val)
  | .coreStore _ _ d _ => accessOk d
  | .reserveLoad _ _ n _ => decide (1 ≤ n.val)
  | .conditionalStore _ _ d _ => accessOk d
  | .glowIdleExpiry l => decide l.Nodup
  | .bankedWake w _ => w.wf
  | .kindlingReachesBlaze l => decide l.Nodup
  | .powerRungReached l => decide l.Nodup
  | .unknownOpcode h _ | .getIdentity h | .sessionChallenge h _ _ | .sessionOpen h | .sessionClose h | .getSession h
  | .setReplyLimit h _ | .subscribe h _ | .getOperation h _ | .abortOperation h _ | .listOperations h _ | .getEcpStats h
  | .getMgmtConfig h | .getPort h _ | .setPortDisabled h _ _ | .retrainPort h _ | .resetPort h _ | .holdPort h _ _
  | .retireLane h _ _ | .saveEqualisation h _ | .marginLane h _ _ | .setTestMode h _ _ _ _ | .ppbConfigRequest h _ _ _ _
  | .ldConfigRequest h _ _ _ _ _ | .getStall h _ | .listStalls h _ | .quenchStall h _ _ | .resetStall h _
  | .resumeStall h _ | .freezeStall h _ | .readStallRecord h _ _ | .restoreStall h _ | .getInventory h _
  | .clearQuarantine h _ _ _ | .setChecker h _ _ | .writeWindow h _ _ | .getVcsInfo h _ | .bindVppb h _ _ _
  | .unbindVppb h _ _ | .txnBegin h | .txnRead h _ _ | .txnCommit h _ | .txnRollback h _ | .txnStatus h | .getRegion h _
  | .recoverRegion h _ | .unfenceHost h _ _ | .flushLedger h _ | .porterStartChain h _ _ | .getChannel h _
  | .pauseChannel h _ _ | .retireChannel h _ | .relocStart h _ _ _ _ | .relocCommit h _ | .relocRollback h _
  | .relocPause h _ _ | .relocResume h _ | .relocStatus h _ | .relocInbound h _ _ _ _ _ _ | .getSlot h _
  | .slotPower h _ _ | .slotClearLockout h _ | .slotSetFeed h _ _ | .getPowerState h | .setPowerState h _
  | .setKeepRegion h _ _ _ | .resetWarm h | .resetHalf h _ | .resetHearth h | .getFaults h _ | .clearFault h _
  | .setReaction h _ _ | .setSnapshotRing h _ _ | .getWearRecord h _ | .telemetryDump h _ | .getSecurityState h
  | .lifecycleAdvance h _ | .provisionCredential h _ _ _ | .revokeCredential h _ | .tamperClear h | .unlockChallenge h
  | .unlockResponse h _ | .debugLock h | .fwBegin h _ _ | .fwEnd h _ | .setPreferredSlot h _ | .getAuditLog h _
  | .forceFault h _ | .linkInject h _ _ | .poisonLine h _ _ => h.wf
  | .fmIdentify a | .fmBackgroundOperationStatus a | .fmGetResponseMessageLimit a | .fmSetResponseMessageLimit a _
  | .fmIdentifySwitchDevice a | .fmGetPhysicalPortState a _ | .fmPhysicalPortControl a _ _
  | .fmSendPpbConfigRequest a _ _ _ _ | .fmGetVcsInfo a _ | .fmBindVppb a _ _ _ | .fmUnbindVppb a _ _
  | .fmSendLdConfigRequest a _ _ _ _ _ | .fmUnsupportedCommand a _ => a.wf
  | .holdListRetry _ _ _ _ _ | .egressMessageStart _ _ _ | .mirrorIdleTimer _ _ | .deviceBiSnoop _ _
  | .memTimeoutExpiry _ _ | .ioTimeoutExpiry _ _ | .configRequestToStall _ _ _ _ | .hdmCommittedSet _ _ | .hotPlugNotify
  | .mailboxDoorbell _ | .getEventRecords _ | .getTimestamp _ | .setTimestamp _ _ | .getSupportedLogs _
  | .identifyMemoryDevice _ | .getPartitionInfo _ | .getHealthInfo _ _ | .getPoisonList _ | .injectPoison _ _
  | .sanitize _ | .secureErase _ | .mailboxBgOpComplete _ | .mailboxUnsupported _ _ | .configMessageReceive _ _ _
  | .flueHeartbeat _ | .flueSilenceTimeout _ | .flueTransferTimeout _ | .flueResponse _ | .semaphoreExpiry _
  | .slotHoldLineAssert _ | .slotHoldLineRelease _ | .grateEventReport _ | .coldReset | .resetNAssert _ | .resetNRelease
  | .rstWarm | .rstHalfE | .rstHalfW | .rstHearth | .rstPort _ | .seamDownHoldExpiry _ | .halfResetRelease _
  | .portResetRelease _ | .stallDrainEnd _ | .stallResetComplete _ | .pllLockLoss _ | .pllRelock _ | .fclkLockLoss _
  | .skpOrderedSet _ _ _ _ | .detectQuietTimer _ | .trainingTimeout _ | .linkReachesL0 _ _ | .speedChangeTimeout _
  | .eqPhaseTimeout _ | .eqBypassFallback _ | .retrain _ | .saveEq _ | .bond _ _ | .loopbackCtrlWrite _ _
  | .testCtrlWrite _ _ | .partnerLoopbackRequest _ | .laneSlipWrite _ _ _ | .marginStart _ _ _ _ _ _
  | .partnerMarginRequest _ _ _ _ | .laneRetire _ _ | .retireControlFlit _ _ _ | .retireSwitch _ _ | .retireAckTimeout _
  | .ideMacFailure _ _ _ | .ideKeyProgram _ _ _ | .keyRollover _ | .oldKeyWindowEnd _ | .viralReceived _
  | .viralFromHost _ | .ackCoalesceReached _ | .ackTimerExpiry _ | .replayTimerExpiry _ | .linkMessageSend _
  | .initTimeout _ | .linkLayerDown _ | .seamRealign _ _ _ | .seamActiveTimeout _ | .llInjectArm _ _ | .injectorFire _
  | .poolStateSend _ | .poolStateStale _ | .censusStart _ | .censusRunNow _ | .bankRetire _ _ | .meterTokenRefill _
  | .bulkPromote _ | .histSample _ | .histClear _ | .windowDirectWrite _ _ _ _ | .checkerDisable _ | .checkerEnable _
  | .checkerEnabled _ | .checkerHoldExpired _ | .scrubBarrierConfirmed _ | .scrubWriteFail _ | .txnIdleTimeout _
  | .commitValidated _ | .recallWalkDone _ | .halfApply _ | .halfApplyQuiesced _ _ | .applyQuiesceTimeout _
  | .appliedReport _ | .applyFailedReport _ | .commitTimeout _ | .chargeReassert | .chargeReceive _ | .epochMarkSend _
  | .homeRequest _ | .homeFlowStart _ _ | .ledgerFill _ _ _ | .ledgerWayFreed _ | .snoopResponse _ _ _ _
  | .homeWriteback _ | .snoopTimeout _ _ | .wbGraceExpiry _ _ | .minHoldExpiry _ _ | .ledgerWayRetire _ _ _
  | .ledgerWayRetireDone _ _ | .regionRecoveryDone _ | .cohFlush _ | .ledgerFlushDone _ | .chStart _ | .chAbort _
  | .chTrigger _ | .chPause _ _ | .descriptorFetch _ _ | .porterReadReturn _ _ | .descriptorComplete _
  | .porterLateWriteError _ | .porterDoorbell _ _ | .tailReread _ _ | .porterPaceTimer _ | .porterRetire _
  | .relocChunkDelivered _ | .relocJournalAcked _ | .watermarkMessage _ | .watermarkAck _ | .relocSourceDrained _
  | .relocChunkFailed _ | .mirroredWriteComplete _ | .relocHandoverDone _ | .handoverEndMarker _ | .relocSourceRelease _
  | .relocTargetFailure _ | .tamperSignal _ | .debugCtrlLock | .spdmGetMeasurements _ _ | .spdmSessionMessage _ _
  | .wesisVerified | .pendingSessionExpiry _ | .sessionIdleTimeout _ | .operationStatusExpiry _ | .coreRetire _
  | .wdtKick _ | .watchdogExpiry | .bankRetentionEntry _ | .bankRetentionWake _ | .softRepairDone _
  | .storeBufferIssue _ | .storeTakesEffect _ | .fence _ | .cmImpreciseClr | .fcClear _ | .fcForce _ _
  | .collectorParityError _ | .presLongAssert _ | .presLongDeassert _ | .presShortDeassert _ | .seatingDebounceEnd _
  | .prechargeComplete _ | .prechargeTimeout _ | .rampComplete _ _ | .curveTrip _ | .fastTrip _ | .backoffDeadline _
  | .slotCooldownExpiry _ | .pgLostTrip _ | .feedClassChange _ _ _ | .primaryFeedReturn _ | .feedDeadTimeEnd _
  | .feedSwitchCheck _ _ | .supplyLostEntry _ | .supplyReturn _ | .bankReqRaise _ | .rearm _ | .slotCtrlOn _
  | .slotCtrlOff _ | .clearLockout _ | .ladderExitCause | .ladderReachesBlaze _ | .gpfResponse _ | .gpfPhase1End
  | .ledgerWritebackCutoff _ | .gpfPhase2End | .bankImageSeal | .keepCopyDone _ | .mainSupplyLost | .mainSupplyGood _
  | .vbankRise | .vbankLoss | .autoKindleTimer _ | .pmuReset _ | .pmuFreeze _ _ | .freezeAll _ | .resetAll
  | .counterOverflow _ _ _ | .snapshotTake | .snapshotMarkReceive | .wearSample _ _ _ _ | .hostCounterRefresh _
  | .iaPendingClear _ | .iaSoftSet _ | .iaSoftClear _ | .kclkCalibrationRefresh _ | .portLeavesL0 _ _
  | .partnerLinkCredits _ _ | .tamperSourceEnd _ | .warmResetDeferLimit | .xspiOperationComplete => true

end Sys2Proof
end

