-- ==== Sys2Proof/Tests/Slice0.lean ====
section
/-!
SUPPORT. Own tests: terms that are not well formed, the manual's worked examples, and for every statement states and operands
that meet its hypotheses.
-/
namespace Sys2Proof.Tests
open Sys2Proof.Machine

set_option Elab.async false
set_option linter.unusedVariables false

/-! ## States -/

/-- A port with a role in a link state, the counter units frozen. -/
def portIn (role ls p : Nat) : State :=
  ((State.reset.put F.PMU_GLOBAL_FREEZE_ALL 1).put F.PORT_CFG_ROLE role p).put F.PHY_STATUS_LINK_STATE ls p
/-- A message that waits at the head of its hold list for the Hearth. -/
def waitingMsg : Msg := { id := 5, cls := 9, op := .mgmt, input := 95, dst := 127, half := 1, charge := .receive }
/-- A read of host 7 that the device behind port 3 has yet to answer. -/
def sentMsg : Msg := { id := 6, cls := 0, op := .memRead, input := 95, dst := 3, host := some 7, half := 0, stage := .atDevice }
/-- An ownership request of host 7 for line 2 of way 1 of region 9, in the staging of the home engine of West. -/
def homeReq : Msg := { id := 5, cls := 0, op := .memInv, input := 3, dst := 125, host := some 7, slice := some ⟨true, 9, 1⟩, off := 128, half := 1, stage := .atHome, mkt := .own }
/-- The cached entry of that line. -/
def homeLine : LedgerLine := { half := 1, region := 9, way := 1, line := 2, cacheWay := 3 }
/-- The home engine of West with a request, an entry and flows. -/
def homeState (m : Msg) (e : LedgerLine) (f : List Flow) : State := { portIn 1 lsL0 3 with msgs := [m], market := { cache := [e], flows := f }, nextId := 20 }
/-- Porter channel 27 in a state, with what it holds beside its registers. -/
def chanIn (v : Nat) (x : Channel) : State := ((State.reset.put F.PMU_GLOBAL_FREEZE_ALL 1).put F.CH_STATUS_STATE v 27).setChan 27 x
/-- The Keep region on port 3, so that its addresses reach a memory device. -/
def withKeep (s : State) : State := (((s.put F.KEEP_CTRL_VALID 1).put F.KEEP_CTRL_PORT 3).put F.KEEP_BASE_BASE 64).put F.CH_CUR_V 0x40000000 27
/-- Relocation context 7 in a state. -/
def relocIn (v : Nat) (c : RelocCtx) : State := (((State.reset.put F.PMU_GLOBAL_FREEZE_ALL 1).put F.RELOC_STATE_STATE v 7).put F.RELOC_CHUNKS_N 512 7).setReloc 7 c
/-- Stall 4095, bound, with records, a poison list and a set clock; the time is 100 ns. -/
def stallIn (e : Emulated) : State := (((portIn 1 lsL0 3).put F.FC_TIME_V 100).put F.STALL_LAYOUT_CAP 7 4095).setEmul 4095 e
/-- Slot power channel 47 in a state, with both pins in contact, both feeds present and allowed, and a valid curve. -/
def slotIn (v : Nat) : State :=
  (List.range 8).foldl (fun s k => (s.put F.SLOT_CURVE_IK (10 * k + 10) 47 k).put F.SLOT_CURVE_TK (100 - 10 * k) 47 k)
    (((((((((portIn 1 lsL0 3).put F.SLOT_STATE_STATE v 47).put F.SLOT_STATE_LONG_PIN 1 47).put F.SLOT_STATE_SHORT_PIN 1 47).put F.FEED_CFG_A_PRESENT 1).put F.FEED_CFG_B_PRESENT 1).put F.SLOT_FEED_ALLOW_A 1 47).put F.SLOT_FEED_ALLOW_B 1 47).put F.SLOT_FAST_FT_CODE 200 47)
/-- Core 16, active, with a unit of its own; memory holds 8 bytes at the start of bank 1. -/
def coreIn (u : CoreUnit) : State :=
  { (portIn 1 lsL0 3).wr .CORE_ACTIVE 0x1FFFF with hearth := { cores := [(16, u)] }, mem := [(0x10200000, 7), (0x10200001, 8)] }
/-- A store of core 16 to bank 1. -/
def coreStoreQ : QueuedStore := { core := 16, addr := 0x10200000, data := [1, 2, 3, 4], posted := false, retired := true }
/-- A session that holds every permission, its source, and its next packet. -/
def mgr : Session := { id := 9, credential := 3, perms := ⟨true, true, true, true, true⟩, source := .udp 7 1024, high := 4, record := [4] }
def pkt : EcpHdr := { sess := 9, seq := 5, src := .udp 7 1024, tagOk := true, paramErr := none }
/-- That session is open in a state. -/
def withMgr (s : State) : State := { s with sessions := [mgr] }
/-- Port 95 behind which a memory device with two logical devices answers. -/
def memPort : State := { portIn 3 lsL0 95 with inventory := [{ port := 95, serial := 7, capacities := [65536, 65536], persistent := false }] }
/-- Host port 3 of host 7, which FM_API_PORTS names, and memory port 95 in L0. -/
def fmIn : State :=
  let s := ((portIn 1 lsL0 3).put F.PORT_CFG_HOST_ID 7 3 |>.put F.PORT_CFG_ROLE 3 95).put F.PHY_STATUS_LINK_STATE lsL0 95
  { s with flash := { s.flash with mgmt := numPut 0 11 128 s.flash.mgmt } }
/-- A partner at every rate, x8, of PCI Express. -/
def partner : Training := { rates := 127, inverted := 0, trained := 0xFF, widths := 8, crossed := false, reversal := false, answer := .pcie, backInvalidate := false, flit68 := false, flit256 := true, flitLo := false, flitPcie := true, sets := [], bypass := false }

/-! ## Commands that are not well formed (R428, R429, R433, R484) -/

/-- One ill-formed term for each check, which the check refuses; and a well-formed one. -/
theorem test_wellformed_refuses :
    Instr.wf (.getIdentity { pkt with src := .udp (2 ^ 128) 5 }) = false ∧ Instr.wf (.setMgmtConfig pkt []) = false ∧
    Instr.wf (.setMgmtConfig pkt [(2 ^ 64, 0)]) = false ∧ Instr.wf (.writeStallRecord pkt 7 0 []) = false ∧
    Instr.wf (.ldMemoryAccess pkt 3 0 0 2 true [1]) = false ∧ Instr.wf (.txnWrite pkt 1 []) = false ∧
    Instr.wf (.txnWrite pkt 1 [⟨0, 2 ^ 32, 1, false⟩]) = false ∧ Instr.wf (.txnWriteEntry pkt 1 [⟨2, 0, [1, 2, 3, 4, 5, 6, 7]⟩]) = false ∧
    Instr.wf (.txnWriteEntry pkt 1 [⟨2, 0, List.replicate 21 0⟩]) = false ∧ Instr.wf (.readRegisters pkt []) = false ∧
    Instr.wf (.registerWrite .debug 0 []) = false ∧ Instr.wf (.registerWrite .debug 0 (List.replicate 65 0)) = false ∧
    Instr.wf (.ingressRequest 3 ⟨.memWrite, 0, 1, [1, 2], false, 0, .uncached, true, 0⟩) = false ∧ Instr.wf (.coreLoad 3 0 0 .good) = false ∧
    Instr.wf (.clearPoison 7 0 [1]) = false ∧ Instr.wf (.softRepair 3 624) = false ∧ Instr.wf (.marginStepEnd 3 64) = false ∧
    Instr.wf (.adaptationUpdate 3 1 [2]) = false ∧ Instr.wf (.deviceInventoryRead 3 ⟨7, [], false, false, false⟩) = false ∧
    Instr.wf (.censusComplete .east [5, 5]) = false ∧ Instr.wf (.clearEventRecords 7 [65536]) = false ∧ Instr.wf (.getLog 7 (2 ^ 32) 1) = false ∧
    Instr.wf (.mgmtNetworkFrame (.fragment 1 (2 ^ 32))) = false ∧ Instr.wf (.jtagAccess (.read 0 0)) = false ∧
    Instr.wf (.glowIdleExpiry [3, 3]) = false ∧ Instr.wf (.bankedWake (.datagram (2 ^ 128)) ⟨.good, .none⟩) = false ∧
    Instr.wf (.txnWrite pkt 1 [⟨0, 7, 1, false⟩]) = true := by decide +kernel

/-- No word spells a command. -/
theorem test_no_word_spells_a_command : decodeTableWord 32 0x12345678 = none ∧ State.reset.withFetchWord 32 7 = State.reset := by
  decide +kernel

/-! ## The manual's worked examples -/

/-- Stall 212 of the three-way interleave: WAYS 5, IG 2, its slice of way 2 behind port 62. -/
def stall212 : State :=
  ((((portIn 1 lsL0 3).put F.STALL_LAYOUT_WAYS 5 212).put F.STALL_LAYOUT_IG 2 212).put F.STALL_SLICE_PORT 62 212 2).put F.STALL_SLICE_LD 2 212 2
    |>.put F.STALL_SLICE_DPA_BASE 8 212 2

/-- Chapter 7, three-way interleave: the read of 0x2C40 goes to logical device 2 behind port 62 at DPA 0x8000_0C40, and the last
granule to the last of the slice. -/
theorem test_three_way_interleave :
    stall212.resolve 0 false 212 0x2C40 = (⟨false, 212, 2⟩, 0xC40) ∧ stall212.sliceOf 0 ⟨false, 212, 2⟩ = (62, 2, 0x80000000) ∧
    stall212.resolve 0 false 212 (3145727 * 1024 + 1023) = (⟨false, 212, 2⟩, 2 ^ 30 - 1) := by decide +kernel

/-- Region 9 of the region example: WAYS 2, IG 4, slice 2 behind port 60. -/
def region9 : State :=
  ((((portIn 1 lsL0 3).put F.REGION_LAYOUT_WAYS 2 9).put F.REGION_LAYOUT_IG 4 9).put F.REGION_SLICE_PORT 60 9 2).put F.REGION_SLICE_DPA_BASE 32 9 2

/-- Chapter 9, one line of a region: the read of 0xA0C0 goes to line 131 of slice 2, at DPA 0x2_0000_20C0, homed by West. -/
theorem test_line_of_a_region :
    region9.resolve 0 true 9 0xA0C0 = (⟨true, 9, 2⟩, 0x20C0) ∧ 0x20C0 / 64 = 131 ∧ region9.sliceOf 0 ⟨true, 9, 2⟩ = (60, 0, 32 * 2 ^ 28) ∧
    region9.homeOf 0 ⟨true, 9, 2⟩ = 1 := by decide +kernel

/-- Chapter 4, credit arithmetic across the wrap: A = 2,040, R = 3,900, C = 1,800 leave 44. -/
theorem test_credits_across_the_wrap :
    ({ peerA := [0, 0, 0, 2040], peerR := [0, 0, 0, 3900], used := [0, 0, 0, 1800] } : Link).available 3 = 44 := by decide +kernel

/-- Port 30 with lane 2 retired, as a Device port whose partner trained every lane. -/
def port30 : State := (portIn 3 lsDetect 30).wr .LANE_RETIRE 4 30
def trained (reversal : Bool) : Training :=
  { partner with widths := 0xF, reversal := reversal, answer := .cxl true true, flit68 := true }

/-- Chapter 2, downshift around a retired lane: x4 reversed, or x2 where the partner does not support reversal. -/
theorem test_downshift_around_a_retired_lane :
    port30.settleWidth 30 (trained true) = some (4, true) ∧ port30.settleWidth 30 (trained false) = some (2, false) := by decide +kernel

/-- Chapter 17, the default curve: its points and the fast trip after reset. -/
theorem test_default_curve :
    (List.range 8).map (fun k => State.reset.get F.SLOT_CURVE_IK 12 k) = [960, 1200, 1440, 1920, 2400, 2880, 3360, 3840] ∧
    (List.range 8).map (fun k => State.reset.get F.SLOT_CURVE_TK 12 k) = [1000000, 200000, 50000, 10000, 2000, 500, 100, 20] ∧
    State.reset.get F.SLOT_FAST_FT_CODE 12 = 4000 := by decide +kernel

/-- What one command leaves. -/
def after (c : Instr) (s : State) : State := match exec c s with
  | .next t => t
  | _ => s

/-- Slot 47 in On with a retry limit of 3 and a number of retries, at 2.3 ms. -/
def failing (n : Nat) : State :=
  ((((slotIn slOn).put F.SLOT_CTRL_RETRY_LIMIT 3 47).put F.SLOT_STATE_RETRIES n 47).put F.FC_TIME_V 2300000).put F.SLOT_STATE_POWER_REQ 1 47

/-- Chapter 17, a failing module reseated: the trip at 2.3 ms sets the deadline 12.3 ms, the second one waits 20 ms, and the trip at
the limit locks the channel out with POWER_REQ clear. -/
theorem test_failing_module_first_trip :
    (after (.fastTrip 47) (failing 0)).sl 47 = slTripped ∧ (after (.fastTrip 47) (failing 0)).get F.SLOT_STATE_RETRIES 47 = 1 ∧
    ((after (.fastTrip 47) (failing 0)).slot 47).deadline = some 12300000 ∧
    ((after (.fastTrip 47) (failing 1)).slot 47).deadline = some 22300000 := by decide +kernel

theorem test_failing_module_lockout :
    (after (.fastTrip 47) (failing 3)).sl 47 = slLockout ∧ (after (.fastTrip 47) (failing 3)).flag F.SLOT_STATE_POWER_REQ 47 = false := by
  decide +kernel

/-- R18, R20: a register reads what was written to its field, and other fields keep theirs. -/
theorem test_field_of_a_register :
    ((State.reset.put F.STALL_LAYOUT_IG 5 7).put F.STALL_LAYOUT_CAP 9 7).get F.STALL_LAYOUT_IG 7 = 5 := by decide +kernel

/-! ## States that meet the hypotheses of the statements -/

/-- States and operands that meet the hypotheses of `ClocksAndBringUp`, clause by clause. -/
theorem witness_ClocksAndBringUp :
    (∃ (s : State) (g : Fin 24),
      Quiet s ∧ Frozen s ∧ (∀ k : Fin 4, s.linkState (4 * g.val + k.val) = lsDetect ∧ s.flag F.FC_SRC_LATCHED (8 * (4 * g.val + k.val)) = true)) ∧
    (∃ (s : State) (g : Fin 24),
      Quiet s ∧ Frozen s ∧ (∀ k : Fin 4, s.linkState (4 * g.val + k.val) ≠ lsDetect)) ∧
    (∃ (s : State) (p : Port) (k : Lane) (drift : Int) (n : Int) (enough : Bool) (e : Fin 65536),
      Quiet s ∧ Frozen s ∧ n = numGet 0 (8 * p.val + k.val) s.lanes.elastic + drift ∧ -32 ≤ n ∧ n ≤ 32) ∧
    (∃ (s : State) (p : Port) (k : Lane) (drift : Int) (enough : Bool) (e : Fin 65536),
      Quiet s ∧ Frozen s ∧ 33 < numGet 0 (8 * p.val + k.val) s.lanes.elastic + drift ∧ s.linkState (s.linkPort p.val) ≠ lsL0 ∧ s.linkState (s.linkPort p.val) ≠ lsL0p) ∧
    (∃ (s : State) (p : Port) (r : Training) (w : Nat) (rev : Bool),
      Quiet s ∧ Frozen s ∧ (s.mayTrain p.val = true ∨ s.linkState p.val = lsPolling) ∧ (s.put F.PARTNER_RATES_V r.rates.toNat p.val).settleWidth p.val r = some (w, rev) ∧ s.protocolOk p.val r = true) ∧
    (∃ (s : State) (p : Port),
      Quiet s ∧ Frozen s ∧ s.mayTrain p.val = true) ∧
    (∃ (s : State) (p : Port),
      Quiet s ∧ Frozen s ∧ s.linkState p.val = lsDetect) ∧
    (∃ (s : State) (p : Port),
      Quiet s ∧ Frozen s ∧ (s.linkState p.val = lsPolling ∨ s.linkState p.val = lsConfig) ∧ s.isCascade p.val = false ∧ (numGet 0 p.val s.lanes.fails + 1) % 8 ≠ 0) ∧
    (∃ (s : State) (p : Port) (viral : Bool) (r : Nat),
      Quiet s ∧ Frozen s ∧ s.linkState p.val = lsRecoveryEq ∧ numGet 0 p.val s.lanes.eqPhase = 4 ∧ s.lanes.bypassing.contains p.val = false ∧ s.lanes.resize.contains p.val = false ∧ s.flag F.MARGIN_STATUS_BUSY p.val = false ∧ s.tooSlow p.val (numGet 0 p.val s.lanes.target) = false ∧ s.nextRate p.val (numGet 0 p.val s.lanes.target) = some r ∧ numGet 0 p.val s.lanes.target ≤ 6) :=
  ⟨⟨[0, 1, 2, 3].foldl (fun s k => s.put F.FC_SRC_LATCHED 1 (8 * (92 + k))) (portIn 1 lsDetect 95), 23, by decide +kernel⟩,
   ⟨[0, 1, 2, 3].foldl (fun s k => s.put F.PHY_STATUS_LINK_STATE lsL0 (92 + k)) (portIn 1 lsL0 95), 23, by decide +kernel⟩,
   ⟨portIn 1 lsL0 95, 95, 7, 32, 32, false, 65535, by decide +kernel⟩,
   ⟨portIn 1 lsRecovery 95, 95, 7, 34, false, 3, by decide +kernel⟩,
   ⟨(portIn 2 lsDetect 95).wr .CLK_GROUP_LOCK 0xFFFFFF, 95, partner, 8, false, by decide +kernel⟩,
   ⟨(portIn 2 lsDetect 95).wr .CLK_GROUP_LOCK 0xFFFFFF, 95, by decide +kernel⟩,
   ⟨portIn 0 lsDetect 95, 95, by decide +kernel⟩,
   ⟨portIn 2 lsConfig 95, 95, by decide +kernel⟩,
   ⟨{ ((portIn 2 lsRecoveryEq 95).put F.PARTNER_RATES_V 127 95).put F.PHY_CTRL_MAX_RATE 6 95 with lanes := { eqPhase := [(95, 4)], target := [(95, 2)] } }, 95, false, 3, by decide +kernel⟩⟩

/-- States and operands that meet the hypotheses of `RatesAndEqualisation`, clause by clause. -/
theorem witness_RatesAndEqualisation :
    (∃ (s : State) (p : Port),
      Quiet s ∧ Frozen s ∧ s.changingRate p.val = true ∧ s.linkState p.val ≠ lsConfig ∧ s.lanes.bypassing.contains p.val = false ∧ s.isCascade p.val = false ∧ (cxlRole (s.role p.val) = false ∨ 2 ≤ numGet 0 p.val s.lanes.lastGood) ∧ s.holds.contains (p.val, .viral) = false ∧ s.flag F.FC_SRC_LATCHED (8 * p.val) = true ∧ numGet 0 p.val s.lanes.target ≤ 6) ∧
    (∃ (s : State) (p : Port),
      Quiet s ∧ Frozen s ∧ s.linkState p.val = lsRecoveryEq ∧ 1 ≤ numGet 0 p.val s.lanes.eqPhase ∧ numGet 0 p.val s.lanes.eqPhase < 4 ∧ s.lanes.bypassing.contains p.val = false ∧ s.isCascade p.val = false ∧ (cxlRole (s.role p.val) = false ∨ 2 ≤ numGet 0 p.val s.lanes.lastGood) ∧ s.holds.contains (p.val, .viral) = false ∧ s.flag F.FC_SRC_LATCHED (8 * p.val) = true ∧ numGet 0 p.val s.lanes.target ≤ 6) ∧
    (∃ (s : State) (p : Port) (own : List EqRequest) (partner : List (BitVec 32)),
      Quiet s ∧ Frozen s ∧ s.linkState p.val = lsRecoveryEq ∧ numGet 0 p.val s.lanes.eqPhase < 4) ∧
    (∃ (s : State) (p : Port) (r : Nat),
      Quiet s ∧ Frozen s ∧ s.flag F.PHY_STATUS_BYPASS_USED p.val = true ∧ s.linkState p.val = lsL0 ∧ s.isCascade p.val = false ∧ s.flag F.MARGIN_STATUS_BUSY p.val = false ∧ s.nextRate p.val 0 = some r) ∧
    (∃ (s : State) (p : Port) (k : Lane) (signs : List Int),
      Quiet s ∧ Frozen s ∧ s.linkState (s.linkPort p.val) = lsL0 ∧ 2 ≤ s.get F.PHY_STATUS_CUR_RATE (s.linkPort p.val) ∧ s.flag F.LANE_RXEQ_FREEZE p.val k.val = false) ∧
    (∃ (s : State) (p : Port) (r : Nat),
      Quiet s ∧ Frozen s ∧ s.linkState p.val = lsL0 ∧ s.isCascade p.val = false ∧ s.flag F.MARGIN_STATUS_BUSY p.val = false ∧ r = ((s.clearRateFailed p.val).nextRate p.val (s.get F.PHY_STATUS_CUR_RATE p.val)).getD ((s.clearRateFailed p.val).heldRate p.val (s.get F.PHY_STATUS_CUR_RATE p.val))) ∧
    (∃ (s : State) (p : Port),
      Quiet s ∧ Frozen s ∧ s.linkState p.val = lsL0) ∧
    (∃ (s : State) (p : Port) (b : Bool),
      Quiet s ∧ Frozen s ∧ p.val % 2 = 0 ∧ s.linkState p.val = lsDisabled ∧ s.linkState (p.val + 1) = lsDisabled ∧ (b = true → s.get F.PORT_CFG_ROLE p.val = s.get F.PORT_CFG_ROLE (p.val + 1))) :=
  ⟨⟨{ (portIn 2 lsRecoveryEq 95).put F.FC_SRC_LATCHED 1 760 with lanes := { target := [(95, 3)], lastGood := [(95, 2)] } }, 95, by decide +kernel⟩,
   ⟨{ (portIn 2 lsRecoveryEq 95).put F.FC_SRC_LATCHED 1 760 with lanes := { target := [(95, 3)], lastGood := [(95, 2)], eqPhase := [(95, 2)] } }, 95, by decide +kernel⟩,
   ⟨{ portIn 2 lsRecoveryEq 95 with lanes := { eqPhase := [(95, 3)], target := [(95, 6)] } }, 95, [.coefficients 0x00003F00, .coefficients 1, .coefficients 0x00063502], [5], by decide +kernel⟩,
   ⟨(((portIn 2 lsL0 95).put F.PHY_STATUS_BYPASS_USED 1 95).put F.PARTNER_RATES_V 127 95).put F.PHY_CTRL_MAX_RATE 6 95, 95, 2, by decide +kernel⟩,
   ⟨(portIn 2 lsL0 95).put F.PHY_STATUS_CUR_RATE 3 95, 95, 7, [1, -1, 1, -1, 1, 1, 1, 1, 1, 1, 1, 1, 1, -1], by decide +kernel⟩,
   ⟨(((portIn 2 lsL0 95).put F.PHY_STATUS_RATE_FAILED 9 95).put F.PARTNER_RATES_V 127 95).put F.PHY_CTRL_MAX_RATE 6 95, 95, 2, by decide +kernel⟩,
   ⟨((portIn 2 lsL0 95).put F.LANE_STATUS_IN_USE 1 95 7).put F.LANE_DFE2_TAP9 3 95 7, 95, by decide +kernel⟩,
   ⟨((portIn 2 lsDisabled 94).put F.PHY_STATUS_LINK_STATE lsDisabled 95).put F.PORT_CFG_ROLE 2 95, 94, true, by decide +kernel⟩⟩

/-- States and operands that meet the hypotheses of `TestsMarginingAndLanes`, clause by clause. -/
theorem witness_TestsMarginingAndLanes :
    (∃ (s : State) (p : Port) (v : BitVec 32),
      Quiet s ∧ Frozen s ∧ s.linkState p.val = lsDisabled ∧ s.get F.PHY_CTRL_TEST_MODE p.val = 2 ∧ v.toNat % 4 ≠ 0 ∧ v.toNat % 4 ≠ s.get F.LOOPBACK_CTRL_MODE p.val) ∧
    (∃ (s : State) (p : Port) (v : BitVec 32),
      Quiet s ∧ Frozen s ∧ s.linkState p.val = lsDisabled ∧ s.get F.PHY_CTRL_TEST_MODE p.val = 1 ∧ v.toNat % 8 ≤ 3 ∧ v.toNat / 8 % 4 ≠ 0) ∧
    (∃ (s : State) (p : Port),
      Quiet s ∧ Frozen s ∧ s.flag F.LOOPBACK_CTRL_FOLLOW_EN p.val = true ∧ (s.linkState p.val = lsConfig ∨ s.linkState p.val = lsPolling) ∧ s.isCascade p.val = false) ∧
    (∃ (s : State) (p : Port) (k : Lane) (pos : Fin 128),
      Quiet s ∧ Frozen s ∧ (s.get F.PHY_CTRL_TEST_MODE (s.linkPort p.val) = 1 ∨ s.get F.PHY_CTRL_TEST_MODE (s.linkPort p.val) = 2) ∧ (s.pam4 (s.linkPort p.val) = true → pos.val ≤ 63)) ∧
    (∃ (s : State) (p : Port) (k : Lane) (axis : Bool) (dir : Bool) (limit : Fin 64) (steps : Fin 64),
      Quiet s ∧ Frozen s ∧ s.flag F.MARGIN_STATUS_BUSY p.val = false ∧ s.linkState p.val = lsL0 ∧ limit.val ≠ 0 ∧ steps.val ≠ 0 ∧ (axis = false → steps.val ≤ 32)) ∧
    (∃ (s : State) (p : Port) (e : Nat) (n : Nat) (m : Nat),
      Quiet s ∧ Frozen s ∧ s.flag F.MARGIN_STATUS_BUSY p.val = true ∧ numGet (0, 0) p.val s.lanes.margin = (n, m) ∧ n < 64 ∧ s.get F.MARGIN_STATUS_LAST_STEP p.val + 1 < 64 ∧ s.get F.MARGIN_STATUS_LAST_STEP p.val + 1 < m) ∧
    (∃ (s : State) (p : Port) (k : Lane) (v : Bool) (step : Fin 64) (e : Fin 64),
      Quiet s ∧ Frozen s ∧ s.linkState p.val = lsL0 ∧ (v = false → step.val ≤ 32)) ∧
    (∃ (s : State) (p : Port) (mask : BitVec 8),
      Quiet s ∧ Frozen s ∧ s.isCascade (s.linkPort p.val) = false ∧ s.linkState (s.linkPort p.val) = lsDisabled) ∧
    (∃ (s : State) (p : Port) (k : LeaveKind),
      Quiet s ∧ Frozen s ∧ s.linkState p.val = lsL0 ∧ s.isCascade p.val = false ∧ s.flag F.MARGIN_STATUS_BUSY p.val = false) :=
  ⟨⟨(portIn 2 lsDisabled 95).put F.PHY_CTRL_TEST_MODE 2 95, 95, 0x80000007, by decide +kernel⟩,
   ⟨(portIn 2 lsDisabled 95).put F.PHY_CTRL_TEST_MODE 1 95, 95, 0x1B, by decide +kernel⟩,
   ⟨(portIn 2 lsConfig 95).put F.LOOPBACK_CTRL_FOLLOW_EN 1 95, 95, by decide +kernel⟩,
   ⟨(portIn 2 lsPattern 95).put F.PHY_CTRL_TEST_MODE 1 95, 95, 7, 127, by decide +kernel⟩,
   ⟨portIn 2 lsL0 95, 95, 7, true, false, 1, 63, by decide +kernel⟩,
   ⟨{ ((portIn 2 lsL0 95).put F.MARGIN_STATUS_BUSY 1 95).put F.MARGIN_STATUS_LAST_STEP 61 95 with lanes := { margin := [(95, (62, 63))] } }, 95, 70, 62, 63, by decide +kernel⟩,
   ⟨portIn 2 lsL0 95, 95, 7, true, 63, 63, by decide +kernel⟩,
   ⟨(portIn 2 lsDisabled 95).put F.LANE_RETIRE_RETIRED 0x55 95, 95, 0x81, by decide +kernel⟩,
   ⟨portIn 2 lsL0 95, 95, .detect, by decide +kernel⟩⟩

/-- States and operands that meet the hypotheses of `LinkFlitsAndTimers`, clause by clause. -/
theorem witness_LinkFlitsAndTimers :
    (∃ (s : State) (p : Port) (b : List Byte),
      Quiet s ∧ Frozen s ∧ s.get F.LL_STATUS_STATE p.val = linkActive ∧ crcGood p.val (padTo 256 b) = false ∧ s.irqPending p.val = true ∧ s.irqRotates p.val = false) ∧
    (∃ (s : State) (p : Port) (b : List Byte) (f : Flit) (i : Nat) (j : Nat) (m : Nat) (n : Nat) (cap : Bool),
      Quiet s ∧ Frozen s ∧ s.get F.LL_STATUS_STATE p.val = linkInit ∧ crcGood p.val (padTo 256 b) = true ∧ readFlit p.val (padTo 256 b) = f ∧ f.body = .init i j m n false cap ∧ f.version = s.linkVersion p.val ∧ f.nextMsg = 127 ∧ f.ackSeq = s.get F.LL_REPLAY_LAST_ACK p.val ∧ f.replayReq = false ∧ f.reqHdr = 0 ∧ f.reqData = 0 ∧ f.rspHdr = 0 ∧ f.rspData = 0 ∧ (s.link p.val).initGood = 0 ∧ (s.link p.val).rxReady = false ∧ (s.link p.val).used = [0, 0, 0, 0]) ∧
    (∃ (s : State) (l : LinkId),
      Quiet s ∧ Frozen s ∧ s.sending l.val = true ∧ s.get F.LL_CTRL_ACK_COALESCE l.val ≤ (s.link l.val).accepted ∧ s.flag F.LL_INJECT_ARM l.val = false ∧ (s.link (l.val)).injectHeld = none) ∧
    (∃ (s : State) (l : LinkId),
      Quiet s ∧ Frozen s ∧ s.sending l.val = true ∧ 0 < (s.link l.val).accepted ∧ s.flag F.LL_INJECT_ARM l.val = false ∧ (s.link (l.val)).injectHeld = none) ∧
    (∃ (s : State) (l : LinkId),
      Quiet s ∧ Frozen s ∧ s.sending l.val = true ∧ (s.link l.val).replay ≠ [] ∧ (s.link l.val).replays < 4) ∧
    (∃ (s : State) (l : LinkId) (f : Flit),
      Quiet s ∧ Frozen s ∧ (isSeam l.val = true ∨ s.isCascade l.val = true) ∧ s.get F.LL_STATUS_STATE l.val = linkReplay ∧ (s.link l.val).replay[(s.link l.val).replayed]? = some f ∧ (s.link l.val).replayed + 1 = (s.link l.val).replay.length ∧ s.flag F.LL_INJECT_ARM l.val = false ∧ (s.link (l.val)).injectHeld = none) ∧
    (∃ (s : State) (l : LinkId) (m : Msg) (rest : List Msg),
      Quiet s ∧ Frozen s ∧ isSeam l.val = true ∧ s.get F.LL_STATUS_STATE l.val = linkActive ∧ s.seamHeads l.val = m :: rest ∧ s.mayAsk l.val m.cls m.blocks = true ∧ s.replayRoom l.val carriedWords m.blocks = true ∧ m.colour = .green ∧ m.charge = .staging ∧ m.cells = [] ∧ s.buf.skid = [] ∧ m.data = [] ∧ m.missing = 0 ∧ s.flag F.LL_INJECT_ARM l.val = false ∧ (s.link (l.val)).injectHeld = none) ∧
    (∃ (s : State) (l : LinkId),
      Quiet s ∧ Frozen s ∧ isSeam l.val = true ∧ s.get F.LL_STATUS_STATE l.val = linkInit ∧ s.flag F.FC_SRC_LATCHED (768 + seamHalf l.val) = true) ∧
    (∃ (s : State) (p : Port),
      Quiet s ∧ Frozen s ∧ s.isCascade p.val = true ∧ s.get F.LL_STATUS_STATE p.val ≠ linkDownState ∧ s.forwardedTo p.val = []) ∧
    (∃ (s : State) (h : Half) (c : Fin 8),
      Quiet s ∧ Frozen s ∧ s.get F.LL_STATUS_STATE (96 + 8 * hix h + c.val) = linkPaused) ∧
    (∃ (s : State) (h : Half),
      Quiet s ∧ Frozen s ∧ s.seamUp = false ∧ s.flag F.FC_SRC_LATCHED (768 + hix h) = true) :=
  ⟨⟨(((portIn 6 lsL0 95).put F.LL_STATUS_STATE linkActive 95).put F.LL_ERR_SEQ_GAP 1 95).put F.IA_ROUTE_TARGET 2 95, 95, [1], by decide +kernel⟩,
   ⟨(portIn 6 lsL0 95).put F.LL_STATUS_STATE linkInit 95, 95, Flit.raw { body := .init 7 8 9 10 false true, ackSeq := 4095 } 95, { body := .init 7 8 9 10 false true, ackSeq := 4095 }, 7, 8, 9, 10, true, by decide +kernel⟩,
   ⟨((portIn 6 lsL0 95).put F.LL_STATUS_STATE linkActive 95).setLink 95 { accepted := 40, wantReplay := true }, 95, by decide +kernel⟩,
   ⟨((portIn 6 lsL0 95).put F.LL_STATUS_STATE linkActive 95).setLink 95 { accepted := 40, wantReplay := true }, 95, by decide +kernel⟩,
   ⟨((portIn 6 lsL0 95).put F.LL_STATUS_STATE linkActive 111).setLink 111 { replay := [{ body := .null }], replays := 3 }, 111, by decide +kernel⟩,
   ⟨((portIn 6 lsL0 95).put F.LL_STATUS_STATE linkReplay 95).setLink 95 { replay := [{ body := .null }, { body := .payload [1, 2], seq := 9, nextMsg := 0 }], replayed := 1 }, 95, { body := .payload [1, 2], seq := 9, nextMsg := 0 }, by decide +kernel⟩,
   ⟨{ ((State.reset.put F.PMU_GLOBAL_FREEZE_ALL 1).put F.LL_STATUS_STATE linkActive 111).setLink 111 { peerA := [100, 100, 100, 100] } with msgs := [{ waitingMsg with dst := 7, charge := .staging }] }, 111, { waitingMsg with dst := 7, charge := .staging }, [], by decide +kernel⟩,
   ⟨((portIn 6 lsL0 95).put F.LL_STATUS_STATE linkInit 111).put F.FC_SRC_LATCHED 1 769, 111, by decide +kernel⟩,
   ⟨((portIn 6 lsL0 95).put F.LL_STATUS_STATE linkActive 95).setLink 95 { replays := 3 }, 95, by decide +kernel⟩,
   ⟨((portIn 6 lsL0 95).put F.LL_STATUS_STATE linkPaused 111).setLink 111 { initGood := 3 }, .west, 7, by decide +kernel⟩,
   ⟨{ (((portIn 6 lsL0 95).put F.LL_STATUS_STATE linkActive 111).put F.FC_SRC_LATCHED 1 769) with msgs := [{ sentMsg with stage := .onSeam }, { waitingMsg with stage := .onSeam }] }, .west, by decide +kernel⟩⟩

/-- States and operands that meet the hypotheses of `RetirementInjectionAndStatus`, clause by clause. -/
theorem witness_RetirementInjectionAndStatus :
    (∃ (s : State) (p : Port) (mask : BitVec 8),
      Quiet s ∧ Frozen s ∧ s.isCascade p.val = true ∧ s.sending p.val = true ∧ (s.link p.val).retireAsked = true) ∧
    (∃ (s : State) (p : Port) (m : Nat),
      Quiet s ∧ Frozen s ∧ (s.link p.val).switchTx = some m) ∧
    (∃ (s : State) (p : Port) (m : Nat),
      Quiet s ∧ Frozen s ∧ (s.link p.val).switchRx = some m ∧ s.ops = []) ∧
    (∃ (s : State) (p : Port),
      Quiet s ∧ Frozen s ∧ s.isCascade p.val = true ∧ (s.link p.val).retireAsked = true ∧ s.flag F.FC_SRC_LATCHED (8 * p.val + 4) = true ∧ s.linkState p.val = lsL0 ∧ s.flag F.MARGIN_STATUS_BUSY p.val = false ∧ s.ops = []) ∧
    (∃ (s : State) (p : Port) (v : BitVec 32),
      Quiet s ∧ Frozen s ∧ s.isCascade p.val = true ∧ s.debugAllowed = true ∧ v.toNat % 8 < 4 ∧ v.toNat / 2 ^ 16 % 128 ≤ 59) ∧
    (∃ (s : State) (l : LinkId),
      Quiet s ∧ Frozen s ∧ s.debugAllowed = true ∧ s.sending l.val = true ∧ s.flag F.LL_INJECT_ARM l.val = true ∧ s.flag F.LL_INJECT_KIND l.val = true ∧ s.flag F.LL_INJECT_REPEAT l.val = false ∧ s.get F.LL_INJECT_MODE l.val = 1 ∧ (s.link l.val).injectHeld = none) ∧
    (∃ (s : State) (h : Half),
      Quiet s ∧ Frozen s ∧ s.atBlaze (hix h) = true ∧ s.get F.LL_STATUS_STATE (96 + 8 * hix h) = linkActive ∧ s.mayAsk (96 + 8 * hix h) 9 0 = true ∧ s.replayRoom (96 + 8 * hix h) 1 0 = true ∧ s.flag F.LL_INJECT_ARM (96 + 8 * hix h) = false ∧ (s.link ((96 + 8 * hix h))).injectHeld = none) ∧
    (∃ (s : State) (h : Half),
      Quiet s ∧ Frozen s ∧ s.atBlaze (hix h) = true) ∧
    (∃ (s : State) (h : Half),
      Quiet s ∧ Frozen s ∧ s.atBlaze (hix h) = true ∧ s.get F.LL_STATUS_STATE (96 + 8 * hix h) = linkActive ∧ s.mayAsk (96 + 8 * hix h) 9 0 = true ∧ s.replayRoom (96 + 8 * hix h) 1 0 = true ∧ s.flag F.LL_INJECT_ARM (96 + 8 * hix h) = false ∧ (s.link ((96 + 8 * hix h))).injectHeld = none) :=
  ⟨⟨((portIn 6 lsL0 95).put F.LL_STATUS_STATE linkActive 95).setLink 95 { retireAsked := true }, 95, 0xFE, by decide +kernel⟩,
   ⟨(portIn 6 lsL0 95).setLink 95 { switchTx := some 254 }, 95, 254, by decide +kernel⟩,
   ⟨((portIn 6 lsL0 95).setLink 95 { switchRx := some 254 }).put F.LANE_STATUS_IN_USE 1 95 0, 95, 254, by decide +kernel⟩,
   ⟨(((portIn 6 lsL0 95).setLink 95 { retireAsked := true }).put F.FC_SRC_LATCHED 1 764).put F.LANE_RETIRE_RETIRE_BUSY 1 95, 95, by decide +kernel⟩,
   ⟨portIn 6 lsL0 95, 95, 0xD03B0003, by decide +kernel⟩,
   ⟨((((portIn 6 lsL0 95).put F.LL_STATUS_STATE linkActive 111).put F.LL_INJECT_ARM 1 111).put F.LL_INJECT_KIND 1 111).put F.LL_INJECT_MODE 1 111, 111, by decide +kernel⟩,
   ⟨((portIn 6 lsL0 95).put F.LL_STATUS_STATE linkActive 104).setLink 104 { peerA := [100, 100, 100, 100] }, .west, by decide +kernel⟩,
   ⟨portIn 6 lsL0 95, .west, by decide +kernel⟩,
   ⟨(((portIn 6 lsL0 95).put F.LL_STATUS_STATE linkActive 104).put F.HALF_EPOCH_V 0x10002 1).setLink 104 { peerA := [100, 100, 100, 100] }, .west, by decide +kernel⟩⟩

/-- States and operands that meet the hypotheses of `SwitchQueuesAndMirrors`, clause by clause. -/
theorem witness_SwitchQueuesAndMirrors :
    (∃ (s : State) (h : Half) (k : Fin 128) (d : Fin 128) (m : Msg),
      Quiet s ∧ Frozen s ∧ d.val = 127 ∧ s.holdHead (hix h) false k.val 127 0 = some m ∧ m.stage = .held ∧ m.dst = 127 ∧ m.cls = 9 ∧ m.op = .mgmt ∧ s.buf.skid = [] ∧ (∀ n : Fin 8, s.flag F.MIR_CTRL_EN (hix h) n.val = false) ∧ (∀ x ∈ s.msgs, x.op ≠ .mirror) ∧ m.half = hix h ∧ s.txns.lost.contains (hix h) = false ∧ m.wait = none ∧ m.twin = none ∧ m.colour = .green ∧ m.charge = .receive ∧ s.isCascade m.input = false ∧ (s.msgs.filter (fun x => x.half == m.half && x.hdrMgmt)).length < 256 ∧ s.charged m.half .mgmt + m.blocks ≤ s.get F.BUF_MGMT_RESERVE_V m.half) ∧
    (∃ (s : State) (p : Port) (m : Msg),
      Quiet s ∧ Frozen s ∧ s.nextStart p.val = some m ∧ m.op = .memResp ∧ m.cls = 3 ∧ m.data ≠ [] ∧ m.data.length = 64 * m.blocks ∧ m.poison = false ∧ m.cells = [] ∧ s.buf.skid = [] ∧ m.missing = 0 ∧ m.said = none ∧ s.isHostPort p.val = true) ∧
    (∃ (s : State) (p : Port) (covered : BitVec 4),
      Quiet s ∧ Frozen s) ∧
    (∃ (s : State) (h : Half) (n : Fin 8),
      Quiet s ∧ Frozen s ∧ s.flag F.MIR_CTRL_EN (hix h) n.val = true) ∧
    (∃ (s : State) (h : Half),
      Quiet s ∧ Frozen s ∧ s.atBlaze (hix h) = true ∧ s.flag F.CENSUS_STATUS_BUSY (hix h) = false) ∧
    (∃ (s : State) (h : Half),
      Quiet s ∧ Frozen s ∧ s.atBlaze (hix h) = true ∧ s.flag F.CENSUS_STATUS_BUSY (hix h) = false) ∧
    (∃ (s : State) (h : Half),
      Quiet s ∧ Frozen s ∧ s.flag F.CENSUS_STATUS_BUSY (hix h) = true ∧ (∀ o ∈ s.buf.orphans, o.missed = 0)) :=
  ⟨⟨{ portIn 1 lsL0 95 with msgs := [waitingMsg] }, .west, 95, 127, waitingMsg, by decide +kernel⟩,
   ⟨{ portIn 1 lsL0 95 with msgs := [{ sentMsg with op := .memResp, cls := 3, data := List.replicate 64 7, blocks := 1, input := 3, dst := 95, stage := .queued, half := 1 }] }, 95, { sentMsg with op := .memResp, cls := 3, data := List.replicate 64 7, blocks := 1, input := 3, dst := 95, stage := .queued, half := 1 }, by decide +kernel⟩,
   ⟨{ portIn 1 lsL0 95 with buf := { starved := [381, 3] } }, 95, 5, by decide +kernel⟩,
   ⟨(portIn 1 lsL0 95).put F.MIR_CTRL_EN 1 1 7, .west, 7, by decide +kernel⟩,
   ⟨portIn 1 lsL0 95, .west, by decide +kernel⟩,
   ⟨portIn 1 lsL0 95, .west, by decide +kernel⟩,
   ⟨{ (portIn 1 lsL0 95).put F.CENSUS_STATUS_BUSY 1 1 with buf := { orphans := [⟨1, 95, 2, .shared, 1, [5], 0⟩, ⟨0, 3, 2, .shared, 1, [5], 0⟩] } }, .west, by decide +kernel⟩⟩

/-- States and operands that meet the hypotheses of `BanksMetersAndHistograms`, clause by clause. -/
theorem witness_BanksMetersAndHistograms :
    (∃ (s : State) (h : Half) (b : Fin 256) (k : Nat),
      Quiet s ∧ Frozen s ∧ s.get F.BANK_CTRL_STATE (hix h) b.val = 0 ∧ (List.range 256).find? (fun x => s.get F.BANK_CTRL_STATE (hix h) x == 1) = some k ∧ s.msgs = [] ∧ s.buf.orphans = []) ∧
    (∃ (s : State) (h : Half) (st : Nat) (c : Nat) (r : Nat),
      Quiet s ∧ Frozen s ∧ s.atBlaze (hix h) = true ∧ st < 4096 ∧ s.buf.deficits = [(4096 * hix h + st, (c, r))]) ∧
    (∃ (s : State) (p : Port),
      Quiet s ∧ Frozen s ∧ s.queue p.val 3 ≠ []) ∧
    (∃ (s : State) (h : Half) (k : Fin 48),
      Quiet s ∧ Frozen s ∧ s.msgs = [] ∧ (∀ p : Fin 48, s.flag F.HIST_CTRL_FREEZE (48 * hix h + p.val) = false)) ∧
    (∃ (s : State) (p : Port),
      Quiet s ∧ Frozen s) :=
  ⟨⟨portIn 1 lsL0 95, .west, 247, 248, by decide +kernel⟩,
   ⟨{ (portIn 1 lsL0 95).put F.METER_CIR_CIR 500 1 4095 with buf := { deficits := [(8191, (700, 4000))] } }, .west, 4095, 700, 4000, by decide +kernel⟩,
   ⟨{ portIn 1 lsL0 95 with msgs := [{ waitingMsg with cls := 8, op := .bulkWrite, dst := 95, stage := .queued }] }, 95, by decide +kernel⟩,
   ⟨portIn 1 lsL0 95, .west, 47, by decide +kernel⟩,
   ⟨(portIn 1 lsL0 95).put F.DEPTH_HIST_V 9 95 79, 95, by decide +kernel⟩⟩

/-- States and operands that meet the hypotheses of `RequestsAndResponses`, clause by clause. -/
theorem witness_RequestsAndResponses :
    (∃ (s : State) (p : Port) (a : BitVec 64) (l : Nat),
      Quiet s ∧ Frozen s ∧ s.linkState p.val = lsL0 ∧ s.isHostPort p.val = true ∧ s.refuses p.val = false ∧ s.txns.lost = [] ∧ s.awaitsKeys p.val = false ∧ s.rung = rungBlaze ∧ s.power.entering = none ∧ s.msgs = [] ∧ s.spans = [] ∧ s.credited p.val (9, 0) = true ∧ (∀ n : Fin 8, s.flag F.MIR_CTRL_EN (halfOf p.val) n.val = false) ∧ s.nextId ≠ 0 ∧ s.charged (halfOf p.val) .mgmt ≤ s.get F.BUF_MGMT_RESERVE_V (halfOf p.val)) ∧
    (∃ (s : State) (p : Port) (id : Nat) (m : Msg),
      Quiet s ∧ Frozen s ∧ s.rung = rungBlaze ∧ s.power.entering = none ∧ s.spans = [] ∧ s.isHeld p.val = false ∧ s.awaitsKeys p.val = false ∧ s.credited p.val (3, 0) = true ∧ s.awaiting p.val id = some m ∧ m.id = id ∧ m.id ≠ 0 ∧ m.dst = p.val ∧ m.op = .memWrite ∧ m.cls = 1 ∧ m.squashed = false ∧ m.input < 96 ∧ s.isHeld m.input = false ∧ halfOf m.input ≠ halfOf p.val ∧ m.twin = none ∧ m.wait = none ∧ m.cells = [] ∧ s.buf.skid = [] ∧ m.colour = .green) ∧
    (∃ (s : State) (p : Port) (a : BitVec 52),
      Quiet s ∧ Frozen s ∧ s.rung = rungBlaze ∧ s.power.entering = none ∧ s.flag F.FC_SRC_LATCHED (8 * p.val + 7) = true) ∧
    (∃ (s : State) (p : Port) (id : Nat) (m : Msg),
      Quiet s ∧ Frozen s ∧ s.awaiting p.val id = some m ∧ m.id = id ∧ m.dst = p.val ∧ m.cls = 0 ∧ m.op = .memRead ∧ m.squashed = false ∧ m.input < 96 ∧ m.host.isSome = true ∧ m.stall = none ∧ m.slice = none ∧ m.cells = [] ∧ s.buf.skid = [] ∧ s.flag F.FC_SRC_LATCHED (8 * p.val + 1) = true) ∧
    (∃ (s : State) (p : Port) (id : Nat) (m : Msg),
      Quiet s ∧ Frozen s ∧ s.awaiting p.val id = some m ∧ m.id = id ∧ m.dst = p.val ∧ m.cls = 4 ∧ m.op = .ioRead ∧ m.squashed = false ∧ m.input < 96 ∧ m.host.isSome = true ∧ m.stall = none ∧ m.slice = none ∧ m.cells = [] ∧ s.buf.skid = [] ∧ s.flag F.FC_SRC_LATCHED (8 * p.val + 1) = true) ∧
    (∃ (s : State) (p : Port) (d : DeviceId),
      Quiet s ∧ Frozen s ∧ s.role p.val = 3 ∧ s.linkState p.val = lsL0 ∧ s.flag F.PORT_STATUS_CXL_ACTIVE p.val = true ∧ s.device p.val = none ∧ s.txns.scrubNew = false ∧ d.switchBelow = false) :=
  ⟨⟨portIn 1 lsL0 95, 95, 0x123456789, 64, by decide +kernel⟩,
   ⟨{ (portIn 1 lsL0 95).put F.PORT_CFG_ROLE 3 3 with msgs := [{ sentMsg with op := .memWrite, cls := 1 }] }, 3, 6, { sentMsg with op := .memWrite, cls := 1 }, by decide +kernel⟩,
   ⟨(portIn 1 lsL0 95).put F.FC_SRC_LATCHED 1 767, 95, 0x1000, by decide +kernel⟩,
   ⟨{ (portIn 1 lsL0 95).put F.FC_SRC_LATCHED 1 25 with msgs := [{ sentMsg with op := .memRead, cls := 0 }] }, 3, 6, { sentMsg with op := .memRead, cls := 0 }, by decide +kernel⟩,
   ⟨{ (portIn 1 lsL0 95).put F.FC_SRC_LATCHED 1 25 with msgs := [{ sentMsg with op := .ioRead, cls := 4 }] }, 3, 6, { sentMsg with op := .ioRead, cls := 4 }, by decide +kernel⟩,
   ⟨{ (portIn 3 lsL0 95).put F.PORT_STATUS_CXL_ACTIVE 1 95 with txns := { scrubNew := false } }, 95, ⟨7, [65536, 65536], true, true, false⟩, by decide +kernel⟩⟩

/-- States and operands that meet the hypotheses of `KeysAndViral`, clause by clause. -/
theorem witness_KeysAndViral :
    (∃ (s : State) (p : Port),
      Quiet s ∧ Frozen s ∧ s.isHostPort p.val = true ∧ s.get F.IDE_STATUS_RX p.val = 2 ∧ s.msgs = [] ∧ s.flag F.FC_SRC_LATCHED (8 * p.val + 2) = true ∧ s.holds.contains (p.val, .insecure) = false) ∧
    (∃ (s : State) (p : Port),
      Quiet s ∧ Frozen s ∧ s.flag F.TAMPER_STATUS_TAMPER_LATCHED = false ∧ s.hasIde p.val = true ∧ s.flag F.IDE_CTRL_EN p.val = true) ∧
    (∃ (s : State) (p : Port),
      Quiet s ∧ Frozen s ∧ s.flag F.TAMPER_STATUS_TAMPER_LATCHED = false ∧ s.secure p.val = true ∧ s.sec.spdm.contains p.val = true) ∧
    (∃ (s : State) (p : Port),
      Quiet s ∧ Frozen s) ∧
    (∃ (s : State) (p : Port),
      Quiet s ∧ Frozen s ∧ (s.role p.val = 3 ∨ s.role p.val = 4) ∧ s.slicesOn p.val = [] ∧ s.flag F.FC_SRC_LATCHED (8 * p.val + 3) = true ∧ s.isHeld p.val = true ∧ s.holds.contains (p.val, .viral) = false ∧ s.linkState p.val = lsL0 ∧ s.flag F.MARGIN_STATUS_BUSY p.val = false) ∧
    (∃ (s : State) (p : Port) (st : StallId),
      Quiet s ∧ Frozen s ∧ s.isHostPort p.val = true ∧ (s.stallsOf (s.get F.PORT_CFG_HOST_ID p.val)).contains st.val = true) :=
  ⟨⟨((portIn 1 lsL0 95).put F.IDE_STATUS_RX 2 95).put F.FC_SRC_LATCHED 1 762, 95, by decide +kernel⟩,
   ⟨{ ((portIn 1 lsL0 95).put F.IDE_STATUS_RX 3 95).put F.IDE_CTRL_EN 1 95 with holds := [(95, .insecure)] }, 95, by decide +kernel⟩,
   ⟨{ ((portIn 1 lsL0 95).put F.IDE_STATUS_RX 2 95).put F.IDE_STATUS_TX 2 95 with sec := { spdm := [95] } }, 95, by decide +kernel⟩,
   ⟨{ portIn 1 lsL0 95 with oldKeys := [95, 3] }, 95, by decide +kernel⟩,
   ⟨{ (portIn 3 lsL0 95).put F.FC_SRC_LATCHED 1 763 with holds := [(95, .insecure)] }, 95, by decide +kernel⟩,
   ⟨(((portIn 1 lsL0 95).put F.STALL_CTRL_DEFINED 1 4095).put F.STALL_BIND_BOUND 1 4095).put F.STALL_BIND_HOST 127 4095, 95, 4095, by decide +kernel⟩⟩

/-- States and operands that meet the hypotheses of `CoherenceFlows`, clause by clause. -/
theorem witness_CoherenceFlows :
    (∃ (s : State) (h : Half) (m : Msg),
      Quiet s ∧ Frozen s ∧ s.homeTakes (hix h) true = some m ∧ m.charge = .staging ∧ m.cells = [] ∧ s.buf.skid = [] ∧ m.stall = none ∧ m.metered = false ∧ s.recovering m.regionWay.1 m.regionWay.2 = false ∧ s.fenced m.regionWay.1 (m.host.getD 127) = false) ∧
    (∃ (s : State) (h : Half) (m : Msg) (x : Nat) (e : LedgerLine),
      Quiet s ∧ Frozen s ∧ s.market.quiet.contains (hix h) = false ∧ s.market.flows = [] ∧ s.flowNext (hix h) = some m ∧ s.msgs = [m] ∧ m.op = .memInv ∧ m.mkt = .own ∧ m.host = some x ∧ m.slice.isSome = true ∧ m.cells = [] ∧ s.buf.skid = [] ∧ m.input < 96 ∧ halfOf m.input ≠ hix h ∧ m.id ≠ 0 ∧ s.ledgerFind (hix h) m.regionWay.1 m.regionWay.2 m.line = some e ∧ e.st = 0) ∧
    (∃ (s : State) (h : Half) (m : Msg) (l : Msg) (x : Nat) (e : LedgerLine),
      Quiet s ∧ Frozen s ∧ s.msgs = [m, l] ∧ m.stage = .atHome ∧ l.op = .ledgerRead ∧ l.stage = .atDevice ∧ l.input = 124 + hix h ∧ l.id ≠ m.id ∧ l.cells = [] ∧ m.op = .memInv ∧ m.mkt = .own ∧ m.host = some x ∧ m.slice.isSome = true ∧ m.cells = [] ∧ s.buf.skid = [] ∧ m.input < 96 ∧ halfOf m.input ≠ hix h ∧ m.id ≠ 0 ∧ s.ledgerFind (hix h) m.regionWay.1 m.regionWay.2 m.line = some e ∧ e.half = hix h ∧ s.market.flows = [{ id := m.id, half := hix h, region := m.regionWay.1, way := m.regionWay.2, line := m.line, memId := some l.id }]) ∧
    (∃ (s : State) (h : Half) (m : Msg) (k : Nat),
      Quiet s ∧ Frozen s ∧ s.market.wayWaits = [m.id] ∧ s.msgs = [m] ∧ m.dst = 124 + hix h ∧ s.market.cache = [] ∧ s.ledgerWay (hix h) (ledgerSet m.regionWay.1 m.regionWay.2 m.line) = some (k, none) ∧ m.device = true) ∧
    (∃ (s : State) (p : Port) (h : Half) (id : Nat) (x : Nat) (m : Msg) (f : Flow),
      Quiet s ∧ Frozen s ∧ s.msgs.find? (fun m => m.id == id && decide (m.op = .snoop) && m.dst == p.val && decide (m.stage = .atDevice)) = some m ∧ s.flow m.session = some f ∧ m.host = some x ∧ m.cells = [] ∧ s.buf.skid = [] ∧ f.owner ≠ some x ∧ f.snoops.any (fun e => e.1 != id) = true ∧ s.rung = rungBlaze ∧ s.power.entering = none) ∧
    (∃ (s : State) (h : Half) (m : Msg) (x : Nat) (e : LedgerLine),
      Quiet s ∧ Frozen s ∧ s.homeTakes (hix h) false = some m ∧ s.msgs = [m] ∧ s.market.handing = [] ∧ m.op = .memInv ∧ m.mkt = .evict ∧ m.host = some x ∧ m.slice.isSome = true ∧ m.cells = [] ∧ s.buf.skid = [] ∧ m.input < 96 ∧ halfOf m.input ≠ hix h ∧ m.id ≠ 0 ∧ m.charge = .staging ∧ m.stall = none ∧ m.metered = false ∧ m.half = hix h ∧ s.recovering m.regionWay.1 m.regionWay.2 = false ∧ s.fenced m.regionWay.1 x = false ∧ s.market.flows = [] ∧ s.ledgerFind (hix h) m.regionWay.1 m.regionWay.2 m.line = some e ∧ e.st = 2 ∧ e.holders = [x]) ∧
    (∃ (s : State) (h : Half) (id : Nat) (x : Nat) (m : Msg) (f : Flow),
      Quiet s ∧ Frozen s ∧ s.snoopOut id = some m ∧ m.id = id ∧ s.flow m.session = some f ∧ f.half = hix h ∧ m.host = some x ∧ m.cells = [] ∧ s.buf.skid = [] ∧ f.owner ≠ some x ∧ f.snoops.any (fun e => e.1 != id) = true ∧ s.flag F.FC_SRC_LATCHED (8 * m.dst + 6) = true ∧ f.region < 256 ∧ x < 95) ∧
    (∃ (s : State) (h : Half) (id : Nat) (x : Nat) (f : Flow),
      Quiet s ∧ Frozen s ∧ s.flow id = some f ∧ f.half = hix h ∧ f.phase = .grace ∧ f.owner = some x ∧ f.snoops ≠ []) ∧
    (∃ (s : State) (h : Half) (m : Msg) (x : Nat) (y : Nat) (e : LedgerLine) (f : Flow),
      Quiet s ∧ Frozen s ∧ s.flow m.id = some f ∧ s.market.flows = [f] ∧ s.msgs = [m] ∧ f.half = hix h ∧ f.phase = .holdWait ∧ f.forRecall = none ∧ f.blind = false ∧ f.snoops = [] ∧ f.region = m.regionWay.1 ∧ f.way = m.regionWay.2 ∧ f.line = m.line ∧ m.op = .memInv ∧ m.mkt = .own ∧ m.host = some x ∧ m.slice.isSome = true ∧ m.cells = [] ∧ s.buf.skid = [] ∧ m.input < 96 ∧ halfOf m.input ≠ hix h ∧ m.id ≠ 0 ∧ s.ledgerFind (hix h) m.regionWay.1 m.regionWay.2 m.line = some e ∧ e.st = 2 ∧ e.coarse = false ∧ e.holders = [y] ∧ y ≠ x ∧ s.hostPort y = none) :=
  ⟨⟨homeState { homeReq with stage := .held, charge := .staging } homeLine [], .west, { homeReq with stage := .held, charge := .staging }, by decide +kernel⟩,
   ⟨homeState homeReq homeLine [], .west, homeReq, 7, homeLine, by decide +kernel⟩,
   ⟨{ homeState homeReq { homeLine with busy := true } [{ id := 5, half := 1, region := 9, way := 1, line := 2, memId := some 8 }] with msgs := [homeReq, { sentMsg with id := 8, op := .ledgerRead, input := 125, dst := 50 }] }, .west, homeReq, { sentMsg with id := 8, op := .ledgerRead, input := 125, dst := 50 }, 7, { homeLine with busy := true }, by decide +kernel⟩,
   ⟨{ homeState { homeReq with device := true } homeLine [] with market := { wayWaits := [5] } }, .west, { homeReq with device := true }, 0, by decide +kernel⟩,
   ⟨homeState { sentMsg with op := .snoop, cls := 6, session := 5 } homeLine [{ id := 5, half := 1, region := 9, way := 1, line := 2, snoops := [(6, 7), (8, 9)], owner := some 9 }], 3, .west, 6, 7, { sentMsg with op := .snoop, cls := 6, session := 5 }, { id := 5, half := 1, region := 9, way := 1, line := 2, snoops := [(6, 7), (8, 9)], owner := some 9 }, by decide +kernel⟩,
   ⟨homeState { homeReq with stage := .held, charge := .staging, mkt := .evict } { homeLine with st := 2, holders := [7] } [], .west, { homeReq with stage := .held, charge := .staging, mkt := .evict }, 7, { homeLine with st := 2, holders := [7] }, by decide +kernel⟩,
   ⟨(homeState { sentMsg with op := .snoop, cls := 6, session := 5 } homeLine [{ id := 5, half := 1, region := 9, way := 1, line := 2, snoops := [(6, 7), (8, 9)], owner := some 9 }]).put F.FC_SRC_LATCHED 1 30, .west, 6, 7, { sentMsg with op := .snoop, cls := 6, session := 5 }, { id := 5, half := 1, region := 9, way := 1, line := 2, snoops := [(6, 7), (8, 9)], owner := some 9 }, by decide +kernel⟩,
   ⟨homeState homeReq homeLine [{ id := 5, half := 1, region := 9, way := 1, line := 2, phase := .grace, snoops := [(6, 7), (8, 9)], owner := some 9 }], .west, 5, 9, { id := 5, half := 1, region := 9, way := 1, line := 2, phase := .grace, snoops := [(6, 7), (8, 9)], owner := some 9 }, by decide +kernel⟩,
   ⟨homeState homeReq { homeLine with st := 2, holders := [9] } [{ id := 5, half := 1, region := 9, way := 1, line := 2, phase := .holdWait }], .west, homeReq, 7, 9, { homeLine with st := 2, holders := [9] }, { id := 5, half := 1, region := 9, way := 1, line := 2, phase := .holdWait }, by decide +kernel⟩⟩

/-- States and operands that meet the hypotheses of `LedgerWaysRecoveryAndFlush`, clause by clause. -/
theorem witness_LedgerWaysRecoveryAndFlush :
    (∃ (s : State) (h : Half) (g : Fin 192) (w : Fin 32),
      Quiet s ∧ Frozen s ∧ s.flag F.LEDGER_GROUP_RETIRING (hix h) g.val = false ∧ (s.groupWays (hix h) g.val).contains w.val = true ∧ (s.groupSpare (hix h) g.val).isSome = true) ∧
    (∃ (s : State) (h : Half) (g : Fin 192) (w : Nat) (k : Nat),
      Quiet s ∧ Frozen s ∧ s.market.retiring = [(192 * hix h + g.val, w)] ∧ s.market.cache = [] ∧ (s.groupWays (hix h) g.val).contains w = true ∧ s.groupSpare (hix h) g.val = some k ∧ k ≠ w) ∧
    (∃ (s : State) (r : Fin 256) (o : Operation),
      Quiet s ∧ Frozen s ∧ s.runningOp (.recoverRegion r.val) = some o ∧ s.sessions = []) ∧
    (∃ (s : State) (h : Half),
      Quiet s ∧ Frozen s ∧ s.flag F.COH_STATUS_FLUSHING (hix h) = false ∧ (∀ e ∈ s.market.cache, (e.dirty && e.half == hix h) = false)) :=
  ⟨⟨portIn 1 lsL0 3, .west, 191, 15, by decide +kernel⟩,
   ⟨{ (portIn 1 lsL0 3).put F.LEDGER_GROUP_RETIRING 1 1 191 with market := { retiring := [(383, 15)] } }, .west, 191, 15, 16, by decide +kernel⟩,
   ⟨{ ((portIn 1 lsL0 3).put F.REGION_STATUS_STATE 3 255).put F.REGION_STATUS_RECOVERING 7 255 with ops := [⟨9, .recoverRegion 255, 1, .accepted, 0⟩] }, 255, ⟨9, .recoverRegion 255, 1, .accepted, 0⟩, by decide +kernel⟩,
   ⟨homeState homeReq homeLine [], .west, by decide +kernel⟩⟩

/-- States and operands that meet the hypotheses of `CheckersAndValidation`, clause by clause. -/
theorem witness_CheckersAndValidation :
    (∃ (s : State) (c : Context),
      Quiet s ∧ Frozen s ∧ s.applying = false) ∧
    (∃ (s : State) (c : Context),
      Quiet s ∧ Frozen s ∧ s.applying = false ∧ s.flag F.CHK_CTRL_EN c.val = false ∧ s.windowsOverlap c.val = false ∧ (∀ w : Fin 256, s.windowLive 0 c.val w.val = false ∨ s.windowFits c.val w.val = true)) ∧
    (∃ (s : State) (c : Context),
      Quiet s ∧ Frozen s ∧ s.txns.enabling.contains c.val = true ∧ s.msgs = []) ∧
    (∃ (s : State) (c : Context),
      Quiet s ∧ Frozen s ∧ s.flag F.CHK_CTRL_EN c.val = false ∧ s.flag F.FC_SRC_LATCHED (s.checkerSource c.val) = true ∧ s.msgs = []) ∧
    (∃ (s : State) (c : Context) (w : Fin 256) (v : BitVec 32),
      Quiet s ∧ Frozen s ∧ s.flag F.CHK_CTRL_EN c.val = false) ∧
    (∃ (s : State) (t0 : Fin 4),
      Quiet s ∧ Frozen s ∧ s.txState t0.val = txOpen) ∧
    (∃ (s : State) (t0 : Fin 4),
      Quiet s ∧ Frozen s ∧ s.txState t0.val = txValidating ∧ (s.tx t0.val).own = false ∧ (s.tx t0.val).recalls = [] ∧ (s.tx t0.val).validations < 8 ∧ s.commitCheck t0.val = none ∧ (∀ c : Fin 28, s.ch c.val = chIdle)) ∧
    (∃ (s : State) (r : Fin 256) (x : HostId) (o : Operation),
      Quiet s ∧ Frozen s ∧ s.runningOp (.unfence r.val x.val) = some o ∧ s.recallIdle r.val x.val = true ∧ s.sessions = []) ∧
    (∃ (s : State) (t0 : Fin 4) (o : Operation),
      Quiet s ∧ Frozen s ∧ s.txState t0.val = txApplying ∧ s.runningOp (.commit t0.val) = some o ∧ s.flag F.FC_SRC_LATCHED 782 = true ∧ s.sessions = []) :=
  ⟨⟨{ portIn 1 lsL0 95 with txns := { enabling := [95] } }, 95, by decide +kernel⟩,
   ⟨(portIn 1 lsL0 95).put F.CHK_CTRL_EN 0 95, 95, by decide +kernel⟩,
   ⟨{ (portIn 1 lsL0 95).put F.CHK_CTRL_EN 0 95 with txns := { enabling := [95], dirty := [95, 3] } }, 95, by decide +kernel⟩,
   ⟨((portIn 1 lsL0 95).put F.CHK_CTRL_EN 0 95).put F.FC_SRC_LATCHED 1 784, 95, by decide +kernel⟩,
   ⟨(portIn 1 lsL0 95).put F.CHK_CTRL_EN 0 95, 95, 255, 0xFF123456, by decide +kernel⟩,
   ⟨((portIn 1 lsL0 95).put F.TXSLOT_STATE_STATE txOpen 2).setTx 2 { owner := 9 }, 2, by decide +kernel⟩,
   ⟨((portIn 1 lsL0 95).put F.TXSLOT_STATE_STATE txValidating 2).setTx 2 { validations := 7 }, 2, by decide +kernel⟩,
   ⟨{ ((portIn 1 lsL0 95).setFence 255 94 true).put F.REGION_STATUS_STATE 2 255 with ops := [⟨9, .unfence 255 94, 1, .accepted, 0⟩], market := { recalls := [(255, 94)] } }, 255, 94, ⟨9, .unfence 255 94, 1, .accepted, 0⟩, by decide +kernel⟩,
   ⟨{ ((portIn 1 lsL0 95).put F.TXSLOT_STATE_STATE txApplying 2).put F.FC_SRC_LATCHED 1 782 with ops := [⟨9, .commit 2, 1, .accepted, 0⟩] }, 2, ⟨9, .commit 2, 1, .accepted, 0⟩, by decide +kernel⟩⟩

/-- States and operands that meet the hypotheses of `ApplyAndCharge`, clause by clause. -/
theorem witness_ApplyAndCharge :
    (∃ (s : State) (h : Half) (t0 : Fin 4),
      Quiet s ∧ Frozen s ∧ s.applySlot = some t0.val ∧ (s.tx t0.val).stepOf (hix h) = some .sent ∧ s.txns.lost.contains (hix h) = false ∧ s.flag F.HALF_STATE_HOLD (hix h) = false ∧ s.flag F.HALF_STATE_SPLIT (hix h) = false ∧ s.get F.HALF_EPOCH_V (hix h) = s.get F.EPOCH_V ∧ s.get F.JOURNAL_EPOCH_V t0.val = s.nextEpoch) ∧
    (∃ (s : State) (h : Half) (t0 : Fin 4),
      Quiet s ∧ Frozen s ∧ s.applySlot = some t0.val ∧ s.txState t0.val = txApplying ∧ (s.tx t0.val).stepOf (hix h) = some .closed ∧ s.msgs = [] ∧ (∀ c : Fin 28, s.ch c.val = chIdle)) ∧
    (∃ (s : State) (h : Half) (t0 : Fin 4),
      Quiet s ∧ Frozen s ∧ s.applySlot = some t0.val ∧ (s.tx t0.val).stepOf (hix h) = some .closed ∧ s.msgs = [] ∧ (∀ c : Fin 28, s.ch c.val = chIdle)) ∧
    (∃ (s : State) (h : Half) (t0 : Fin 4),
      Quiet s ∧ Frozen s ∧ s.applySlot = some t0.val ∧ (s.tx t0.val).stepOf (hix h) = some .applied ∧ (s.tx t0.val).stepOf (1 - hix h) = some .sent ∧ s.power.warmWaits = none ∧ (∀ c : Fin 28, s.ch c.val = chIdle)) ∧
    (∃ (s : State) (h : Half) (t0 : Fin 4),
      Quiet s ∧ Frozen s ∧ s.applySlot = some t0.val ∧ (s.tx t0.val).stepOf (hix h) = some .failed ∧ (s.tx t0.val).stepOf (1 - hix h) = some .sent ∧ s.flag F.FC_SRC_LATCHED 782 = true ∧ s.power.warmWaits = none ∧ (∀ c : Fin 28, s.ch c.val = chIdle)) ∧
    (∃ (s : State),
      Quiet s ∧ Frozen s ∧ s.hearthDown = false ∧ s.txns.lost = [] ∧ (∀ k : Fin 4, s.txState k.val = txFree ∨ s.txState k.val = txOpen) ∧ s.ahead = [] ∧ s.msgs = [] ∧ s.get F.HALF_EPOCH_V 0 = s.get F.EPOCH_V ∧ s.get F.HALF_COMMIT_V 0 = s.get F.COMMIT_ID_V ∧ s.get F.HALF_EPOCH_V 1 = s.get F.EPOCH_V ∧ s.get F.HALF_COMMIT_V 1 = s.get F.COMMIT_ID_V ∧ (∀ c : Fin 28, s.ch c.val = chIdle)) ∧
    (∃ (s : State) (h : Half),
      Quiet s ∧ Frozen s ∧ s.txns.charge.contains (hix h) = true ∧ s.get F.HALF_EPOCH_V (hix h) = s.get F.EPOCH_V ∧ s.get F.HALF_COMMIT_V (hix h) = s.get F.COMMIT_ID_V) :=
  ⟨⟨(((portIn 1 lsL0 95).put F.TXSLOT_STATE_STATE txApplying 2).setTx 2 { redo := [(⟨.PORT_CFG, 95, 0⟩, 5)], halves := [(0, .sent), (1, .sent)] }).put F.JOURNAL_EPOCH_V 2 2, .west, 2, by decide +kernel⟩,
   ⟨{ (((portIn 1 lsL0 95).put F.TXSLOT_STATE_STATE txApplying 2).setTx 2 { redo := [(⟨.PORT_CFG, 95, 0⟩, 5)], halves := [(0, .sent), (1, .closed)] }).put F.JOURNAL_EPOCH_V 2 2 with ahead := [(1, [])] }, .west, 2, by decide +kernel⟩,
   ⟨((portIn 1 lsL0 95).put F.TXSLOT_STATE_STATE txUndoing 2).setTx 2 { halves := [(0, .sent), (1, .closed)] }, .west, 2, by decide +kernel⟩,
   ⟨((portIn 1 lsL0 95).put F.TXSLOT_STATE_STATE txApplying 2).setTx 2 { halves := [(0, .sent), (1, .applied)] }, .west, 2, by decide +kernel⟩,
   ⟨(((portIn 1 lsL0 95).put F.TXSLOT_STATE_STATE txApplying 2).setTx 2 { halves := [(0, .sent), (1, .failed)] }).put F.FC_SRC_LATCHED 1 782, .west, 2, by decide +kernel⟩,
   ⟨(portIn 1 lsL0 95).put F.HALF_STATE_HOLD 1 1, by decide +kernel⟩,
   ⟨{ (portIn 1 lsL0 95).put F.HALF_STATE_HOLD 1 1 with txns := { charge := [0, 1] } }, .west, by decide +kernel⟩⟩

/-- States and operands that meet the hypotheses of `PorterChannels`, clause by clause. -/
theorem witness_PorterChannels :
    (∃ (s : State) (c : Fin 28),
      Quiet s ∧ Frozen s ∧ s.ch c.val = chIdle ∧ s.rung = rungBlaze ∧ s.power.entering = none ∧ s.chPauses c.val = false) ∧
    (∃ (s : State) (c : Fin 28),
      Quiet s ∧ Frozen s ∧ s.ch c.val = chAtTail ∧ s.msgs = [] ∧ s.ops = []) ∧
    (∃ (s : State) (c : Fin 28),
      Quiet s ∧ Frozen s ∧ s.get F.CH_STATUS_TRIG_PENDING c.val < 255 ∧ s.ch c.val ≠ chWaiting) ∧
    (∃ (s : State) (c : Fin 28),
      Quiet s ∧ Frozen s ∧ s.get F.CH_PACE_TRIG_SRC c.val = 1 ∧ s.get F.CH_PACE_PERIOD c.val ≠ 0 ∧ s.atBlaze (c.val / 14) = true ∧ s.get F.CH_STATUS_TRIG_PENDING c.val < 255 ∧ s.ch c.val ≠ chWaiting) ∧
    (∃ (s : State) (c : Fin 28) (b : Bool),
      Quiet s ∧ Frozen s ∧ s.ch c.val ≠ chWaiting ∧ s.ch c.val ≠ chPaused) ∧
    (∃ (s : State) (c : Fin 28) (b : List Byte) (m : Msg),
      Quiet s ∧ Frozen s ∧ s.ch c.val = chRunning ∧ (s.chan c.val).fetching = true ∧ s.privPath c.val (s.get F.CH_CUR_V c.val) 64 false = .device m ∧ b.length = 64 ∧ (descriptorOf b).invalid = false ∧ (descriptorOf b).priv = true ∧ s.flag F.CH_CFG_PRIV_OK c.val = true ∧ (descriptorOf b).at 27 1 = 1 ∧ s.chPauses c.val = false ∧ s.get F.CH_STATUS_TRIG_PENDING c.val = 0) ∧
    (∃ (s : State) (c : Fin 28) (d : Descriptor) (r : PorterRead) (m : Msg),
      Quiet s ∧ Frozen s ∧ (s.chan c.val).desc = some d ∧ (s.chan c.val).started = true ∧ (s.chan c.val).bad = false ∧ (s.chan c.val).reads = [r] ∧ r.zeros = false ∧ r.msg = some m.id ∧ s.msgs = [m] ∧ m.input = 96 + c.val ∧ m.op = .bulkRead ∧ m.stage = .returned ∧ m.squashed = false ∧ m.cells = [] ∧ s.buf.skid = [] ∧ m.data.length = r.len ∧ d.fill = false ∧ d.length ≤ (s.chan c.val).asked ∧ (s.chan c.val).put < d.length ∧ (s.chan c.val).pack.length + r.len < d.dstWidth) ∧
    (∃ (s : State) (c : Fin 28) (d : Descriptor),
      Quiet s ∧ Frozen s ∧ s.msgs = [] ∧ s.chReady c.val = true ∧ (s.chan c.val).desc = some d ∧ (s.chan c.val).status d = 1 ∧ d.tail = true ∧ d.at 29 1 = 0 ∧ d.at 28 1 = 0 ∧ s.hearthDown = false ∧ s.txns.lost.contains (c.val / 14) = false ∧ s.ops = [] ∧ s.privPath c.val (s.get F.CH_CUR_V c.val + 32) 16 true = .internal ∧ inScratchpad (s.get F.CH_CUR_V c.val) = true ∧ inSealed (s.get F.CH_CUR_V c.val) = false ∧ s.rd .CH_DOORBELL c.val = s.rd .CH_SEEN c.val) ∧
    (∃ (s : State) (c : Fin 28) (m : Msg),
      Quiet s ∧ Frozen s ∧ s.msgs = [m] ∧ m.input = 96 + c.val ∧ m.op = .bulkWrite ∧ m.stage = .returned ∧ m.session ≠ (s.chan c.val).serial ∧ m.cells = [] ∧ s.buf.skid = [] ∧ s.flag F.FC_SRC_LATCHED (776 + c.val / 14) = true) ∧
    (∃ (s : State) (c : Fin 28) (v : BitVec 32),
      Quiet s ∧ Frozen s ∧ s.ch c.val = chAtTail ∧ (s.chan c.val).rereading = false ∧ s.get F.CH_SEEN_V c.val ≠ v.toNat) ∧
    (∃ (s : State) (c : Fin 28) (b : List Byte) (m : Msg),
      Quiet s ∧ Frozen s ∧ s.ch c.val = chAtTail ∧ (s.chan c.val).rereading = true ∧ s.privPath c.val (s.get F.CH_CUR_V c.val) 64 false = .device m ∧ b.length = 64 ∧ (descriptorOf b).tail = false ∧ s.chPauses c.val = false) ∧
    (∃ (s : State) (c : Fin 28) (p : Nat),
      Quiet s ∧ Frozen s ∧ s.ch c.val = chIdle ∧ (List.range 16).find? (fun k => Word.bits (s.rd .PORTER_PHYS (c.val / 14)) (F.PORTER_PHYS_ACTIVE.lo + k) 1 == 0 && Word.bits (s.rd .PORTER_PHYS (c.val / 14)) (F.PORTER_PHYS_RETIRED.lo + k) 1 == 0) = some p) :=
  ⟨⟨((chanIn chIdle {}).put F.CH_HEAD_V 0x400000 27).put F.CH_DOORBELL_V 7 27, 27, by decide +kernel⟩,
   ⟨chanIn chAtTail { rereading := true }, 27, by decide +kernel⟩,
   ⟨(chanIn chIdle {}).put F.CH_STATUS_TRIG_PENDING 254 27, 27, by decide +kernel⟩,
   ⟨((chanIn chIdle {}).put F.CH_PACE_TRIG_SRC 1 27).put F.CH_PACE_PERIOD 9 27, 27, by decide +kernel⟩,
   ⟨chanIn chRunning {}, 27, true, by decide +kernel⟩,
   ⟨(withKeep (chanIn chRunning { fetching := true })).put F.CH_CFG_PRIV_OK 1 27, 27, List.replicate 23 0 ++ [0x0C] ++ List.replicate 40 0, (State.porterMsg (chanIn chRunning {}) 27 95 ⟨none, 0, (3, 0, 0x40000000), none, false, 0x40000000, 64⟩ false), by decide +kernel⟩,
   ⟨{ chanIn chRunning { desc := some ⟨0, 0, 64, 0x60000, 0, 0⟩, started := true, asked := 64, put := 0, reads := [⟨0, 2, some 6, false⟩], pack := [(9, false)] } with msgs := [{ sentMsg with op := .bulkRead, input := 123, stage := .returned, data := [1, 2], poison := true }] }, 27, ⟨0, 0, 64, 0x60000, 0, 0⟩, ⟨0, 2, some 6, false⟩, { sentMsg with op := .bulkRead, input := 123, stage := .returned, data := [1, 2], poison := true }, by decide +kernel⟩,
   ⟨(chanIn chRunning { desc := some ⟨0, 0, 64, 0x80000000, 0, 0⟩, started := true, asked := 64, put := 64 }).put F.CH_CUR_V 0x10000FC0 27, 27, ⟨0, 0, 64, 0x80000000, 0, 0⟩, by decide +kernel⟩,
   ⟨{ (chanIn chRunning { serial := 8 }).put F.FC_SRC_LATCHED 1 777 with msgs := [{ sentMsg with op := .bulkWrite, input := 123, stage := .returned, session := 7, addr := 4096 }] }, 27, { sentMsg with op := .bulkWrite, input := 123, stage := .returned, session := 7, addr := 4096 }, by decide +kernel⟩,
   ⟨chanIn chAtTail {}, 27, 0xFFFFFFFF, by decide +kernel⟩,
   ⟨withKeep (chanIn chAtTail { rereading := true }), 27, List.replicate 31 7 ++ [0xFE] ++ List.replicate 32 0, (State.porterMsg (chanIn chRunning {}) 27 95 ⟨none, 0, (3, 0, 0x40000000), none, false, 0x40000000, 64⟩ false), by decide +kernel⟩,
   ⟨chanIn chIdle {}, 27, 14, by decide +kernel⟩⟩

/-- States and operands that meet the hypotheses of `RelocationEvents`, clause by clause. -/
theorem witness_RelocationEvents :
    (∃ (s : State) (x : Fin 8),
      Quiet s ∧ Frozen s ∧ s.rlState x.val = rlCopying ∧ (s.reloc x.val).step = .copying ∧ (s.reloc x.val).back = false) ∧
    (∃ (s : State) (x : Fin 8),
      Quiet s ∧ Frozen s ∧ s.rlState x.val = rlCopying ∧ (s.reloc x.val).step = .journal ∧ (s.reloc x.val).back = false ∧ s.hearthDown = false ∧ s.msgs = [] ∧ s.rlPauses x.val = false ∧ (s.reloc x.val).journalled < s.get F.RELOC_CHUNKS_N x.val) ∧
    (∃ (s : State) (x : Fin 8),
      Quiet s ∧ Frozen s ∧ (s.reloc x.val).step = .publish ∧ s.seamUp = true ∧ s.msgs = [] ∧ s.get F.HALF_EPOCH_V 0 = s.get F.HALF_EPOCH_V 1 ∧ s.get F.HALF_COMMIT_V 0 = s.get F.HALF_COMMIT_V 1) ∧
    (∃ (s : State) (x : Fin 8),
      Quiet s ∧ Frozen s ∧ s.rlState x.val = rlCopying ∧ (s.reloc x.val).step = .publish ∧ s.seamUp = true ∧ s.txns.lost.contains (x.val / 4) = false ∧ s.wmark (1 - x.val / 4) x.val = s.wmark (x.val / 4) x.val ∧ s.inCopy (1 - x.val / 4) x.val = s.inCopy (x.val / 4) x.val ∧ s.wmark (x.val / 4) x.val ≠ s.get F.RELOC_CHUNKS_N x.val ∧ s.inCopy (x.val / 4) x.val ≠ noChunk) ∧
    (∃ (s : State) (x : Fin 8),
      Quiet s ∧ Frozen s ∧ s.rlState x.val = rlCopying ∧ (s.reloc x.val).step = .drain ∧ s.inCopy (x.val / 4) x.val ≠ noChunk ∧ s.sourceWrites x.val = false) ∧
    (∃ (s : State) (x : Fin 8),
      Quiet s ∧ Frozen s ∧ (s.rlState x.val = rlCopying ∨ s.rlState x.val = rlReverse) ∧ (s.reloc x.val).step = .copying ∧ (s.reloc x.val).fails < 2) ∧
    (∃ (s : State) (m : Msg) (c : Msg),
      Quiet s ∧ Frozen s ∧ s.msgs = [m, c] ∧ m.id ≠ 0 ∧ m.id ≠ c.id ∧ m.stage = .atDevice ∧ c.stage = .atDevice ∧ m.twin = some c.id ∧ c.twin = some m.id ∧ m.squashed = false ∧ c.squashed = false ∧ m.answered = false ∧ c.answered = false ∧ m.copy = false ∧ c.copy = true ∧ m.input < 96 ∧ c.input = m.input ∧ m.op = .memWrite ∧ m.cls = 1 ∧ m.cells = [] ∧ s.buf.skid = [] ∧ c.cells = [] ∧ m.colour = .green ∧ s.isHeld m.input = false ∧ halfOf m.input ≠ halfOf m.dst) ∧
    (∃ (s : State) (x : Fin 8),
      Quiet s ∧ Frozen s) ∧
    (∃ (s : State) (x : Fin 8) (o : Operation),
      Quiet s ∧ Frozen s ∧ s.rlState x.val = rlCommitting ∧ s.rlOnSource 2 x.val = false ∧ s.market.awaiting = [] ∧ s.msgs = [] ∧ s.flag F.RELOC_OBJECT_REMOTE x.val = false ∧ s.flag F.RELOC_OBJECT_MARKET x.val = false ∧ 256 ≤ s.get F.RELOC_CHUNKS_N x.val ∧ s.ops = [o] ∧ o.kind = .relocation x.val ∧ o.status = .accepted ∧ s.sessions = []) ∧
    (∃ (s : State) (x : Fin 8),
      Quiet s ∧ Frozen s ∧ s.rlState x.val = rlCopying ∧ s.rlTargetCounts x.val = true ∧ s.flag F.RELOC_STATE_TAINTED x.val = false ∧ s.msgs = [] ∧ s.flag F.RELOC_OBJECT_REMOTE x.val = false ∧ s.flag F.RELOC_OBJECT_MARKET x.val = false ∧ 1 ≤ s.get F.RELOC_CHUNKS_N x.val ∧ s.ops = [] ∧ s.flag F.FC_SRC_LATCHED (778 + x.val / 4) = true) ∧
    (∃ (s : State) (x : Fin 8),
      Quiet s ∧ Frozen s ∧ s.rlState x.val = rlHandover ∧ s.market.flows = [] ∧ s.market.cache = [] ∧ s.refusing = false ∧ s.flag F.RELOC_OBJECT_REMOTE x.val = false ∧ s.txState 3 = txFree ∧ s.tx 3 = {} ∧ s.txns.fw = []) ∧
    (∃ (s : State) (x : Fin 8),
      Quiet s ∧ Frozen s ∧ s.rlState x.val = rlRollingBack ∧ (s.reloc x.val).step = .drain ∧ s.rlPairs x.val = false ∧ s.flag F.RELOC_OBJECT_REMOTE x.val = false ∧ s.flag F.RELOC_OBJECT_MARKET x.val = false ∧ 1 ≤ s.get F.RELOC_CHUNKS_N x.val ∧ s.ops = []) :=
  ⟨⟨relocIn rlCopying { journalled := 7, fails := 2 }, 7, by decide +kernel⟩,
   ⟨(List.range 16).foldl (fun s c => s.put F.LL_STATUS_STATE linkActive (96 + c)) (relocIn rlCopying { journalled := 511, step := .journal }), 7, by decide +kernel⟩,
   ⟨(List.range 16).foldl (fun s c => s.put F.LL_STATUS_STATE linkActive (96 + c)) ((relocIn rlCopying { step := .publish }).put F.RELOC_WATERMARK_W 9 7), 7, by decide +kernel⟩,
   ⟨(List.range 16).foldl (fun s c => s.put F.LL_STATUS_STATE linkActive (96 + c)) (((relocIn rlCopying { step := .publish }).put F.RELOC_IN_COPY_C 5 7).put F.RELOC_PEER_IN_COPY_C 5 3), 7, by decide +kernel⟩,
   ⟨(relocIn rlCopying { step := .drain }).put F.RELOC_IN_COPY_C 5 7, 7, by decide +kernel⟩,
   ⟨relocIn rlReverse { fails := 1 }, 7, by decide +kernel⟩,
   ⟨{ portIn 1 lsL0 95 with msgs := [{ sentMsg with op := .memWrite, cls := 1, twin := some 9 }, { sentMsg with id := 9, op := .memWrite, cls := 1, twin := some 6, copy := true, dst := 5 }] }, { sentMsg with op := .memWrite, cls := 1, twin := some 9 }, { sentMsg with id := 9, op := .memWrite, cls := 1, twin := some 6, copy := true, dst := 5 }, by decide +kernel⟩,
   ⟨{ relocIn rlCommitting {} with market := { awaiting := [⟨false, 0, 0⟩, ⟨true, 0, 0⟩] } }, 7, by decide +kernel⟩,
   ⟨{ (relocIn rlCommitting { phase := 4 }).put F.STALL_SLICE_PORT 5 0 0 with ops := [⟨9, .relocation 7, 1, .accepted, 0⟩] }, 7, ⟨9, .relocation 7, 1, .accepted, 0⟩, by decide +kernel⟩,
   ⟨((relocIn rlCopying { journalled := 4 }).put F.RELOC_WATERMARK_W 4 7).put F.FC_SRC_LATCHED 1 779, 7, by decide +kernel⟩,
   ⟨relocIn rlHandover { phase := 3 }, 7, by decide +kernel⟩,
   ⟨relocIn rlRollingBack { step := .drain }, 7, by decide +kernel⟩⟩

/-- States and operands that meet the hypotheses of `EmulatedDeviceAndMailbox`, clause by clause. -/
theorem witness_EmulatedDeviceAndMailbox :
    (∃ (s : State) (p : Port) (id : Nat) (g : CfgTarget) (off : Fin 4096),
      Quiet s ∧ s.isHostPort p.val = true ∧ s.takes p.val = true ∧ s.flag F.PORT_STATUS_LOW_RATE p.val = false ∧ s.cfgOwns (s.get F.PORT_CFG_HOST_ID p.val) g = true ∧ s.hearthDown = false ∧ s.txns.lost.contains (halfOf p.val) = false) ∧
    (∃ (s : State) (p : Port) (id : Nat) (st : StallId) (k : Fin 4) (d : Nat) (g : CfgTarget) (x : Hdm) (y : Nat),
      Quiet s ∧ g = .stall st ∧ y = s.get F.PORT_CFG_HOST_ID p.val ∧ s.isHostPort p.val = true ∧ s.takes p.val = true ∧ s.flag F.PORT_STATUS_LOW_RATE p.val = false ∧ s.cfgOwns (s.get F.PORT_CFG_HOST_ID p.val) g = true ∧ s.hearthDown = false ∧ s.txns.lost.contains (halfOf p.val) = false ∧ (s.decodersNaming y st.val)[k.val]? = some d ∧ (s.emul st.val).dec k.val = x ∧ x.ways = 1 ∧ x.size = s.get F.DEC_SIZE_V y d * 2 ^ 28 ∧ x.base = s.get F.DEC_BASE_V y d * 2 ^ 28 ∧ s.flag F.DEC_CTRL_HOST_PLACE y d = false) ∧
    (∃ (s : State) (st : StallId) (k : Fin 4),
      Quiet s ∧ s.hearthDown = false ∧ ((s.emul st.val).dec k.val).waiting = true) ∧
    (∃ (s : State) (h : Nat) (v : Nat) (b : Bool) (rest : List (Nat × Nat × Bool)),
      Quiet s ∧ s.hearthDown = false ∧ s.txns.plugs = (h, v, b) :: rest) ∧
    (∃ (s : State) (st : StallId),
      Quiet s) ∧
    (∃ (s : State) (st : StallId),
      Quiet s ∧ s.mailRuns st.val = true) ∧
    (∃ (s : State) (st : StallId) (hs : List Nat),
      Quiet s ∧ s.mailRuns st.val = true ∧ (∀ x ∈ hs, (s.emul st.val).log.any (fun r => r.handle == x) = true)) ∧
    (∃ (s : State) (st : StallId) (m : Nat),
      Quiet s ∧ s.mailRuns st.val = true ∧ (s.emul st.val).stampAt = some m) ∧
    (∃ (s : State) (st : StallId) (v : BitVec 64),
      Quiet s ∧ s.mailRuns st.val = true) ∧
    (∃ (s : State) (st : StallId),
      Quiet s ∧ s.mailRuns st.val = true) ∧
    (∃ (s : State) (st : StallId) (off : Nat) (len : Fin 4097),
      Quiet s ∧ s.mailRuns st.val = true) :=
  ⟨⟨portIn 1 lsL0 95, 95, 7, .vdsp 63, 4092, by decide +kernel⟩,
   ⟨(((((((((((stallIn { hdm := [(0, { base := 2 ^ 30, size := 2 ^ 29, ways := 1, error := true })] }).put F.STALL_CTRL_DEFINED 1 4095)).put F.PORT_CFG_HOST_ID 7 3).put F.STALL_BIND_BOUND 1 4095).put F.STALL_BIND_HOST 7 4095).put F.DEC_CTRL_VALID 1 7 31).put F.DEC_CTRL_STALL 4095 7 31).put F.DEC_BASE_V 4 7 31).put F.DEC_SIZE_V 2 7 31).put F.PORT_CFG_ROLE 1 3), 3, 7, 4095, 0, 31, .stall 4095, { base := 2 ^ 30, size := 2 ^ 29, ways := 1, error := true }, 7, by decide +kernel⟩,
   ⟨stallIn { hdm := [(3, { base := 7, waiting := true })] }, 4095, 3, by decide +kernel⟩,
   ⟨{ portIn 1 lsL0 3 with txns := { plugs := [(94, 63, true), (1, 2, false)] } }, 94, 63, true, [(1, 2, false)], by decide +kernel⟩,
   ⟨portIn 1 lsL0 3, 4095, by decide +kernel⟩,
   ⟨((((stallIn { doorbell := true, log := [⟨3, 1, []⟩, ⟨4, 2, [7#8]⟩], poison := [64, 128], timestamp := 50, stampAt := some 30 }).put F.PORT_CFG_HOST_ID 7 3).put F.STALL_BIND_BOUND 1 4095).put F.STALL_BIND_HOST 7 4095), 4095, by decide +kernel⟩,
   ⟨((((stallIn { doorbell := true, log := [⟨3, 1, []⟩, ⟨4, 2, [7#8]⟩], poison := [64, 128], timestamp := 50, stampAt := some 30 }).put F.PORT_CFG_HOST_ID 7 3).put F.STALL_BIND_BOUND 1 4095).put F.STALL_BIND_HOST 7 4095), 4095, [3], by decide +kernel⟩,
   ⟨((((stallIn { doorbell := true, log := [⟨3, 1, []⟩, ⟨4, 2, [7#8]⟩], poison := [64, 128], timestamp := 50, stampAt := some 30 }).put F.PORT_CFG_HOST_ID 7 3).put F.STALL_BIND_BOUND 1 4095).put F.STALL_BIND_HOST 7 4095), 4095, 30, by decide +kernel⟩,
   ⟨((((stallIn { doorbell := true, log := [⟨3, 1, []⟩, ⟨4, 2, [7#8]⟩], poison := [64, 128], timestamp := 50, stampAt := some 30 }).put F.PORT_CFG_HOST_ID 7 3).put F.STALL_BIND_BOUND 1 4095).put F.STALL_BIND_HOST 7 4095), 4095, 7, by decide +kernel⟩,
   ⟨((((stallIn { doorbell := true, log := [⟨3, 1, []⟩, ⟨4, 2, [7#8]⟩], poison := [64, 128], timestamp := 50, stampAt := some 30 }).put F.PORT_CFG_HOST_ID 7 3).put F.STALL_BIND_BOUND 1 4095).put F.STALL_BIND_HOST 7 4095), 4095, by decide +kernel⟩,
   ⟨((((stallIn { doorbell := true, log := [⟨3, 1, []⟩, ⟨4, 2, [7#8]⟩], poison := [64, 128], timestamp := 50, stampAt := some 30 }).put F.PORT_CFG_HOST_ID 7 3).put F.STALL_BIND_BOUND 1 4095).put F.STALL_BIND_HOST 7 4095), 4095, 0, 0, by decide +kernel⟩⟩

/-- States and operands that meet the hypotheses of `MailboxIdentityHealthPoison`, clause by clause. -/
theorem witness_MailboxIdentityHealthPoison :
    (∃ (s : State) (st : StallId),
      Quiet s ∧ s.mailRuns st.val = true) ∧
    (∃ (s : State) (st : StallId),
      Quiet s ∧ s.mailRuns st.val = true ∧ s.stallPersistent st.val = false) ∧
    (∃ (s : State) (st : StallId) (a : Health) (b : Health),
      Quiet s ∧ s.mailRuns st.val = true ∧ a.levels.length = 1 ∧ b.levels.length = 1) ∧
    (∃ (s : State) (st : StallId),
      Quiet s ∧ s.mailRuns st.val = true) ∧
    (∃ (s : State) (st : StallId) (o : BitVec 64) (m : Msg) (r : SliceRef) (x : Nat) (p : Nat) (l : Nat) (b : Nat),
      Quiet s ∧ s.mailRuns st.val = true ∧ s.debugUnlocked = true ∧ o.toNat % 64 = 0 ∧ o.toNat < s.get F.STALL_LAYOUT_CAP st.val * 2 ^ 28 ∧ s.stallLine st.val o.toNat = (r, x) ∧ s.sliceOf 0 r = (p, l, b) ∧ s.sliceOf (halfOf p) r = (p, l, b) ∧ s.relocOf r = none ∧ s.refuses p = false ∧ s.msgs = [m] ∧ m.id ≠ s.nextId ∧ m.stage = .held ∧ m.input = 126 ∧ m.dst = p ∧ m.half = halfOf p ∧ m.queueIx = 2) ∧
    (∃ (s : State) (st : StallId) (o : BitVec 64) (m : Msg) (r : SliceRef) (x : Nat) (p : Nat) (l : Nat) (b : Nat) (d : List Byte),
      Quiet s ∧ s.mailRuns st.val = true ∧ o.toNat % 64 = 0 ∧ o.toNat < s.get F.STALL_LAYOUT_CAP st.val * 2 ^ 28 ∧ s.stallLine st.val o.toNat = (r, x) ∧ s.sliceOf 0 r = (p, l, b) ∧ s.sliceOf (halfOf p) r = (p, l, b) ∧ s.relocOf r = none ∧ s.refuses p = false ∧ s.msgs = [m] ∧ m.id ≠ s.nextId ∧ m.stage = .held ∧ m.input = 126 ∧ m.dst = p ∧ m.half = halfOf p ∧ m.queueIx = 2) ∧
    (∃ (s : State) (st : StallId) (op : BitVec 16),
      Quiet s ∧ s.mailRuns st.val = true) :=
  ⟨⟨((((stallIn { doorbell := true, log := [⟨3, 1, []⟩, ⟨4, 2, [7#8]⟩], poison := [64, 128], timestamp := 50, stampAt := some 30 }).put F.PORT_CFG_HOST_ID 7 3).put F.STALL_BIND_BOUND 1 4095).put F.STALL_BIND_HOST 7 4095), 4095, by decide +kernel⟩,
   ⟨((((stallIn { doorbell := true, log := [⟨3, 1, []⟩, ⟨4, 2, [7#8]⟩], poison := [64, 128], timestamp := 50, stampAt := some 30 }).put F.PORT_CFG_HOST_ID 7 3).put F.STALL_BIND_BOUND 1 4095).put F.STALL_BIND_HOST 7 4095), 4095, by decide +kernel⟩,
   ⟨((((stallIn { doorbell := true, log := [⟨3, 1, []⟩, ⟨4, 2, [7#8]⟩], poison := [64, 128], timestamp := 50, stampAt := some 30 }).put F.PORT_CFG_HOST_ID 7 3).put F.STALL_BIND_BOUND 1 4095).put F.STALL_BIND_HOST 7 4095), 4095, ⟨5, [30]⟩, ⟨2, [40]⟩, by decide +kernel⟩,
   ⟨((((stallIn { doorbell := true, log := [⟨3, 1, []⟩, ⟨4, 2, [7#8]⟩], poison := [64, 128], timestamp := 50, stampAt := some 30 }).put F.PORT_CFG_HOST_ID 7 3).put F.STALL_BIND_BOUND 1 4095).put F.STALL_BIND_HOST 7 4095), 4095, by decide +kernel⟩,
   ⟨{ (((stallIn { poison := [64, 128] }).put F.PORT_CFG_HOST_ID 7 3).put F.STALL_BIND_BOUND 1 4095).put F.STALL_BIND_HOST 7 4095 with msgs := [{ sentMsg with input := 126, stage := .held, dst := 0, half := 0 }] }, 4095, 128, { sentMsg with input := 126, stage := .held, dst := 0, half := 0 }, (stallIn {}).stallLine 4095 128 |>.1, (stallIn {}).stallLine 4095 128 |>.2, 0, 0, 0, by decide +kernel⟩,
   ⟨{ (((stallIn { poison := [64, 128] }).put F.PORT_CFG_HOST_ID 7 3).put F.STALL_BIND_BOUND 1 4095).put F.STALL_BIND_HOST 7 4095 with msgs := [{ sentMsg with input := 126, stage := .held, dst := 0, half := 0 }] }, 4095, 128, { sentMsg with input := 126, stage := .held, dst := 0, half := 0 }, (stallIn {}).stallLine 4095 128 |>.1, (stallIn {}).stallLine 4095 128 |>.2, 0, 0, 0, zeros64, by decide +kernel⟩,
   ⟨((((stallIn { doorbell := true, log := [⟨3, 1, []⟩, ⟨4, 2, [7#8]⟩], poison := [64, 128], timestamp := 50, stampAt := some 30 }).put F.PORT_CFG_HOST_ID 7 3).put F.STALL_BIND_BOUND 1 4095).put F.STALL_BIND_HOST 7 4095), 4095, 0x1234, by decide +kernel⟩⟩

/-- States and operands that meet the hypotheses of `ErasuresStallResetsAndScrubs`, clause by clause. -/
theorem witness_ErasuresStallResetsAndScrubs :
    (∃ (s : State) (st : StallId),
      Quiet s ∧ Frozen s ∧ s.mailRuns st.val = true ∧ (s.emul st.val).background = none ∧ s.stallRanges st.val = [] ∧ s.quenchSet st.val = false ∧ s.stall st.val = stBound ∧ s.sessions = []) ∧
    (∃ (s : State) (st : StallId),
      Quiet s ∧ Frozen s ∧ s.mailRuns st.val = true ∧ (s.emul st.val).background = none ∧ s.stallRanges st.val = [] ∧ s.quenchSet st.val = false ∧ s.stall st.val = stBound ∧ s.sessions = []) ∧
    (∃ (s : State) (st : StallId) (op : Nat),
      Quiet s ∧ Frozen s ∧ s.mailRuns st.val = true ∧ (s.emul st.val).background = some op ∧ (s.emul st.val).failed = false ∧ (s.emul st.val).wasQuenched = false ∧ s.ranges = [] ∧ s.stall st.val = stQuenched ∧ s.sessions = []) ∧
    (∃ (s : State) (st : StallId) (m : Msg),
      Quiet s ∧ Frozen s ∧ s.stall st.val = stResetting ∧ s.msgs = [m] ∧ m.stall = some st.val ∧ m.op = .memRead ∧ m.cls = 0 ∧ m.input < 96 ∧ m.host.isSome = true ∧ m.copy = false ∧ m.twin = none ∧ m.squashed = false ∧ m.stage = .held ∧ m.slice = none ∧ m.cells = [] ∧ s.buf.skid = [] ∧ (∀ c : Fin 28, (s.chan c.val).desc = none)) ∧
    (∃ (s : State) (st : StallId) (o : Operation),
      Quiet s ∧ Frozen s ∧ s.hearthDown = false ∧ s.stall st.val = stResetting ∧ s.msgs = [] ∧ s.flag F.STALL_BIND_BOUND st.val = true ∧ (s.emul st.val).failsAfter = false ∧ s.placedDecoders st.val = [] ∧ s.quenchSet st.val = false ∧ s.ops = [o] ∧ o.kind = .resetStall st.val ∧ o.status = .accepted ∧ s.sessions = []) ∧
    (∃ (s : State) (st : StallId),
      Quiet s ∧ Frozen s ∧ s.hearthDown = false ∧ s.stall st.val = stResetting ∧ s.msgs = [] ∧ s.placedDecoders st.val ≠ [] ∧ s.txState 3 = txFree ∧ s.tx 3 = {} ∧ s.txns.fw = [] ∧ s.recallsOf (s.fwItems (.unplaceAll st.val)) = []) ∧
    (∃ (s : State) (p : Port) (r : DevRange),
      Quiet s ∧ Frozen s ∧ s.hearthDown = false ∧ s.ranges = [r] ∧ r.port = p.val ∧ r.quarantined = false ∧ r.scrubbed + 1 < r.len) ∧
    (∃ (s : State) (p : Port) (r : DevRange),
      Quiet s ∧ Frozen s ∧ s.ranges = [r] ∧ r.port = p.val ∧ r.quarantined = false ∧ r.forErase = false ∧ s.ops = [] ∧ s.flag F.FC_SRC_LATCHED (8 * p.val + 7) = true) :=
  ⟨⟨((((stallIn {}).put F.PORT_CFG_HOST_ID 7 3).put F.STALL_BIND_BOUND 1 4095).put F.STALL_BIND_HOST 7 4095).put F.STALL_STATE_STATE stBound 4095, 4095, by decide +kernel⟩,
   ⟨((((stallIn {}).put F.PORT_CFG_HOST_ID 7 3).put F.STALL_BIND_BOUND 1 4095).put F.STALL_BIND_HOST 7 4095).put F.STALL_STATE_STATE stBound 4095, 4095, by decide +kernel⟩,
   ⟨((((stallIn { background := some 0x4401 }).put F.PORT_CFG_HOST_ID 7 3).put F.STALL_BIND_BOUND 1 4095).put F.STALL_BIND_HOST 7 4095).put F.STALL_STATE_STATE stQuenched 4095, 4095, 0x4401, by decide +kernel⟩,
   ⟨{ (stallIn {}).put F.STALL_STATE_STATE stResetting 4095 with msgs := [{ sentMsg with stall := some 4095, stage := .held }] }, 4095, { sentMsg with stall := some 4095, stage := .held }, by decide +kernel⟩,
   ⟨{ ((stallIn { config := [(4, 5)] }).put F.STALL_STATE_STATE stResetting 4095).put F.STALL_BIND_BOUND 1 4095 with ops := [⟨9, .resetStall 4095, 1, .accepted, 0⟩] }, 4095, ⟨9, .resetStall 4095, 1, .accepted, 0⟩, by decide +kernel⟩,
   ⟨((((((((((stallIn {}).put F.STALL_CTRL_DEFINED 1 4095)).put F.PORT_CFG_HOST_ID 7 3).put F.STALL_BIND_BOUND 1 4095).put F.STALL_BIND_HOST 7 4095).put F.DEC_CTRL_VALID 1 7 31).put F.DEC_CTRL_STALL 4095 7 31).put F.DEC_CTRL_HOST_PLACE 1 7 31).put F.DEC_BASE_V 4 7 31).put F.STALL_STATE_STATE stResetting 4095, 4095, by decide +kernel⟩,
   ⟨{ portIn 3 lsL0 95 with ranges := [⟨95, 0, 256, 256, 254, false, none, none, false⟩] }, 95, ⟨95, 0, 256, 256, 254, false, none, none, false⟩, by decide +kernel⟩,
   ⟨{ (portIn 3 lsL0 95).put F.FC_SRC_LATCHED 1 767 with ranges := [⟨95, 0, 256, 256, 254, false, none, none, false⟩] }, 95, ⟨95, 0, 256, 256, 254, false, none, none, false⟩, by decide +kernel⟩⟩

/-- States and operands that meet the hypotheses of `SlotPinsAndRamp`, clause by clause. -/
theorem witness_SlotPinsAndRamp :
    (∃ (s : State) (n : SlotId),
      Quiet s ∧ Frozen s ∧ s.sl n.val = slEmpty ∧ s.sessions = [] ∧ s.ops = []) ∧
    (∃ (s : State) (n : SlotId),
      Quiet s ∧ Frozen s ∧ s.sl n.val ≠ slLockout ∧ s.portOfSlot n.val = none ∧ s.sessions = [] ∧ s.ops = []) ∧
    (∃ (s : State) (n : SlotId) (p : Nat),
      Quiet s ∧ Frozen s ∧ s.portOfSlot n.val = some p ∧ s.bonded p = false ∧ s.sessions = [] ∧ s.ops = []) ∧
    (∃ (s : State) (n : SlotId),
      Quiet s ∧ Frozen s ∧ s.sl n.val = slOn ∧ s.flag F.SLOT_STATE_LONG_PIN n.val = true ∧ s.sessions = [] ∧ s.ops = []) ∧
    (∃ (s : State) (n : SlotId),
      Quiet s ∧ Frozen s ∧ s.sl n.val = slSeating ∧ s.flag F.SLOT_STATE_LONG_PIN n.val = true ∧ s.flag F.SLOT_CTRL_AUTO_ON n.val = false ∧ s.flag F.SLOT_STATE_POWER_REQ n.val = false ∧ s.sessions = [] ∧ s.ops = []) ∧
    (∃ (s : State) (n : SlotId),
      Quiet s ∧ Frozen s ∧ s.sl n.val = slSeating ∧ s.flag F.SLOT_STATE_LONG_PIN n.val = true ∧ s.flag F.SLOT_CTRL_AUTO_ON n.val = true ∧ (s.slot n.val).deadline = none ∧ s.curveOk n.val = true ∧ s.sessions = [] ∧ s.ops = []) ∧
    (∃ (s : State) (n : SlotId),
      Quiet s ∧ Frozen s ∧ s.sl n.val = slPrecharge ∧ s.sessions = [] ∧ s.ops = []) ∧
    (∃ (s : State) (n : SlotId),
      Quiet s ∧ Frozen s ∧ s.sl n.val = slRamp ∧ s.sessions = [] ∧ s.ops = []) ∧
    (∃ (s : State) (n : SlotId),
      Quiet s ∧ Frozen s ∧ s.sl n.val = slPrecharge ∧ s.flag F.SLOT_STATE_SHORT_PIN n.val = true ∧ s.get F.SLOT_STATE_RETRIES n.val < s.get F.SLOT_CTRL_RETRY_LIMIT n.val ∧ s.flag F.FC_SRC_LATCHED (960 + n.val) = true ∧ s.sessions = [] ∧ s.ops = []) ∧
    (∃ (s : State) (n : SlotId),
      Quiet s ∧ Frozen s ∧ s.sl n.val = slOn ∧ s.flag F.SLOT_STATE_SHORT_PIN n.val = true ∧ s.get F.SLOT_STATE_RETRIES n.val < s.get F.SLOT_CTRL_RETRY_LIMIT n.val ∧ s.flag F.FC_SRC_LATCHED (960 + n.val) = true ∧ s.sessions = [] ∧ s.ops = []) ∧
    (∃ (s : State) (n : SlotId),
      Quiet s ∧ Frozen s ∧ s.sl n.val = slOn ∧ s.flag F.SLOT_STATE_SHORT_PIN n.val = true ∧ s.get F.SLOT_STATE_RETRIES n.val < s.get F.SLOT_CTRL_RETRY_LIMIT n.val ∧ s.flag F.FC_SRC_LATCHED (960 + n.val) = true ∧ s.sessions = [] ∧ s.ops = []) ∧
    (∃ (s : State) (n : SlotId),
      Quiet s ∧ Frozen s ∧ s.sl n.val = slOn ∧ s.feedGood (s.get F.SLOT_STATE_FEED_IN_USE n.val) = true ∧ (s.slot n.val).checking = false ∧ s.flag F.SLOT_STATE_SHORT_PIN n.val = true ∧ s.get F.SLOT_STATE_RETRIES n.val < s.get F.SLOT_CTRL_RETRY_LIMIT n.val ∧ s.flag F.FC_SRC_LATCHED (960 + n.val) = true ∧ s.sessions = [] ∧ s.ops = []) :=
  ⟨⟨((slotIn slEmpty).put F.SLOT_STATE_LONG_PIN 0 47), 47, by decide +kernel⟩,
   ⟨slotIn slOn, 47, by decide +kernel⟩,
   ⟨(slotIn slOn).put F.PORT_SLOT_VALID 1 3 |>.put F.PORT_SLOT_SLOT 47 3 |>.wr .LANE_EQ_RECORD 0x80000001 3 57, 47, 3, by decide +kernel⟩,
   ⟨slotIn slOn, 47, by decide +kernel⟩,
   ⟨slotIn slSeating, 47, by decide +kernel⟩,
   ⟨(slotIn slSeating).put F.SLOT_CTRL_AUTO_ON 1 47, 47, by decide +kernel⟩,
   ⟨slotIn slPrecharge, 47, by decide +kernel⟩,
   ⟨slotIn slRamp, 47, by decide +kernel⟩,
   ⟨(((slotIn slPrecharge).put F.SLOT_CTRL_RETRY_LIMIT 3 47).put F.FC_SRC_LATCHED 1 1007), 47, by decide +kernel⟩,
   ⟨(((slotIn slOn).put F.SLOT_CTRL_RETRY_LIMIT 3 47).put F.FC_SRC_LATCHED 1 1007), 47, by decide +kernel⟩,
   ⟨(((slotIn slOn).put F.SLOT_CTRL_RETRY_LIMIT 3 47).put F.FC_SRC_LATCHED 1 1007), 47, by decide +kernel⟩,
   ⟨(((slotIn slOn).put F.SLOT_CTRL_RETRY_LIMIT 3 47).put F.FC_SRC_LATCHED 1 1007), 47, by decide +kernel⟩⟩

/-- States and operands that meet the hypotheses of `SlotRetriesFeedsAndSupplies`, clause by clause. -/
theorem witness_SlotRetriesFeedsAndSupplies :
    (∃ (s : State) (n : SlotId),
      Quiet s ∧ Frozen s ∧ s.sl n.val = slTripped ∧ (s.slot n.val).deadline.isSome = true ∧ s.slSupplied n.val = true ∧ s.curveOk n.val = true ∧ s.sessions = [] ∧ s.ops = []) ∧
    (∃ (s : State) (n : SlotId),
      Quiet s ∧ Frozen s ∧ s.sl n.val = slOn ∧ s.sessions = [] ∧ s.ops = []) ∧
    (∃ (s : State),
      Quiet s ∧ Frozen s ∧ s.feedPresent 0 = true ∧ s.feedClass 0 = 0 ∧ s.flag F.FC_SRC_LATCHED 1008 = true ∧ s.sessions = [] ∧ s.ops = []) ∧
    (∃ (s : State) (n : SlotId),
      Quiet s ∧ Frozen s ∧ s.sl n.val = slOn ∧ s.feedUsable n.val (s.get F.SLOT_FEED_PRIMARY n.val) = true ∧ s.get F.SLOT_STATE_FEED_IN_USE n.val ≠ s.get F.SLOT_FEED_PRIMARY n.val ∧ (s.slot n.val).switching = none ∧ s.sessions = [] ∧ s.ops = []) ∧
    (∃ (s : State) (n : SlotId),
      Quiet s ∧ Frozen s ∧ (s.slot n.val).switching = some 1 ∧ s.sessions = [] ∧ s.ops = []) ∧
    (∃ (s : State) (n : SlotId),
      Quiet s ∧ Frozen s ∧ (s.slot n.val).switching = none ∧ (s.slot n.val).checking = true ∧ s.sessions = [] ∧ s.ops = []) ∧
    (∃ (s : State) (n : SlotId),
      Quiet s ∧ Frozen s ∧ s.sl n.val = slOn ∧ s.slSupplied n.val = false ∧ s.sessions = [] ∧ s.ops = []) ∧
    (∃ (s : State) (n : SlotId),
      Quiet s ∧ Frozen s ∧ s.sl n.val = slSupplyLost ∧ s.power.mains = true ∧ s.feedUsable n.val 0 = true ∧ (s.slot n.val).pinsKept = true ∧ s.curveOk n.val = true ∧ s.sessions = [] ∧ s.ops = []) ∧
    (∃ (s : State) (n : SlotId),
      Quiet s ∧ Frozen s ∧ s.sl n.val = slReady ∧ (s.slot n.val).deadline = none ∧ s.curveOk n.val = true ∧ s.sessions = [] ∧ s.ops = []) ∧
    (∃ (s : State) (n : SlotId),
      Quiet s ∧ Frozen s ∧ s.sl n.val = slOn ∧ s.sessions = [] ∧ s.ops = []) ∧
    (∃ (s : State) (n : SlotId),
      Quiet s ∧ Frozen s ∧ s.sl n.val = slLockout ∧ s.flag F.SLOT_STATE_LONG_PIN n.val = true ∧ s.flag F.SLOT_STATE_SHORT_PIN n.val = true ∧ s.flag F.SLOT_STATE_POWER_REQ n.val = false ∧ s.sessions = [] ∧ s.ops = []) :=
  ⟨⟨(slotIn slTripped).setSlot 47 { deadline := some 10 }, 47, by decide +kernel⟩,
   ⟨(slotIn slOn).put F.SLOT_STATE_RETRIES 3 47, 47, by decide +kernel⟩,
   ⟨(slotIn slReady).put F.FC_SRC_LATCHED 1 1008, by decide +kernel⟩,
   ⟨(slotIn slOn).put F.SLOT_STATE_FEED_IN_USE 1 47, 47, by decide +kernel⟩,
   ⟨(slotIn slOn).setSlot 47 { switching := some 1, checking := true }, 47, by decide +kernel⟩,
   ⟨(slotIn slOn).setSlot 47 { checking := true }, 47, by decide +kernel⟩,
   ⟨{ slotIn slOn with power := { mains := false } }, 47, by decide +kernel⟩,
   ⟨(slotIn slSupplyLost).setSlot 47 { pinsKept := true }, 47, by decide +kernel⟩,
   ⟨slotIn slReady, 47, by decide +kernel⟩,
   ⟨(slotIn slOn).put F.SLOT_STATE_RETRIES 2 47, 47, by decide +kernel⟩,
   ⟨(slotIn slLockout).put F.SLOT_STATE_RETRIES 2 47, 47, by decide +kernel⟩⟩

/-- States and operands that meet the hypotheses of `FaultCollectorCommands`, clause by clause. -/
theorem witness_FaultCollectorCommands :
    (∃ (s : State) (n : Fin 1024),
      Quiet s ∧ Frozen s ∧ s.flag F.FC_SRC_LATCHED n.val = true ∧ s.get F.FC_SRC_APPLIED n.val = 0 ∧ s.conditionNow n.val = false ∧ s.holds = [] ∧ s.containQuench = [] ∧ s.sessions = []) ∧
    (∃ (s : State) (n : Fin 1024),
      Quiet s ∧ Frozen s ∧ s.debugAllowed = true ∧ s.flag F.FC_SRC_LATCHED n.val = false ∧ s.get F.FC_SRC_REACTION n.val = 0) ∧
    (∃ (s : State),
      Quiet s ∧ Frozen s ∧ s.flag F.FC_STATUS_ASH = true ∧ s.flag F.FC_SRC_LATCHED 1023 = true) :=
  ⟨⟨((portIn 1 lsL0 3).put F.FC_SRC_LATCHED 1 1008).put F.FC_SRC_COUNT 9 1008, 1008, by decide +kernel⟩,
   ⟨(portIn 1 lsL0 3).put F.FC_SRC_REACTION 0 770, 770, by decide +kernel⟩,
   ⟨((portIn 1 lsL0 3).put F.FC_STATUS_ASH 1).put F.FC_SRC_LATCHED 1 1023, by decide +kernel⟩⟩

/-- States and operands that meet the hypotheses of `PowerRungs`, clause by clause. -/
theorem witness_PowerRungs :
    (∃ (s : State) (stay : List Port),
      Quiet s ∧ Frozen s ∧ s.flag F.PWR_CTRL_AUTO_GLOW = true ∧ s.queuesEmpty = true ∧ s.rungBusy rungGlow = false ∧ s.flag F.FC_STATUS_ASH = false ∧ s.sessions = [] ∧ s.ops = [] ∧ (∀ c : Fin 28, s.ch c.val = chIdle)) ∧
    (∃ (s : State) (stay : List Port),
      Quiet s ∧ Frozen s ∧ s.power.entering = some rungSmoulder ∧ s.sessions = [] ∧ s.ops = [] ∧ (∀ c : Fin 28, s.ch c.val = chIdle)) ∧
    (∃ (s : State),
      Quiet s ∧ Frozen s ∧ s.rung = rungGlow ∧ s.power.entering = none) ∧
    (∃ (s : State) (h : Half),
      Quiet s ∧ Frozen s ∧ s.power.leaving = true ∧ s.below = [hix h] ∧ s.msgs = [] ∧ s.seamUp = false ∧ s.sessions = [] ∧ s.ops = [] ∧ (∀ c : Fin 28, s.ch c.val = chIdle) ∧ (∀ x : Fin 8, s.rlState x.val = rlFree)) :=
  ⟨⟨(portIn 1 lsL0 95).put F.PWR_CTRL_AUTO_GLOW 1, [3], by decide +kernel⟩,
   ⟨{ portIn 1 lsL0 95 with power := { entering := some rungSmoulder } }, [3], by decide +kernel⟩,
   ⟨(portIn 1 lsL0 95).put F.PWR_STATE_STATE rungGlow, by decide +kernel⟩,
   ⟨{ ((portIn 1 lsL0p 95).put F.PWR_STATE_STATE rungGlow) with power := { leaving := true }, below := [1] }, .west, by decide +kernel⟩⟩

/-- States and operands that meet the hypotheses of `BankingSequence`, clause by clause. -/
theorem witness_BankingSequence :
    (∃ (s : State),
      Quiet s ∧ Frozen s ∧ s.flag F.FEED_CFG_PFAIL_EN = true ∧ s.flag F.FEED_STATUS_BANK_REQ = false ∧ s.flag F.FC_STATUS_ASH = false ∧ s.rung = rungBlaze ∧ s.power.booted = true ∧ s.power.entering = none ∧ s.below = [] ∧ (∀ k : Fin 4, s.txState k.val = txFree) ∧ s.sessions = [] ∧ s.ops = [] ∧ (∀ c : Fin 28, s.ch c.val = chIdle)) ∧
    (∃ (s : State),
      Quiet s ∧ Frozen s ∧ s.flag F.FEED_CFG_SAG_BANK_EN = false) ∧
    (∃ (s : State) (p : Port),
      Quiet s ∧ Frozen s ∧ s.linkState p.val = lsL0 ∧ s.power.step = 2) ∧
    (∃ (s : State),
      Quiet s ∧ Frozen s ∧ s.power.step = 2 ∧ s.power.gpf = [] ∧ s.market.cache = []) ∧
    (∃ (s : State) (h : Half),
      Quiet s ∧ Frozen s ∧ s.flag F.COH_STATUS_FLUSHING (hix h) = true ∧ s.power.step = 3 ∧ s.market.flows = [] ∧ s.market.cache = [] ∧ s.resetHalves.contains (hix h) = false ∧ s.flag F.FC_STATUS_ASH = false ∧ s.power.warmWaits = none ∧ s.sessions = [] ∧ s.ops = []) ∧
    (∃ (s : State) (h : Half),
      Quiet s ∧ Frozen s ∧ s.flag F.COH_STATUS_FLUSHING (hix h) = true ∧ s.power.step = 3 ∧ s.flag F.FC_SRC_LATCHED 791 = true) ∧
    (∃ (s : State),
      Quiet s ∧ Frozen s ∧ s.power.step = 3 ∧ s.power.gpf = []) ∧
    (∃ (s : State),
      Quiet s ∧ Frozen s ∧ s.power.step = 4 ∧ s.power.douses = [] ∧ s.power.ashWaits = false ∧ s.power.warmWaits = none ∧ s.flag F.KEEP_CTRL_COPY_ON_BANK = true ∧ s.flag F.KEEP_CTRL_VALID = true ∧ s.flag F.FC_STATUS_ASH = false) :=
  ⟨⟨{ (portIn 1 lsL0 95).put F.FEED_CFG_PFAIL_EN 1 with power := { booted := true } }, by decide +kernel⟩,
   ⟨((portIn 1 lsL0 95).put F.FEED_STATUS_BANK_REQ 1).put F.FEED_CFG_SAG_BANK_EN 0, by decide +kernel⟩,
   ⟨{ portIn 1 lsL0 95 with power := { step := 2, gpf := [3, 95] } }, 95, by decide +kernel⟩,
   ⟨{ portIn 1 lsL0 95 with power := { step := 2 } }, by decide +kernel⟩,
   ⟨{ (portIn 3 lsL0 95).put F.COH_STATUS_FLUSHING 1 1 with power := { step := 3, gpf := [95] } }, .west, by decide +kernel⟩,
   ⟨{ ((portIn 3 lsL0 95).put F.COH_STATUS_FLUSHING 1 1).put F.FC_SRC_LATCHED 1 791 with power := { step := 3, gpf := [95] } }, .west, by decide +kernel⟩,
   ⟨{ portIn 3 lsL0 95 with power := { step := 3 } }, by decide +kernel⟩,
   ⟨{ ((portIn 3 lsL0 95).put F.KEEP_CTRL_COPY_ON_BANK 1).put F.KEEP_CTRL_VALID 1 with power := { step := 4 } }, by decide +kernel⟩⟩

/-- States and operands that meet the hypotheses of `SuppliesAndKindling`, clause by clause. -/
theorem witness_SuppliesAndKindling :
    (∃ (s : State),
      Quiet s ∧ Frozen s ∧ s.power.keepWait = true ∧ (∀ x ∈ s.resetHalves, x < 2) ∧ s.rung = rungBanking ∧ s.msgs = [] ∧ s.market = {} ∧ s.seamUp = false ∧ (∀ x : Fin 8, s.rlState x.val = rlFree) ∧ (∀ k : Fin 4, s.txState k.val = txFree) ∧ s.sessions = [] ∧ s.ops = []) ∧
    (∃ (s : State),
      Quiet s ∧ Frozen s ∧ s.rung = rungBanked ∧ s.sessions = []) ∧
    (∃ (s : State) (k : KindleIn),
      Quiet s ∧ Frozen s ∧ s.rung = rungEmber ∧ s.power.vbank = true ∧ s.flag F.FC_STATUS_ASH = false ∧ s.flash.actions = [] ∧ s.power.sealed = .sealedImage ∧ s.power.captured = true ∧ s.flag F.BANK_STATUS_ASH_MARK = false ∧ k.store = .good ∧ (∀ k : Fin 4, s.txState k.val = txFree) ∧ (∀ x : Fin 8, s.rlState x.val = rlFree) ∧ s.txns.fw = [] ∧ s.sec.advancing = false ∧ (∀ x ∈ s.resetHalves, x < 2) ∧ (∀ p : Port, s.flag F.PORT_SLOT_VALID p.val = false) ∧ s.sessions = [] ∧ s.ops = []) ∧
    (∃ (s : State) (k : KindleIn),
      Quiet s ∧ Frozen s ∧ s.rung = rungBanked ∧ s.flag F.PWR_CTRL_WAKE_MCTP = true ∧ s.flag F.FC_STATUS_ASH = false ∧ s.power.sealed = .sealedImage ∧ s.power.captured = true ∧ s.flag F.BANK_STATUS_ASH_MARK = false ∧ k.store = .good ∧ (∀ k : Fin 4, s.txState k.val = txFree) ∧ (∀ x : Fin 8, s.rlState x.val = rlFree) ∧ s.txns.fw = [] ∧ s.sec.advancing = false ∧ (∀ x ∈ s.resetHalves, x < 2) ∧ (∀ p : Port, s.flag F.PORT_SLOT_VALID p.val = false) ∧ s.sessions = [] ∧ s.ops = []) ∧
    (∃ (s : State) (k : KindleIn),
      Quiet s ∧ Frozen s ∧ s.rung = rungBanked ∧ s.flag F.PWR_CTRL_AUTO_KINDLE = true ∧ s.get F.BANK_STATUS_CAUSE ≠ 4 ∧ (s.put F.FEED_STATUS_PFAIL_LOW 0).anyTrigger = false ∧ s.flag F.FC_STATUS_ASH = false ∧ s.power.sealed = .sealedImage ∧ s.power.captured = true ∧ s.flag F.BANK_STATUS_ASH_MARK = false ∧ k.store = .good ∧ (∀ k : Fin 4, s.txState k.val = txFree) ∧ (∀ x : Fin 8, s.rlState x.val = rlFree) ∧ s.txns.fw = [] ∧ s.sec.advancing = false ∧ (∀ x ∈ s.resetHalves, x < 2) ∧ (∀ p : Port, s.flag F.PORT_SLOT_VALID p.val = false) ∧ s.sessions = [] ∧ s.ops = []) ∧
    (∃ (s : State),
      Quiet s ∧ Frozen s ∧ s.rung = rungKindling ∧ s.sessions = []) ∧
    (∃ (s : State),
      Quiet s ∧ Frozen s ∧ s.power.verifying = true) ∧
    (∃ (s : State),
      Quiet s ∧ Frozen s ∧ s.power.vbank = false) ∧
    (∃ (s : State),
      Quiet s ∧ Frozen s ∧ (∀ p : Port, s.linkState p.val = lsDetect ∨ s.linkState p.val = lsDisabled) ∧ (∀ n : SlotId, s.slPowered n.val = false)) :=
  ⟨⟨{ ((portIn 1 lsL0 95).put F.PWR_STATE_STATE rungBanking).put F.BANK_GENERATION_V 5 with power := { step := 5, keepWait := true, sealed := .sealedImage } }, by decide +kernel⟩,
   ⟨(portIn 1 lsDetect 95).put F.PWR_STATE_STATE rungBanked, by decide +kernel⟩,
   ⟨{ ((portIn 1 lsDetect 95).put F.PWR_STATE_STATE rungEmber) with power := { sealed := .sealedImage, captured := true, booted := true, mains := false }, resetHalves := [0, 1], hearthDown := true }, ⟨.good, .none⟩, by decide +kernel⟩,
   ⟨{ ((portIn 1 lsDetect 95).put F.PWR_STATE_STATE rungBanked).put F.PWR_CTRL_WAKE_MCTP 1 with power := { sealed := .sealedImage, captured := true, booted := true, mains := true }, resetHalves := [0, 1], hearthDown := true }, ⟨.good, .none⟩, by decide +kernel⟩,
   ⟨{ ((portIn 1 lsDetect 95).put F.PWR_STATE_STATE rungBanked).put F.PWR_CTRL_AUTO_KINDLE 1 with power := { sealed := .sealedImage, captured := true, booted := true, mains := true }, resetHalves := [0, 1], hearthDown := true }, ⟨.good, .none⟩, by decide +kernel⟩,
   ⟨(portIn 1 lsDetect 95).put F.PWR_STATE_STATE rungKindling, by decide +kernel⟩,
   ⟨{ portIn 1 lsL0 3 with power := { verifying := true } }, by decide +kernel⟩,
   ⟨{ portIn 1 lsL0 3 with power := { vbank := false }, mem := [(5, 7)] }, by decide +kernel⟩,
   ⟨{ portIn 1 lsDetect 3 with mem := [(0x10000000, 7), (0x12000000, 9)] }, by decide +kernel⟩⟩

/-- States and operands that meet the hypotheses of `LinksToTheHearthAndHoldLines`, clause by clause. -/
theorem witness_LinksToTheHearthAndHoldLines :
    (∃ (s : State) (h : Half) (e : BitVec 32) (i : BitVec 32),
      Quiet s ∧ Frozen s ∧ s.txns.lost.contains (hix h) = false ∧ s.power.entering = none ∧ s.rung = rungBlaze ∧ s.flag F.HALF_STATE_HOLD (hix h) = false ∧ s.flag F.HALF_STATE_SPLIT (hix h) = false ∧ e.toNat = s.get F.HALF_EPOCH_V (hix h) ∧ i.toNat = s.get F.HALF_COMMIT_V (hix h)) ∧
    (∃ (s : State) (h : Half) (e : BitVec 32) (i : BitVec 32),
      Quiet s ∧ Frozen s ∧ s.txns.lost.contains (hix h) = false ∧ s.power.entering = none ∧ s.rung = rungBlaze ∧ s.flag F.HALF_STATE_HOLD (hix h) = false ∧ s.flag F.HALF_STATE_SPLIT (hix h) = false ∧ e.toNat = s.get F.HALF_EPOCH_V (hix h) ∧ i.toNat ≠ s.get F.HALF_COMMIT_V (hix h)) ∧
    (∃ (s : State) (h : Half),
      Quiet s ∧ Frozen s ∧ s.hearthDown = false ∧ s.rung = rungBlaze ∧ (∀ x : Fin 8, s.rlState x.val = rlFree)) ∧
    (∃ (s : State) (h : Half),
      Quiet s ∧ Frozen s ∧ s.resetHalves.contains (hix h) = false ∧ s.flag F.HALF_STATE_HOLD (hix h) = false ∧ s.flag F.FC_SRC_LATCHED (780 + hix h) = true) ∧
    (∃ (s : State) (n : SlotId) (p : Port),
      Quiet s ∧ Frozen s ∧ s.portOfSlot n.val = some p.val ∧ s.holdLine n.val = true ∧ s.isHeld p.val = true ∧ s.holds.contains (p.val, .line) = false ∧ s.linkState p.val = lsDetect) ∧
    (∃ (s : State) (n : SlotId) (p : Port),
      Quiet s ∧ Frozen s ∧ s.portOfSlot n.val = some p.val ∧ s.holdLine n.val = false ∧ s.holds = [(p.val, .line)]) ∧
    (∃ (s : State) (n : SlotId) (p : Port),
      Quiet s ∧ Frozen s ∧ s.hearthDown = false ∧ s.portOfSlot n.val = some p.val ∧ s.flag F.SLOT_STATE_LONG_PIN n.val = true ∧ s.flag F.SLOT_STATE_SHORT_PIN n.val = true) ∧
    (∃ (s : State) (h : Half),
      Quiet s ∧ Frozen s ∧ s.seamUp = false ∧ s.msgs = []) ∧
    (∃ (s : State),
      Quiet s ∧ Frozen s ∧ s.flag F.FC_SRC_LATCHED 792 = true) :=
  ⟨⟨portIn 1 lsL0 3, .west, 1, 0, by decide +kernel⟩,
   ⟨portIn 1 lsL0 3, .west, 1, 7, by decide +kernel⟩,
   ⟨{ portIn 1 lsL0 3 with txns := { lost := [0, 1] } }, .west, by decide +kernel⟩,
   ⟨(portIn 1 lsL0 3).put F.FC_SRC_LATCHED 1 781, .west, by decide +kernel⟩,
   ⟨{ ((portIn 3 lsDetect 95).put F.PORT_SLOT_VALID 1 95).put F.PORT_SLOT_SLOT 47 95 with holds := [(95, .viral)] }, 47, 95, by decide +kernel⟩,
   ⟨{ ((slotIn slOn).put F.PORT_SLOT_VALID 1 95).put F.PORT_SLOT_SLOT 47 95 with holds := [(95, .line)] }, 47, 95, by decide +kernel⟩,
   ⟨{ ((slotIn slOn).put F.PORT_SLOT_VALID 1 95).put F.PORT_SLOT_SLOT 47 95 with passed := [(7, 63, 95)] }, 47, 95, by decide +kernel⟩,
   ⟨portIn 1 lsL0 3, .west, by decide +kernel⟩,
   ⟨(portIn 1 lsL0 3).put F.FC_SRC_LATCHED 1 792, by decide +kernel⟩⟩

/-- States and operands that meet the hypotheses of `WarmAndHearthResets`, clause by clause. -/
theorem witness_WarmAndHearthResets :
    (∃ (s : State),
      Quiet s ∧ Frozen s) ∧
    (∃ (s : State) (v : BitVec 16),
      Quiet s ∧ Frozen s ∧ s.power.booted = false ∧ s.power.mains = true ∧ s.flash.actions = [] ∧ (∀ p : Port, s.flag F.PORT_SLOT_VALID p.val = false) ∧ (∀ x ∈ s.resetHalves, x < 2) ∧ (∀ k : Fin 4, s.txState k.val = txFree)) ∧
    (∃ (s : State),
      Quiet s ∧ Frozen s ∧ s.warmBusy = false ∧ s.rung = rungBlaze ∧ s.flag F.COH_STATUS_FLUSHING 0 = false ∧ s.flag F.COH_STATUS_FLUSHING 1 = false ∧ s.flag F.FC_STATUS_ASH = false ∧ s.power.resetLow = false ∧ s.sec.advancing = false ∧ s.resetPorts = [] ∧ s.txns.fw = [] ∧ (∀ p : Port, s.flag F.PORT_SLOT_VALID p.val = false) ∧ (∀ x ∈ s.resetHalves, x < 2) ∧ s.power.sealed ≠ .invalid ∧ s.msgs = [] ∧ s.market.cache = [] ∧ s.market.flows = [] ∧ s.seamUp = false ∧ s.inbound = [] ∧ (∀ k : Fin 4, s.txState k.val = txFree) ∧ (∀ x : Fin 8, s.rlState x.val = rlFree) ∧ (∀ c : Fin 28, s.ch c.val = chIdle) ∧ s.sessions = [] ∧ s.ops = []) ∧
    (∃ (s : State) (k : KindleIn),
      Quiet s ∧ Frozen s ∧ s.warmBusy = false ∧ s.rung = rungBlaze ∧ s.flag F.COH_STATUS_FLUSHING 0 = false ∧ s.flag F.COH_STATUS_FLUSHING 1 = false ∧ s.flag F.FC_STATUS_ASH = false ∧ s.power.resetLow = false ∧ s.sec.advancing = false ∧ s.resetPorts = [] ∧ s.txns.fw = [] ∧ (∀ p : Port, s.flag F.PORT_SLOT_VALID p.val = false) ∧ (∀ x ∈ s.resetHalves, x < 2) ∧ s.power.sealed ≠ .invalid ∧ s.msgs = [] ∧ s.market.cache = [] ∧ s.market.flows = [] ∧ s.seamUp = false ∧ s.inbound = [] ∧ (∀ k : Fin 4, s.txState k.val = txFree) ∧ (∀ x : Fin 8, s.rlState x.val = rlFree) ∧ (∀ c : Fin 28, s.ch c.val = chIdle) ∧ s.sessions = [] ∧ s.ops = []) ∧
    (∃ (s : State),
      Quiet s ∧ Frozen s ∧ s.power.resetLow = true ∧ s.power.warmWaits = none ∧ s.flag F.FC_STATUS_ASH = false ∧ s.rung = rungBlaze ∧ (∀ p : Port, s.flag F.PORT_SLOT_VALID p.val = false) ∧ (∀ x ∈ s.resetHalves, x < 2) ∧ s.power.sealed ≠ .invalid ∧ (∀ x : Fin 8, s.rlState x.val = rlFree) ∧ s.sessions = [] ∧ s.ops = []) ∧
    (∃ (s : State),
      Quiet s ∧ Frozen s ∧ s.flag F.COH_STATUS_FLUSHING 0 = false ∧ s.flag F.COH_STATUS_FLUSHING 1 = false ∧ s.flag F.FC_STATUS_ASH = false ∧ s.power.resetLow = false ∧ s.sec.advancing = false ∧ s.resetPorts = [] ∧ s.txns.fw = [] ∧ (∀ p : Port, s.flag F.PORT_SLOT_VALID p.val = false) ∧ (∀ x ∈ s.resetHalves, x < 2) ∧ s.power.sealed ≠ .invalid ∧ s.msgs = [] ∧ s.market.cache = [] ∧ s.market.flows = [] ∧ s.seamUp = false ∧ s.inbound = [] ∧ (∀ k : Fin 4, s.txState k.val = txFree) ∧ (∀ x : Fin 8, s.rlState x.val = rlFree) ∧ (∀ c : Fin 28, s.ch c.val = chIdle) ∧ s.sessions = [] ∧ s.ops = [] ∧ s.power.warmWaits = some 2) ∧
    (∃ (s : State),
      Quiet s ∧ Frozen s ∧ s.hearthBusy = false ∧ s.txns.fw = [] ∧ s.flag F.FC_SRC_LATCHED 780 = true ∧ s.flag F.FC_SRC_LATCHED 781 = true ∧ s.flag F.HALF_STATE_HOLD 0 = false ∧ s.flag F.HALF_STATE_HOLD 1 = false ∧ (∀ k : Fin 4, s.txState k.val = txFree) ∧ s.sessions = [] ∧ s.ops = []) :=
  ⟨⟨{ portIn 1 lsL0 3 with mem := [(5, 7)], msgs := [waitingMsg] }, by decide +kernel⟩,
   ⟨{ State.reset.put F.PMU_GLOBAL_FREEZE_ALL 1 with resetHalves := [0, 1] }, 9, by decide +kernel⟩,
   ⟨{ portIn 1 lsL0 95 with power := { sealed := .live } }, by decide +kernel⟩,
   ⟨{ portIn 1 lsL0 95 with power := { sealed := .live } }, ⟨.good, .none⟩, by decide +kernel⟩,
   ⟨{ portIn 1 lsDetect 95 with power := { resetLow := true, sealed := .live }, hearthDown := true, resetHalves := [0, 1] }, by decide +kernel⟩,
   ⟨{ (portIn 1 lsL0 95).put F.PWR_STATE_STATE rungBanking with power := { warmWaits := some 2, step := 3, sealed := .live } }, by decide +kernel⟩,
   ⟨((portIn 1 lsL0 95).put F.FC_SRC_LATCHED 1 780).put F.FC_SRC_LATCHED 1 781, by decide +kernel⟩⟩

/-- States and operands that meet the hypotheses of `HalfAndPortResets`, clause by clause. -/
theorem witness_HalfAndPortResets :
    (∃ (s : State),
      Quiet s ∧ Frozen s ∧ s.halfBusy 0 = false ∧ s.resetPorts = [] ∧ s.regionSlices = [] ∧ s.msgs = [] ∧ s.market.cache = [] ∧ s.market.flows = [] ∧ s.seamUp = false ∧ s.inbound = [] ∧ (∀ k : Fin 4, s.txState k.val = txFree) ∧ (∀ x : Fin 8, s.rlState x.val = rlFree) ∧ (∀ c : Fin 28, s.ch c.val = chIdle) ∧ s.sessions = [] ∧ s.ops = []) ∧
    (∃ (s : State),
      Quiet s ∧ Frozen s ∧ s.halfBusy 1 = false ∧ s.resetPorts = [] ∧ s.regionSlices = [] ∧ s.msgs = [] ∧ s.market.cache = [] ∧ s.market.flows = [] ∧ s.seamUp = false ∧ s.inbound = [] ∧ (∀ k : Fin 4, s.txState k.val = txFree) ∧ (∀ x : Fin 8, s.rlState x.val = rlFree) ∧ (∀ c : Fin 28, s.ch c.val = chIdle) ∧ s.sessions = [] ∧ s.ops = []) ∧
    (∃ (s : State) (h : Half),
      Quiet s ∧ Frozen s ∧ s.resetHalves = [hix h] ∧ Word.bits (s.rd .FC_DOUSED) (hix h) 1 = 0 ∧ s.flag F.FC_STATUS_ASH = false ∧ s.hearthDown = false ∧ s.txns.lost = [] ∧ s.power.resetLow = false ∧ (∀ p : Port, s.flag F.PORT_SLOT_VALID p.val = false) ∧ (∀ k : Fin 4, s.txState k.val = txFree) ∧ (∀ x : Fin 8, s.rlState x.val = rlFree) ∧ s.sessions = [] ∧ s.ops = []) ∧
    (∃ (s : State) (p : Port),
      Quiet s ∧ Frozen s ∧ s.portBusy p.val = false ∧ s.isHostPort p.val = true ∧ s.msgs = [] ∧ s.market = {} ∧ s.flag F.MARGIN_STATUS_BUSY p.val = false ∧ s.holds = [] ∧ s.sessions = [] ∧ s.ops = []) ∧
    (∃ (s : State) (p : Port),
      Quiet s ∧ Frozen s ∧ s.resetPorts = [p.val] ∧ s.sessions = [] ∧ s.ops = []) :=
  ⟨⟨portIn 1 lsL0 95, by decide +kernel⟩,
   ⟨portIn 1 lsL0 95, by decide +kernel⟩,
   ⟨{ portIn 1 lsDetect 95 with resetHalves := [1] }, .west, by decide +kernel⟩,
   ⟨portIn 1 lsL0 95, 95, by decide +kernel⟩,
   ⟨{ portIn 1 lsDetect 95 with resetPorts := [95] }, 95, by decide +kernel⟩⟩

/-- States and operands that meet the hypotheses of `CountersAndSnapshots`, clause by clause. -/
theorem witness_CountersAndSnapshots :
    (∃ (s : State) (u : Fin 229),
      Quiet s) ∧
    (∃ (s : State) (u : Fin 229) (b : Bool),
      Quiet s) ∧
    (∃ (s : State) (b : Bool),
      Quiet s) ∧
    (∃ (s : State),
      Quiet s) ∧
    (∃ (s : State) (u : Fin 229) (i : Fin 8) (r : BitVec 48),
      Quiet s ∧ s.pmuRuns u.val = true ∧ s.flag F.PMU_EVSEL_EN u.val i.val = true) ∧
    (∃ (s : State),
      Quiet s ∧ s.flag F.SNAP_CTRL_EN = true ∧ s.below = [] ∧ s.snapBusy = false) ∧
    (∃ (s : State) (n : Nat) (m : Nat) (a : Nat) (e : List Nat),
      Quiet s ∧ s.telem.latched = some (n, m, e) ∧ s.hearthDown = false ∧ a = s.get F.SNAP_RING_BASE_V * 64 + 640 * s.get F.SNAP_HEAD_V ∧ 0x10000000 ≤ a ∧ a + 640 ≤ 0x11E00000 ∧ s.get F.SNAP_HEAD_V + 1 < s.get F.SNAP_RING_COUNT_V ∧ (∀ k : Fin 10, s.windowOf 0 95 (a + 64 * k.val) = none) ∧ e.length = 36 ∧ s.flag F.PMU_GLOBAL_FREEZE_ALL = true) ∧
    (∃ (s : State) (st : StallId),
      Quiet s ∧ s.hearthDown = false ∧ s.flag F.STALL_BIND_BOUND st.val = true) :=
  ⟨⟨((portIn 1 lsL0 3).put F.PMU_COUNT_V 9 228 7).put F.PMU_CYCLE_V 8 228, 228, by decide +kernel⟩,
   ⟨portIn 1 lsL0 3, 228, true, by decide +kernel⟩,
   ⟨portIn 1 lsL0 3, false, by decide +kernel⟩,
   ⟨((portIn 1 lsL0 3).put F.PMU_COUNT_V 9 228 7).put F.PMU_CYCLE_V 8 228, by decide +kernel⟩,
   ⟨(State.reset.put F.PMU_EVSEL_EN 1 228 7).put F.PMU_COUNT_V 5 228 7, 228, 7, 77, by decide +kernel⟩,
   ⟨((portIn 1 lsL0 3).put F.SNAP_CTRL_EN 1).put F.PMU_COUNT_V 9 216 7, by decide +kernel⟩,
   ⟨{ (((portIn 1 lsL0 3).put F.SNAP_RING_BASE_V (0x10001000 / 64)).put F.SNAP_RING_COUNT_V 8).put F.SNAP_HEAD_V 1 with telem := { latched := some (5, 6, List.replicate 36 3) } }, 5, 6, 0x10001000 + 640, List.replicate 36 3, by decide +kernel⟩,
   ⟨{ (((portIn 1 lsL0 3).put F.STALL_BIND_BOUND 1 4095).put F.STALL_RD_V 9 0 4095).put F.STALL_RD_V 4 1 4095 with telem := { baseline := [(4095, [3, 0, 0, 0])] } }, 4095, by decide +kernel⟩⟩

/-- States and operands that meet the hypotheses of `WearInterruptsAndClocks`, clause by clause. -/
theorem witness_WearInterruptsAndClocks :
    (∃ (s : State) (k : Fin 8) (e : BitVec 16) (v : BitVec 32),
      Quiet s ∧ s.rung = rungBlaze ∧ s.hearthDown = false ∧ s.flag F.FC_STATUS_ASH = false ∧ s.flag F.FEED_STATUS_BANK_REQ = false ∧ s.sessions = [] ∧ v.toNat ≠ 0 ∧ wearMet k.val v.toNat false = false ∧ s.flash.samples.length < 61440) ∧
    (∃ (s : State) (k : Fin 8) (e : BitVec 16) (v : BitVec 32),
      Quiet s ∧ s.rung = rungBlaze ∧ s.hearthDown = false ∧ s.flag F.FC_STATUS_ASH = false ∧ s.flag F.FEED_STATUS_BANK_REQ = false ∧ s.sessions = [] ∧ v.toNat ≠ 0 ∧ wearMet k.val v.toNat true = true ∧ s.flag F.WEAR_POLICY_AUTO_RETIRE = false ∧ s.flash.samples.length < 61440 ∧ s.flash.actions.length < 4096) ∧
    (∃ (s : State) (n : Fin 2048),
      Quiet s ∧ irqLatched n.val = true) ∧
    (∃ (s : State) (n : Fin 2048),
      Quiet s ∧ 1024 ≤ n.val) ∧
    (∃ (s : State) (n : Fin 2048),
      Quiet s ∧ 1024 ≤ n.val) ∧
    (∃ (s : State) (v : BitVec 32),
      Quiet s ∧ s.rung = rungBlaze) ∧
    (∃ (s : State),
      Quiet s) :=
  ⟨⟨portIn 1 lsL0 3, 4, 767, 99, by decide +kernel⟩,
   ⟨(portIn 1 lsL0 3).put F.WEAR_POLICY_AUTO_RETIRE 0, 5, 767, 2, by decide +kernel⟩,
   ⟨(portIn 1 lsL0 3).putLatched 2047 true, 2047, by decide +kernel⟩,
   ⟨portIn 1 lsL0 3, 1024, by decide +kernel⟩,
   ⟨(portIn 1 lsL0 3).putLatched 1024 true, 1024, by decide +kernel⟩,
   ⟨portIn 1 lsL0 3, 1126, by decide +kernel⟩,
   ⟨portIn 1 lsL0 3, by decide +kernel⟩⟩

/-- States and operands that meet the hypotheses of `CoresAndControlMemory`, clause by clause. -/
theorem witness_CoresAndControlMemory :
    (∃ (s : State) (c : Fin 17) (a : BitVec 64) (n : Fin 65),
      Quiet s ∧ Frozen s ∧ s.agentRuns (.core c) = true ∧ s.core c.val = {} ∧ s.queuedOf c.val = [] ∧ inScratchpad a.toNat = true ∧ inSealed a.toNat = false ∧ 1 ≤ n.val) ∧
    (∃ (s : State) (c : Fin 17) (a : BitVec 64) (d : List Byte),
      Quiet s ∧ Frozen s ∧ s.agentRuns (.core c) = true ∧ s.core c.val = {} ∧ s.queuedOf c.val = []) ∧
    (∃ (s : State) (c : Fin 17) (b : StoreEntry),
      Quiet s ∧ Frozen s ∧ s.hearth.cores = [(c.val, { buffer := [b] })] ∧ b.issued = false ∧ b.posted = false ∧ farHalf b.addr = none ∧ s.earlyAck b.addr false = false) ∧
    (∃ (s : State) (q : QueuedStore),
      Quiet s ∧ Frozen s ∧ s.hearth.queued = [q] ∧ s.hearth.cores = [] ∧ q.core < 17 ∧ q.retired = true ∧ q.applied = false ∧ 1 ≤ q.data.length ∧ q.data.length ≤ 64 ∧ inScratchpad q.addr = true) ∧
    (∃ (s : State) (c : Fin 17),
      Quiet s ∧ Frozen s ∧ s.agentRuns (.core c) = true ∧ s.core c.val = {} ∧ s.queuedOf c.val = []) ∧
    (∃ (s : State) (c : Fin 17) (a : BitVec 64) (n : Fin 65),
      Quiet s ∧ Frozen s ∧ s.agentRuns (.core c) = true ∧ s.core c.val = {} ∧ s.queuedOf c.val = [] ∧ inScratchpad a.toNat = true ∧ inSealed a.toNat = false ∧ 1 ≤ n.val) ∧
    (∃ (s : State) (c : Fin 17) (a : BitVec 64) (d : List Byte),
      Quiet s ∧ Frozen s ∧ s.agentRuns (.core c) = true ∧ s.core c.val = { reserved := some (a.toNat / 64) } ∧ s.queuedOf c.val = [] ∧ 1 ≤ d.length ∧ d.length ≤ 64 ∧ inScratchpad a.toNat = true ∧ inSealed a.toNat = false) ∧
    (∃ (s : State) (c : Fin 17) (a : BitVec 64) (d : List Byte),
      Quiet s ∧ Frozen s ∧ s.agentRuns (.core c) = true ∧ s.core c.val = {} ∧ s.queuedOf c.val = [] ∧ isNormal a.toNat = true) ∧
    (∃ (s : State),
      Quiet s ∧ Frozen s) ∧
    (∃ (s : State) (c : Fin 17),
      Quiet s ∧ Frozen s) :=
  ⟨⟨coreIn {}, 16, 0x10200000, 4, by decide +kernel⟩,
   ⟨coreIn {}, 16, 0x10200000, [1, 2], by decide +kernel⟩,
   ⟨(coreIn { buffer := [{ addr := 0x12000000, data := [1], posted := false }] }).put F.CM_EARLY_ACK_EMBER 0, 16, { addr := 0x12000000, data := [1], posted := false }, by decide +kernel⟩,
   ⟨{ coreIn {} with hearth := { queued := [coreStoreQ] } }, coreStoreQ, by decide +kernel⟩,
   ⟨coreIn {}, 16, by decide +kernel⟩,
   ⟨coreIn {}, 16, 0x10200000, 4, by decide +kernel⟩,
   ⟨coreIn { reserved := some (0x10200000 / 64) }, 16, 0x10200000, [9], by decide +kernel⟩,
   ⟨coreIn {}, 16, 0x12000000, [9], by decide +kernel⟩,
   ⟨(portIn 1 lsL0 3).put F.CM_IMPRECISE_ADDR_VALID 1, by decide +kernel⟩,
   ⟨{ portIn 1 lsL0 3 with hearth := { sems := [(16, 7), (3, 8)] } }, 16, by decide +kernel⟩⟩

/-- States and operands that meet the hypotheses of `FlueBridgeBanksAndWatchdog`, clause by clause. -/
theorem witness_FlueBridgeBanksAndWatchdog :
    (∃ (s : State) (h : Half) (q : QueuedStore),
      Quiet s ∧ Frozen s ∧ s.hearth.queued = [q] ∧ s.hearth.cores = [] ∧ farHalf q.addr = some (hix h) ∧ q.applied = true ∧ q.failed = false ∧ q.retired = true) ∧
    (∃ (s : State) (h : Half) (q : QueuedStore),
      Quiet s ∧ Frozen s ∧ s.hearth.queued = [q] ∧ s.hearth.cores = [] ∧ farHalf q.addr = some (hix h) ∧ q.posted = false ∧ q.retired = true ∧ s.flag F.FC_SRC_LATCHED (780 + hix h) = true ∧ s.flag F.CM_IMPRECISE_ADDR_VALID = false) ∧
    (∃ (s : State) (c : Fin 17),
      Quiet s ∧ Frozen s ∧ s.coreActive c.val = true ∧ s.coresActive = 16 ∧ s.coresRetired = 0 ∧ s.hearth.retiring = []) ∧
    (∃ (s : State),
      Quiet s ∧ Frozen s) ∧
    (∃ (s : State),
      Quiet s ∧ Frozen s ∧ s.flag F.WDT_CTRL_EN = true ∧ s.rung = rungBlaze ∧ s.hearthDown = false ∧ s.txns.fw = [] ∧ s.flag F.FC_SRC_LATCHED 780 = true ∧ s.flag F.FC_SRC_LATCHED 781 = true ∧ s.flag F.FC_SRC_LATCHED 787 = true ∧ s.flag F.HALF_STATE_HOLD 0 = false ∧ s.flag F.HALF_STATE_HOLD 1 = false ∧ (∀ k : Fin 4, s.txState k.val = txFree) ∧ s.sessions = [] ∧ s.ops = []) ∧
    (∃ (s : State) (b : Fin 16),
      Quiet s ∧ Frozen s ∧ s.flag F.SP_BANK_CTRL_RETAIN b.val = true) ∧
    (∃ (s : State) (b : Fin 16),
      Quiet s ∧ Frozen s ∧ s.flag F.SP_BANK_CTRL_RETAINED b.val = true) ∧
    (∃ (s : State) (b : Fin 16) (c : Fin 1024),
      Quiet s ∧ Frozen s ∧ s.flag F.SP_BANK_CTRL_REPAIR_BUSY b.val = false ∧ c.val ≤ 623 ∧ 0 < s.get (spareField c.val) b.val ∧ s.hearth.used.contains b.val = true) ∧
    (∃ (s : State) (b : Fin 16),
      Quiet s ∧ Frozen s) :=
  ⟨⟨{ coreIn {} with hearth := { queued := [{ core := 16, addr := 0x03000000, data := [1, 2, 3, 4], posted := false, retired := true, applied := true }] } }, .west, { core := 16, addr := 0x03000000, data := [1, 2, 3, 4], posted := false, retired := true, applied := true }, by decide +kernel⟩,
   ⟨{ (coreIn {}).put F.FC_SRC_LATCHED 1 781 with hearth := { queued := [{ core := 16, addr := 0x03000000, data := [1, 2, 3, 4], posted := false, retired := true, applied := true }] } }, .west, { core := 16, addr := 0x03000000, data := [1, 2, 3, 4], posted := false, retired := true, applied := true }, by decide +kernel⟩,
   ⟨(portIn 1 lsL0 3).wr .CORE_ACTIVE 0xFFFF, 15, by decide +kernel⟩,
   ⟨(portIn 1 lsL0 3).put F.FC_TIME_V 77, by decide +kernel⟩,
   ⟨((((portIn 1 lsL0 95).put F.FC_SRC_LATCHED 1 780).put F.FC_SRC_LATCHED 1 781).put F.FC_SRC_LATCHED 1 787).put F.WDT_CTRL_EN 1, by decide +kernel⟩,
   ⟨(coreIn { reserved := some (0x10200000 / 64) }).put F.SP_BANK_CTRL_RETAIN 1 1, 1, by decide +kernel⟩,
   ⟨(portIn 1 lsL0 3).put F.SP_BANK_CTRL_RETAINED 1 15, 15, by decide +kernel⟩,
   ⟨{ portIn 1 lsL0 3 with hearth := { used := [15] } }, 15, 623, by decide +kernel⟩,
   ⟨(portIn 1 lsL0 3).put F.SP_BANK_CTRL_REPAIR_BUSY 1 15, 15, by decide +kernel⟩⟩

/-- States and operands that meet the hypotheses of `SecurityAndRegisterWrites`, clause by clause. -/
theorem witness_SecurityAndRegisterWrites :
    (∃ (s : State) (n : Fin 4),
      Quiet s ∧ Frozen s ∧ s.flag F.FC_SRC_LATCHED 789 = true ∧ (∀ p : Port, s.get F.IDE_STATUS_RX p.val ≠ 2) ∧ (∀ p : Port, s.get F.IDE_STATUS_TX p.val ≠ 2) ∧ s.sessions = [] ∧ s.ops = []) ∧
    (∃ (s : State) (n : Fin 4),
      Quiet s ∧ Frozen s) ∧
    (∃ (s : State),
      Quiet s ∧ Frozen s ∧ s.sessions = []) ∧
    (∃ (s : State),
      Quiet s ∧ Frozen s ∧ s.rung = rungBlaze) ∧
    (∃ (s : State) (p : Port) (k : Lane) (on : Bool),
      Quiet s ∧ Frozen s ∧ s.rung = rungBlaze ∧ s.carriesBinding p.val = true) ∧
    (∃ (s : State) (a : BitVec 64) (n : Fin 65),
      Quiet s ∧ Frozen s ∧ s.rung = rungBlaze ∧ s.debugUnlocked = false) ∧
    (∃ (s : State) (i : BitVec 8),
      Quiet s ∧ Frozen s ∧ s.spdmRuns = true ∧ 1 ≤ i.toNat ∧ i.toNat ≤ 4) ∧
    (∃ (s : State),
      Quiet s ∧ Frozen s ∧ s.spdmRuns = true ∧ s.flag F.TAMPER_STATUS_TAMPER_LATCHED = false) ∧
    (∃ (s : State) (c : Fin 17) (d : List Byte),
      Quiet s ∧ Frozen s ∧ s.agentRuns (.core c) = true ∧ s.txns.lost = [] ∧ s.resetHalves = [] ∧ d.length = 4) :=
  ⟨⟨{ (portIn 1 lsL0 3).put F.FC_SRC_LATCHED 1 789 with mem := [(0x11EFFFFF, 1), (0x11F00000, 2)], sec := { spdm := [4] }, oldKeys := [3] }, 3, by decide +kernel⟩,
   ⟨(portIn 1 lsL0 3).wr .TAMPER_ACTIVE 15, 3, by decide +kernel⟩,
   ⟨(portIn 1 lsL0 3).put F.DEBUG_STATUS_UNLOCKED 1, by decide +kernel⟩,
   ⟨portIn 1 lsL0 3, by decide +kernel⟩,
   ⟨{ portIn 3 lsL0 3 with passed := [(7, 63, 95)] }, 95, 7, true, by decide +kernel⟩,
   ⟨(portIn 1 lsL0 3).put F.LC_STATE_V 1, 0x10000000, 4, by decide +kernel⟩,
   ⟨portIn 1 lsL0 3, 4, by decide +kernel⟩,
   ⟨portIn 1 lsL0 3, by decide +kernel⟩,
   ⟨coreIn {}, 16, [254, 255, 255, 255], by decide +kernel⟩⟩

/-- States and operands that meet the hypotheses of `SessionCommands`, clause by clause. -/
theorem witness_SessionCommands :
    (∃ (s : State) (h : EcpHdr) (x : Session),
      Quiet s ∧ Frozen s ∧ Takes s h x) ∧
    (∃ (s : State) (h : EcpHdr) (x : Session),
      Quiet s ∧ Frozen s ∧ Takes s h x) ∧
    (∃ (s : State) (h : EcpHdr) (x : Session) (n : BitVec 32),
      Quiet s ∧ Frozen s ∧ Takes s h x ∧ 256 ≤ n.toNat ∧ n.toNat ≤ 4096) ∧
    (∃ (s : State) (h : EcpHdr) (x : Session) (n : BitVec 32),
      Quiet s ∧ Frozen s ∧ Takes s h x ∧ x.perms.observe = true ∧ n.toNat < 2 ^ 12) ∧
    (∃ (s : State) (h : EcpHdr) (x : Session) (n : BitVec 32) (o : Operation),
      Quiet s ∧ Frozen s ∧ Takes s h x ∧ x.perms.observe = true ∧ s.operation n.toNat = some o) ∧
    (∃ (s : State) (h : EcpHdr) (x : Session) (n : BitVec 32) (o : Operation),
      Quiet s ∧ Frozen s ∧ Takes s h x ∧ s.operation n.toNat = some o ∧ o.session = x.id ∧ o.status ≠ .accepted) ∧
    (∃ (s : State) (h : EcpHdr) (x : Session) (n : BitVec 32) (o : Operation) (p : Port),
      Quiet s ∧ Frozen s ∧ Takes s h x ∧ s.ops = [o] ∧ o.id = n.toNat ∧ o.session = x.id ∧ o.status = .accepted ∧ o.kind = .marginLane p.val) ∧
    (∃ (s : State) (h : EcpHdr) (x : Session) (n : BitVec 32),
      Quiet s ∧ Frozen s ∧ Takes s h x ∧ x.perms.observe = true ∧ 56 ≤ x.replyLimit ∧ s.ops.length ≤ n.toNat + (x.replyLimit - 40) / 16) ∧
    (∃ (s : State) (h : EcpHdr) (x : Session),
      Quiet s ∧ Frozen s ∧ Takes s h x ∧ x.perms.observe = true) ∧
    (∃ (s : State) (h : EcpHdr) (x : Session),
      Quiet s ∧ Frozen s ∧ Takes s h x ∧ x.perms.observe = true) ∧
    (∃ (s : State) (h : EcpHdr) (x : Session) (f : Fin 15) (v : Nat),
      Quiet s ∧ Frozen s ∧ Takes s h x ∧ x.perms.lifecycle = true ∧ mgmtAllows f.val v = true ∧ f.val ≠ 8) ∧
    (∃ (s : State) (h : EcpHdr) (x : Session),
      Quiet s ∧ Frozen s ∧ Takes s h x ∧ (∀ k : Fin 4, (s.tx k.val).owner ≠ x.id) ∧ s.ops = []) :=
  ⟨⟨withMgr (portIn 1 lsL0 95), pkt, mgr, by decide +kernel⟩,
   ⟨withMgr (portIn 1 lsL0 95), pkt, mgr, by decide +kernel⟩,
   ⟨withMgr (portIn 1 lsL0 95), pkt, mgr, 256, by decide +kernel⟩,
   ⟨withMgr (portIn 1 lsL0 95), pkt, mgr, 4095, by decide +kernel⟩,
   ⟨{ withMgr (portIn 1 lsL0 95) with ops := [⟨6, .telemetry, 9, .faulted, 3⟩] }, pkt, mgr, 6, ⟨6, .telemetry, 9, .faulted, 3⟩, by decide +kernel⟩,
   ⟨{ withMgr (portIn 1 lsL0 95) with ops := [⟨6, .telemetry, 9, .faulted, 3⟩] }, pkt, mgr, 6, ⟨6, .telemetry, 9, .faulted, 3⟩, by decide +kernel⟩,
   ⟨{ withMgr ((portIn 1 lsL0 95).put F.MARGIN_STATUS_BUSY 1 95) with ops := [⟨6, .marginLane 95, 9, .accepted, 3⟩] }, pkt, mgr, 6, ⟨6, .marginLane 95, 9, .accepted, 3⟩, 95, by decide +kernel⟩,
   ⟨{ withMgr (portIn 1 lsL0 95) with ops := [⟨6, .telemetry, 9, .faulted, 3⟩, ⟨8, .telemetry, 9, .ok, 3⟩] }, pkt, mgr, 1, by decide +kernel⟩,
   ⟨{ withMgr (portIn 1 lsL0 95) with ecp := { malformed := 3, replayed := 7 } }, pkt, mgr, by decide +kernel⟩,
   ⟨withMgr (portIn 1 lsL0 95), pkt, mgr, by decide +kernel⟩,
   ⟨withMgr (portIn 1 lsL0 95), pkt, mgr, 14, 3600, by decide +kernel⟩,
   ⟨withMgr (portIn 1 lsL0 95), pkt, mgr, by decide +kernel⟩⟩

/-- States and operands that meet the hypotheses of `PacketsAndSessionTimes`, clause by clause. -/
theorem witness_PacketsAndSessionTimes :
    (∃ (s : State) (a : Nat) (p : Fin 65536),
      Quiet s ∧ Frozen s ∧ s.ecpRuns = true ∧ s.admits (.udp a p) = true) ∧
    (∃ (s : State) (h : EcpHdr) (x : Session) (n : BitVec 16),
      Quiet s ∧ Frozen s ∧ Takes s h x ∧ x.perms.observe = true ∧ ecpOpcodes.contains n.toNat = false) ∧
    (∃ (s : State),
      Quiet s ∧ Frozen s ∧ s.ecpRuns = true) ∧
    (∃ (s : State) (a : Nat) (i : Nat),
      Quiet s ∧ Frozen s ∧ s.ecpRuns = true) ∧
    (∃ (s : State) (a : Nat) (i : Nat),
      Quiet s ∧ Frozen s) ∧
    (∃ (s : State) (i : Fin 65536),
      Quiet s ∧ Frozen s) ∧
    (∃ (s : State) (i : Fin 65536) (x : Session),
      Quiet s ∧ Frozen s ∧ s.sessions = [x] ∧ x.id = i.val ∧ (∀ k : Fin 4, (s.tx k.val).owner ≠ x.id) ∧ s.ops = []) ∧
    (∃ (s : State) (a : Source),
      Quiet s ∧ Frozen s) ∧
    (∃ (s : State) (i : BitVec 32) (o : Operation) (l : List Operation),
      Quiet s ∧ Frozen s ∧ s.ops = o :: l ∧ o.id = i.toNat ∧ o.status ≠ .accepted ∧ (∀ y ∈ l, y.status ≠ .accepted) ∧ (∀ y ∈ l, y.id ≠ i.toNat) ∧ 256 ≤ l.length) ∧
    (∃ (s : State) (h : EcpHdr) (c : Fin 32) (n : BitVec 128) (a : Nat) (p : Fin 65536),
      Quiet s ∧ Frozen s ∧ s.ecpRuns = true ∧ s.ecp.release = none ∧ h.src = .udp a p ∧ s.admits h.src = true ∧ h.sess.val = 0 ∧ h.paramErr = none ∧ s.sec.recovery = false ∧ s.flag F.FC_STATUS_ASH = false ∧ s.power.verifying = false ∧ s.ecp.locked = [] ∧ s.sessions = [] ∧ s.ecp.opening = []) ∧
    (∃ (s : State) (h : EcpHdr) (q : PendingSession) (y : Credential) (l : List (Nat × Credential)),
      Quiet s ∧ Frozen s ∧ s.ecpRuns = true ∧ s.ecp.release = none ∧ s.admits h.src = true ∧ onCxl h.src = false ∧ s.ecp.opening = [q] ∧ q.id = h.sess.val ∧ q.source = h.src ∧ h.seq.toNat = 1 ∧ h.tagOk = true ∧ s.flash.credentials = (q.credential, y) :: l ∧ y.enabled = true ∧ s.sessions = [] ∧ q.id ≠ 0) :=
  ⟨⟨portIn 1 lsL0 3, 7, 1024, by decide +kernel⟩,
   ⟨withMgr (portIn 1 lsL0 95), pkt, mgr, 0x0C00, by decide +kernel⟩,
   ⟨portIn 1 lsL0 3, by decide +kernel⟩,
   ⟨portIn 1 lsL0 3, 5, 6, by decide +kernel⟩,
   ⟨{ portIn 1 lsL0 3 with ecp := { fragments := [(5, 6), (7, 8)] } }, 5, 6, by decide +kernel⟩,
   ⟨{ portIn 1 lsL0 3 with ecp := { opening := [⟨7, 1, .udp 5 6, 1, 2⟩] } }, 7, by decide +kernel⟩,
   ⟨withMgr (portIn 1 lsL0 95), 9, mgr, by decide +kernel⟩,
   ⟨{ portIn 1 lsL0 3 with ecp := { locked := [.udp 5 6] } }, .udp 5 6, by decide +kernel⟩,
   ⟨{ portIn 1 lsL0 3 with ops := ⟨6, .telemetry, 9, .faulted, 3⟩ :: List.replicate 256 ⟨8, .telemetry, 9, .ok, 3⟩ }, 6, ⟨6, .telemetry, 9, .faulted, 3⟩, List.replicate 256 ⟨8, .telemetry, 9, .ok, 3⟩, by decide +kernel⟩,
   ⟨portIn 1 lsL0 3, { pkt with sess := 0 }, 3, 77, 7, 1024, by decide +kernel⟩,
   ⟨{ portIn 1 lsL0 3 with ecp := { opening := [⟨9, 0, .udp 7 1024, 1, 2⟩] } }, { pkt with seq := 1 }, ⟨9, 0, .udp 7 1024, 1, 2⟩, ⟨0, ⟨true, true, true, true, true⟩, true⟩, [], by decide +kernel⟩⟩

/-- States and operands that meet the hypotheses of `PortCommands`, clause by clause. -/
theorem witness_PortCommands :
    (∃ (s : State) (h : EcpHdr) (x : Session) (p : Port),
      Quiet s ∧ Frozen s ∧ Takes s h x ∧ x.perms.observe = true ∧ s.txns.lost = [] ∧ s.resetHalves = []) ∧
    (∃ (s : State) (h : EcpHdr) (x : Session) (p : Port),
      Quiet s ∧ Frozen s ∧ Takes s h x ∧ x.perms.configure = true ∧ s.txns.lost = [] ∧ s.resetHalves = [] ∧ s.carriesBinding p.val = false ∧ s.linkState p.val = lsDisabled) ∧
    (∃ (s : State) (h : EcpHdr) (x : Session) (p : Port),
      Quiet s ∧ Frozen s ∧ Takes s h x ∧ x.perms.configure = true ∧ s.txns.lost = [] ∧ s.resetHalves = [] ∧ s.lanes.disabled.contains p.val = true ∧ s.linkState p.val = lsDisabled ∧ s.role p.val ≠ 0 ∧ s.scanned p.val = false) ∧
    (∃ (s : State) (h : EcpHdr) (x : Session) (p : Port),
      Quiet s ∧ Frozen s ∧ Takes s h x ∧ x.perms.configure = true ∧ s.txns.lost = [] ∧ s.resetHalves = [] ∧ s.isHeld p.val = true ∧ s.holds.contains (p.val, .command) = false ∧ s.linkState p.val = lsDetect) ∧
    (∃ (s : State) (h : EcpHdr) (x : Session) (p : Port),
      Quiet s ∧ Frozen s ∧ Takes s h x ∧ x.perms.configure = true ∧ s.txns.lost = [] ∧ s.resetHalves = [] ∧ s.holds = [(p.val, .command)]) ∧
    (∃ (s : State) (h : EcpHdr) (x : Session) (p : Port) (r : Nat),
      Quiet s ∧ Frozen s ∧ Takes s h x ∧ x.perms.configure = true ∧ s.txns.lost = [] ∧ s.resetHalves = [] ∧ s.linkState p.val = lsL0 ∧ s.isCascade p.val = false ∧ s.flag F.MARGIN_STATUS_BUSY p.val = false ∧ r = ((s.clearRateFailed p.val).nextRate p.val (s.get F.PHY_STATUS_CUR_RATE p.val)).getD ((s.clearRateFailed p.val).heldRate p.val (s.get F.PHY_STATUS_CUR_RATE p.val))) ∧
    (∃ (s : State) (h : EcpHdr) (x : Session) (p : Port),
      Quiet s ∧ Frozen s ∧ Takes s h x ∧ x.perms.configure = true ∧ s.running < 64 ∧ s.txns.lost = [] ∧ s.resetHalves = [] ∧ s.portBusy p.val = false ∧ s.isHostPort p.val = true ∧ s.msgs = [] ∧ s.market = {} ∧ s.flag F.MARGIN_STATUS_BUSY p.val = false ∧ s.holds = []) ∧
    (∃ (s : State) (h : EcpHdr) (x : Session) (p : Port),
      Quiet s ∧ Frozen s ∧ Takes s h x ∧ x.perms.configure = true ∧ s.txns.lost = [] ∧ s.resetHalves = [] ∧ s.linkState p.val = lsL0) ∧
    (∃ (s : State) (h : EcpHdr) (x : Session) (p : Port) (v : BitVec 32),
      Quiet s ∧ Frozen s ∧ Takes s h x ∧ x.perms.configure = true ∧ s.running < 64 ∧ s.txns.lost = [] ∧ s.resetHalves = [] ∧ s.linkState p.val = lsL0 ∧ s.flag F.MARGIN_STATUS_BUSY p.val = false) ∧
    (∃ (s : State) (h : EcpHdr) (x : Session) (p : Port) (k : Lane),
      Quiet s ∧ Frozen s ∧ Takes s h x ∧ x.perms.configure = true ∧ s.running < 64 ∧ s.txns.lost = [] ∧ s.resetHalves = [] ∧ s.ops = [] ∧ s.linkState p.val = lsDetect ∧ s.isCascade p.val = false ∧ s.bondedInto p.val = false ∧ s.flag F.LANE_RETIRE_RETIRE_BUSY p.val = false ∧ Word.bits (s.rd .LANE_RETIRE p.val) k.val 1 = 0) ∧
    (∃ (s : State) (h : EcpHdr) (x : Session) (p : Port) (v : BitVec 32),
      Quiet s ∧ Frozen s ∧ Takes s h x ∧ x.perms.configure = true ∧ s.txns.lost = [] ∧ s.resetHalves = [] ∧ s.linkState p.val = lsDisabled ∧ s.get F.LOOPBACK_CTRL_MODE p.val = 0 ∧ s.get F.LOOPBACK_CTRL_FOLLOW_EN p.val = 0 ∧ s.flag F.LOOPBACK_CTRL_REFUSED p.val = false ∧ v.toNat % 8 ≤ 3 ∧ v.toNat / 8 % 4 ≠ 0) :=
  ⟨⟨withMgr (portIn 1 lsL0 95), pkt, mgr, 95, by decide +kernel⟩,
   ⟨withMgr (portIn 1 lsDisabled 95), pkt, mgr, 95, by decide +kernel⟩,
   ⟨{ withMgr (portIn 1 lsDisabled 95) with lanes := { disabled := [95, 3] } }, pkt, mgr, 95, by decide +kernel⟩,
   ⟨{ withMgr (portIn 1 lsDetect 95) with holds := [(95, .viral)] }, pkt, mgr, 95, by decide +kernel⟩,
   ⟨{ withMgr (portIn 1 lsDetect 95) with holds := [(95, .command)] }, pkt, mgr, 95, by decide +kernel⟩,
   ⟨withMgr ((((portIn 2 lsL0 95).put F.PHY_STATUS_RATE_FAILED 9 95).put F.PARTNER_RATES_V 127 95).put F.PHY_CTRL_MAX_RATE 6 95), pkt, mgr, 95, 2, by decide +kernel⟩,
   ⟨withMgr (portIn 1 lsL0 95), pkt, mgr, 95, by decide +kernel⟩,
   ⟨withMgr ((portIn 2 lsL0 95).put F.LANE_STATUS_IN_USE 1 95 7), pkt, mgr, 95, by decide +kernel⟩,
   ⟨withMgr (portIn 1 lsL0 95), pkt, mgr, 95, 0x8403000F, by decide +kernel⟩,
   ⟨withMgr (portIn 1 lsDetect 95), pkt, mgr, 95, 7, by decide +kernel⟩,
   ⟨withMgr (portIn 1 lsDisabled 95), pkt, mgr, 95, 0x19, by decide +kernel⟩⟩

/-- States and operands that meet the hypotheses of `PartnerAndTransactionCommands`, clause by clause. -/
theorem witness_PartnerAndTransactionCommands :
    (∃ (s : State) (h : EcpHdr) (x : Session) (p : Port) (a : BitVec 64) (r : BitVec 32),
      Quiet s ∧ Frozen s ∧ Takes s h x ∧ x.perms.configure = true ∧ s.txns.lost = [] ∧ s.resetHalves = [] ∧ s.linkState p.val = lsL0 ∧ s.refuses p.val = false ∧ 3 ≤ s.role p.val ∧ s.role p.val ≤ 5) ∧
    (∃ (s : State) (h : EcpHdr) (x : Session) (p : Port) (l : Fin 16) (a : BitVec 52) (v : BitVec 32) (r : BitVec 32),
      Quiet s ∧ Frozen s ∧ Takes s h x ∧ x.perms.configure = true ∧ s.txns.lost = [] ∧ s.resetHalves = [] ∧ s.linkState p.val = lsL0 ∧ s.refuses p.val = false ∧ s.role p.val = 3 ∧ (s.deviceOf p.val l.val).isSome = true) ∧
    (∃ (s : State) (h : EcpHdr) (x : Session) (p : Port) (d : List Byte) (r : List Byte),
      Quiet s ∧ Frozen s ∧ Takes s h x ∧ x.perms.configure = true ∧ s.txns.lost = [] ∧ s.resetHalves = [] ∧ s.linkState p.val = lsL0 ∧ s.refuses p.val = false ∧ s.role p.val = 3) ∧
    (∃ (s : State) (h : EcpHdr) (x : Session) (p : Port) (l : Fin 16) (a : BitVec 52) (n : Fin 4001) (d : List Byte) (m : Nat) (v : Bool),
      Quiet s ∧ Frozen s ∧ Takes s h x ∧ x.perms.configure = true ∧ s.txns.lost = [] ∧ s.resetHalves = [] ∧ s.linkState p.val = lsL0 ∧ s.refuses p.val = false ∧ s.role p.val = 3 ∧ s.deviceOf p.val l.val = some (m, v) ∧ a.toNat + n.val ≤ m * 2 ^ 20 ∧ d.length = n.val ∧ s.stallsDefined = []) ∧
    (∃ (s : State) (h : EcpHdr) (x : Session) (k : Nat),
      Quiet s ∧ Frozen s ∧ Takes s h x ∧ x.perms.configure = true ∧ s.freeTxn = some k) ∧
    (∃ (s : State) (h : EcpHdr) (x : Session) (k : Fin 4) (e : RegItem) (y : Key) (v : Nat) (m : Nat),
      Quiet s ∧ Frozen s ∧ Takes s h x ∧ x.perms.configure = true ∧ s.txState k.val = txOpen ∧ k.val ≠ 3 ∧ (s.tx k.val).owner = x.id ∧ itemAt e = some (y, v, m) ∧ writeAllowed y v m = true ∧ (s.tx k.val).writes.length < 16384) ∧
    (∃ (s : State) (h : EcpHdr) (x : Session) (k : Fin 4) (e : Entry) (y : Key) (v : Nat),
      Quiet s ∧ Frozen s ∧ Takes s h x ∧ x.perms.configure = true ∧ s.txState k.val = txOpen ∧ k.val ≠ 3 ∧ (s.tx k.val).owner = x.id ∧ entryAt e = some [(y, v)] ∧ writeAllowed y v y.reg.txnMask = true ∧ (s.tx k.val).entries.length < 4096) ∧
    (∃ (s : State) (h : EcpHdr) (x : Session) (k : Fin 4) (a : BitVec 64) (y : Key),
      Quiet s ∧ Frozen s ∧ Takes s h x ∧ x.perms.configure = true ∧ s.txState k.val ≠ txFree ∧ k.val ≠ 3 ∧ (s.tx k.val).owner = x.id ∧ regAt a.toNat = some (y, 0) ∧ y.reg.txnMask ≠ 0) ∧
    (∃ (s : State) (h : EcpHdr) (x : Session) (k : Fin 4),
      Quiet s ∧ Frozen s ∧ Takes s h x ∧ x.perms.configure = true ∧ s.running < 64 ∧ s.txState k.val = txOpen ∧ k.val ≠ 3 ∧ (s.tx k.val).owner = x.id ∧ s.refusing = false ∧ (s.tx k.val).shadow ≠ [] ∧ s.inspects k.val = [] ∧ contextsIn ((s.tx k.val).shadow.map Prod.fst) = []) ∧
    (∃ (s : State) (h : EcpHdr) (x : Session) (k : Fin 4),
      Quiet s ∧ Frozen s ∧ Takes s h x ∧ x.perms.configure = true ∧ s.running < 64 ∧ s.ops = [] ∧ s.txState k.val = txOpen ∧ k.val ≠ 3 ∧ (s.tx k.val).owner = x.id ∧ s.refusing = false ∧ (s.tx k.val).shadow = []) ∧
    (∃ (s : State) (h : EcpHdr) (x : Session) (k : Fin 4),
      Quiet s ∧ Frozen s ∧ Takes s h x ∧ x.perms.configure = true ∧ s.txState k.val = txOpen ∧ k.val ≠ 3 ∧ (s.tx k.val).owner = x.id) ∧
    (∃ (s : State) (h : EcpHdr) (x : Session),
      Quiet s ∧ Frozen s ∧ Takes s h x ∧ x.perms.observe = true) ∧
    (∃ (s : State) (h : EcpHdr) (x : Session) (e : RegItem),
      Quiet s ∧ Frozen s ∧ Takes s h x ∧ x.perms.configure = true ∧ e.addr = 0x00021000 ∧ e.wide = false ∧ e.mask = 3) :=
  ⟨⟨withMgr (portIn 4 lsL0 95), pkt, mgr, 95, 0x40, 7, by decide +kernel⟩,
   ⟨withMgr memPort, pkt, mgr, 95, 1, 0x40, 9, 0, by decide +kernel⟩,
   ⟨withMgr memPort, pkt, mgr, 95, [1], [2, 3], by decide +kernel⟩,
   ⟨withMgr memPort, pkt, mgr, 95, 1, 0x40, 2, [5, 6], 65536, false, by decide +kernel⟩,
   ⟨withMgr ((portIn 1 lsL0 95).put F.TXSLOT_STATE_STATE txOpen 0), pkt, mgr, 1, by decide +kernel⟩,
   ⟨withMgr (((portIn 1 lsL0 95).put F.TXSLOT_STATE_STATE txOpen 2).setTx 2 { owner := 9 }), pkt, mgr, 2, ⟨BitVec.ofNat 64 (Key.addr ⟨.STALL_SERIAL, 4095, 0⟩), 3, 255, true⟩, ⟨.STALL_SERIAL, 4095, 0⟩, 3, 255, by decide +kernel⟩,
   ⟨withMgr (((portIn 1 lsL0 95).put F.TXSLOT_STATE_STATE txOpen 2).setTx 2 { owner := 9 }), pkt, mgr, 2, ⟨2, BitVec.ofNat 32 (Key.addr ⟨.STALL_SLICE, 4095, 15⟩), leBytes 8 (2 ^ 63 + 5 * 2 ^ 48)⟩, ⟨.STALL_SLICE, 4095, 15⟩, 2 ^ 63 + 5 * 2 ^ 48, by decide +kernel⟩,
   ⟨withMgr (((portIn 1 lsL0 95).put F.TXSLOT_STATE_STATE txOpen 2).setTx 2 { owner := 9, shadow := [(⟨.STALL_SLICE, 4095, 15⟩, 77)] }), pkt, mgr, 2, BitVec.ofNat 64 (Key.addr ⟨.STALL_SLICE, 4095, 15⟩), ⟨.STALL_SLICE, 4095, 15⟩, by decide +kernel⟩,
   ⟨withMgr (((portIn 1 lsL0 95).put F.TXSLOT_STATE_STATE txOpen 2).setTx 2 { owner := 9, shadow := [(⟨.STALL_SLICE, 4095, 15⟩, 77)] }), pkt, mgr, 2, by decide +kernel⟩,
   ⟨withMgr (((portIn 1 lsL0 95).put F.TXSLOT_STATE_STATE txOpen 2).setTx 2 { owner := 9 }), pkt, mgr, 2, by decide +kernel⟩,
   ⟨withMgr (((portIn 1 lsL0 95).put F.TXSLOT_STATE_STATE txOpen 2).setTx 2 { owner := 9 }), pkt, mgr, 2, by decide +kernel⟩,
   ⟨withMgr (portIn 1 lsL0 95), pkt, mgr, by decide +kernel⟩,
   ⟨withMgr (portIn 1 lsL0 95), pkt, mgr, ⟨0x00021000, 2, 3, false⟩, by decide +kernel⟩⟩

/-- States and operands that meet the hypotheses of `StallCommands`, clause by clause. -/
theorem witness_StallCommands :
    (∃ (s : State) (h : EcpHdr) (x : Session) (st : StallId),
      Quiet s ∧ Frozen s ∧ Takes s h x ∧ x.perms.observe = true ∧ s.txns.lost = [] ∧ s.resetHalves = []) ∧
    (∃ (s : State) (h : EcpHdr) (x : Session) (n : BitVec 32),
      Quiet s ∧ Frozen s ∧ Takes s h x ∧ x.perms.observe = true ∧ 4095 ≤ n.toNat ∧ 56 ≤ x.replyLimit) ∧
    (∃ (s : State) (h : EcpHdr) (x : Session) (st : StallId),
      Quiet s ∧ Frozen s ∧ Takes s h x ∧ x.perms.configure = true ∧ s.txns.lost = [] ∧ s.resetHalves = [] ∧ s.stall st.val = stBound ∧ s.erasing st.val = false) ∧
    (∃ (s : State) (h : EcpHdr) (x : Session) (st : StallId),
      Quiet s ∧ Frozen s ∧ Takes s h x ∧ x.perms.configure = true ∧ s.running < 64 ∧ s.flag F.STALL_CTRL_DEFINED st.val = true ∧ s.stall st.val ≠ stResetting ∧ (∀ y : Fin 8, s.rlState y.val = rlFree)) ∧
    (∃ (s : State) (h : EcpHdr) (x : Session) (st : StallId),
      Quiet s ∧ Frozen s ∧ Takes s h x ∧ x.perms.configure = true ∧ s.stall st.val = stFailed ∧ s.flag F.STALL_BIND_BOUND st.val = true ∧ s.quenchSet st.val = false ∧ s.portNotBack (s.slicePorts st.val) = none ∧ s.swapped = []) ∧
    (∃ (s : State) (h : EcpHdr) (x : Session) (st : StallId),
      Quiet s ∧ Frozen s ∧ Takes s h x ∧ x.perms.configure = true ∧ s.running < 64 ∧ s.ops = [] ∧ s.flag F.STALL_CTRL_DEFINED st.val = true ∧ s.stall st.val = stBound) ∧
    (∃ (s : State) (h : EcpHdr) (x : Session) (st : StallId) (n : BitVec 32) (d : List Byte),
      Quiet s ∧ Frozen s ∧ Takes s h x ∧ x.perms.configure = true ∧ tabFind st.val s.ecp.records = some d ∧ 45 ≤ x.replyLimit ∧ d.length ≤ n.toNat + (min (x.replyLimit - 4) 4072 - 40)) ∧
    (∃ (s : State) (h : EcpHdr) (x : Session) (st : StallId) (n : BitVec 32) (d : List Byte),
      Quiet s ∧ Frozen s ∧ Takes s h x ∧ x.perms.configure = true ∧ n.toNat ≤ (numGet [] st.val s.ecp.staging).length ∧ n.toNat + d.length ≤ 16384) ∧
    (∃ (s : State) (h : EcpHdr) (x : Session) (st : StallId) (d : List Byte),
      Quiet s ∧ Frozen s ∧ Takes s h x ∧ x.perms.configure = true ∧ s.running < 64 ∧ s.txState 3 = txFree ∧ s.txns.fw = [] ∧ tabFind st.val s.ecp.staging = some d) ∧
    (∃ (s : State) (h : EcpHdr) (x : Session) (n : BitVec 32) (d : DeviceRecord),
      Quiet s ∧ Frozen s ∧ Takes s h x ∧ x.perms.observe = true ∧ n.toNat = 0 ∧ s.inventory = [d] ∧ 168 ≤ x.replyLimit) ∧
    (∃ (s : State) (h : EcpHdr) (x : Session) (p : Port) (a : BitVec 64) (n : BitVec 32) (r : DevRange),
      Quiet s ∧ Frozen s ∧ Takes s h x ∧ x.perms.configure = true ∧ s.running < 64 ∧ a.toNat / 2 ^ 52 % 256 = 0 ∧ s.ranges = [r] ∧ r.quarantined = true ∧ r.inSpan p.val (a.toNat / 2 ^ 60) (a.toNat % 2 ^ 52) n.toNat = true) :=
  ⟨⟨withMgr (portIn 1 lsL0 95), pkt, mgr, 4095, by decide +kernel⟩,
   ⟨withMgr (portIn 1 lsL0 95), pkt, mgr, 4095, by decide +kernel⟩,
   ⟨withMgr ((portIn 1 lsL0 95).put F.STALL_STATE_STATE stBound 4095), pkt, mgr, 4095, by decide +kernel⟩,
   ⟨withMgr (((portIn 1 lsL0 95).put F.STALL_STATE_STATE stBound 4095).put F.STALL_CTRL_DEFINED 1 4095), pkt, mgr, 4095, by decide +kernel⟩,
   ⟨withMgr (((portIn 1 lsL0 95).put F.STALL_STATE_STATE stFailed 4095).put F.STALL_BIND_BOUND 1 4095), pkt, mgr, 4095, by decide +kernel⟩,
   ⟨withMgr (((portIn 1 lsL0 95).put F.STALL_STATE_STATE stBound 4095).put F.STALL_CTRL_DEFINED 1 4095), pkt, mgr, 4095, by decide +kernel⟩,
   ⟨{ withMgr (portIn 1 lsL0 95) with ecp := { records := [(4095, [1, 2, 3])] } }, pkt, mgr, 4095, 1, [1, 2, 3], by decide +kernel⟩,
   ⟨{ withMgr (portIn 1 lsL0 95) with ecp := { staging := [(4095, [1, 2, 3])] } }, pkt, mgr, 4095, 1, [9], by decide +kernel⟩,
   ⟨{ withMgr (portIn 1 lsL0 95) with ecp := { staging := [(4095, [1])] } }, pkt, mgr, 4095, [1], by decide +kernel⟩,
   ⟨withMgr memPort, pkt, mgr, 0, { port := 95, serial := 7, capacities := [65536, 65536], persistent := false }, by decide +kernel⟩,
   ⟨{ withMgr memPort with ranges := [⟨95, 0, 256, 256, 4, true, none, none, false⟩] }, pkt, mgr, 95, 0x10000000, 0x100, ⟨95, 0, 256, 256, 4, true, none, none, false⟩, by decide +kernel⟩⟩

/-- States and operands that meet the hypotheses of `WindowAndSwitchCommands`, clause by clause. -/
theorem witness_WindowAndSwitchCommands :
    (∃ (s : State) (h : EcpHdr) (x : Session) (c : HostId),
      Quiet s ∧ Frozen s ∧ Takes s h x ∧ x.perms.configure = true ∧ s.txns.lost = [] ∧ s.resetHalves = [] ∧ s.applying = false) ∧
    (∃ (s : State) (h : EcpHdr) (x : Session) (c : HostId) (e : Entry) (w : Fin 256) (u : Nat) (v : Nat) (y : Nat),
      Quiet s ∧ Frozen s ∧ Takes s h x ∧ x.perms.configure = true ∧ s.txns.lost = [] ∧ s.resetHalves = [] ∧ e.kind = 0 ∧ entryAt e = some [(⟨.WIN_BASE, c.val, w.val⟩, u), (⟨.WIN_SIZE, c.val, w.val⟩, v), (⟨.WIN_ATTR, c.val, w.val⟩, y)] ∧ s.flag F.CHK_CTRL_EN c.val = false) ∧
    (∃ (s : State) (h : EcpHdr) (x : Session) (p : Port),
      Quiet s ∧ Frozen s ∧ Takes s h x ∧ x.perms.observe = true ∧ s.isHostPort p.val = true) ∧
    (∃ (s : State) (h : EcpHdr) (x : Session) (p : Port) (v : Vdsp) (st : StallId),
      Quiet s ∧ Frozen s ∧ Takes s h x ∧ x.perms.configure = true ∧ s.running < 64 ∧ s.txState 3 = txFree ∧ s.txns.fw = [] ∧ s.regionsValid = [] ∧ s.role p.val = 1 ∧ (List.range 32).find? (fun d => !s.flag F.DEC_CTRL_VALID (s.get F.PORT_CFG_HOST_ID p.val) d) = some 0 ∧ (List.range 256).find? (fun w => !s.flag F.WIN_BASE_VALID (s.get F.PORT_CFG_HOST_ID p.val) w) = some 0) ∧
    (∃ (s : State) (h : EcpHdr) (x : Session) (p : Port) (v : Vdsp) (k : Nat),
      Quiet s ∧ Frozen s ∧ Takes s h x ∧ x.perms.configure = true ∧ s.running < 64 ∧ s.txState 3 = txFree ∧ s.txns.fw = [] ∧ s.isHostPort p.val = true ∧ s.stallAt (s.get F.PORT_CFG_HOST_ID p.val) v.val = some k ∧ s.regionsValid = []) ∧
    (∃ (s : State) (h : EcpHdr) (x : Session) (p : Port) (v : Vdsp) (q : Port),
      Quiet s ∧ Frozen s ∧ Takes s h x ∧ x.perms.configure = true ∧ s.running < 64 ∧ s.ops = [] ∧ s.isHostPort p.val = true ∧ s.stallAt (s.get F.PORT_CFG_HOST_ID p.val) v.val = none ∧ s.passed = [(s.get F.PORT_CFG_HOST_ID p.val, v.val, q.val)] ∧ s.refusing = false) ∧
    (∃ (s : State) (h : EcpHdr) (x : Session) (p : Port) (v : BitVec 32) (d : List Byte),
      Quiet s ∧ Frozen s ∧ Takes s h x ∧ x.perms.configure = true ∧ s.isHostPort p.val = true) :=
  ⟨⟨withMgr (portIn 1 lsL0 95), pkt, mgr, 94, by decide +kernel⟩,
   ⟨withMgr ((portIn 1 lsL0 95).put F.CHK_CTRL_EN 0 94), pkt, mgr, 94, ⟨0, BitVec.ofNat 32 (Key.addr ⟨.WIN_BASE, 94, 255⟩), leBytes 4 0x80000005 ++ leBytes 4 6 ++ leBytes 4 7⟩, 255, 0x80000005, 6, 7, by decide +kernel⟩,
   ⟨{ withMgr (portIn 1 lsL0 95) with passed := [(127, 63, 3)] }, pkt, mgr, 95, by decide +kernel⟩,
   ⟨withMgr (portIn 1 lsL0 95), pkt, mgr, 95, 63, 4095, by decide +kernel⟩,
   ⟨withMgr (((((portIn 1 lsL0 95).put F.STALL_CTRL_DEFINED 1 4095).put F.STALL_BIND_BOUND 1 4095).put F.STALL_BIND_HOST 127 4095).put F.STALL_BIND_VDSP 63 4095), pkt, mgr, 95, 63, 4095, by decide +kernel⟩,
   ⟨{ withMgr (portIn 1 lsL0 95) with passed := [(127, 63, 3)] }, pkt, mgr, 95, 63, 3, by decide +kernel⟩,
   ⟨withMgr (portIn 1 lsL0 95), pkt, mgr, 95, 7, [1, 2], by decide +kernel⟩⟩

/-- States and operands that meet the hypotheses of `RegionAndChannelCommands`, clause by clause. -/
theorem witness_RegionAndChannelCommands :
    (∃ (s : State) (h : EcpHdr) (x : Session) (r : Fin 256),
      Quiet s ∧ Frozen s ∧ Takes s h x ∧ x.perms.observe = true ∧ s.txns.lost = [] ∧ s.resetHalves = []) ∧
    (∃ (s : State) (h : EcpHdr) (x : Session) (r : Fin 256),
      Quiet s ∧ Frozen s ∧ Takes s h x ∧ x.perms.configure = true ∧ s.running < 64 ∧ s.flag F.REGION_CTRL_VALID r.val = true ∧ s.portNotBack (s.recoverPorts r.val) = none ∧ s.sliceSwapped true r.val = false) ∧
    (∃ (s : State) (h : EcpHdr) (x : Session) (r : Fin 256) (c : HostId),
      Quiet s ∧ Frozen s ∧ Takes s h x ∧ x.perms.configure = true ∧ s.running < 64 ∧ s.txns.lost = [] ∧ s.resetHalves = [] ∧ s.flag F.REGION_CTRL_VALID r.val = true ∧ s.fenced r.val c.val = true ∧ s.market.recalls.contains (r.val, c.val) = false ∧ s.market.cache = []) ∧
    (∃ (s : State) (h : EcpHdr) (x : Session) (a : Half),
      Quiet s ∧ Frozen s ∧ Takes s h x ∧ x.perms.configure = true ∧ s.running < 64 ∧ s.txns.lost = [] ∧ s.resetHalves = [] ∧ s.flag F.COH_STATUS_FLUSHING (hix a) = false ∧ s.market.cache = []) ∧
    (∃ (s : State) (h : EcpHdr) (x : Session) (c : Fin 28) (a : BitVec 64),
      Quiet s ∧ Frozen s ∧ Takes s h x ∧ x.perms.configure = true ∧ s.running < 64 ∧ s.txns.lost = [] ∧ s.resetHalves = [] ∧ s.flag F.CH_CFG_PRIV_OK c.val = false ∧ s.ch c.val = chIdle ∧ a.toNat % 64 = 0 ∧ a.toNat < 2 ^ 52 ∧ s.chPauses c.val = false ∧ s.irqTouch (192 + c.val) = s) ∧
    (∃ (s : State) (h : EcpHdr) (x : Session) (c : Fin 28),
      Quiet s ∧ Frozen s ∧ Takes s h x ∧ x.perms.observe = true ∧ s.txns.lost = [] ∧ s.resetHalves = []) ∧
    (∃ (s : State) (h : EcpHdr) (x : Session) (c : Fin 28) (b : Bool),
      Quiet s ∧ Frozen s ∧ Takes s h x ∧ x.perms.configure = true ∧ s.txns.lost = [] ∧ s.resetHalves = [] ∧ s.ch c.val ≠ chWaiting ∧ s.ch c.val ≠ chPaused) ∧
    (∃ (s : State) (h : EcpHdr) (x : Session) (c : Fin 28) (p : Nat),
      Quiet s ∧ Frozen s ∧ Takes s h x ∧ x.perms.configure = true ∧ s.txns.lost = [] ∧ s.resetHalves = [] ∧ s.ch c.val = chIdle ∧ (List.range 16).find? (fun k => Word.bits (s.rd .PORTER_PHYS (c.val / 14)) (F.PORTER_PHYS_ACTIVE.lo + k) 1 == 0 && Word.bits (s.rd .PORTER_PHYS (c.val / 14)) (F.PORTER_PHYS_RETIRED.lo + k) 1 == 0) = some p) :=
  ⟨⟨withMgr (portIn 1 lsL0 95), pkt, mgr, 255, by decide +kernel⟩,
   ⟨{ withMgr (((portIn 3 lsL0 95).put F.REGION_CTRL_VALID 1 255).put F.REGION_STATUS_RECOVERING 0x8000 255 |>.put F.REGION_SLICE_PORT 95 255 15) with inventory := [{ port := 95, serial := 7, capacities := [65536], persistent := false }] }, pkt, mgr, 255, by decide +kernel⟩,
   ⟨withMgr (((portIn 3 lsL0 95).put F.REGION_CTRL_VALID 1 255).setFence 255 63 true), pkt, mgr, 255, 63, by decide +kernel⟩,
   ⟨withMgr (portIn 1 lsL0 95), pkt, mgr, .west, by decide +kernel⟩,
   ⟨withMgr (((chanIn chIdle {}).put F.CH_DOORBELL_V 7 27)), pkt, mgr, 27, 0x000FFFFFFFFFFFC0, by decide +kernel⟩,
   ⟨withMgr (portIn 1 lsL0 95), pkt, mgr, 27, by decide +kernel⟩,
   ⟨withMgr (chanIn chRunning {}), pkt, mgr, 27, true, by decide +kernel⟩,
   ⟨withMgr (chanIn chIdle {}), pkt, mgr, 27, 14, by decide +kernel⟩⟩

/-- States and operands that meet the hypotheses of `RelocationCommands`, clause by clause. -/
theorem witness_RelocationCommands :
    (∃ (s : State) (h : EcpHdr) (x : Session) (o : BitVec 64) (d : BitVec 64) (l : BitVec 64) (b : Bool) (c : Nat),
      Quiet s ∧ Frozen s ∧ Takes s h x ∧ x.perms.configure = true ∧ s.running < 64 ∧ s.startCtx (relocStart o.toNat d.toNat l.toNat b) = some c ∧ s.txState 3 = txFree ∧ s.txns.fw = [] ∧ s.txns.lost = [] ∧ s.resetHalves = []) ∧
    (∃ (s : State) (h : Half) (o : BitVec 64) (d : BitVec 64) (l : BitVec 64) (b : Bool) (c : Fin 8) (n : Nat) (q : Operation),
      Quiet s ∧ Frozen s ∧ s.applySlot = some 3 ∧ s.txState 3 = txApplying ∧ (s.tx 3).stepOf (hix h) = some .applied ∧ (s.tx 3).stepOf (1 - hix h) = some .toldApplied ∧ (s.tx 3).halves.map Prod.fst = [0, 1] ∧ (s.tx 3).fw = some (.relocStart n (relocStart o.toNat d.toNat l.toNat b)) ∧ (s.tx 3).shadow = s.startItems (relocStart o.toNat d.toNat l.toNat b) c.val ∧ (s.tx 3).redo = s.startItems (relocStart o.toNat d.toNat l.toNat b) c.val ∧ o.toNat / 2 ^ 30 % 2 = 0 ∧ d.toNat / 2 ^ 63 = 1 ∧ d.toNat / 2 ^ 48 % 128 < 96 ∧ s.rlState c.val = rlFree ∧ s.ops = [q] ∧ q.id = n ∧ s.msgs = [] ∧ s.txns.deferred = [] ∧ s.txns.queue = [] ∧ s.txns.fw = [] ∧ s.power.warmWaits = none ∧ s.sessions = [] ∧ (∀ c : Fin 28, s.ch c.val = chIdle)) ∧
    (∃ (s : State) (h : EcpHdr) (x : Session) (y : Fin 8),
      Quiet s ∧ Frozen s ∧ Takes s h x ∧ x.perms.configure = true ∧ s.rlState y.val = rlSynced ∧ s.flag F.RELOC_OBJECT_MARKET y.val = false ∧ s.flag F.RELOC_OBJECT_REMOTE y.val = true ∧ s.refusing = false ∧ s.fwHas (.relocCommit y.val) = false) ∧
    (∃ (s : State) (h : EcpHdr) (x : Session) (y : Fin 8),
      Quiet s ∧ Frozen s ∧ Takes s h x ∧ x.perms.configure = true ∧ s.rlState y.val = rlSynced ∧ s.flag F.RELOC_OBJECT_MARKET y.val = false ∧ s.flag F.RELOC_OBJECT_REMOTE y.val = false ∧ s.refusing = false ∧ s.txState 3 = txFree ∧ s.txns.fw = [] ∧ s.fwHas (.relocCommit y.val) = false) ∧
    (∃ (s : State) (y : Fin 8),
      Quiet s ∧ Frozen s ∧ s.txState 3 = txValidating ∧ (s.tx 3).fw = some (.relocCommit y.val) ∧ (s.tx 3).recalls = [] ∧ (s.tx 3).validations < 8 ∧ s.rlState y.val = rlSynced ∧ (s.setTx 3 { s.tx 3 with shadow := s.rlItems y.val, writes := (s.rlItems y.val).map Prod.fst }).commitCheck 3 = none ∧ s.sessions = [] ∧ s.power.warmWaits = none ∧ (∀ c : Fin 28, s.ch c.val = chIdle)) ∧
    (∃ (s : State) (h : EcpHdr) (x : Session) (y : Fin 8) (o : Operation),
      Quiet s ∧ Frozen s ∧ Takes s h x ∧ x.perms.configure = true ∧ s.rlState y.val = rlCopying ∧ s.rlNeedsReverse y.val = false ∧ (s.reloc y.val).back = false ∧ s.msgs = [] ∧ s.ops = [o] ∧ o.kind = .relocation y.val ∧ o.status = .accepted ∧ o.session = x.id) ∧
    (∃ (s : State) (h : EcpHdr) (x : Session) (y : Fin 8) (b : Bool),
      Quiet s ∧ Frozen s ∧ Takes s h x ∧ x.perms.configure = true ∧ s.rlState y.val ≠ rlFree ∧ s.rlState y.val ≠ rlPaused) ∧
    (∃ (s : State) (h : EcpHdr) (x : Session) (y : Fin 8),
      Quiet s ∧ Frozen s ∧ Takes s h x ∧ x.perms.configure = true ∧ s.rlState y.val = rlStopped ∧ (s.reloc y.val).back = false ∧ s.portNotBack [s.get F.RELOC_SRC_PORT y.val] = none ∧ s.swapped.contains (s.rlSlice y.val) = false ∧ s.msgs = []) ∧
    (∃ (s : State) (h : EcpHdr) (x : Session) (y : Fin 8),
      Quiet s ∧ Frozen s ∧ Takes s h x ∧ x.perms.observe = true ∧ s.txns.lost = [] ∧ s.resetHalves = []) ∧
    (∃ (s : State) (h : EcpHdr) (x : Session) (p : Port) (q : Port) (l : Fin 16) (a : BitVec 24) (u : BitVec 24) (f : BitVec 32) (m : Nat) (k : Bool),
      Quiet s ∧ Frozen s ∧ Takes s h x ∧ x.perms.configure = true ∧ s.running < 64 ∧ s.isCascade p.val = true ∧ s.role q.val = 3 ∧ u ≠ 0 ∧ s.deviceOf q.val l.val = some (m, k) ∧ 256 * a.toNat + 256 * u.toNat ≤ m ∧ s.ranges = [] ∧ s.refusing = false ∧ s.inbound = [] ∧ (s.ownedRanges ++ s.targetRanges).any (fun y => (DevRange.placed { port := q.val, ld := l.val, start := 256 * a.toNat, len := 256 * u.toNat } 0).meets y) = false) :=
  ⟨⟨withMgr ((((((((portIn 3 lsL0 95).put F.PORT_CFG_ROLE 3 3).put F.PHY_STATUS_LINK_STATE lsL0 3)).put F.STALL_SLICE_VALID 1 7).put F.STALL_SLICE_PORT 3 7).put F.STALL_LAYOUT_CAP 7 7).put F.STALL_STATE_STATE stBound 7), pkt, mgr, 7, 0x805F000000000000, 0, true, 4, by decide +kernel⟩,
   ⟨{ (((((((((portIn 3 lsL0 95).put F.PORT_CFG_ROLE 3 3).put F.PHY_STATUS_LINK_STATE lsL0 3)).put F.STALL_SLICE_VALID 1 7).put F.STALL_SLICE_PORT 3 7).put F.STALL_LAYOUT_CAP 7 7).put F.TXSLOT_STATE_STATE txApplying 3).put F.JOURNAL_EPOCH_V 2 3).setTx 3 { fw := some (.relocStart 6 (relocStart 7 0x805F000000000000 0 true)), halves := [(0, .toldApplied), (1, .applied)], shadow := (((((((((portIn 3 lsL0 95).put F.PORT_CFG_ROLE 3 3).put F.PHY_STATUS_LINK_STATE lsL0 3)).put F.STALL_SLICE_VALID 1 7).put F.STALL_SLICE_PORT 3 7).put F.STALL_LAYOUT_CAP 7 7)).startItems (relocStart 7 0x805F000000000000 0 true) 4), redo := (((((((((portIn 3 lsL0 95).put F.PORT_CFG_ROLE 3 3).put F.PHY_STATUS_LINK_STATE lsL0 3)).put F.STALL_SLICE_VALID 1 7).put F.STALL_SLICE_PORT 3 7).put F.STALL_LAYOUT_CAP 7 7)).startItems (relocStart 7 0x805F000000000000 0 true) 4) } with ops := [⟨6, .relocStarting, 9, .accepted, 3⟩] }, .west, 7, 0x805F000000000000, 0, true, 4, 6, ⟨6, .relocStarting, 9, .accepted, 3⟩, by decide +kernel⟩,
   ⟨withMgr ((relocIn rlSynced {}).put F.RELOC_OBJECT_REMOTE 1 7), pkt, mgr, 7, by decide +kernel⟩,
   ⟨withMgr (relocIn rlSynced {}), pkt, mgr, 7, by decide +kernel⟩,
   ⟨(((relocIn rlSynced {}).put F.TXSLOT_STATE_STATE txValidating 3).put F.RELOC_OBJECT_REMOTE 1 7).setTx 3 { fw := some (.relocCommit 7) }, 7, by decide +kernel⟩,
   ⟨{ withMgr ((relocIn rlCopying { journalled := 4 }).put F.RELOC_WATERMARK_W 4 7) with ops := [⟨6, .relocation 7, 9, .accepted, 3⟩] }, pkt, mgr, 7, ⟨6, .relocation 7, 9, .accepted, 3⟩, by decide +kernel⟩,
   ⟨withMgr (relocIn rlCopying {}), pkt, mgr, 7, true, by decide +kernel⟩,
   ⟨{ withMgr (((relocIn rlStopped { journalled := 9, fails := 3 }).put F.RELOC_SRC_PORT 95 7).put F.RELOC_WATERMARK_W 4 7 |>.put F.PHY_STATUS_LINK_STATE lsL0 95) with inventory := [{ port := 95, serial := 7, capacities := [65536], persistent := false }, { port := 3, serial := 8, capacities := [65536], persistent := false }] }, pkt, mgr, 7, by decide +kernel⟩,
   ⟨withMgr (portIn 1 lsL0 95), pkt, mgr, 7, by decide +kernel⟩,
   ⟨{ withMgr ((portIn 3 lsL0 95).put F.PORT_CFG_ROLE 6 94) with inventory := [{ port := 95, serial := 7, capacities := [65536], persistent := false }, { port := 3, serial := 8, capacities := [65536], persistent := false }] }, pkt, mgr, 94, 95, 0, 255, 1, 77, 65536, false, by decide +kernel⟩⟩

/-- States and operands that meet the hypotheses of `SlotAndPowerCommands`, clause by clause. -/
theorem witness_SlotAndPowerCommands :
    (∃ (s : State) (h : EcpHdr) (x : Session) (n : SlotId),
      Quiet s ∧ Frozen s ∧ Takes s h x ∧ x.perms.observe = true) ∧
    (∃ (s : State) (h : EcpHdr) (x : Session) (n : SlotId),
      Quiet s ∧ Frozen s ∧ Takes s h x ∧ x.perms.configure = true ∧ s.running < 64 ∧ s.ops = [] ∧ s.sl n.val = slReady ∧ (s.slot n.val).deadline = none ∧ s.curveOk n.val = true) ∧
    (∃ (s : State) (h : EcpHdr) (x : Session) (n : SlotId),
      Quiet s ∧ Frozen s ∧ Takes s h x ∧ x.perms.configure = true ∧ s.running < 64 ∧ s.ops = [] ∧ s.sl n.val = slOn ∧ s.portOfSlot n.val = none) ∧
    (∃ (s : State) (h : EcpHdr) (x : Session) (n : SlotId),
      Quiet s ∧ Frozen s ∧ Takes s h x ∧ x.perms.configure = true ∧ s.ops = [] ∧ s.sl n.val = slLockout ∧ s.flag F.SLOT_STATE_LONG_PIN n.val = true ∧ s.flag F.SLOT_STATE_SHORT_PIN n.val = true ∧ s.flag F.SLOT_STATE_POWER_REQ n.val = false) ∧
    (∃ (s : State) (h : EcpHdr) (x : Session) (n : SlotId) (v : BitVec 32),
      Quiet s ∧ Frozen s ∧ Takes s h x ∧ x.perms.configure = true ∧ s.ops = [] ∧ v.toNat / 2 ^ 16 % 4 ≠ 0 ∧ 2 ≤ v.toNat % 256 ∧ v.toNat % 256 ≤ 200 ∧ s.sl n.val = slReady ∧ s.slSupplied n.val = true) ∧
    (∃ (s : State) (h : EcpHdr) (x : Session),
      Quiet s ∧ Frozen s ∧ Takes s h x ∧ x.perms.observe = true) ∧
    (∃ (s : State) (h : EcpHdr) (x : Session),
      Quiet s ∧ Frozen s ∧ Takes s h x ∧ x.perms.configure = true ∧ s.running < 64 ∧ s.rungBusy 1 = false) ∧
    (∃ (s : State) (h : EcpHdr) (x : Session) (p : Port) (a : BitVec 64) (n : BitVec 32),
      Quiet s ∧ Frozen s ∧ Takes s h x ∧ x.perms.configure = true ∧ s.running < 64 ∧ s.txState 3 = txFree ∧ s.txns.fw = [] ∧ n.toNat = 2 ^ 24 ∧ a.toNat % 2 ^ 24 = 0 ∧ a.toNat / 2 ^ 52 % 256 = 0) :=
  ⟨⟨withMgr (portIn 1 lsL0 95), pkt, mgr, 47, by decide +kernel⟩,
   ⟨withMgr (slotIn slReady), pkt, mgr, 47, by decide +kernel⟩,
   ⟨withMgr (slotIn slOn), pkt, mgr, 47, by decide +kernel⟩,
   ⟨withMgr ((slotIn slLockout).put F.SLOT_STATE_RETRIES 2 47), pkt, mgr, 47, by decide +kernel⟩,
   ⟨withMgr (slotIn slReady), pkt, mgr, 47, 0x00010002, by decide +kernel⟩,
   ⟨withMgr (portIn 1 lsL0 95), pkt, mgr, by decide +kernel⟩,
   ⟨withMgr (portIn 1 lsL0 95), pkt, mgr, by decide +kernel⟩,
   ⟨withMgr (portIn 3 lsL0 95), pkt, mgr, 95, 0x1000000001000000, 0x1000000, by decide +kernel⟩⟩

/-- States and operands that meet the hypotheses of `ResetCommandsOfFirmware`, clause by clause. -/
theorem witness_ResetCommandsOfFirmware :
    (∃ (s : State) (h : EcpHdr) (x : Session),
      Quiet s ∧ Frozen s ∧ Takes s h x ∧ x.perms.configure = true ∧ s.running < 64 ∧ s.warmBusy = false ∧ s.flag F.COH_STATUS_FLUSHING 0 = false ∧ s.flag F.COH_STATUS_FLUSHING 1 = false ∧ s.power.resetLow = false ∧ s.sec.advancing = false ∧ s.resetPorts = [] ∧ s.resetHalves = [] ∧ s.txns.fw = [] ∧ (∀ p : Port, s.flag F.PORT_SLOT_VALID p.val = false) ∧ (∀ x ∈ s.resetHalves, x < 2) ∧ s.power.sealed ≠ .invalid ∧ s.regionSlices = [] ∧ s.msgs = [] ∧ s.market.cache = [] ∧ s.market.flows = [] ∧ s.seamUp = false ∧ s.inbound = [] ∧ (∀ k : Fin 4, s.txState k.val = txFree) ∧ (∀ y : Fin 8, s.rlState y.val = rlFree) ∧ (∀ c : Fin 28, s.ch c.val = chIdle) ∧ s.ops = []) ∧
    (∃ (s : State) (h : EcpHdr) (x : Session) (a : Half),
      Quiet s ∧ Frozen s ∧ Takes s h x ∧ x.perms.configure = true ∧ s.running < 64 ∧ s.halfBusy (hix a) = false ∧ s.resetPorts = [] ∧ s.regionSlices = [] ∧ s.msgs = [] ∧ s.market.cache = [] ∧ s.market.flows = [] ∧ s.seamUp = false ∧ s.inbound = [] ∧ (∀ k : Fin 4, s.txState k.val = txFree) ∧ (∀ y : Fin 8, s.rlState y.val = rlFree) ∧ (∀ c : Fin 28, s.ch c.val = chIdle) ∧ s.ops = []) ∧
    (∃ (s : State) (h : EcpHdr) (x : Session),
      Quiet s ∧ Frozen s ∧ Takes s h x ∧ x.perms.configure = true ∧ s.running < 64 ∧ s.hearthBusy = false ∧ s.txns.fw = [] ∧ s.flag F.FC_SRC_LATCHED 780 = true ∧ s.flag F.FC_SRC_LATCHED 781 = true ∧ s.flag F.HALF_STATE_HOLD 0 = false ∧ s.flag F.HALF_STATE_HOLD 1 = false ∧ (∀ k : Fin 4, s.txState k.val = txFree) ∧ s.ops = []) :=
  ⟨⟨{ withMgr (portIn 1 lsL0 95) with power := { sealed := .live } }, pkt, mgr, by decide +kernel⟩,
   ⟨withMgr (portIn 1 lsL0 95), pkt, mgr, .west, by decide +kernel⟩,
   ⟨withMgr (((portIn 1 lsL0 95).put F.FC_SRC_LATCHED 1 780).put F.FC_SRC_LATCHED 1 781), pkt, mgr, by decide +kernel⟩⟩

/-- States and operands that meet the hypotheses of `FaultAndTelemetryCommands`, clause by clause. -/
theorem witness_FaultAndTelemetryCommands :
    (∃ (s : State) (h : EcpHdr) (x : Session) (n : BitVec 32),
      Quiet s ∧ Frozen s ∧ Takes s h x ∧ x.perms.observe = true ∧ 76 ≤ x.replyLimit ∧ s.faultRecords.length ≤ n.toNat + (min (x.replyLimit - 4) 4072 - 40) / 32) ∧
    (∃ (s : State) (h : EcpHdr) (x : Session) (n : BitVec 32),
      Quiet s ∧ Frozen s ∧ Takes s h x ∧ x.perms.configure = true ∧ n.toNat < 1024 ∧ s.flag F.FC_SRC_LATCHED n.toNat = true ∧ s.get F.FC_SRC_APPLIED n.toNat = 0 ∧ s.conditionNow n.toNat = false ∧ s.holds = [] ∧ s.containQuench = []) ∧
    (∃ (s : State) (h : EcpHdr) (x : Session) (n : BitVec 32) (v : BitVec 32),
      Quiet s ∧ Frozen s ∧ Takes s h x ∧ x.perms.configure = true ∧ n.toNat < 1024 ∧ reactionAllowed n.toNat v.toNat = true) ∧
    (∃ (s : State) (h : EcpHdr) (x : Session) (a : BitVec 64) (k : Key),
      Quiet s ∧ Frozen s ∧ Takes s h x ∧ x.perms.observe = true ∧ regAt a.toNat = some (k, 0) ∧ s.farAnswers a.toNat = true) ∧
    (∃ (s : State) (h : EcpHdr) (x : Session) (a : BitVec 64) (v : BitVec 64) (u : Fin 256) (i : Fin 8),
      Quiet s ∧ Frozen s ∧ Takes s h x ∧ x.perms.configure = true ∧ regAt a.toNat = some (⟨.PMU_COUNT, u.val, i.val⟩, 0) ∧ s.farAnswers a.toNat = true ∧ s.flag F.PMU_EVSEL_EN u.val i.val = false) ∧
    (∃ (s : State) (h : EcpHdr) (x : Session) (a : BitVec 64) (n : BitVec 32),
      Quiet s ∧ Frozen s ∧ Takes s h x ∧ x.perms.configure = true ∧ s.flag F.SNAP_CTRL_EN = false ∧ a.toNat % 64 = 0 ∧ a.toNat < 2 ^ 52 ∧ n ≠ 0 ∧ n.toNat < 65536) ∧
    (∃ (s : State) (h : EcpHdr) (x : Session) (n : BitVec 32),
      Quiet s ∧ Frozen s ∧ Takes s h x ∧ x.perms.observe = true ∧ 76 ≤ x.replyLimit ∧ (s.flash.actions ++ s.flash.samples).length ≤ n.toNat + (x.replyLimit - 4 - 40) / 32) ∧
    (∃ (s : State) (h : EcpHdr) (x : Session) (a : BitVec 64),
      Quiet s ∧ Frozen s ∧ Takes s h x ∧ x.perms.configure = true ∧ s.running < 64 ∧ s.ops = [] ∧ s.hearthDown = false ∧ ((∀ k : Fin 10, s.privPath 0 (a.toNat + 64 * k.val) 64 true = .internal)) ∧ inEmber a.toNat = true ∧ inEmber (a.toNat + 639) = true) :=
  ⟨⟨{ withMgr (portIn 1 lsL0 95) with mem := [(ringBase + 40, 7)] }, pkt, mgr, 0, by decide +kernel⟩,
   ⟨withMgr (((portIn 1 lsL0 3).put F.FC_SRC_LATCHED 1 1008).put F.FC_SRC_COUNT 9 1008), pkt, mgr, 1008, by decide +kernel⟩,
   ⟨withMgr (portIn 1 lsL0 95), pkt, mgr, 767, 2, by decide +kernel⟩,
   ⟨withMgr (portIn 1 lsL0 95), pkt, mgr, 92274688, (⟨.EPOCH, 0, 0⟩ : Key), by decide +kernel⟩,
   ⟨withMgr (portIn 1 lsL0 95), pkt, mgr, 70377336, 0xFFFF000000000007, 223, 7, by decide +kernel⟩,
   ⟨withMgr (portIn 1 lsL0 95), pkt, mgr, 0x000FFFFFFFFFFFC0, 65535, by decide +kernel⟩,
   ⟨{ withMgr (portIn 1 lsL0 95) with flash := { (State.reset).flash with wrapped := true } }, pkt, mgr, 0, by decide +kernel⟩,
   ⟨withMgr (portIn 1 lsL0 95), pkt, mgr, 0x12000000, by decide +kernel⟩⟩

/-- States and operands that meet the hypotheses of `SecurityCommands`, clause by clause. -/
theorem witness_SecurityCommands :
    (∃ (s : State) (h : EcpHdr) (x : Session),
      Quiet s ∧ Frozen s ∧ Takes s h x ∧ x.perms.observe = true) ∧
    (∃ (s : State) (h : EcpHdr) (x : Session),
      Quiet s ∧ Frozen s ∧ Takes s h x ∧ x.perms.lifecycle = true ∧ s.get F.LC_STATE_V = 0 ∧ (∀ p : Port, s.get F.IDE_STATUS_RX p.val ≠ 2) ∧ (∀ p : Port, s.get F.IDE_STATUS_TX p.val ≠ 2) ∧ s.running < 64 ∧ s.warmBusy = false ∧ s.flag F.COH_STATUS_FLUSHING 0 = false ∧ s.flag F.COH_STATUS_FLUSHING 1 = false ∧ s.power.resetLow = false ∧ s.sec.advancing = false ∧ s.resetPorts = [] ∧ s.resetHalves = [] ∧ (∀ p : Port, s.flag F.PORT_SLOT_VALID p.val = false) ∧ (∀ x ∈ s.resetHalves, x < 2) ∧ s.power.sealed ≠ .invalid ∧ s.regionSlices = [] ∧ s.msgs = [] ∧ s.market.cache = [] ∧ s.market.flows = [] ∧ s.seamUp = false ∧ s.inbound = [] ∧ (∀ k : Fin 4, s.txState k.val = txFree) ∧ (∀ y : Fin 8, s.rlState y.val = rlFree) ∧ (∀ c : Fin 28, s.ch c.val = chIdle) ∧ s.ops = [] ∧ s.txns.fw = [] ∧ s.flash.keepPlace = none) ∧
    (∃ (s : State) (h : EcpHdr) (x : Session) (c : Fin 32) (k : BitVec 256) (v : BitVec 32),
      Quiet s ∧ Frozen s ∧ Takes s h x ∧ x.perms.lifecycle = true ∧ v.toNat < 32) ∧
    (∃ (s : State) (h : EcpHdr) (x : Session) (c : Fin 32) (y : Credential),
      Quiet s ∧ Frozen s ∧ Takes s h x ∧ x.perms.lifecycle = true ∧ tabFind c.val s.flash.credentials = some y ∧ x.credential ≠ c.val) ∧
    (∃ (s : State) (h : EcpHdr) (x : Session),
      Quiet s ∧ Frozen s ∧ Takes s h x ∧ x.perms.lifecycle = true ∧ s.get F.TAMPER_ACTIVE_V = 0) ∧
    (∃ (s : State) (h : EcpHdr) (x : Session),
      Quiet s ∧ Frozen s ∧ Takes s h x ∧ x.perms.unlock = true ∧ s.flag F.DEBUG_STATUS_LOCKED_OUT = false ∧ s.get F.LC_STATE_V ≠ 0) ∧
    (∃ (s : State) (h : EcpHdr) (x : Session) (n : Nat),
      Quiet s ∧ Frozen s ∧ Takes s h x ∧ x.perms.unlock = true ∧ s.flag F.DEBUG_STATUS_LOCKED_OUT = false ∧ s.sec.nonce = some n) ∧
    (∃ (s : State) (h : EcpHdr) (x : Session),
      Quiet s ∧ Frozen s ∧ Takes s h x) :=
  ⟨⟨withMgr (portIn 1 lsL0 95), pkt, mgr, by decide +kernel⟩,
   ⟨{ withMgr ((portIn 1 lsL0 95).put F.LC_STATE_V 0) with power := { sealed := .live } }, pkt, mgr, by decide +kernel⟩,
   ⟨withMgr (portIn 1 lsL0 95), pkt, mgr, 31, 77, 31, by decide +kernel⟩,
   ⟨withMgr (portIn 1 lsL0 95), pkt, mgr, 0, ⟨0, ⟨true, true, true, true, true⟩, true⟩, by decide +kernel⟩,
   ⟨withMgr ((portIn 1 lsL0 95).wr .TAMPER_STATUS 0x80000001), pkt, mgr, by decide +kernel⟩,
   ⟨withMgr ((portIn 1 lsL0 95).put F.LC_STATE_V 1), pkt, mgr, by decide +kernel⟩,
   ⟨{ withMgr ((portIn 1 lsL0 95).put F.LC_STATE_V 1) with sec := { nonce := some 5 } }, pkt, mgr, 5, by decide +kernel⟩,
   ⟨withMgr ((portIn 1 lsL0 95).put F.DEBUG_STATUS_UNLOCKED 1), pkt, mgr, by decide +kernel⟩⟩

/-- States and operands that meet the hypotheses of `FirmwareAndDebugCommands`, clause by clause. -/
theorem witness_FirmwareAndDebugCommands :
    (∃ (s : State) (h : EcpHdr) (x : Session) (k : Fin 2) (n : BitVec 32),
      Quiet s ∧ Frozen s ∧ Takes s h x ∧ x.perms.lifecycle = true) ∧
    (∃ (s : State) (h : EcpHdr) (x : Session) (a : BitVec 32) (d : List Byte) (g : List Byte) (k : Nat) (n : Nat),
      Quiet s ∧ Frozen s ∧ Takes s h x ∧ x.perms.lifecycle = true ∧ s.sec.fw = some (k, n, g) ∧ a.toNat = g.length ∧ g.length + d.length ≤ n) ∧
    (∃ (s : State) (h : EcpHdr) (x : Session) (b : Bool) (g : List Byte) (k : Nat) (n : Nat),
      Quiet s ∧ Frozen s ∧ Takes s h x ∧ x.perms.lifecycle = true ∧ s.running < 64 ∧ s.sec.fw = some (k, n, g) ∧ g.length = n ∧ s.ops = []) ∧
    (∃ (s : State) (h : EcpHdr) (x : Session) (k : Fin 2),
      Quiet s ∧ Frozen s ∧ Takes s h x ∧ x.perms.lifecycle = true) ∧
    (∃ (s : State) (h : EcpHdr) (x : Session) (n : BitVec 32),
      Quiet s ∧ Frozen s ∧ Takes s h x ∧ x.perms.observe = true ∧ 104 ≤ x.replyLimit ∧ s.flash.audit.length ≤ n.toNat + (x.replyLimit - 40) / 64) ∧
    (∃ (s : State) (h : EcpHdr) (x : Session) (a : BitVec 64) (d : List Byte),
      Quiet s ∧ Frozen s ∧ Takes s h x ∧ x.perms.configure = true ∧ s.debugAllowed = true ∧ s.txns.lost = [] ∧ s.privPath 0 a.toNat 4 false = .internal ∧ a.toNat % 64 = 0 ∧ inScratchpad a.toNat = true ∧ inSealed a.toNat = false ∧ inSealed (a.toNat + 3) = false ∧ s.flag F.SP_BANK_CTRL_RETAINED (bankOf a.toNat) = false) ∧
    (∃ (s : State) (h : EcpHdr) (x : Session) (a : BitVec 64) (d : List Byte),
      Quiet s ∧ Frozen s ∧ Takes s h x ∧ x.perms.configure = true ∧ s.debugAllowed = true ∧ s.txns.lost = [] ∧ s.privPath 0 a.toNat d.length true = .internal ∧ a.toNat % 64 = 0 ∧ 0 < d.length ∧ d.length ≤ 64 ∧ inEmber a.toNat = true) ∧
    (∃ (s : State) (h : EcpHdr) (x : Session) (n : BitVec 32),
      Quiet s ∧ Frozen s ∧ Takes s h x ∧ x.perms.configure = true ∧ n.toNat < 1024 ∧ s.debugAllowed = true ∧ s.flag F.FC_SRC_LATCHED n.toNat = false ∧ s.get F.FC_SRC_REACTION n.toNat = 0) ∧
    (∃ (s : State) (h : EcpHdr) (x : Session) (a : BitVec 64) (v : BitVec 32) (k : Fin 112),
      Quiet s ∧ Frozen s ∧ Takes s h x ∧ x.perms.configure = true ∧ s.debugAllowed = true ∧ regAt a.toNat = some (⟨.LL_INJECT_N, k.val, 0⟩, 0) ∧ s.farAnswers a.toNat = true ∧ s.rung = rungBlaze ∧ (isSeam k.val = true ∨ s.isCascade k.val = true) ∧ v.toNat % 2 ^ 16 ≠ 0) ∧
    (∃ (s : State) (h : EcpHdr) (x : Session) (st : StallId) (o : BitVec 64),
      Quiet s ∧ Frozen s ∧ Takes s h x ∧ x.perms.configure = true ∧ s.debugAllowed = true ∧ s.flag F.STALL_CTRL_DEFINED st.val = true ∧ s.inStall st.val o.toNat = true ∧ s.flag F.STALL_CTRL_SEALED st.val = false) :=
  ⟨⟨withMgr (portIn 1 lsL0 95), pkt, mgr, 1, 3, by decide +kernel⟩,
   ⟨{ withMgr (portIn 1 lsL0 95) with sec := { fw := some (1, 3, [7]) } }, pkt, mgr, 1, [8, 9], [7], 1, 3, by decide +kernel⟩,
   ⟨{ withMgr (portIn 1 lsL0 95) with sec := { fw := some (1, 1, [7]) } }, pkt, mgr, true, [7], 1, 1, by decide +kernel⟩,
   ⟨withMgr (portIn 1 lsL0 95), pkt, mgr, 1, by decide +kernel⟩,
   ⟨{ withMgr (portIn 1 lsL0 95) with flash := { (State.reset).flash with audit := [⟨5, 9, 3, 0x0B00, [7]⟩] } }, pkt, mgr, 0, by decide +kernel⟩,
   ⟨{ withMgr (portIn 1 lsL0 95) with mem := [(0x10200001, 8)] }, pkt, mgr, 0x10200000, [], by decide +kernel⟩,
   ⟨withMgr (portIn 1 lsL0 95), pkt, mgr, 0x12000040, [7, 0, 9], by decide +kernel⟩,
   ⟨withMgr ((portIn 1 lsL0 3).put F.FC_SRC_REACTION 0 770), pkt, mgr, 770, by decide +kernel⟩,
   ⟨withMgr (portIn 1 lsL0 95), pkt, mgr, BitVec.ofNat 64 (Key.addr ⟨.LL_INJECT_N, 111, 0⟩), 9, 111, by decide +kernel⟩,
   ⟨withMgr ((stallIn {}).put F.STALL_CTRL_DEFINED 1 4095), pkt, mgr, 4095, 64, by decide +kernel⟩⟩

/-- States and operands that meet the hypotheses of `FabricManagerCommands`, clause by clause. -/
theorem witness_FabricManagerCommands :
    (∃ (s : State) (p : Port),
      Quiet s ∧ Frozen s ∧ s.ecpRuns = true ∧ s.fmAllows (.cxl p) = true ∧ s.flag F.FC_STATUS_ASH = false ∧ s.power.verifying = false) ∧
    (∃ (s : State) (p : Port),
      Quiet s ∧ Frozen s ∧ s.ecpRuns = true ∧ s.fmAllows (.cxl p) = true ∧ s.flag F.FC_STATUS_ASH = false ∧ s.power.verifying = false) ∧
    (∃ (s : State) (p : Port) (o : Operation),
      Quiet s ∧ Frozen s ∧ s.ecpRuns = true ∧ s.fmAllows (.cxl p) = true ∧ s.flag F.FC_STATUS_ASH = false ∧ s.power.verifying = false ∧ s.fmOp (.cxl p) = some o) ∧
    (∃ (s : State) (p : Port),
      Quiet s ∧ Frozen s ∧ s.ecpRuns = true ∧ s.fmAllows (.cxl p) = true ∧ s.flag F.FC_STATUS_ASH = false ∧ s.power.verifying = false) ∧
    (∃ (s : State) (p : Port) (n : BitVec 32),
      Quiet s ∧ Frozen s ∧ s.ecpRuns = true ∧ s.fmAllows (.cxl p) = true ∧ s.flag F.FC_STATUS_ASH = false ∧ s.power.verifying = false ∧ 256 ≤ n.toNat ∧ n.toNat ≤ 4096) ∧
    (∃ (s : State) (p : Port) (q : Port),
      Quiet s ∧ Frozen s ∧ s.ecpRuns = true ∧ s.fmAllows (.cxl p) = true ∧ s.flag F.FC_STATUS_ASH = false ∧ s.power.verifying = false ∧ s.txns.lost = [] ∧ s.resetHalves = []) ∧
    (∃ (s : State) (p : Port) (q : Port),
      Quiet s ∧ Frozen s ∧ s.ecpRuns = true ∧ s.fmAllows (.cxl p) = true ∧ s.flag F.FC_STATUS_ASH = false ∧ s.power.verifying = false ∧ s.txns.lost = [] ∧ s.resetHalves = [] ∧ s.rung = rungBlaze ∧ s.power.entering = none ∧ s.carriesBinding q.val = false ∧ s.linkState q.val = lsDisabled) ∧
    (∃ (s : State) (p : Port) (q : Port) (a : BitVec 64) (r : BitVec 32),
      Quiet s ∧ Frozen s ∧ s.ecpRuns = true ∧ s.fmAllows (.cxl p) = true ∧ s.flag F.FC_STATUS_ASH = false ∧ s.power.verifying = false ∧ s.txns.lost = [] ∧ s.resetHalves = [] ∧ s.rung = rungBlaze ∧ s.power.entering = none ∧ s.linkState q.val = lsL0 ∧ s.refuses q.val = false ∧ 3 ≤ s.role q.val ∧ s.role q.val ≤ 5) ∧
    (∃ (s : State) (p : Port) (q : Port),
      Quiet s ∧ Frozen s ∧ s.ecpRuns = true ∧ s.fmAllows (.cxl p) = true ∧ s.flag F.FC_STATUS_ASH = false ∧ s.power.verifying = false ∧ s.isHostPort q.val = true) ∧
    (∃ (s : State) (p : Port) (q : Port) (v : Vdsp) (st : StallId),
      Quiet s ∧ Frozen s ∧ s.ecpRuns = true ∧ s.fmAllows (.cxl p) = true ∧ s.flag F.FC_STATUS_ASH = false ∧ s.power.verifying = false ∧ s.running < 64 ∧ s.fmBusy (.cxl p) = false ∧ s.txState 3 = txFree ∧ s.txns.fw = [] ∧ s.regionsValid = [] ∧ s.role q.val = 1 ∧ (List.range 32).find? (fun d => !s.flag F.DEC_CTRL_VALID (s.get F.PORT_CFG_HOST_ID q.val) d) = some 0 ∧ (List.range 256).find? (fun w => !s.flag F.WIN_BASE_VALID (s.get F.PORT_CFG_HOST_ID q.val) w) = some 0) ∧
    (∃ (s : State) (p : Port) (q : Port) (v : Vdsp) (k : Nat),
      Quiet s ∧ Frozen s ∧ s.ecpRuns = true ∧ s.fmAllows (.cxl p) = true ∧ s.flag F.FC_STATUS_ASH = false ∧ s.power.verifying = false ∧ s.running < 64 ∧ s.fmBusy (.cxl p) = false ∧ s.txState 3 = txFree ∧ s.txns.fw = [] ∧ s.isHostPort q.val = true ∧ s.stallAt (s.get F.PORT_CFG_HOST_ID q.val) v.val = some k ∧ s.regionsValid = []) ∧
    (∃ (s : State) (p : Port) (q : Port) (v : BitVec 32) (d : List Byte),
      Quiet s ∧ Frozen s ∧ s.ecpRuns = true ∧ s.fmAllows (.cxl p) = true ∧ s.flag F.FC_STATUS_ASH = false ∧ s.power.verifying = false ∧ s.isHostPort q.val = true) ∧
    (∃ (s : State) (p : Port) (q : Port) (d : List Byte) (r : List Byte),
      Quiet s ∧ Frozen s ∧ s.ecpRuns = true ∧ s.fmAllows (.cxl p) = true ∧ s.flag F.FC_STATUS_ASH = false ∧ s.power.verifying = false ∧ s.txns.lost = [] ∧ s.resetHalves = [] ∧ s.rung = rungBlaze ∧ s.power.entering = none ∧ s.linkState q.val = lsL0 ∧ s.refuses q.val = false ∧ s.role q.val = 3) ∧
    (∃ (s : State) (p : Port) (q : Port) (l : Fin 16) (a : BitVec 52) (v : BitVec 32) (r : BitVec 32),
      Quiet s ∧ Frozen s ∧ s.ecpRuns = true ∧ s.fmAllows (.cxl p) = true ∧ s.flag F.FC_STATUS_ASH = false ∧ s.power.verifying = false ∧ s.txns.lost = [] ∧ s.resetHalves = [] ∧ s.rung = rungBlaze ∧ s.power.entering = none ∧ s.linkState q.val = lsL0 ∧ s.refuses q.val = false ∧ s.role q.val = 3 ∧ (s.deviceOf q.val l.val).isSome = true) ∧
    (∃ (s : State) (p : Port) (q : Port) (l : Fin 16) (a : BitVec 52) (n : Fin 4001) (d : List Byte) (m : Nat) (v : Bool),
      Quiet s ∧ Frozen s ∧ s.ecpRuns = true ∧ s.fmAllows (.cxl p) = true ∧ s.flag F.FC_STATUS_ASH = false ∧ s.power.verifying = false ∧ s.txns.lost = [] ∧ s.resetHalves = [] ∧ s.rung = rungBlaze ∧ s.power.entering = none ∧ s.linkState q.val = lsL0 ∧ s.refuses q.val = false ∧ s.role q.val = 3 ∧ s.deviceOf q.val l.val = some (m, v) ∧ a.toNat + n.val ≤ m * 2 ^ 20 ∧ d.length = n.val ∧ s.stallsDefined = []) ∧
    (∃ (s : State) (p : Port) (o : BitVec 16),
      Quiet s ∧ Frozen s ∧ s.ecpRuns = true ∧ s.fmAllows (.cxl p) = true ∧ s.flag F.FC_STATUS_ASH = false ∧ s.power.verifying = false ∧ fmOpcodes.contains o.toNat = false) :=
  ⟨⟨fmIn, 3, by decide +kernel⟩,
   ⟨fmIn, 3, by decide +kernel⟩,
   ⟨{ fmIn with ops := [⟨6, .telemetry, 0, .faulted, 999⟩], ecp := { fmOps := [(.cxl 3, 6)] } }, 3, ⟨6, .telemetry, 0, .faulted, 999⟩, by decide +kernel⟩,
   ⟨fmIn, 3, by decide +kernel⟩,
   ⟨fmIn, 3, 4096, by decide +kernel⟩,
   ⟨fmIn, 3, 95, by decide +kernel⟩,
   ⟨fmIn.put F.PHY_STATUS_LINK_STATE lsDisabled 95, 3, 95, by decide +kernel⟩,
   ⟨fmIn, 3, 95, 0x40, 7, by decide +kernel⟩,
   ⟨fmIn, 3, 3, by decide +kernel⟩,
   ⟨fmIn, 3, 3, 63, 4095, by decide +kernel⟩,
   ⟨((((fmIn.put F.STALL_CTRL_DEFINED 1 4095).put F.STALL_BIND_BOUND 1 4095).put F.STALL_BIND_HOST 7 4095).put F.STALL_BIND_VDSP 63 4095), 3, 3, 63, 4095, by decide +kernel⟩,
   ⟨fmIn, 3, 3, 7, [1, 2], by decide +kernel⟩,
   ⟨{ fmIn with inventory := [{ port := 95, serial := 7, capacities := [65536, 65536], persistent := false }] }, 3, 95, [1], [2, 3], by decide +kernel⟩,
   ⟨{ fmIn with inventory := [{ port := 95, serial := 7, capacities := [65536, 65536], persistent := false }] }, 3, 95, 1, 0x40, 9, 0, by decide +kernel⟩,
   ⟨{ fmIn with inventory := [{ port := 95, serial := 7, capacities := [65536, 65536], persistent := false }] }, 3, 95, 1, 0x40, 2, [5, 6], 65536, false, by decide +kernel⟩,
   ⟨fmIn, 3, 0x5104, by decide +kernel⟩⟩

/-- States and operands that meet the hypotheses of `AnEmptyQueueLetsTimePass`, clause by clause. -/
theorem witness_AnEmptyQueueLetsTimePass :
    (∃ (s u : State) (i : Instr), s.pending = [] ∧ s.readyCommand = some (i, u)) ∧
    (∃ s : State, s.pending = [] ∧ s.readyCommand = none ∧ s.sessions = [] ∧ Quiet s ∧ Frozen s ∧
    s.telem.waits = [] ∧ (∀ p : Port, s.queue p.val 3 = [] ∧ s.bulkCredit p.val = 0 ∧ s.flag F.BULK_STATUS_PROMOTED p.val = false)) :=
  ⟨⟨{ withMgr (portIn 1 lsL0 3) with sessions := [{ mgr with waiting := [(5, .rstWarm)] }] }, _, .rstWarm, by decide +kernel, rfl⟩,
   ⟨portIn 1 lsL0 3, by decide +kernel⟩⟩

/-- States and operands that meet the hypotheses of `SequenceNumbersDecideWhatAPacketDoes`, clause by clause. -/
theorem witness_SequenceNumbersDecideWhatAPacketDoes :
    (∃ (h : EcpHdr) (x : Session), h.tagOk = true ∧ x.source = h.src ∧
    (x.high < h.seq.toNat ∨ (h.seq.toNat ≠ 0 ∧ x.high ≤ h.seq.toNat + 63 ∧ x.record.contains h.seq.toNat = false))) ∧
    (∃ (s : State) (h : EcpHdr) (x y : Session), h.tagOk = true ∧ x.source = h.src ∧ h.seq.toNat ≤ x.high ∧ h.seq.toNat ≠ 0 ∧
    x.high ≤ h.seq.toNat + 63 ∧ x.record.contains h.seq.toNat = true ∧ x.cache.find? (fun e => e.1 == h.seq.toNat) = none ∧ x.working h.seq.toNat = false ∧ Frozen s ∧
    ({ x with waiting := [(4, .rstWarm)] } : Session).working h.seq.toNat = true ∧ y.cache.find? (fun e => e.1 == h.seq.toNat) = some (h.seq.toNat, ⟨0, .ok, []⟩)) ∧
    (∃ (s : State) (h : EcpHdr) (x : Session), h.tagOk = true ∧ x.source = h.src ∧ h.seq.toNat ≤ x.high ∧ (h.seq.toNat = 0 ∨ h.seq.toNat + 63 < x.high) ∧ Frozen s) ∧
    (∃ (x : Session) (n m : Nat), (∀ y ∈ x.record, y ≤ x.high) ∧ m ∈ (x.accept n).record) :=
  ⟨⟨{ pkt with seq := 3 }, mgr, by decide +kernel⟩,
   ⟨portIn 1 lsL0 3, { pkt with seq := 4 }, mgr, { mgr with cache := [(4, ⟨0, .ok, []⟩)] }, by decide +kernel⟩,
   ⟨portIn 1 lsL0 3, { pkt with seq := 36 }, { mgr with high := 100 }, by decide +kernel⟩,
   ⟨mgr, 67, 4, by decide +kernel⟩⟩

/-- States and operands that meet the hypotheses of `ATransactionBelongsToItsSession`, clause by clause. -/
theorem witness_ATransactionBelongsToItsSession :
    (∃ (s : State) (h : EcpHdr) (x : Session) (k : Nat),
      Quiet s ∧ Frozen s ∧ Takes s h x ∧ x.perms.configure = true ∧ s.freeTxn = some k) ∧
    (∃ (s : State) (h : EcpHdr) (x : Session) (k : Fin 4) (l : List RegItem),
      Quiet s ∧ Frozen s ∧ Takes s h x ∧ x.perms.configure = true ∧ s.txState k.val ≠ txFree ∧ (s.tx k.val).owner ≠ x.id) ∧
    (∃ (s : State) (h : EcpHdr) (x : Session) (k : Fin 4) (l : List Entry),
      Quiet s ∧ Frozen s ∧ Takes s h x ∧ x.perms.configure = true ∧ s.txState k.val ≠ txFree ∧ (s.tx k.val).owner ≠ x.id) ∧
    (∃ (s : State) (h : EcpHdr) (x : Session) (k : Fin 4),
      Quiet s ∧ Frozen s ∧ Takes s h x ∧ x.perms.configure = true ∧ s.txState k.val ≠ txFree ∧ (s.tx k.val).owner ≠ x.id) ∧
    (∃ (s : State) (h : EcpHdr) (x : Session) (k : Fin 4),
      Quiet s ∧ Frozen s ∧ Takes s h x ∧ x.perms.configure = true ∧ s.txState k.val ≠ txFree ∧ (s.tx k.val).owner ≠ x.id) ∧
    (∃ (s : State) (h : EcpHdr) (x : Session),
      Quiet s ∧ Frozen s ∧ Takes s h x ∧ (∀ k : Fin 4, s.txState k.val ≠ txValidating) ∧ s.ops = []) :=
  ⟨⟨withMgr ((portIn 1 lsL0 95).put F.TXSLOT_STATE_STATE txOpen 0), pkt, mgr, 1, by decide +kernel⟩,
   ⟨withMgr (((portIn 1 lsL0 95).put F.TXSLOT_STATE_STATE txOpen 2).setTx 2 { owner := 5 }), pkt, mgr, 2, [⟨0, 1, 1, false⟩], by decide +kernel⟩,
   ⟨withMgr (((portIn 1 lsL0 95).put F.TXSLOT_STATE_STATE txOpen 2).setTx 2 { owner := 5 }), pkt, mgr, 2, [], by decide +kernel⟩,
   ⟨withMgr (((portIn 1 lsL0 95).put F.TXSLOT_STATE_STATE txOpen 2).setTx 2 { owner := 5 }), pkt, mgr, 2, by decide +kernel⟩,
   ⟨withMgr (((portIn 1 lsL0 95).put F.TXSLOT_STATE_STATE txOpen 2).setTx 2 { owner := 5 }), pkt, mgr, 2, by decide +kernel⟩,
   ⟨withMgr (((portIn 1 lsL0 95).put F.TXSLOT_STATE_STATE txOpen 2).setTx 2 { owner := 9 }), pkt, mgr, by decide +kernel⟩⟩

/-- States and operands that meet the hypotheses of `AnIdleTransactionIsRolledBack`, clause by clause. -/
theorem witness_AnIdleTransactionIsRolledBack :
    (∃ (s : State) (k : Fin 4),
      Quiet s ∧ Frozen s ∧ s.txState k.val = txOpen) ∧
    (∃ (s : State) (h : EcpHdr) (x : Session) (k : Fin 4) (l : List RegItem),
      Quiet s ∧ Frozen s ∧ Takes s h x ∧ x.perms.configure = true ∧ s.txState k.val = txFree) ∧
    (∃ (s : State) (h : EcpHdr) (x : Session) (k : Fin 4) (l : List Entry),
      Quiet s ∧ Frozen s ∧ Takes s h x ∧ x.perms.configure = true ∧ s.txState k.val = txFree) ∧
    (∃ (s : State) (h : EcpHdr) (x : Session) (k : Fin 4) (a : BitVec 64),
      Quiet s ∧ Frozen s ∧ Takes s h x ∧ x.perms.configure = true ∧ s.txState k.val = txFree) ∧
    (∃ (s : State) (h : EcpHdr) (x : Session) (k : Fin 4),
      Quiet s ∧ Frozen s ∧ Takes s h x ∧ x.perms.configure = true ∧ s.txState k.val = txFree) ∧
    (∃ (s : State) (h : EcpHdr) (x : Session) (k : Fin 4),
      Quiet s ∧ Frozen s ∧ Takes s h x ∧ x.perms.configure = true ∧ s.txState k.val = txFree) :=
  ⟨⟨withMgr (((portIn 1 lsL0 95).put F.TXSLOT_STATE_STATE txOpen 2).setTx 2 { owner := 9 }), 2, by decide +kernel⟩,
   ⟨withMgr (portIn 1 lsL0 95), pkt, mgr, 2, [], by decide +kernel⟩,
   ⟨withMgr (portIn 1 lsL0 95), pkt, mgr, 2, [], by decide +kernel⟩,
   ⟨withMgr (portIn 1 lsL0 95), pkt, mgr, 2, 0, by decide +kernel⟩,
   ⟨withMgr (portIn 1 lsL0 95), pkt, mgr, 2, by decide +kernel⟩,
   ⟨withMgr (portIn 1 lsL0 95), pkt, mgr, 2, by decide +kernel⟩⟩

/-- States and operands that meet the hypotheses of `RollbackDiscardsTheShadow`, clause by clause. -/
theorem witness_RollbackDiscardsTheShadow :
    (∃ (s : State) (h : EcpHdr) (x : Session) (k : Fin 4),
      Quiet s ∧ Frozen s ∧ Takes s h x ∧ x.perms.configure = true ∧ s.txState k.val = txOpen ∧ k.val ≠ 3 ∧ (s.tx k.val).owner = x.id) ∧
    (∃ (s : State) (h : EcpHdr) (x : Session) (k : Fin 4),
      Quiet s ∧ Frozen s ∧ Takes s h x ∧ x.perms.configure = true ∧ s.txState k.val = txFree) ∧
    (∃ (s : State) (h : EcpHdr) (x : Session) (k : Fin 4),
      Quiet s ∧ Frozen s ∧ Takes s h x ∧ x.perms.configure = true ∧ s.txState k.val ≠ txOpen ∧ s.txState k.val ≠ txFree ∧ k.val ≠ 3 ∧ (s.tx k.val).owner = x.id) :=
  ⟨⟨withMgr (((portIn 1 lsL0 95).put F.TXSLOT_STATE_STATE txOpen 2).setTx 2 { owner := 9 }), pkt, mgr, 2, by decide +kernel⟩,
   ⟨withMgr (portIn 1 lsL0 95), pkt, mgr, 3, by decide +kernel⟩,
   ⟨withMgr (((portIn 1 lsL0 95).put F.TXSLOT_STATE_STATE txValidating 2).setTx 2 { owner := 9 }), pkt, mgr, 2, by decide +kernel⟩⟩

/-- States and operands that meet the hypotheses of `ReactionsTakeEffectAtTheNextLatch`, clause by clause. -/
theorem witness_ReactionsTakeEffectAtTheNextLatch :
    (∃ (s : State) (n v : Nat), n < 1024 ∧ reactionAllowed n v = true ∧ s.flag F.FC_SRC_LATCHED n = false) ∧
    (∃ (n v : Nat), reactionAllowed n v = false) :=
  ⟨⟨portIn 1 lsL0 3, 1022, 1, by decide +kernel⟩,
   ⟨790, 0, by decide +kernel⟩⟩

/-- States and operands that meet the hypotheses of `ARaiseLatchesOnceAndThenCounts`, clause by clause. -/
theorem witness_ARaiseLatchesOnceAndThenCounts :
    (∃ (s : State) (n : Nat), n < 1024 ∧ s.flag F.FC_SRC_LATCHED n = false ∧ s.flag F.FC_SRC_FORCE n = false) ∧
    (∃ (s : State) (n : Nat), s.flag F.FC_SRC_LATCHED n = true) :=
  ⟨⟨portIn 1 lsL0 3, 1023, by decide +kernel⟩,
   ⟨(portIn 1 lsL0 3).put F.FC_SRC_LATCHED 1 1023, 1023, by decide +kernel⟩⟩

/-- States and operands that meet the hypotheses of `TheSealedPartIsClosedToAllButCores`, clause by clause. -/
theorem witness_TheSealedPartIsClosedToAllButCores :
    (∃ (s : State) (a : Agent) (addr : Nat) (data : List Byte), isCore a = false ∧ inScratchpad addr = true ∧
    (inSealed addr = true ∨ inSealed (addr + data.length - 1) = true) ∧ Frozen s ∧ s.flag F.FC_SRC_LATCHED 788 = true) ∧
    (∃ (s : State) (m : List Host.Cell) (a : Agent) (addr len : Nat), isCore a = false ∧ inScratchpad addr = true ∧ 0 < len ∧ len ≤ 64 ∧
    ∀ b, inSealed b = false → memByte m b = memByte s.mem b) :=
  ⟨⟨(portIn 1 lsL0 3).put F.FC_SRC_LATCHED 1 788, .debug, 0x11EFFFFE, [1, 2, 3], by decide +kernel⟩,
   ⟨portIn 1 lsL0 3, [], .debug, 0x11EFFFFC, 4, by decide +kernel, by decide +kernel, by decide +kernel, by decide +kernel, fun _ _ => rfl⟩⟩

end Sys2Proof.Tests
end

/-!
PROOF. What the registers read after reset: a field reads its bits of the register's reset value (R18).
-/
namespace Sys2Proof.Machine

/-! ## Fields after reset -/

/-- No register is listed after reset, so each holds the value of R18. -/
theorem State.rd_reset (r : Reg) (i j : Nat) : State.reset.rd r i j = resetWord ⟨r, i, j⟩ := rfl

theorem State.get_reset (f : Fld) (i j : Nat) :
    State.reset.get f i j = f.reg.reset i j % 2 ^ 64 / 2 ^ f.lo % 2 ^ f.w := by
  rw [State.get, State.rd_reset, Word.bits, resetWord, BitVec.toNat_ofNat]

/-- A field that lies above every set bit of its register's reset value reads 0. -/
theorem State.get_reset_eq_zero {f : Fld} {i j : Nat} (h : f.reg.reset i j < 2 ^ f.lo) : State.reset.get f i j = 0 := by
  have hlt : f.reg.reset i j % 2 ^ 64 < 2 ^ f.lo := (Nat.mod_le _ _).trans_lt h
  rw [State.get_reset, Nat.div_eq_of_lt hlt, Nat.zero_mod]

theorem State.flag_reset_eq_false {f : Fld} {i j : Nat} (h : f.reg.reset i j < 2 ^ f.lo) :
    State.reset.flag f i j = false := by
  simp [State.flag, State.get_reset_eq_zero h]

/-! ## Fault sources (R493, R494, R498) -/

/-- The reset value of a fault source holds a reaction (R498) and nothing above it. -/
theorem fcDefault_le (n : Nat) : fcDefault n ≤ 4 := by
  unfold fcDefault
  repeat' refine iteInduction (motive := (· ≤ 4)) (fun _ => ?_) (fun _ => ?_)
  · split <;> decide
  all_goals decide

theorem fcSrc_reset_lt {lo : Nat} (n : Nat) (h : 3 ≤ lo) : Reg.FC_SRC.reset n 0 < 2 ^ lo :=
  calc fcDefault n < 2 ^ 3 := by have := fcDefault_le n; omega
    _ ≤ 2 ^ lo := Nat.pow_le_pow_right (by decide) h

theorem State.reset_source (n : Nat) :
    State.reset.flag F.FC_SRC_LATCHED n = false ∧ State.reset.get F.FC_SRC_COUNT n = 0 :=
  ⟨State.flag_reset_eq_false (fcSrc_reset_lt n (by decide)), State.get_reset_eq_zero (fcSrc_reset_lt n (by decide))⟩

/-! ## Units at rest -/

/-- A Porter channel is idle, runs, and interrupts on errors. -/
theorem State.reset_channel (c : Nat) :
    State.reset.ch c = chIdle ∧ State.reset.flag F.CH_CTRL_ERR_IRQ_EN c = true ∧
      State.reset.flag F.CH_CTRL_PAUSE c = false := by
  have hirq : State.reset.get F.CH_CTRL_ERR_IRQ_EN c = 1 := by
    rw [State.get_reset, show F.CH_CTRL_ERR_IRQ_EN.reg.reset c 0 = 0x08000000 from rfl]
    rfl
  exact ⟨State.get_reset_eq_zero (f := F.CH_STATUS_STATE) (by decide : 0 < 2 ^ 28), by rw [State.flag, hirq]; rfl,
    State.flag_reset_eq_false (f := F.CH_CTRL_PAUSE) (by decide : 0x08000000 < 2 ^ 28)⟩

theorem State.reset_relocation (x : Nat) :
    State.reset.rlState x = rlFree ∧ State.reset.get F.RELOC_WATERMARK_W x = 0 :=
  ⟨State.get_reset_eq_zero (f := F.RELOC_STATE_STATE) (by decide : 0 < 2 ^ 28),
   State.get_reset_eq_zero (f := F.RELOC_WATERMARK_W) (by decide : 0 < 2 ^ 0)⟩

theorem State.reset_txState (k : Nat) : State.reset.txState k = txFree :=
  State.get_reset_eq_zero (f := F.TXSLOT_STATE_STATE) (by decide : 0 < 2 ^ 28)

/-- PORT_CFG resets with HOST_ID alone set (127: none, R90), so every port, bonded or not, has ROLE 0. -/
theorem State.reset_role (p : Nat) : State.reset.role p = 0 := by
  have hrole : State.reset.get F.PORT_CFG_ROLE p = 0 := by
    rw [State.get_reset, show F.PORT_CFG_ROLE.reg.reset p 0 = 0x0000FE00 from rfl]
    rfl
  rw [State.role, hrole, ite_self]

theorem State.reset_rung : State.reset.rung = rungBlaze :=
  State.get_reset_eq_zero (f := F.PWR_STATE_STATE) (by decide : 0 < 2 ^ 28)

theorem State.reset_ash : State.reset.flag F.FC_STATUS_ASH = false :=
  State.flag_reset_eq_false (by decide : 0 < 2 ^ 31)

/-! ## The statement -/

/-- Settles O51: a field reads its bits of the register's reset value, and every list of the state is empty. -/
theorem whatResetLeaves : Obligations.WhatResetLeaves := by
  unfold Obligations.WhatResetLeaves
  exact ⟨fun c => State.reset_channel c.val, fun x => State.reset_relocation x.val, fun k => State.reset_txState k.val,
    fun n => State.reset_source n.val, fun p => ⟨State.reset_role p.val, rfl⟩, State.reset_rung, State.reset_ash,
    rfl, rfl, rfl, rfl, rfl⟩

end Sys2Proof.Machine

/-!
PROOF. An idle step with nothing to settle: only the clock and the powered life advance (R39, R509).
-/
namespace Sys2Proof.Machine

/-! ## A fold whose steps change nothing -/

theorem foldl_eq_self {σ α : Type} {f : σ → α → σ} {s : σ} {l : List α} (h : ∀ x ∈ l, f s x = s) : l.foldl f s = s := by
  induction l with
  | nil => rfl
  | cons x l ih =>
    rw [List.foldl_cons, h x List.mem_cons_self]
    exact ih (fun y hy => h y (List.mem_cons_of_mem _ hy))

/-! ## The passage of time -/

/-- With no session open none ends. -/
theorem State.endSessions_nil (s : State) (f : Session → Bool) (h : s.sessions = []) : s.endSessions f = s := by
  simp [State.endSessions, h]

theorem State.pmuTick_frozen (s : State) (u : Nat) (h : Frozen s) : s.pmuTick u = s := by
  have hf : s.flag F.PMU_GLOBAL_FREEZE_ALL = true := h
  simp [State.pmuTick, State.pmuRuns, hf]

/-- A port with nothing in its Bulk queue and no Bulk credit settles nothing (R216, R217). -/
theorem State.bulkTick_idle (s : State) (p : Nat)
    (h : s.queue p 3 = [] ∧ s.bulkCredit p = 0 ∧ s.flag F.BULK_STATUS_PROMOTED p = false) : s.bulkTick p = s := by
  obtain ⟨hq, hc, hp⟩ := h
  have haccrue : s.bulkAccrue p 20 = s := by simp [State.bulkAccrue, hq, hc]
  have hsettle : s.bulkSettle p = s := by simp [State.bulkSettle, hq, hc, hp]
  rw [State.bulkTick, haccrue, hsettle, ite_self]

theorem State.wearRetry_nil (s : State) (h : s.telem.waits = []) : s.wearRetry = s := by
  have hw : s.withTelem (fun t => { t with waits := [] }) = s := by
    rw [State.withTelem, ← h]
  simp [State.wearRetry, h, hw]

/-- In a state with nothing to settle only the clock and the powered life advance. -/
theorem tick_still (s : State) (hf : Frozen s) (hw : s.telem.waits = [])
    (hb : ∀ p : Port, s.queue p.val 3 = [] ∧ s.bulkCredit p.val = 0 ∧ s.flag F.BULK_STATUS_PROMOTED p.val = false) :
    tick s = (s.withFlash (fun f => { f with life := f.life + s.tickNs })).bumpWrap F.FC_TIME_V s.tickNs := by
  have hpmu : (List.range 229).foldl State.pmuTick s = s := foldl_eq_self (fun u _ => s.pmuTick_frozen u hf)
  have hbulk : (List.range 96).foldl State.bulkTick s = s :=
    foldl_eq_self (fun p hp => s.bulkTick_idle p (hb ⟨p, List.mem_range.mp hp⟩))
  simp only [tick, hpmu, ite_self, hbulk, s.wearRetry_nil hw]

theorem State.tickNs_eq (s : State) :
    s.tickNs = if s.rung = rungBanked ∨ s.rung = rungEmber then 30518 else 10 := by
  simp [State.tickNs]

/-- Settles O48: every part of an idle step but the clock and the powered life finds nothing to do. -/
theorem anEmptyQueueLetsTimePass : Obligations.AnEmptyQueueLetsTimePass := by
  unfold Obligations.AnEmptyQueueLetsTimePass
  refine ⟨fun s u i hp hr => by rw [step, hp]; simp only [hr], fun s hp hr hs hq hf hw hb => ?_⟩
  have hstep : step s = .next (tick s) := by
    have hidle : step s = done (tick s) := by
      rw [step, hp]; simp only [hr, idle, s.endSessions_nil _ hs]
    rw [hidle, done_quiet _ (by rw [tick_still s hf hw hb]; exact hq)]
  refine ⟨tick s, hstep, ?_⟩
  rw [tick_still s hf hw hb, ← s.tickNs_eq]
  exact ⟨State.get_put_self _ _ _ _ _ (by decide), rfl, (KeepsRegs.refl s _).put _ _ _ _ (.head _), rfl⟩

end Sys2Proof.Machine

/-!
PROOF. What firmware does for an emulated device: configuration requests, decoders, hot-plug reports and mailbox commands (R29, R219, R247, R252).
-/
namespace Sys2Proof.Machine

/-! ## What the Hearth says (R219) -/

theorem State.say_says (s : State) (p : Nat) (x : Said) : Says s (s.say p x) p x := by
  unfold Says State.say
  split <;> simp

/-- Saying something touches messages, message IDs and outputs only. -/
theorem State.say_frame (s : State) (p : Nat) (x : Said) :
    { s.say p x with msgs := s.msgs, nextId := s.nextId, out := s.out } = s := by
  unfold State.say
  split <;> rfl

/-- To a port it goes as a message. -/
theorem State.say_port_frame (s : State) (p : Port) (x : Said) :
    { s.say p.val x with msgs := s.msgs, nextId := s.nextId } = s := by
  rw [State.say, if_pos p.isLt]

@[simp] theorem State.say_todo (s : State) (p : Nat) (x : Said) : (s.say p x).todo = s.todo := by
  have h := congrArg State.todo (s.say_frame p x); exact h

@[simp] theorem State.say_emulated (s : State) (p : Nat) (x : Said) : (s.say p x).emulated = s.emulated := by
  have h := congrArg State.emulated (s.say_frame p x); exact h

/-! ## Emulated devices -/

@[simp] theorem State.emul_setEmul (s : State) (st : Nat) (e : Emulated) : (s.setEmul st e).emul st = e :=
  numGet_put_self _ _ _ _

@[simp] theorem State.emul_say (s : State) (p : Nat) (x : Said) (st : Nat) : (s.say p x).emul st = s.emul st := by
  rw [State.emul, s.say_emulated, State.emul]

@[simp] theorem State.dec_setHdm (s : State) (st k : Nat) (x : Hdm) : ((s.setHdm st k x).emul st).dec k = x := by
  rw [State.setHdm, State.emul_setEmul, Emulated.dec, numGet_put_self]

/-! ## Mailbox commands (R252) -/

/-- A mailbox command that firmware serves answers its host, clears the doorbell and makes its change of the Stall's emulated device. -/
theorem gives_mail {c : Instr} {s : State} {st opcode : Nat} {code : MailCode} {vs : List Nat} {f : Emulated → Emulated}
    (hq : Quiet s) (hr : s.mailRuns st = true) (e : exec c s = done (s.mail st opcode code vs f)) :
    Gives c s (fun t => Says s t (s.mailPort st) (.mailbox st opcode code vs) ∧
      t.emul st = { f (s.emul st) with doorbell := false } ∧
      { t with msgs := s.msgs, nextId := s.nextId, out := s.out, emulated := s.emulated } = s) := by
  let u := s.setEmul st { f (s.emul st) with doorbell := false }
  have hmail : s.mail st opcode code vs f = u.say (s.mailPort st) (.mailbox st opcode code vs) := by
    rw [State.mail, if_pos hr]
  have hframe := u.say_frame (s.mailPort st) (.mailbox st opcode code vs)
  rw [hmail] at e
  refine Gives.of_done e ((u.say_todo _ _).trans hq) ⟨u.say_says _ _, by simp [u], ?_⟩
  exact congrArg (fun v : State => { v with emulated := s.emulated }) hframe

/-! ## Configuration requests (R29, R247) -/

/-- What firmware needs to serve a configuration request of the host on a port. -/
structure State.ServesConfig (s : State) (p : Port) (g : CfgTarget) : Prop where
  host : s.isHostPort p.val = true
  takes : s.takes p.val = true
  rate : s.flag F.PORT_STATUS_LOW_RATE p.val = false
  owns : s.cfgOwns (s.get F.PORT_CFG_HOST_ID p.val) g = true
  up : s.hearthDown = false
  link : s.txns.lost.contains (halfOf p.val) = false

theorem State.configRequest_read {s : State} {p : Port} {g : CfgTarget} (h : s.ServesConfig p g) (id : Nat) (off : Fin 4096) :
    s.configRequest p.val id g (.read off) =
      s.say p.val (.config (s.cfgRead (s.get F.PORT_CFG_HOST_ID p.val) g off.val)) := by
  unfold State.configRequest
  simp only [h.host, h.takes, h.rate, h.owns, h.up, h.link, Bool.not_true, Bool.false_and, Bool.or_self,
    Bool.false_eq_true, if_false]

theorem State.configRequest_hdmCommit {s : State} {p : Port} {st : StallId} (h : s.ServesConfig p (.stall st)) (id : Nat) (k : Fin 4) :
    s.configRequest p.val id (.stall st) (.hdmCommit k) =
      (s.hdmCommit (s.get F.PORT_CFG_HOST_ID p.val) st.val k.val).say p.val (.config 0) := by
  unfold State.configRequest
  simp only [h.host, h.takes, h.rate, h.owns, h.up, h.link, Bool.not_true, Bool.false_and, Bool.or_self,
    Bool.false_eq_true, if_false]

/-- A Commit of a decoder that lies where its DEC entry places it waits for the epoch (R247). -/
theorem State.hdmCommit_placed {s : State} {host st k d : Nat} {x : Hdm} (hd : (s.decodersNaming host st)[k]? = some d)
    (hx : (s.emul st).dec k = x) (hw : x.ways = 1) (hs : x.size = s.get F.DEC_SIZE_V host d * 2 ^ 28)
    (hb : x.base = s.get F.DEC_BASE_V host d * 2 ^ 28) (hp : s.flag F.DEC_CTRL_HOST_PLACE host d = false) :
    s.hdmCommit host st k = s.setHdm st k { x with waiting := true, error := false } := by
  simp only [State.hdmCommit, hd, hx, hp]
  simp [hs, hw, hb]

/-- Settles O16: a mailbox command by `gives_mail`, a configuration request by what firmware serves it with. -/
theorem emulatedDeviceAndMailbox : Obligations.EmulatedDeviceAndMailbox := by
  unfold Obligations.EmulatedDeviceAndMailbox
  refine ⟨?read, ?commit, ?committed, ?plug, ?doorbell, ?events, ?clear, ?getTime, ?setTime, ?logs, ?log⟩
  case read =>
    intro s p id g off hq hhost htakes hrate howns hup hlink
    have hsay := s.configRequest_read ⟨hhost, htakes, hrate, howns, hup, hlink⟩ id off
    exact Gives.of_done (congrArg done hsay) ((s.say_todo _ _).trans hq) ⟨s.say_says _ _, s.say_port_frame p _⟩
  case commit =>
    rintro s p id st k d _ x _ hq rfl rfl hhost htakes hrate howns hup hlink hd hx hw hs hb hp
    have hsay := s.configRequest_hdmCommit ⟨hhost, htakes, hrate, howns, hup, hlink⟩ id k
    rw [State.hdmCommit_placed hd hx hw hs hb hp] at hsay
    refine Gives.of_done (congrArg done hsay) ((State.say_todo _ _ _).trans hq) ⟨by simp, State.say_says _ _ _, ?_⟩
    have hframe := State.say_port_frame (s.setHdm st.val k.val { x with waiting := true, error := false }) p (.config 0)
    exact congrArg (fun v : State => { v with emulated := s.emulated }) hframe
  case committed =>
    intro s st k hq hup hw
    have hset : s.hdmCommitted st.val k.val =
        s.setHdm st.val k.val { (s.emul st.val).dec k.val with committed := true, waiting := false } := by
      simp [State.hdmCommitted, hup, hw]
    exact Gives.of_done (congrArg done hset) hq ⟨by simp, rfl⟩
  case plug =>
    intro s h v b rest hq hup hplugs
    refine Gives.of_done (u := (s.withTxns (fun t => { t with plugs := rest })).plugEvent h v b) ?_ hq ⟨rfl, rfl, rfl⟩
    show execHotPlugNotify s = _
    simp [execHotPlugNotify, hplugs, hup]
  case doorbell =>
    intro s st hq
    exact Gives.of_done (u := s.setEmul st.val { s.emul st.val with doorbell := true }) rfl hq ⟨by simp, rfl⟩
  case events => exact fun s st hq hr => gives_mail (f := id) hq hr rfl
  case clear =>
    intro s st hs hq hr hknown
    have hall : hs.all (fun h => (s.emul st.val).log.any (fun r => r.handle == h)) = true := List.all_eq_true.mpr hknown
    refine gives_mail (f := fun e => { e with log := e.log.filter (fun r => !hs.contains r.handle) }) hq hr ?_
    show execClearEventRecords st hs s = _
    rw [execClearEventRecords, if_pos hall]
  case getTime =>
    intro s st m hq hr hm
    refine gives_mail (f := id) hq hr ?_
    show execGetTimestamp st s = _
    simp only [execGetTimestamp, hm]
  case setTime =>
    exact fun s st v hq hr => gives_mail (f := fun e => { e with timestamp := v.toNat, stampAt := some s.now }) hq hr rfl
  case logs => exact fun s st hq hr => gives_mail (f := id) hq hr rfl
  case log => exact fun s st off len hq hr => gives_mail (f := id) hq hr rfl

end Sys2Proof.Machine

/-!
PROOF. Requests, responses, snoops and time-outs at the ports (R26, R28, R100, R115, R218, R264).
-/
namespace Sys2Proof.Machine

/-! ## A counter that steps by 0 -/

theorem Word.setBits_bits (v : Word) (lo w : Nat) : Word.setBits v lo w (Word.bits v lo w) = v := by
  have hle : Word.bits v lo w * 2 ^ lo ≤ v.toNat :=
    calc v.toNat / 2 ^ lo % 2 ^ w * 2 ^ lo ≤ v.toNat / 2 ^ lo * 2 ^ lo := Nat.mul_le_mul_right _ (Nat.mod_le _ _)
      _ ≤ v.toNat := Nat.div_mul_le_self _ _
  have hmod : Word.bits v lo w % 2 ^ w = Word.bits v lo w := Nat.mod_mod _ _
  rw [Word.setBits, hmod, Nat.sub_add_cancel hle, BitVec.ofNat_toNat, BitVec.setWidth_eq]

/-- A register that is stored again reads as before, and so does every other. -/
@[simp] theorem State.rd_wr_rd (s : State) (r : Reg) (i j : Nat) (r' : Reg) (i' j' : Nat) :
    (s.wr r (s.rd r i j) i j).rd r' i' j' = s.rd r' i' j' := by
  by_cases h : (⟨r', i', j'⟩ : Key) = ⟨r, i, j⟩
  · obtain ⟨rfl, rfl, rfl⟩ := Key.mk.injEq .. ▸ h
    exact s.rd_wr_self _ _ _ _
  · exact s.rd_wr_ne _ _ _ _ _ _ _ h

@[simp] theorem State.get_wr_rd (s : State) (r : Reg) (i j : Nat) (f : Fld) (i' j' : Nat) :
    (s.wr r (s.rd r i j) i j).get f i' j' = s.get f i' j' := by
  rw [State.get, State.rd_wr_rd, State.get]

theorem State.bump_zero (s : State) (f : Fld) (i j : Nat) : s.bump f 0 i j = s.wr f.reg (s.rd f.reg i j) i j := by
  have hput : s.put f (min (2 ^ f.w - 1) (s.get f i j + 0)) i j = s.wr f.reg (s.rd f.reg i j) i j := by
    have hlt : s.get f i j < 2 ^ f.w := Nat.mod_lt _ (by positivity)
    rw [State.put, Nat.add_zero, Nat.min_eq_right (by omega), State.get, Word.setBits_bits]
  unfold State.bump
  rw [hput]
  split <;> rfl

/-! ## What a message meets on its way in -/

/-- At Blaze, with no entry to a lower rung on its way, an exit cause changes nothing (R541). -/
theorem State.exitCause_blaze (s : State) (hr : s.rung = rungBlaze) (he : s.power.entering = none) : s.exitCause = s := by
  simp [State.exitCause, hr, he]

/-- The state that takes in a message without deferred writes: its half's write stall counter is stored again. -/
def State.arrived (s : State) (h : Nat) : State := s.wr .WRITE_STALL_COUNT (s.rd .WRITE_STALL_COUNT h) h

theorem State.arrived_eq (s : State) (h : Nat) (hr : s.rung = rungBlaze) (he : s.power.entering = none) :
    s.exitCause.bump F.WRITE_STALL_COUNT_V 0 h = s.arrived h := by
  rw [s.exitCause_blaze hr he, State.bump_zero]; rfl

theorem State.get_arrived (s : State) (h : Nat) (f : Fld) (i j : Nat) : (s.arrived h).get f i j = s.get f i j :=
  s.get_wr_rd _ _ _ _ _ _

theorem State.flag_arrived (s : State) (h : Nat) (f : Fld) (i j : Nat) : (s.arrived h).flag f i j = s.flag f i j := by
  rw [State.flag, s.get_arrived, State.flag]

theorem State.arrived_keeps (s : State) (h : Nat) : KeepsRegs s (s.arrived h) [] := fun _ _ => s.rd_wr_rd _ _ _ _ _ _

theorem State.arrived_todo (s : State) (h : Nat) : (s.arrived h).todo = s.todo := s.wr_todo _ _ _ _

theorem State.arrived_out (s : State) (h : Nat) : (s.arrived h).out = s.out := s.wr_out _ _ _ _

/-- With nothing kept for its MAC, what comes with its MAC is released at once (R104). -/
theorem State.receives_mac (s : State) (p : Nat) (x : Received) (h : s.spans = []) :
    s.receives p x true = s.releaseOne p x := by
  have hs : { s with spans := [] } = s := by rw [← h]
  simp [State.receives, h, hs]

theorem State.cellsCome_nil (s : State) (p : Nat) (h : s.msgs = []) : s.cellsCome p = s := by
  simp only [State.cellsCome, h, List.map_nil]
  rw [← h]

/-- A message with no cells leaves the device; nothing takes the place of its cells. -/
theorem State.remove_no_cells (s : State) (m : Msg) (hc : m.cells = []) (hk : s.buf.skid = []) :
    s.remove m = { s with msgs := s.msgs.filter (fun x => x.id != m.id) } := by
  simp [State.remove, State.freeCells, hc, hk, State.placeSkid]

/-- With no session enabled no copy is made (R192). -/
theorem State.mirrorCopies_off (s : State) (h : Nat) (m : Msg) (hoff : ∀ n : Fin 8, s.flag F.MIR_CTRL_EN h n.val = false) :
    s.mirrorCopies h m = s := by
  refine foldl_eq_self (fun n hn => ?_)
  have hen := hoff ⟨n, List.mem_range.mp hn⟩
  simp only at hen
  simp [State.mirrorOne, State.mirrorWants, hen]

/-- With no copy in a half none is discarded (R195). -/
theorem State.mirrorFloor_none (s : State) (h n : Nat) (hm : s.mirrorHead h = none) : s.mirrorFloor h n = s := by
  cases n with
  | zero => rfl
  | succ n => simp [State.mirrorFloor, hm]

/-! ## Ports of two states whose fields read the same -/

theorem State.role_congr {s t : State} (h : ∀ f i j, t.get f i j = s.get f i j) (p : Nat) : t.role p = s.role p := by
  rw [State.role, State.bondedInto, State.flag, h, h, State.role, State.bondedInto, State.flag]

theorem State.isCascade_congr {s t : State} (h : ∀ f i j, t.get f i j = s.get f i j) (p : Nat) : t.isCascade p = s.isCascade p := by
  rw [State.isCascade, State.role_congr h, State.isCascade]

theorem State.isHostPort_congr {s t : State} (h : ∀ f i j, t.get f i j = s.get f i j) (p : Nat) :
    t.isHostPort p = s.isHostPort p := by
  rw [State.isHostPort, State.role_congr h, State.isHostPort]

theorem State.awaitsKeys_congr {s t : State} (h : ∀ f i j, t.get f i j = s.get f i j) (p : Nat) :
    t.awaitsKeys p = s.awaitsKeys p := by
  simp only [State.awaitsKeys, State.secure, State.flag, h]

theorem State.isCascade_of_isHostPort {s : State} {p : Nat} (h : s.isHostPort p = true) : s.isCascade p = false := by
  simp only [State.isHostPort, Bool.or_eq_true, beq_iff_eq] at h
  rcases h with h | h <;> simp [State.isCascade, h]

/-- A message of no Cascade partner's returns no link credits (R174). -/
theorem State.creditsBack_uncascaded {s : State} {m : Msg} (h : s.isCascade m.input = false) (hs : m.charge ≠ .seam) :
    s.creditsBack m = s := by
  simp [State.creditsBack, h, hs]

/-- A message for the Hearth by the management reserve (R218). -/
def Msg.withHearth (m : Msg) : Msg := { m with stage := .atHearth, charge := .mgmt, hdrMgmt := true }

/-- The only message of the device, which takes no cell, goes to the Hearth by the management reserve (R218). -/
theorem State.toHearth_alone (s : State) (m : Msg) (hf : Frozen s) (hm : s.msgs = [m]) (hb : m.blocks = 0)
    (hd : m.hdrMgmt = false) (ho : m.op ≠ .mirror) (hoff : ∀ n : Fin 8, s.flag F.MIR_CTRL_EN m.half n.val = false)
    (hr : s.charged m.half .mgmt ≤ s.get F.BUF_MGMT_RESERVE_V m.half) :
    s.toHearth m = some { s with msgs := [m.withHearth] } := by
  have hroom : (s.msgs.filter (fun x => x.half == m.half && x.hdrMgmt)).length < 256 := by simp [hm, hd]
  have hreserve : s.charged m.half .mgmt + m.blocks ≤ s.get F.BUF_MGMT_RESERVE_V m.half := by rw [hb]; exact hr
  have hplace : s.place m.withHearth = { s with msgs := [m.withHearth] } := by
    simp [State.place, hm, Msg.withHearth]
  have htake : s.toHearth m = some ((((s.place m.withHearth).count 226 1 1).mirrorCopies m.half m.withHearth).mirrorFloor m.half
      (((s.place m.withHearth).count 226 1 1).mirrorCopies m.half m.withHearth).msgs.length) := by
    simp only [State.toHearth, hroom, hreserve, decide_true, Bool.and_self, if_true, Msg.withHearth]
  have hhead : (s.place m.withHearth).mirrorHead m.half = none := by
    have hop : m.withHearth.op = m.op := rfl
    simp [State.mirrorHead, hplace, hop, ho]
  rw [htake, (s.place m.withHearth).count_frozen _ _ _ hf, (s.place m.withHearth).mirrorCopies_off _ _ hoff,
    State.mirrorFloor_none _ _ _ hhead, hplace]

/-- A fabric-manager mailbox request, whose MAC came with it. -/
abbrev mailboxReq (a : BitVec 64) (l : Nat) : ReqIn := ⟨.fmMailbox, a, l, [], false, 0, .share, true, 0⟩

/-- Its class 9 message on its hold list. -/
def State.mailboxRequest (s : State) (p : Nat) (a : BitVec 64) (l : Nat) : Msg :=
  { id := s.nextId, cls := 9, op := .mgmt, input := p, dst := 127, host := some (s.get F.PORT_CFG_HOST_ID p), addr := a.toNat,
    len := l, session := s.nextId, half := halfOf p, charge := .receive }

/-- What a mailbox request of a host leaves: its message alone, with the Hearth. -/
theorem State.toManagement_fmMailbox (s : State) (p : Nat) (a : BitVec 64) (l : Nat) (hf : Frozen s)
    (hhost : s.isHostPort p = true) (hlost : s.txns.lost = []) (hm : s.msgs = []) (hid : s.nextId ≠ 0)
    (hoff : ∀ n : Fin 8, s.flag F.MIR_CTRL_EN (halfOf p) n.val = false)
    (hr : s.charged (halfOf p) .mgmt ≤ s.get F.BUF_MGMT_RESERVE_V (halfOf p)) :
    s.toManagement p (mailboxReq a l) =
      { s with msgs := [(s.mailboxRequest p a l).withHearth], nextId := s.nextId + 1 } := by
  let m : Msg := s.mailboxRequest p a l
  let u : State := { s with msgs := [m], nextId := s.nextId + 1 }
  have hmgmt : u.charged (halfOf p) .mgmt = s.charged (halfOf p) .mgmt := by
    simp [State.charged, State.sumBlocks, u, m, State.mailboxRequest, hm]
  have hearth : u.toHearth m = some { u with msgs := [m.withHearth] } :=
    u.toHearth_alone m hf rfl rfl rfl (by simp [m, State.mailboxRequest]) hoff (hmgmt.trans_le hr)
  have hcas : State.isCascade { u with msgs := [m.withHearth] } m.input = false := State.isCascade_of_isHostPort hhost
  have hcredit : State.creditsBack { u with msgs := [m.withHearth] } m = { u with msgs := [m.withHearth] } :=
    State.creditsBack_uncascaded hcas (by simp [m, State.mailboxRequest])
  have hoffer : u.offer m false = { u with msgs := [m.withHearth] } := by
    have hup : u.txns.lost.contains m.half = false := by simp [u, hlost]
    have hdst : m.dst = 127 := rfl
    have hcol : m.colour ≠ .red := by simp [m, State.mailboxRequest]
    simp only [State.offer, hup, hdst, hcol, hearth, hcredit]
    simp
  have hnew : u.offerNew m false = { u with msgs := [m.withHearth] } := by
    have hfind : u.msgs.find? (fun x => x.id == m.id) = some m := by simp [u]
    have hhead : u.isHead m = true := by simp [State.isHead, State.aheadOf, u]
    have hwait : m.wait = none := rfl
    have htwin : m.twin = none := rfl
    simp only [State.offerNew, hfind, hhead, hwait, htwin, hoffer]
    simp
  have henq : s.freshId.2.enqueue { m with half := 0, charge := .none } (halfOf p) .receive = (m, u) := by
    simp [State.enqueue, State.freshId, m, State.mailboxRequest, hid, State.arrive, State.arriveWith, Msg.dataCells, State.takeCells, u, hm]
  have hone : s.toManagement p (mailboxReq a l) =
      (s.freshId.2.enqueue { m with half := 0, charge := .none } (halfOf p) .receive).2.offerNew
        (s.freshId.2.enqueue { m with half := 0, charge := .none } (halfOf p) .receive).1 false := by
    simp [State.toManagement, hhost, State.freshId, m, State.mailboxRequest]
  rw [hone, henq, hnew]

theorem State.ingress_fmMailbox (s : State) (p : Nat) (a : BitVec 64) (l : Nat) (hhost : s.isHostPort p = true)
    (hheld : s.isHeld p = false) (hkeys : s.awaitsKeys p = false) (hlow : s.flag F.PORT_STATUS_LOW_RATE p = false) :
    s.ingress p (mailboxReq a l) =
      s.toManagement p (mailboxReq a l) := by
  simp [State.ingress, State.takes, State.poisonIn, hhost, hheld, hkeys, hlow]

theorem exec_mailboxReq {s : State} {p : Port} {a : BitVec 64} {l : Nat} (hlink : s.linkState p.val = lsL0)
    (hhost : s.isHostPort p.val = true) (hrefuses : s.refuses p.val = false) (hkeys : s.awaitsKeys p.val = false)
    (hrung : s.rung = rungBlaze) (hentering : s.power.entering = none) (hmsgs : s.msgs = []) (hspans : s.spans = [])
    (hcred : s.credited p.val (9, 0) = true) :
    exec (.ingressRequest p (mailboxReq a l)) s = done ((s.arrived (halfOf p.val)).toManagement p.val (mailboxReq a l)) := by
  let u : State := s.arrived (halfOf p.val)
  simp only [State.refuses, Bool.or_eq_false_iff] at hrefuses
  obtain ⟨⟨hheld, hlow⟩, -⟩ := hrefuses
  have hingress : u.ingress p.val (mailboxReq a l) = u.toManagement p.val (mailboxReq a l) :=
    u.ingress_fmMailbox p.val a l ((State.isHostPort_congr (s.get_arrived _) _).trans hhost) hheld
      ((State.awaitsKeys_congr (s.get_arrived _) _).trans hkeys) ((s.flag_arrived _ _ _ _).trans hlow)
  have hroom : s.credited p.val (reqCredit (mailboxReq a l)) = true := by simpa [reqCredit] using hcred
  show execIngressRequest p (mailboxReq a l) s = _
  simp only [execIngressRequest, hlink, hroom, s.arrived_eq _ hrung hentering]
  rw [State.cellsCome_nil u _ hmsgs, State.receives_mac u _ _ hspans, State.releaseOne, hingress]
  rfl

/-! ## A response toward the other half (R28) -/

/-- The completion of a write, on its hold list in the half where it arrived. -/
def Msg.completion (m : Msg) (h : Nat) : Msg :=
  { m.response [] false with slice := none, wait := none, twin := none, copy := false, stage := .held, half := h, charge := .receive }

/-- A green message for a port of the other half waits for its Seam channel (R183). -/
theorem State.offer_over_seam (s : State) (m : Msg) (hc : m.colour = .green) (hd : m.dst < 96) (hh : halfOf m.dst ≠ m.half) :
    s.offer m false = s := by
  have h127 : ¬ m.dst = 127 := by omega
  simp [State.offer, hc, h127, Msg.dstHalf, hd, hh]

/-- The completion of a write joins the hold list of its half toward the requester's half, and no more happens to it. -/
theorem State.respond_over_seam (s : State) (m : Msg) (hi : m.id ≠ 0) (hin : m.input < 96) (hheld : s.isHeld m.input = false)
    (hh : halfOf m.input ≠ halfOf m.dst) (hc : m.colour = .green) (hnew : ∀ x ∈ s.msgs, x.id ≠ m.id) :
    s.respond m [] false = { s with msgs := s.msgs ++ [m.completion (halfOf m.dst)] } := by
  let a : Msg := m.completion (halfOf m.dst)
  let u : State := { s with msgs := s.msgs ++ [a] }
  have henq : s.enqueue { a with half := m.half, charge := .none, stage := m.stage } (halfOf m.dst) .receive = (a, u) := by
    simp [State.enqueue, State.arrive, State.arriveWith, Msg.dataCells, State.takeCells, a, u, Msg.completion, Msg.response, hi]
  have hfind : u.msgs.find? (fun x => x.id == a.id) = some a := by
    have hnone : s.msgs.find? (fun x => x.id == a.id) = none := by
      have hid : a.id = m.id := rfl
      simpa [List.find?_eq_none, hid] using hnew
    simp [u, List.find?_append, hnone]
  have hwait : u.offer a false = u := u.offer_over_seam a hc hin hh
  have hoffer : u.offerNew a false = u := by
    have htwin : a.twin = none := rfl
    simp only [State.offerNew, hfind, htwin, hwait, ite_self]
  have hresp : s.respond m [] false =
      (s.enqueue { a with half := m.half, charge := .none, stage := m.stage } (halfOf m.dst) .receive).2.offerNew
        (s.enqueue { a with half := m.half, charge := .none, stage := m.stage } (halfOf m.dst) .receive).1 false := by
    simp [State.respond, hheld, a, Msg.completion, Msg.response]
  rw [hresp, henq, hoffer]

/-- The completion of a host's write at a memory device takes the place of the write. -/
theorem State.deviceResponse_write (s : State) (p id : Nat) (m : Msg) (hheld : s.isHeld p = false) (hkeys : s.awaitsKeys p = false)
    (hm : s.awaiting p id = some m) (hs : m.squashed = false) (hin : m.input < 96) (ht : m.twin = none) (hc : m.cells = [])
    (hk : s.buf.skid = []) :
    s.deviceResponse p id [] false = State.respond { s with msgs := s.msgs.filter (fun x => x.id != m.id) } m [] false := by
  have hnote : s.notePoison m false = s := by
    unfold State.notePoison
    split <;> simp
  simp [State.deviceResponse, hheld, hkeys, hm, State.poisonIn, hnote, State.deviceDone, hs, hin, ht, s.remove_no_cells m hc hk]

theorem exec_deviceResponse_write {s : State} {p : Port} {m : Msg} (hrung : s.rung = rungBlaze) (hentering : s.power.entering = none)
    (hspans : s.spans = []) (hheld : s.isHeld p.val = false) (hkeys : s.awaitsKeys p.val = false)
    (hcred : s.credited p.val (3, 0) = true) (hm : s.awaiting p.val m.id = some m) (hne : m.id ≠ 0) (hd : m.dst = p.val)
    (hs : m.squashed = false) (hin : m.input < 96) (hinheld : s.isHeld m.input = false) (hhalf : halfOf m.input ≠ halfOf p.val)
    (ht : m.twin = none) (hc : m.cells = []) (hk : s.buf.skid = []) (hcol : m.colour = .green) :
    exec (.deviceResponse p m.id [] ⟨false, true, 0⟩) s =
      done { s.arrived (halfOf p.val) with
        msgs := s.msgs.filter (fun x => x.id != m.id) ++ [m.completion (halfOf m.dst)] } := by
  let u : State := s.arrived (halfOf p.val)
  let v : State := { u with msgs := s.msgs.filter (fun x => x.id != m.id) }
  have hresp : u.deviceResponse p.val m.id [] false = { v with msgs := v.msgs ++ [m.completion (halfOf m.dst)] } := by
    rw [u.deviceResponse_write p.val m.id m hheld ((State.awaitsKeys_congr (s.get_arrived _) _).trans hkeys) hm hs hin ht hc hk]
    exact v.respond_over_seam m hne hin hinheld (by rw [hd]; exact hhalf) hcol (fun x hx => by simpa using (List.mem_filter.mp hx).2)
  have hroom : s.credited p.val (3, (([] : List Byte).length + 63) / 64) = true := hcred
  show execDeviceResponse p m.id [] _ s = _
  simp only [execDeviceResponse, hroom, s.arrived_eq _ hrung hentering]
  rw [State.receives_mac u _ _ hspans, State.releaseOne, hresp]
  rfl

/-! ## Values that fit their fields -/

theorem State.get_put_lt (s : State) (f : Fld) {v : Nat} (i j : Nat) (h : f.lo + f.w ≤ 64) (hv : v < 2 ^ f.w) :
    (s.put f v i j).get f i j = v := by
  rw [s.get_put_self f v i j h, Nat.mod_eq_of_lt hv]

theorem saturated_lt (w v n : Nat) : saturated w v n < 2 ^ w := by
  have hpos : 0 < 2 ^ w := by positivity
  rw [saturated]
  omega

/-! ## Time-outs (R115) -/

/-- A bit of a port's PORT_ERR whose source is latched: the source counts (R116, R497). -/
theorem State.portErr_latched (s : State) (f : Fld) (p : Nat) (i : FaultInfo) (hreg : f.reg = .PORT_ERR) (hlo : f.lo < 6)
    (h : s.flag F.FC_SRC_LATCHED (8 * p + 1) = true) :
    s.portErr f p i = ((s.put f 1 p).put F.FC_SRC_COUNT (saturated 8 (s.get F.FC_SRC_COUNT (8 * p + 1)) 1) (8 * p + 1)).irqTouch p := by
  have h7 : ¬ f.lo = 7 := by omega
  have h6 : ¬ f.lo = 6 := by omega
  have hne : F.FC_SRC_LATCHED.reg ≠ f.reg := by rw [hreg]; decide
  have hl : (s.put f 1 p).flag F.FC_SRC_LATCHED (8 * p + 1) = true := by
    rw [State.flag, State.get_put_reg _ _ _ _ _ _ _ _ hne]; exact h
  have hcount : (s.put f 1 p).get F.FC_SRC_COUNT (8 * p + 1) = s.get F.FC_SRC_COUNT (8 * p + 1) :=
    State.get_put_reg _ _ _ _ _ _ _ _ hne
  simp [State.portErr, State.setErr, h7, h6, State.raise_latched _ _ _ hl, hcount]

/-- An error of a binding's traffic shows in the registers of virtual ports only (R114). -/
theorem State.bindingError_frame (s : State) (m : Msg) (p bit : Nat) : { s.bindingError m p bit with vports := s.vports } = s := by
  unfold State.bindingError
  split <;> rfl

@[simp] theorem State.bindingError_regs (s : State) (m : Msg) (p bit : Nat) : (s.bindingError m p bit).regs = s.regs := by
  have h := congrArg State.regs (s.bindingError_frame m p bit); exact h

@[simp] theorem State.bindingError_msgs (s : State) (m : Msg) (p bit : Nat) : (s.bindingError m p bit).msgs = s.msgs := by
  have h := congrArg State.msgs (s.bindingError_frame m p bit); exact h

@[simp] theorem State.bindingError_out (s : State) (m : Msg) (p bit : Nat) : (s.bindingError m p bit).out = s.out := by
  have h := congrArg State.out (s.bindingError_frame m p bit); exact h

@[simp] theorem State.bindingError_todo (s : State) (m : Msg) (p bit : Nat) : (s.bindingError m p bit).todo = s.todo := by
  have h := congrArg State.todo (s.bindingError_frame m p bit); exact h

/-- A host's request that no Stall takes leaves with its answer. -/
theorem State.answerHeld_host (s : State) (m : Msg) (hin : m.input < 96) (hh : m.host.isSome = true) (hst : m.stall = none)
    (hc : m.cells = []) (hk : s.buf.skid = []) :
    s.answerHeld m = { s with msgs := s.msgs.filter (fun x => x.id != m.id), out := s.out ++ m.heldAnswer } := by
  have hporter : m.ofPorter = false := by simp [Msg.ofPorter, hin]
  have hnone : m.host.isNone = false := by simp [Option.isNone_eq_false_iff, hh]
  have hread : s.poisonedRead m.input m = s := by simp [State.poisonedRead, hst]
  simp [State.answerHeld, hporter, hnone, hread, s.remove_no_cells m hc hk, State.emits]

/-- A set bit of PORT_ERR keeps the port's interrupt source pending (R593). -/
theorem State.irqPending_of_portErr (s : State) (f : Fld) (p : Port) (hreg : f.reg = .PORT_ERR) (h : s.flag f p.val = true) :
    s.irqPending p.val = true := by
  have hlevel : irqLatched p.val = false := by
    have := p.isLt
    simp [irqLatched]; omega
  have hrd : s.rd .PORT_ERR p.val ≠ 0#64 := by
    intro h0
    simp [State.flag, State.get, hreg, h0, Word.bits] at h
  simp [State.irqPending, hlevel, State.levelNow, p.isLt, hrd]

/-- A time-out of a host's request at a memory device, whose fault source is latched (R115). -/
theorem gives_timeout {c : Instr} {s : State} {p : Port} {m : Msg} {f : Fld} (hq : Quiet s) (e : exec c s = done (s.timeout m f))
    (hreg : f.reg = .PORT_ERR) (hlo : f.lo < 6) (hw : f.w = 1) (hd : m.dst = p.val) (hs : m.squashed = false) (hin : m.input < 96)
    (hh : m.host.isSome = true) (hst : m.stall = none) (hsl : m.slice = none) (hc : m.cells = []) (hk : s.buf.skid = [])
    (hl : s.flag F.FC_SRC_LATCHED (8 * p.val + 1) = true) :
    Gives c s (fun t => t.flag f p.val = true ∧ t.out = s.out ++ m.heldAnswer ∧ t.msgs = s.msgs.filter (fun x => x.id != m.id) ∧
      t.irqPending p.val = true ∧
      t.get F.FC_SRC_COUNT (8 * p.val + 1) = saturated 8 (s.get F.FC_SRC_COUNT (8 * p.val + 1)) 1 ∧
      KeepsRegs s t [⟨.PORT_ERR, p.val, 0⟩, ⟨.FC_SRC, 8 * p.val + 1, 0⟩]) := by
  let a : State := { s with msgs := s.msgs.filter (fun x => x.id != m.id), out := s.out ++ m.heldAnswer }
  let v : State := (a.put f 1 p.val).put F.FC_SRC_COUNT (saturated 8 (s.get F.FC_SRC_COUNT (8 * p.val + 1)) 1) (8 * p.val + 1)
  let x : State := { v.irqTouch p.val with expired := s.expired ++ [(p.val, m.id)] }
  let t : State := x.bindingError m p.val 14
  have hans : s.answerHeld m = a := s.answerHeld_host m hin hh hst hc hk
  have herr : a.portErr f p.val m.info = v.irqTouch p.val := a.portErr_latched f p.val _ hreg hlo hl
  have htimeout : s.timeout m f = t := by
    simp only [State.timeout, hs, hin, hans, hd, herr, hh, hsl, if_true]
    rfl
  have hregs : t.regs = v.regs := (x.bindingError_regs _ _ _).trans (v.irqTouch_regs _)
  have hcountreg : f.reg ≠ F.FC_SRC_COUNT.reg := by rw [hreg]; decide
  have hflag : t.flag f p.val = true := by
    rw [State.flag, State.get_regs v t hregs, State.get_put_reg _ _ _ _ _ _ _ _ hcountreg, State.get_put_self _ _ _ _ _ (by omega), hw]
    rfl
  refine Gives.of_done (e.trans (congrArg done htimeout)) ?_ ⟨hflag, ?_, ?_, t.irqPending_of_portErr f p hreg hflag, ?_, ?_⟩
  · have hv : v.todo = a.todo := (State.put_todo _ _ _ _ _).trans (State.put_todo _ _ _ _ _)
    exact (x.bindingError_todo _ _ _).trans ((v.irqTouch_todo _).trans (hv.trans hq))
  · have hv : v.out = a.out := (State.put_out _ _ _ _ _).trans (State.put_out _ _ _ _ _)
    exact (x.bindingError_out _ _ _).trans ((v.irqTouch_out _).trans hv)
  · have hv : v.msgs = a.msgs := (State.put_msgs _ _ _ _ _).trans (State.put_msgs _ _ _ _ _)
    exact (x.bindingError_msgs _ _ _).trans ((v.irqTouch_msgs _).trans hv)
  · rw [State.get_regs v t hregs]
    exact State.get_put_lt _ F.FC_SRC_COUNT _ _ (by decide) (saturated_lt _ _ _)
  · have hkeep : KeepsRegs s a [⟨.PORT_ERR, p.val, 0⟩, ⟨.FC_SRC, 8 * p.val + 1, 0⟩] := (KeepsRegs.refl s _).regs rfl
    exact ((hkeep.put f 1 p.val 0 (by simp [hreg])).put F.FC_SRC_COUNT _ _ 0 (.tail _ (.head _))).regs hregs

/-- Settles O8: each command's effect is written out by the lemma about its path, and the rest of the state is untouched. -/
theorem requestsAndResponses : Obligations.RequestsAndResponses := by
  unfold Obligations.RequestsAndResponses
  refine ⟨?mailbox, ?completion, ?snoop, ?memTimeout, ?ioTimeout, ?inventory⟩
  case mailbox =>
    intro s p a l hq hf hlink hhost hrefuses hlost hkeys hrung hentering hmsgs hspans hcred hoff hid hr
    let u : State := s.arrived (halfOf p.val)
    have hreserve : u.charged (halfOf p.val) .mgmt ≤ u.get F.BUF_MGMT_RESERVE_V (halfOf p.val) :=
      hr.trans_eq (s.get_arrived _ _ _ _).symm
    have hexec := exec_mailboxReq (l := l) (a := a) hlink hhost hrefuses hkeys hrung hentering hmsgs hspans hcred
    rw [u.toManagement_fmMailbox p.val a l ((s.flag_arrived _ _ _ _).trans hf)
      ((State.isHostPort_congr (s.get_arrived _) _).trans hhost) hlost hmsgs hid (fun n => (s.flag_arrived _ _ _ _).trans (hoff n))
      hreserve] at hexec
    refine Gives.of_done hexec ((s.arrived_todo (halfOf p.val)).trans hq) ⟨rfl, ?_, rfl, s.arrived_keeps (halfOf p.val), s.arrived_out (halfOf p.val)⟩
    simp [State.mailboxRequest, Msg.withHearth, u, s.get_arrived]
  case completion =>
    intro s p id m hq hf hrung hentering hspans hheld hkeys hcred hm hid hne hd hop hcls hs hin hinheld hhalf ht hw hc hk hcol
    subst hid
    have hexec := exec_deviceResponse_write hrung hentering hspans hheld hkeys hcred hm hne hd hs hin hinheld hhalf ht hc hk hcol
    refine Gives.of_done hexec ((s.arrived_todo (halfOf p.val)).trans hq) ⟨?_, ?_, s.arrived_keeps (halfOf p.val), s.arrived_out (halfOf p.val)⟩
    · simp [Msg.completion, Msg.response, hop, hd]
    · simp [Msg.completion, Msg.response, hop]
      exact fun x _ => (Decidable.em _).imp_right .inl
  case snoop =>
    intro s p a hq hf hrung hentering hl
    have hraise : exec (.deviceBiSnoop p a) s =
        done ((s.emit (.snoopInvalid p.val a.toNat)).put F.FC_SRC_COUNT (saturated 8 (s.get F.FC_SRC_COUNT (8 * p.val + 7)) 1) (8 * p.val + 7)) := by
      show execDeviceBiSnoop p a s = _
      rw [execDeviceBiSnoop, s.exitCause_blaze hrung hentering, State.raise_latched (s.emit _) _ _ hl, State.get_emit]
    obtain ⟨hkeep, hframe⟩ := (OnlyRegs.refl (s.emit (.snoopInvalid p.val a.toNat)) [⟨.FC_SRC, 8 * p.val + 7, 0⟩]).put
      F.FC_SRC_COUNT (saturated 8 (s.get F.FC_SRC_COUNT (8 * p.val + 7)) 1) (8 * p.val + 7) 0 (.head _)
    exact Gives.of_done hraise ((State.put_todo _ _ _ _ _).trans hq) ⟨State.put_out _ _ _ _ _,
      State.get_put_lt _ F.FC_SRC_COUNT _ _ (by decide) (saturated_lt _ _ _), hkeep,
      congrArg (fun x : State => { x with out := s.out }) hframe⟩
  case memTimeout =>
    intro s p id m hq hf hm hid hd hcls hop hs hin hh hst hsl hc hk hl
    subst hid
    have hexec : exec (.memTimeoutExpiry p m.id) s = done (s.timeout m F.PORT_ERR_MEM_TIMEOUT) := by
      show execMemTimeoutExpiry p m.id s = _
      simp [execMemTimeoutExpiry, hm, hcls]
    exact gives_timeout hq hexec rfl (by decide) rfl hd hs hin hh hst hsl hc hk hl
  case ioTimeout =>
    intro s p id m hq hf hm hid hd hcls hop hs hin hh hst hsl hc hk hl
    subst hid
    have hexec : exec (.ioTimeoutExpiry p m.id) s = done (s.timeout m F.PORT_ERR_IO_TIMEOUT) := by
      show execIoTimeoutExpiry p m.id s = _
      simp [execIoTimeoutExpiry, hm, hcls]
    exact gives_timeout hq hexec rfl (by decide) rfl hd hs hin hh hst hsl hc hk hl
  case inventory =>
    intro s p d hq hf hrole hlink hcxl hdev hnew hsw
    let e : DeviceRecord :=
      { port := p.val, serial := d.serial.toNat, capacities := d.capacities, persistent := d.persistent, gpf := d.gpf }
    let u : State := { s with inventory := s.inventory.filter (fun x => x.port != p.val) ++ [e] }
    have henter : s.enterDevice p.val d = u.put F.PORT_STATUS_PARTNER_LDS (min 16 d.capacities.length) p.val := by
      simp only [State.enterDevice, hdev]
      exact if_neg (by simpa using hnew)
    obtain ⟨hkeep, hframe⟩ := (OnlyRegs.refl u [⟨.PORT_STATUS, p.val, 0⟩]).put F.PORT_STATUS_PARTNER_LDS
      (min 16 d.capacities.length) p.val 0 (.head _)
    refine Gives.of_done (u := u.put F.PORT_STATUS_PARTNER_LDS (min 16 d.capacities.length) p.val) ?_
      ((u.put_todo _ _ _ _).trans hq) ⟨?_, ?_, hkeep, congrArg (fun x : State => { x with inventory := s.inventory }) hframe⟩
    · show execDeviceInventoryRead p d s = _
      simp [execDeviceInventoryRead, hsw, hrole, hlink, hcxl, henter]
    · simp [u, e]
    · have hlt : min 16 d.capacities.length < 2 ^ 5 := by omega
      exact State.get_put_lt _ F.PORT_STATUS_PARTNER_LDS _ _ (by decide) hlt

end Sys2Proof.Machine

/-!
PROOF. A register file that is not canonical, for which a Hearth-only reset does not count as stated (R18, R40).
-/
namespace Sys2Proof.Machine

/-- A state whose register file lists RST_COUNT twice: first at its reset value 0, which a read finds, and behind it with five
resets of each kind. Its counter units are frozen, and the sources of both halves' Hold are latched. -/
def countListedTwice : State :=
  { regs := [(⟨.FC_SRC, 780, 0⟩, 0x80000001), (⟨.FC_SRC, 781, 0⟩, 0x80000001), (⟨.PMU_GLOBAL, 0, 0⟩, 0x80000000),
             (⟨.RST_COUNT, 0, 0⟩, 0), (⟨.RST_COUNT, 0, 0⟩, 0x0000000500050005)] }

theorem countListedTwice_not_canonical : ¬ RegsCanonical countListedTwice.regs := fun h =>
  h.2 (⟨.RST_COUNT, 0, 0⟩, 0) (by decide +kernel) (by decide +kernel)

/-- A Hearth-only reset may start: nothing is under way in the state. -/
theorem countListedTwice_at_rest :
    countListedTwice.hearthBusy = false ∧ countListedTwice.flag F.FC_SRC_LATCHED 780 = true ∧
      countListedTwice.flag F.FC_SRC_LATCHED 781 = true ∧ countListedTwice.flag F.HALF_STATE_HOLD 0 = false ∧
      countListedTwice.flag F.HALF_STATE_HOLD 1 = false ∧ ∀ k : Fin 4, countListedTwice.txState k.val = txFree := by
  decide +kernel

/-- The reset drops the first entry, which holds a reset value, so that the register then reads the second (R18). -/
theorem countListedTwice_count :
    countListedTwice.get F.RST_COUNT_HEARTH = 0 ∧ countListedTwice.rstHearth.settle.get F.RST_COUNT_HEARTH = 6 := by
  decide +kernel

/-- Refutes O26: the statement admits a register file that is not canonical. Where RST_COUNT is listed twice, a Hearth-only reset
takes its count from 0 to 6, not to 1, because returning registers to their reset values drops the entry that was read. -/
theorem not_warmAndHearthResets : ¬ Obligations.WarmAndHearthResets := by
  unfold Obligations.WarmAndHearthResets
  rintro ⟨-, -, -, -, -, -, hearth⟩
  obtain ⟨hbusy, hlatched0, hlatched1, hhold0, hhold1, hfree⟩ := countListedTwice_at_rest
  obtain ⟨t, hexec, -, -, hcount, -⟩ :=
    hearth countListedTwice rfl (by decide +kernel) hbusy rfl hlatched0 hlatched1 hhold0 hhold1 hfree rfl rfl
  obtain rfl : countListedTwice.rstHearth.settle = t := Host.Outcome.next.inj hexec
  obtain ⟨hbefore, hafter⟩ := countListedTwice_count
  rw [hafter, hbefore] at hcount
  exact absurd hcount (by decide)

end Sys2Proof.Machine

/-!
PROOF. Fields and registers after an update, and folds over the lanes of a port (R4, R76).
-/
namespace Sys2Proof.Machine

/-! ## Fields that share no bit -/

/-- A write of `f` leaves every bit of `g` alone. -/
def Fld.apart (f g : Fld) : Bool :=
  decide (f.lo + f.w ≤ 64) && (g.reg != f.reg || decide (f.lo + f.w ≤ g.lo) || decide (g.lo + g.w ≤ f.lo))

theorem State.get_put_of_apart (s : State) {f g : Fld} (h : f.apart g = true) (v i j i' j' : Nat) :
    (s.put f v i j).get g i' j' = s.get g i' j' := by
  simp only [Fld.apart, Bool.and_eq_true, Bool.or_eq_true, decide_eq_true_eq, bne_iff_ne] at h
  obtain ⟨hw, hd⟩ := h
  by_cases hr : g.reg = f.reg
  · have hd : f.lo + f.w ≤ g.lo ∨ g.lo + g.w ≤ f.lo := by simpa [hr] using hd
    by_cases hi : i' = i ∧ j' = j
    · obtain ⟨rfl, rfl⟩ := hi
      exact s.get_put_apart f g v i' j' hr hw hd
    · exact s.get_put_index f g v i j i' j' (by omega)
  · exact s.get_put_reg f g v i j i' j' hr

theorem State.flag_put_of_apart (s : State) {f g : Fld} (h : f.apart g = true) (v i j i' j' : Nat) :
    (s.put f v i j).flag g i' j' = s.flag g i' j' := by
  rw [State.flag, s.get_put_of_apart h, State.flag]

theorem State.get_wr_reg (s : State) (r : Reg) (v : Word) (i j : Nat) (f : Fld) (i' j' : Nat) (h : f.reg ≠ r) :
    (s.wr r v i j).get f i' j' = s.get f i' j' := by
  rw [State.get, s.rd_wr_reg r f.reg v i j i' j' h, State.get]

/-- A flag that is stored reads as it was stored. -/
theorem State.flag_putFlag_self (s : State) {f : Fld} (h : f.lo + f.w ≤ 64) (hw : 0 < f.w) (b : Bool) (i j : Nat) :
    (s.putFlag f b i j).flag f i j = b := by
  have hone : 1 < 2 ^ f.w := Nat.one_lt_two_pow hw.ne'
  cases b <;> simp [State.flag, State.putFlag, State.get_put_self _ _ _ _ _ h, Nat.mod_eq_of_lt hone]

/-- A bit of a field, read from the word. -/
theorem Word.bits_one_of_bits (v : Word) (lo w k : Nat) (h : k < w) :
    Word.bits v (lo + k) 1 = Word.bits v lo w / 2 ^ k % 2 := by
  apply Nat.eq_of_testBit_eq
  intro n
  rw [show Word.bits v lo w / 2 ^ k % 2 = Word.bits v lo w / 2 ^ k % 2 ^ 1 from rfl, Nat.testBit_mod_two_pow,
    Nat.testBit_div_two_pow, Word.testBit_bits, Word.testBit_bits]
  by_cases hn : n < 1
  · have : k + n < w := by omega
    simp [hn, this, Nat.add_comm, Nat.add_left_comm]
  · simp [hn]

/-! ## Registers that are kept -/

theorem KeepsRegs.rd {s t : State} {ks : List Key} (h : KeepsRegs s t ks) {r : Reg} {i j : Nat} (hk : (⟨r, i, j⟩ : Key) ∉ ks) :
    t.rd r i j = s.rd r i j := h ⟨r, i, j⟩ hk

theorem KeepsRegs.get {s t : State} {ks : List Key} (h : KeepsRegs s t ks) {f : Fld} {i j : Nat}
    (hk : (⟨f.reg, i, j⟩ : Key) ∉ ks) : t.get f i j = s.get f i j := by
  rw [State.get, h.rd hk, State.get]

theorem KeepsRegs.trans {s t u : State} {ks : List Key} (h : KeepsRegs s t ks) (h' : KeepsRegs t u ks) : KeepsRegs s u ks :=
  fun k hk => (h' k hk).trans (h k hk)

theorem KeepsRegs.mono {s t : State} {ks ks' : List Key} (h : KeepsRegs s t ks) (hs : ks ⊆ ks') : KeepsRegs s t ks' :=
  fun k hk => h k (fun hm => hk (hs hm))

/-- Updates of both states that leave their registers alone. -/
theorem KeepsRegs.congr {s t s' t' : State} {ks : List Key} (h : KeepsRegs s t ks) (hs : s'.regs = s.regs) (ht : t'.regs = t.regs) :
    KeepsRegs s' t' ks :=
  fun k hk => by rw [State.rd_regs t t' ht, State.rd_regs s s' hs, h k hk]

theorem KeepsRegs.wr {s t : State} {ks : List Key} (h : KeepsRegs s t ks) (r : Reg) (v : Word) (i j : Nat)
    (hk : (⟨r, i, j⟩ : Key) ∈ ks) : KeepsRegs s (t.wr r v i j) ks :=
  fun k hn =>
    have e : k ≠ ⟨r, i, j⟩ := fun e => hn (e ▸ hk)
    (t.rd_wr_ne r k.reg v i j k.i k.j e).trans (h k hn)

theorem State.rd_clearReg_ne (s : State) (r : Reg) (i j : Nat) (k : Key) (h : k ≠ ⟨r, i, j⟩) :
    (s.clearReg r i j).rd k.reg k.i k.j = s.rd k.reg k.i k.j := by
  simp [State.rd, State.clearReg, tabFind_erase_ne h]

theorem KeepsRegs.clearReg {s t : State} {ks : List Key} (h : KeepsRegs s t ks) (r : Reg) (i j : Nat)
    (hk : (⟨r, i, j⟩ : Key) ∈ ks) : KeepsRegs s (t.clearReg r i j) ks :=
  fun k hn => (t.rd_clearReg_ne r i j k (fun e => hn (e ▸ hk))).trans (h k hn)

theorem KeepsRegs.frozen {s t : State} {ks : List Key} (h : KeepsRegs s t ks) (hk : (⟨.PMU_GLOBAL, 0, 0⟩ : Key) ∉ ks)
    (hf : Frozen s) : Frozen t := by
  rw [Frozen, State.flag, h.get (f := F.PMU_GLOBAL_FREEZE_ALL) hk]
  exact hf

/-- The role of a port follows its PORT_CFG and the BOND_CTRL of the port before it (R89, R91). -/
theorem KeepsRegs.role {s t : State} {ks : List Key} (h : KeepsRegs s t ks) (hk : ∀ k ∈ ks, k.reg ≠ .PORT_CFG ∧ k.reg ≠ .BOND_CTRL)
    (p : Nat) : t.role p = s.role p := by
  have hcfg : t.get F.PORT_CFG_ROLE p = s.get F.PORT_CFG_ROLE p := h.get (fun hm => (hk _ hm).1 rfl)
  have hbond : t.get F.BOND_CTRL_BOND_ACTIVE (p - 1) = s.get F.BOND_CTRL_BOND_ACTIVE (p - 1) := h.get (fun hm => (hk _ hm).2 rfl)
  simp [State.role, State.bondedInto, State.flag, hcfg, hbond]

theorem KeepsRegs.linkState {s t : State} {ks : List Key} (h : KeepsRegs s t ks) {p : Nat} (hk : (⟨.PHY_STATUS, p, 0⟩ : Key) ∉ ks) :
    t.linkState p = s.linkState p := h.get (f := F.PHY_STATUS_LINK_STATE) hk

theorem State.isCascade_of_role {s t : State} {p : Nat} (h : t.role p = s.role p) : t.isCascade p = s.isCascade p := by
  rw [State.isCascade, h, State.isCascade]

theorem State.isHostPort_of_role {s t : State} {p : Nat} (h : t.role p = s.role p) : t.isHostPort p = s.isHostPort p := by
  rw [State.isHostPort, h, State.isHostPort]

theorem OnlyRegs.trans {s t u : State} {ks : List Key} (h : OnlyRegs s t ks) (h' : OnlyRegs t u ks) : OnlyRegs s u ks :=
  ⟨h.1.trans h'.1, by
    have e : ({ { u with regs := t.regs } with regs := s.regs } : State) = { t with regs := s.regs } :=
      congrArg (fun x : State => { x with regs := s.regs }) h'.2
    exact e.trans h.2⟩

theorem OnlyRegs.mono {s t : State} {ks ks' : List Key} (h : OnlyRegs s t ks) (hs : ks ⊆ ks') : OnlyRegs s t ks' := ⟨h.1.mono hs, h.2⟩

/-- What does not look at registers does not see the difference. -/
theorem OnlyRegs.unseen {s t : State} {ks : List Key} (h : OnlyRegs s t ks) {α : Type} (g : State → α)
    (hg : ∀ x r, g { x with regs := r } = g x) : g t = g s := by
  rw [← hg t s.regs, h.2]

theorem OnlyRegs.todo {s t : State} {ks : List Key} (h : OnlyRegs s t ks) : t.todo = s.todo := h.unseen State.todo (fun _ _ => rfl)

theorem OnlyRegs.lanes {s t : State} {ks : List Key} (h : OnlyRegs s t ks) : t.lanes = s.lanes := h.unseen State.lanes (fun _ _ => rfl)

/-- An update of the rest of the state, which neither reads nor writes registers, made on both sides. -/
theorem OnlyRegs.map {s t : State} {ks : List Key} (h : OnlyRegs s t ks) (g : State → State) (hregs : ∀ x, (g x).regs = x.regs)
    (hg : ∀ x r, g { x with regs := r } = { g x with regs := r }) : OnlyRegs (g s) (g t) ks :=
  ⟨h.1.congr (hregs s) (hregs t), by
    rw [hregs s, ← hg t, h.2]⟩

theorem OnlyRegs.clearReg {s t : State} {ks : List Key} (h : OnlyRegs s t ks) (r : Reg) (i j : Nat)
    (hk : (⟨r, i, j⟩ : Key) ∈ ks) : OnlyRegs s (t.clearReg r i j) ks := ⟨h.1.clearReg r i j hk, h.2⟩

/-! ## Counters that no event watches -/

theorem State.bump_unwatched (s : State) (f : Fld) (n i j : Nat) (h : pmuEvent f.reg i = none) :
    s.bump f n i j = s.put f (saturated f.w (s.get f i j) n) i j := by
  simp [State.bump, h, saturated]

/-! ## The lanes of a port -/

theorem State.mem_portLanes (s : State) (p : Nat) (q j : Nat) (h : (q, j) ∈ s.portLanes p) :
    ∃ k, k < 16 ∧ q = p + k / 8 ∧ j = k % 8 := by
  simp only [State.portLanes, List.mem_map, List.mem_range, Prod.mk.injEq] at h
  obtain ⟨k, hk, rfl, rfl⟩ := h
  exact ⟨k, lt_of_lt_of_le hk (by split <;> omega), rfl, rfl⟩

/-- What holds of a state and is kept by the step of each lane holds after all of them. -/
theorem State.eachLane_induction {P : State → Prop} {s : State} {p : Nat} {f : State → Nat → Nat → State} (h : P s)
    (hstep : ∀ t k, k < 16 → P t → P (f t (p + k / 8) (k % 8))) : P (s.eachLane p f) :=
  List.foldlRecOn _ _ h (fun t ht e he => by
    obtain ⟨k, hk, hq, hj⟩ := s.mem_portLanes p e.1 e.2 he
    rw [hq, hj]
    exact hstep t k hk ht)

/-- What only the step of one lane changes: it is as that step leaves it, in a state where `I` holds. -/
theorem State.eachLane_of_lane {α : Type} {I : State → Prop} {s : State} {p : Nat} {f : State → Nat → Nat → State} (φ : State → α)
    (k : Lane) (h : I s) (hstep : ∀ t n, n < 16 → I t → I (f t (p + n / 8) (n % 8)))
    (hother : ∀ t n, n < 16 → n ≠ k.val → φ (f t (p + n / 8) (n % 8)) = φ t) :
    ∃ t, I t ∧ φ t = φ s ∧ φ (s.eachLane p f) = φ (f t p k.val) := by
  let g : State → Nat → State := fun t n => f t (p + n / 8) (n % 8)
  obtain ⟨m, hm, hkm, hfold⟩ : ∃ m, m ≤ 16 ∧ k.val < m ∧ s.eachLane p f = (List.range m).foldl g s :=
    ⟨if s.bonded p then 16 else 8, by split <;> omega, lt_of_lt_of_le k.isLt (by split <;> omega), List.foldl_map⟩
  obtain ⟨l, r, hl⟩ := List.append_of_mem (List.mem_range.mpr hkm)
  have hnodup : k.val ∉ l ++ r := (List.nodup_cons.mp (List.nodup_middle.mp (hl ▸ List.nodup_range))).1
  rw [List.mem_append, not_or] at hnodup
  have hlt : ∀ n ∈ l ++ k.val :: r, n < 16 := fun n hn => by
    rw [← hl, List.mem_range] at hn
    omega
  have hsame : ∀ (u : State) (x : List Nat), (∀ n ∈ x, n < 16) → k.val ∉ x → φ (x.foldl g u) = φ u := fun u x hx hk =>
    List.foldlRecOn (motive := fun t => φ t = φ u) x g rfl (fun t ht n hn =>
      (hother t n (hx n hn) (fun e => hk (e ▸ hn))).trans ht)
  refine ⟨l.foldl g s, ?_, hsame s l (fun n hn => hlt n (List.mem_append_left _ hn)) hnodup.1, ?_⟩
  · exact List.foldlRecOn l g h (fun t ht n hn => hstep t n (hlt n (List.mem_append_left _ hn)) ht)
  · have hlane : ∀ t, g t k.val = f t p k.val := fun t => by
      have hd : k.val / 8 = 0 := by omega
      have hm : k.val % 8 = k.val := by omega
      simp only [g, hd, hm, Nat.add_zero]
    rw [hfold, hl, List.foldl_append, List.foldl_cons, hlane,
      hsame _ r (fun n hn => hlt n (List.mem_append_right _ (.tail _ hn))) hnodup.2]

end Sys2Proof.Machine

/-!
PROOF. A change of a port's link state, a link error, and a link that falls or goes to Recovery, while the counter units are frozen
and no margining runs (R56, R62, R83, R147, R450, R593).
-/
namespace Sys2Proof.Machine

/-! ## What a change of link state leaves beside registers -/

/-- Sessions with an event more, and the aggregator after an interrupt. -/
def State.withNotice (s : State) (xs : List Session) (a : Aggregator) : State := { s with sessions := xs, agg := a }

@[simp] theorem State.get_withNotice (s : State) (xs : List Session) (a : Aggregator) (f : Fld) (i j : Nat) :
    (s.withNotice xs a).get f i j = s.get f i j := rfl

theorem State.irqEvent_eq (s : State) (n : Nat) : ∃ a, s.irqEvent n = (s.putLatched n true).withNotice s.sessions a :=
  ⟨_, by
    have h := congrArg (fun x : State => { x with agg := (s.irqEvent n).agg }) ((s.putLatched n true).irqTouch_frame n)
    exact h⟩

/-- A source of a port, 96 and above, is pending while its latched bit stands (R593). -/
theorem State.irqPending_port (s : State) (p : Port) : s.irqPending (96 + p.val) = s.latchedBit (96 + p.val) := by
  have hp := p.isLt
  have hl : irqLatched (96 + p.val) = true := by simp [irqLatched]; omega
  rw [State.irqPending, hl, if_pos rfl]

theorem State.latchedBit_putLatched (s : State) (n : Nat) : (s.putLatched n true).latchedBit n = true := by
  have h : n % 32 + 1 ≤ 64 := by omega
  simp [State.latchedBit, State.putLatched, Word.bits_setBits_self _ _ _ _ h]

theorem State.latchedBit_congr {s t : State} {n : Nat} (h : t.rd .IA_PENDING (n / 32) = s.rd .IA_PENDING (n / 32)) :
    t.latchedBit n = s.latchedBit n := by
  rw [State.latchedBit, h, State.latchedBit]

theorem State.get_putLatched (s : State) (n : Nat) (b : Bool) (f : Fld) (i j : Nat) (h : f.reg ≠ .IA_PENDING) :
    (s.putLatched n b).get f i j = s.get f i j := s.get_wr_reg _ _ _ _ f i j h

/-! ## Link states -/

/-- Neither into L0 nor out of it, only the sessions hear of the change. -/
theorem State.setLinkState_within (s : State) (p v : Nat) (h : s.linkState p = lsL0 ↔ v = lsL0) :
    ∃ xs, s.setLinkState p v = (s.put F.PHY_STATUS_LINK_STATE v p).withNotice xs s.agg := by
  have hstop : (s.linkState p == lsL0 && v != lsL0) = false := by
    by_cases hv : v = lsL0 <;> simp [h, hv]
  have hirq : ((s.linkState p == lsL0) != (v == lsL0)) = false := by
    by_cases hv : v = lsL0 <;> simp [h, hv]
  simp only [State.setLinkState, hstop, hirq, Bool.false_eq_true, if_false]
  split
  · exact ⟨s.sessions, rfl⟩
  · exact ⟨_, rfl⟩

theorem State.setLinkState_within_frame (s : State) (p v : Nat) (h : s.linkState p = lsL0 ↔ v = lsL0) :
    KeepsRegs s (s.setLinkState p v) [⟨.PHY_STATUS, p, 0⟩] ∧ { s.setLinkState p v with regs := s.regs, sessions := s.sessions } = s := by
  obtain ⟨xs, hset⟩ := s.setLinkState_within p v h
  rw [hset]
  exact ⟨((KeepsRegs.refl s _).put F.PHY_STATUS_LINK_STATE v p 0 (.head _)).regs rfl, rfl⟩

/-- Into L0 or out of it, with no margining to stop, the port's latched source becomes pending too (R593). -/
theorem State.setLinkState_across (s : State) (p v : Nat) (hcross : ¬(s.linkState p = lsL0 ↔ v = lsL0))
    (hidle : s.linkState p = lsL0 → s.flag F.MARGIN_STATUS_BUSY p = false) :
    ∃ xs a, s.setLinkState p v = ((s.put F.PHY_STATUS_LINK_STATE v p).putLatched (96 + p) true).withNotice xs a := by
  have hne : (s.linkState p == v) = false := by
    refine beq_eq_false_iff_ne.mpr (fun h => hcross ?_)
    rw [h]
  have hstop : (if s.linkState p == lsL0 && v != lsL0 then s.marginInterrupt p else s) = s := by
    split
    · next h =>
      have hl : s.linkState p = lsL0 := by simp_all
      simp [State.marginInterrupt, hidle hl]
    · rfl
  have hirq : ((s.linkState p == lsL0) != (v == lsL0)) = true := by
    by_cases h0 : s.linkState p = lsL0 <;> by_cases hv : v = lsL0 <;> simp_all
  obtain ⟨a, ha⟩ := (s.put F.PHY_STATUS_LINK_STATE v p).irqEvent_eq (96 + p)
  simp only [State.setLinkState, hstop, hirq, if_true, hne, Bool.false_eq_true, if_false, ha]
  exact ⟨_, a, rfl⟩

/-! ## What a link may change (R60, R593) -/

/-- Nothing differs but registers, what the PHY holds of its ports, sessions and the aggregator. -/
abbrev LinkFrame (s t : State) : Prop := { t with regs := s.regs, lanes := s.lanes, sessions := s.sessions, agg := s.agg } = s

theorem LinkFrame.trans {s t u : State} (h : LinkFrame s t) (h' : LinkFrame t u) : LinkFrame s u := by
  have e : ({ u with regs := s.regs, lanes := s.lanes, sessions := s.sessions, agg := s.agg } : State)
      = { t with regs := s.regs, lanes := s.lanes, sessions := s.sessions, agg := s.agg } :=
    congrArg (fun x : State => { x with regs := s.regs, lanes := s.lanes, sessions := s.sessions, agg := s.agg }) h'
  exact e.trans h

theorem OnlyRegs.linkFrame {s t : State} {ks : List Key} (h : OnlyRegs s t ks) : LinkFrame s t :=
  congrArg (fun x : State => { x with lanes := s.lanes, sessions := s.sessions, agg := s.agg }) h.2

theorem LinkFrame.wr {s t : State} (h : LinkFrame s t) (r : Reg) (v : Word) (i j : Nat) : LinkFrame s (t.wr r v i j) := h
theorem LinkFrame.put {s t : State} (h : LinkFrame s t) (f : Fld) (v i j : Nat) : LinkFrame s (t.put f v i j) := h
theorem LinkFrame.withNotice {s t : State} (h : LinkFrame s t) (xs : List Session) (a : Aggregator) : LinkFrame s (t.withNotice xs a) := h
theorem LinkFrame.withLanes {s t : State} (h : LinkFrame s t) (x : Lanes) : LinkFrame s { t with lanes := x } := h

theorem LinkFrame.rest {s t : State} (h : LinkFrame s t) : t.mem = s.mem ∧ t.msgs = s.msgs ∧ t.out = s.out ∧ t.todo = s.todo :=
  ⟨by have e := congrArg State.mem h; exact e, by have e := congrArg State.msgs h; exact e,
   by have e := congrArg State.out h; exact e, by have e := congrArg State.todo h; exact e⟩

/-- A change of a port's link state. -/
structure LinkMove (s t : State) (p v : Nat) : Prop where
  keeps : KeepsRegs s t [⟨.PHY_STATUS, p, 0⟩, ⟨.IA_PENDING, (96 + p) / 32, 0⟩]
  frame : LinkFrame s t
  lanes : t.lanes = s.lanes
  linkState : t.linkState p = v
  phy : ∀ f : Fld, f.reg = .PHY_STATUS → F.PHY_STATUS_LINK_STATE.apart f = true → t.get f p = s.get f p
  pending : s.latchedBit (96 + p) = true ∨ ¬(s.linkState p = lsL0 ↔ v = lsL0) → t.latchedBit (96 + p) = true

/-- With no margining to stop, only the link state, the port's latched source, sessions and the aggregator differ. -/
theorem State.setLinkState_moves (s : State) (p v : Nat) (hv : v < 32)
    (hidle : s.linkState p = lsL0 → s.flag F.MARGIN_STATUS_BUSY p = false) : LinkMove s (s.setLinkState p v) p v := by
  have hput : KeepsRegs s (s.put F.PHY_STATUS_LINK_STATE v p) [⟨.PHY_STATUS, p, 0⟩, ⟨.IA_PENDING, (96 + p) / 32, 0⟩] :=
    (KeepsRegs.refl s _).put _ _ _ _ (.head _)
  by_cases hcross : s.linkState p = lsL0 ↔ v = lsL0
  · obtain ⟨xs, hset⟩ := s.setLinkState_within p v hcross
    rw [hset]
    exact ⟨hput.regs rfl, rfl, rfl, s.get_put_lt _ _ _ (by decide) hv, fun f _ hf => s.get_put_of_apart hf _ _ _ _ _, fun h =>
      (State.latchedBit_congr (s.rd_put_reg _ _ _ _ _ _ _ (by decide))).trans (h.resolve_right (not_not.mpr hcross))⟩
  · obtain ⟨xs, a, hset⟩ := s.setLinkState_across p v hcross hidle
    have hget : ∀ f : Fld, f.reg = .PHY_STATUS → (s.setLinkState p v).get f p = (s.put F.PHY_STATUS_LINK_STATE v p).get f p :=
      fun f hf => by rw [hset, State.get_withNotice, State.get_putLatched _ _ _ _ _ _ (by rw [hf]; decide)]
    have hlinkState := (hget F.PHY_STATUS_LINK_STATE rfl).trans (s.get_put_lt _ _ _ (by decide) hv)
    have hphy : ∀ f : Fld, f.reg = .PHY_STATUS → F.PHY_STATUS_LINK_STATE.apart f = true → (s.setLinkState p v).get f p = s.get f p :=
      fun f hf hd => (hget f hf).trans (s.get_put_of_apart hd _ _ _ _ _)
    rw [hset] at hlinkState hphy ⊢
    exact ⟨(hput.wr .IA_PENDING _ _ _ (.tail _ (.head _))).regs rfl, rfl, rfl, hlinkState, hphy, fun _ =>
      (State.latchedBit_congr rfl).trans (State.latchedBit_putLatched _ _)⟩

/-! ## Link errors (R114, R493) -/

/-- Outputs, and registers of virtual ports. -/
def State.withReport (s : State) (os : List Out) (vs : List (Nat × List (Nat × Nat))) : State :=
  { s with out := s.out ++ os, vports := vs }

@[simp] theorem State.get_withReport (s : State) (os : List Out) (vs : List (Nat × List (Nat × Nat))) (f : Fld) (i j : Nat) :
    (s.withReport os vs).get f i j = s.get f i j := rfl

theorem State.withReport_nil (s : State) : s.withReport [] s.vports = s := by
  rw [State.withReport, List.append_nil]

/-- A link error of a port whose family 0 is latched: it counts, and a Host port's host is told. -/
theorem State.linkError_latched (s : State) (p : Nat) (h : s.flag F.FC_SRC_LATCHED (8 * p) = true) :
    ∃ vs, s.linkError p = (s.put F.FC_SRC_COUNT (saturated 8 (s.get F.FC_SRC_COUNT (8 * p)) 1) (8 * p)).withReport
      (if s.isHostPort p && !s.hearthDown then [.linkError p] else []) vs := by
  unfold State.linkError
  split
  · exact ⟨_, State.raise_latched _ _ _ h⟩
  · exact ⟨s.vports, (State.raise_latched _ _ _ h).trans (State.withReport_nil _).symm⟩

/-! ## A link falls (R83, R147) -/

/-- The registers of the equalisers of a port's lanes. -/
def eqRegs (p : Nat) : List Key :=
  (List.range 16).flatMap (fun k =>
    [⟨.LANE_RXEQ, p + k / 8, k % 8⟩, ⟨.LANE_DFE0, p + k / 8, k % 8⟩, ⟨.LANE_DFE1, p + k / 8, k % 8⟩, ⟨.LANE_DFE2, p + k / 8, k % 8⟩])

theorem linkRegs_eq (p : Nat) : linkRegs p = ⟨.PHY_STATUS, p, 0⟩ :: ⟨.PORT_STATUS, p, 0⟩ :: eqRegs p := rfl

theorem eqRegs_reg {p : Nat} {k : Key} (h : k ∈ eqRegs p) : k.reg ∈ [Reg.LANE_RXEQ, .LANE_DFE0, .LANE_DFE1, .LANE_DFE2] := by
  simp only [eqRegs, List.mem_flatMap, List.mem_cons, List.not_mem_nil, or_false] at h
  obtain ⟨n, -, rfl | rfl | rfl | rfl⟩ := h <;> simp

theorem linkRegs_reg {p : Nat} {k : Key} (h : k ∈ linkRegs p) :
    k.reg ∈ [Reg.PHY_STATUS, .PORT_STATUS, .LANE_RXEQ, .LANE_DFE0, .LANE_DFE1, .LANE_DFE2] := by
  rw [linkRegs_eq, List.mem_cons, List.mem_cons] at h
  obtain rfl | rfl | h := h
  · exact .head _
  · exact .tail _ (.head _)
  · exact .tail _ (.tail _ (eqRegs_reg h))

/-- Roles and bonds stand elsewhere. -/
theorem linkRegs_not_role {p : Nat} {k : Key} (h : k ∈ linkRegs p) : k.reg ≠ .PORT_CFG ∧ k.reg ≠ .BOND_CTRL := by
  have hreg := linkRegs_reg h
  constructor <;> intro e <;> simp [e] at hreg

/-- Receivers at their presets: only the equalisers differ (R68). -/
theorem State.eqOff_onlyRegs (s : State) (p : Nat) : OnlyRegs s (s.eachLane p State.eqOff) (eqRegs p) := by
  refine State.eachLane_induction (P := fun t => OnlyRegs s t (eqRegs p)) (OnlyRegs.refl s _) (fun t k hk ht => ?_)
  have hmem : ∀ r ∈ [Reg.LANE_RXEQ, .LANE_DFE0, .LANE_DFE1, .LANE_DFE2], (⟨r, p + k / 8, k % 8⟩ : Key) ∈ eqRegs p :=
    fun r hr => List.mem_flatMap.mpr ⟨k, List.mem_range.mpr hk, by simpa using hr⟩
  unfold State.eqOff
  split
  · exact ht
  · exact (((ht.clearReg _ _ _ (hmem _ (by simp))).clearReg _ _ _ (hmem _ (by simp))).clearReg _ _ _ (hmem _ (by simp))).clearReg _ _ _
      (hmem _ (by simp))

/-- What a fall leaves beside registers: cells that no longer arrive, and a PHY that holds nothing of the link. -/
def State.unlinked (s : State) (p : Nat) : State :=
  { s.cellsLost p with lanes := s.lanes.dropLink p, spans := s.spans.filter (fun e => e.1 != p) }

/-- The fields of a port that show what its link negotiated read 0 (R116). -/
def State.unnegotiated (s : State) (p : Nat) : State :=
  ((((((s.put F.PHY_STATUS_CUR_RATE 0 p).put F.PHY_STATUS_CUR_WIDTH 0 p).put F.PORT_STATUS_CXL_ACTIVE 0 p).put
    F.PORT_STATUS_LOW_RATE 0 p).put F.PORT_STATUS_FLIT 0 p).put F.PORT_STATUS_BI_SUPPORTED 0 p).put F.PORT_STATUS_PARTNER_LDS 0 p

theorem State.unnegotiated_onlyRegs (s : State) (p : Nat) : OnlyRegs s (s.unnegotiated p) (linkRegs p) := by
  have hphy : (⟨.PHY_STATUS, p, 0⟩ : Key) ∈ linkRegs p := .head _
  have hport : (⟨.PORT_STATUS, p, 0⟩ : Key) ∈ linkRegs p := .tail _ (.head _)
  exact (((((((OnlyRegs.refl s _).put _ _ _ _ hphy).put _ _ _ _ hphy).put _ _ _ _ hport).put _ _ _ _ hport).put _ _ _ _ hport).put
    _ _ _ _ hport).put _ _ _ _ hport

theorem State.unnegotiated_phy (s : State) (p : Nat) :
    (s.unnegotiated p).linkState p = s.linkState p ∧ (s.unnegotiated p).get F.PHY_STATUS_CUR_RATE p = 0 := by
  constructor <;> simp (disch := decide) only [State.unnegotiated, State.linkState, State.get_put_of_apart, State.get_put_lt]

@[simp] theorem State.get_unlinked (s : State) (p : Nat) (f : Fld) (i j : Nat) : (s.unlinked p).get f i j = s.get f i j := rfl

theorem OnlyRegs.unlinked {s t : State} {ks : List Key} (h : OnlyRegs s t ks) (p : Nat) : OnlyRegs (s.unlinked p) (t.unlinked p) ks :=
  h.map (State.unlinked · p) (fun _ => rfl) (fun _ _ => rfl)

theorem State.linkFalls_eq (s : State) (p v : Nat) :
    s.linkFalls p v =
      (let t := (((s.setLinkState p v).unnegotiated p).unlinked p).eachLane p State.eqOff
      if t.isCascade p && t.get F.LL_STATUS_STATE p != linkDownState then t.linkDown p else t) := rfl

/-- A port that is no Cascade port falls to a state, with nothing left of what its link had negotiated. -/
theorem State.linkFalls_uncascaded (s : State) (p v : Nat) (hc : (s.setLinkState p v).isCascade p = false) :
    OnlyRegs ((s.setLinkState p v).unlinked p) (s.linkFalls p v) (linkRegs p)
      ∧ (s.linkFalls p v).linkState p = (s.setLinkState p v).linkState p ∧ (s.linkFalls p v).get F.PHY_STATUS_CUR_RATE p = 0 := by
  generalize hu : s.setLinkState p v = u at hc
  generalize ht : ((u.unnegotiated p).unlinked p).eachLane p State.eqOff = t
  have hoff : OnlyRegs ((u.unnegotiated p).unlinked p) t (eqRegs p) := ht ▸ State.eqOff_onlyRegs _ p
  have honly : OnlyRegs (u.unlinked p) t (linkRegs p) :=
    ((u.unnegotiated_onlyRegs p).unlinked p).trans (hoff.mono (fun k hk => .tail _ (.tail _ hk)))
  have hrole : t.role p = (u.unlinked p).role p := honly.1.role (fun _ => linkRegs_not_role) p
  have hcascade : t.isCascade p = false := (State.isCascade_of_role hrole).trans hc
  have hfall : s.linkFalls p v = t := by
    rw [State.linkFalls_eq, hu]
    simp only [ht, hcascade, Bool.false_and, Bool.false_eq_true, if_false]
  have hfield : ∀ f : Fld, f.reg = .PHY_STATUS → t.get f p = (u.unnegotiated p).get f p := fun f hf =>
    (hoff.1.get (fun hm => by have hreg := eqRegs_reg hm; simp [hf] at hreg)).trans (State.get_unlinked _ _ _ _ _)
  obtain ⟨hstate, hrate⟩ := u.unnegotiated_phy p
  rw [hfall]
  exact ⟨honly, (hfield F.PHY_STATUS_LINK_STATE rfl).trans hstate, (hfield F.PHY_STATUS_CUR_RATE rfl).trans hrate⟩

/-- A fall from outside L0 to another such state. -/
theorem State.linkFalls_within (s : State) (p v : Nat) (hl : s.linkState p ≠ lsL0) (hv : v ≠ lsL0) (hlt : v < 32)
    (hc : s.isCascade p = false) :
    KeepsRegs s (s.linkFalls p v) (linkRegs p) ∧ (s.linkFalls p v).linkState p = v ∧ (s.linkFalls p v).get F.PHY_STATUS_CUR_RATE p = 0 ∧
      (s.linkFalls p v).lanes = s.lanes.dropLink p ∧
      { s.linkFalls p v with regs := s.regs, lanes := s.lanes, sessions := s.sessions, msgs := s.msgs, spans := s.spans } = s := by
  obtain ⟨xs, hset⟩ := s.setLinkState_within p v (iff_of_false hl hv)
  have hput : OnlyRegs s (s.put F.PHY_STATUS_LINK_STATE v p) (linkRegs p) := (OnlyRegs.refl s _).put _ _ _ _ (.head _)
  have hu : OnlyRegs (s.withNotice xs s.agg) (s.setLinkState p v) (linkRegs p) := by
    rw [hset]
    exact hput.map (fun x => x.withNotice xs s.agg) (fun _ => rfl) (fun _ _ => rfl)
  have hstate : (s.setLinkState p v).linkState p = v := by
    rw [hset]
    exact s.get_put_lt F.PHY_STATUS_LINK_STATE _ _ (by decide) hlt
  obtain ⟨honly, hlinkState, hrate⟩ := s.linkFalls_uncascaded p v
    ((State.isCascade_of_role (hu.1.role (fun _ => linkRegs_not_role) p)).trans hc)
  have hall := (hu.unlinked p).trans honly
  generalize s.linkFalls p v = t at hall hlinkState hrate
  refine ⟨hall.1.congr rfl rfl, hlinkState.trans hstate, hrate, hall.lanes, ?_⟩
  have e : ({ t with regs := s.regs, lanes := s.lanes, sessions := s.sessions, msgs := s.msgs, spans := s.spans } : State)
      = { (s.withNotice xs s.agg).unlinked p with regs := s.regs, lanes := s.lanes, sessions := s.sessions, msgs := s.msgs,
                                                  spans := s.spans } :=
    congrArg (fun x : State => { x with regs := s.regs, lanes := s.lanes, sessions := s.sessions, msgs := s.msgs, spans := s.spans }) hall.2
  exact e.trans rfl

end Sys2Proof.Machine

/-!
PROOF. The rate a link heads for, and a link that goes to Recovery or comes up at a rate (R60, R63, R68, R83, R147).
-/
namespace Sys2Proof.Machine

/-! ## Rates (R52, R60, R63) -/

/-- The bits of PHY_STATUS that say of the rate codes 0 to 7 whether they failed (R63). -/
def rateMarks : Fld := ⟨.PHY_STATUS, 8, 8⟩

theorem State.rateMark_congr {s t : State} {p : Nat} (h : t.get rateMarks p = s.get rateMarks p) {k : Nat} (hk : k < 8) :
    Word.bits (t.rd .PHY_STATUS p) (8 + k) 1 = Word.bits (s.rd .PHY_STATUS p) (8 + k) 1 := by
  have h' : Word.bits (t.rd .PHY_STATUS p) 8 8 = Word.bits (s.rd .PHY_STATUS p) 8 8 := h
  rw [Word.bits_one_of_bits _ 8 8 k hk, Word.bits_one_of_bits _ 8 8 k hk, h']

/-- Two states in which a port may take the same rates. -/
structure SameRates (s t : State) (p : Nat) : Prop where
  role : t.role p = s.role p
  config : t.rd .PORT_CFG p = s.rd .PORT_CFG p
  control : t.rd .PHY_CTRL p = s.rd .PHY_CTRL p
  partner : t.rd .PARTNER_RATES p = s.rd .PARTNER_RATES p
  training : t.lanes.training = s.lanes.training
  marks : t.get rateMarks p = s.get rateMarks p

theorem SameRates.of_keeps {s t : State} {p : Nat} {ks : List Key} (h : KeepsRegs s t ks)
    (hk : ∀ k ∈ ks, k.reg ∉ [Reg.PORT_CFG, .BOND_CTRL, .PHY_CTRL, .PARTNER_RATES]) (htraining : t.lanes.training = s.lanes.training)
    (hmarks : t.get rateMarks p = s.get rateMarks p) : SameRates s t p where
  role := h.role (fun k hm => by have := hk k hm; simp at this; tauto) p
  config := h.rd (fun hm => by simpa using hk _ hm)
  control := h.rd (fun hm => by simpa using hk _ hm)
  partner := h.rd (fun hm => by simpa using hk _ hm)
  training := htraining
  marks := hmarks

theorem SameRates.trans {s t u : State} {p : Nat} (h : SameRates s t p) (h' : SameRates t u p) : SameRates s u p :=
  ⟨h'.role.trans h.role, h'.config.trans h.config, h'.control.trans h.control, h'.partner.trans h.partner,
   h'.training.trans h.training, h'.marks.trans h.marks⟩

theorem SameRates.of_regs {s t : State} (h : t.regs = s.regs) (htraining : t.lanes.training = s.lanes.training) (p : Nat) :
    SameRates s t p :=
  SameRates.of_keeps ((KeepsRegs.refl s []).regs h) (by simp) htraining (State.get_regs s t h _ _ _)

theorem State.sameRates_aimRate (s : State) (p r : Nat) : SameRates s (s.aimRate p r) p :=
  SameRates.of_regs (s := s) (t := s.aimRate p r) rfl rfl p

theorem State.sameRates_settleAnew (s : State) (p : Nat) : SameRates s (s.settleAnew p) p :=
  SameRates.of_regs (s := s) (t := s.settleAnew p) rfl rfl p

theorem LinkMove.sameRates {s t : State} {p v : Nat} (h : LinkMove s t p v) : SameRates s t p :=
  SameRates.of_keeps h.keeps (by simp) (by rw [h.lanes]) (h.phy rateMarks rfl (by decide))

theorem SameRates.rateCap {s t : State} {p : Nat} (h : SameRates s t p) : t.rateCap p = s.rateCap p := by
  simp only [State.rateCap, State.get, F.PHY_CTRL_MAX_RATE, h.role, h.control]

/-- Framings and protocols follow a port's role and its PORT_CFG. -/
theorem State.framing_congr {s t : State} {p : Nat} (hrole : t.role p = s.role p) (hconfig : t.rd .PORT_CFG p = s.rd .PORT_CFG p)
    (x : Training) (r : Nat) : t.framing p x r = s.framing p x r := by
  have hflag : ∀ f : Fld, f.reg = .PORT_CFG → t.flag f p = s.flag f p := fun f hf => by
    simp only [State.flag, State.get, hf, hconfig]
  unfold State.framing
  rw [hrole, hflag F.PORT_CFG_LO_FLIT_EN rfl, hflag F.PORT_CFG_FLIT68_EN rfl]

theorem SameRates.framing {s t : State} {p : Nat} (h : SameRates s t p) (x : Training) (r : Nat) :
    t.framing p x r = s.framing p x r := State.framing_congr h.role h.config x r

theorem SameRates.rateOpen {s t : State} {p : Nat} (h : SameRates s t p) {r : Nat} (hr : r < 8) : t.rateOpen p r = s.rateOpen p r := by
  have hmarks : (List.range (r + 1)).all (fun k => Word.bits (t.rd .PHY_STATUS p) (8 + k) 1 == 0)
      = (List.range (r + 1)).all (fun k => Word.bits (s.rd .PHY_STATUS p) (8 + k) 1 == 0) := by
    rw [Bool.eq_iff_iff, List.all_eq_true, List.all_eq_true]
    refine forall₂_congr (fun k hk => ?_)
    have hk := List.mem_range.mp hk
    rw [State.rateMark_congr h.marks (by omega)]
  simp only [State.rateOpen, State.trainingOf, h.rateCap, h.partner, h.training, h.framing, hmarks]

theorem SameRates.nextRate {s t : State} {p : Nat} (h : SameRates s t p) (r : Nat) : t.nextRate p r = s.nextRate p r := by
  have hfind : ([2, 3, 4, 5, 6].filter (fun x => decide (r < x))).find? (fun x => t.rateOpen p x)
      = ([2, 3, 4, 5, 6].filter (fun x => decide (r < x))).find? (fun x => s.rateOpen p x) :=
    List.find?_congr (fun x hx => h.rateOpen (by
      have := (List.mem_filter.mp hx).1
      simp at this
      omega))
  simp only [State.nextRate, hfind, h.rateOpen (r := 1) (by decide)]

theorem SameRates.heldRate {s t : State} {p : Nat} (h : SameRates s t p) {cur : Nat} (hcur : cur < 8) :
    t.heldRate p cur = s.heldRate p cur := by
  have hfind : ([6, 5, 4, 3, 2, 1, 0].filter (fun r => decide (r < cur))).find? (fun r => t.rateOpen p r)
      = ([6, 5, 4, 3, 2, 1, 0].filter (fun r => decide (r < cur))).find? (fun r => s.rateOpen p r) :=
    List.find?_congr (fun x hx => h.rateOpen (by
      have := (List.mem_filter.mp hx).1
      simp at this
      omega))
  simp only [State.heldRate, hfind, h.rateOpen hcur]

theorem State.get_lt (s : State) (f : Fld) (i j : Nat) : s.get f i j < 2 ^ f.w := Nat.mod_lt _ (by positivity)

/-! ## To Recovery and to the next rate (R60, R63, R147) -/

/-- The state of a link on its way to a rate (R60). -/
abbrev stepState (r : Nat) : Nat := if r < 2 then lsRecovery else lsRecoveryEq

@[simp] theorem State.rd_aimRate (s : State) (p r : Nat) (x : Reg) (i j : Nat) : (s.aimRate p r).rd x i j = s.rd x i j := rfl
@[simp] theorem State.get_aimRate (s : State) (p r : Nat) (f : Fld) (i j : Nat) : (s.aimRate p r).get f i j = s.get f i j := rfl

/-- A port in L0 that is no Cascade port goes to Recovery, to come back at its rate. -/
theorem State.toRecovery_uncascaded (s : State) (p : Nat) (hf : Frozen s) (hl : s.linkState p = lsL0) (hc : s.isCascade p = false)
    (hidle : s.flag F.MARGIN_STATUS_BUSY p = false) :
    ∃ u, LinkMove s u p lsRecovery ∧ u.latchedBit (96 + p) = true ∧ s.toRecovery p = u.aimRate p (s.get F.PHY_STATUS_CUR_RATE p) := by
  have h := s.setLinkState_moves p lsRecovery (by decide) (fun _ => hidle)
  have hcascade : ((s.setLinkState p lsRecovery).aimRate p (s.get F.PHY_STATUS_CUR_RATE p)).isCascade p = false :=
    (State.isCascade_of_role (h.keeps.role (by simp) p)).trans hc
  refine ⟨s.setLinkState p lsRecovery, h, h.pending (.inr (by simp [hl])), ?_⟩
  simp only [State.toRecovery, State.count_frozen _ _ _ _ (h.keeps.frozen (by simp) hf), h.phy F.PHY_STATUS_CUR_RATE rfl (by decide),
    hcascade, Bool.false_eq_true, if_false]

theorem State.toRecovery_sameRates (s : State) (p : Nat) (hf : Frozen s) (hl : s.linkState p = lsL0) (hc : s.isCascade p = false)
    (hidle : s.flag F.MARGIN_STATUS_BUSY p = false) : SameRates s (s.toRecovery p) p := by
  obtain ⟨u, hu, -, hrec⟩ := s.toRecovery_uncascaded p hf hl hc hidle
  rw [hrec]
  exact hu.sameRates.trans (u.sameRates_aimRate p _)

theorem State.stepTo_moves (s : State) (p r : Nat) (hidle : s.linkState p = lsL0 → s.flag F.MARGIN_STATUS_BUSY p = false) :
    LinkMove (s.aimRate p r) (s.stepTo p r) p (stepState r) :=
  (s.aimRate p r).setLinkState_moves p (stepState r) (by unfold stepState; split <;> decide) hidle

/-- A link that went to Recovery and on to a rate. -/
theorem LinkMove.then_step {s u t v : State} {p r : Nat} (h : LinkMove s u p lsRecovery) (hu : u.latchedBit (96 + p) = true)
    (ht : t.regs = u.regs) (hframe : LinkFrame u t) (hv : t.stepTo p r = v) :
    KeepsRegs s v [⟨.PHY_STATUS, p, 0⟩, ⟨.IA_PENDING, (96 + p) / 32, 0⟩] ∧ LinkFrame s v ∧ v.linkState p = stepState r ∧
      numGet 0 p v.lanes.target = r ∧ v.latchedBit (96 + p) = true ∧
      ∀ f : Fld, f.reg = .PHY_STATUS → F.PHY_STATUS_LINK_STATE.apart f = true → v.get f p = s.get f p := by
  have hl : t.linkState p = lsRecovery := (State.get_regs u t ht _ _ _).trans h.linkState
  have hs := t.stepTo_moves p r (fun h0 => absurd (hl.symm.trans h0) (by decide))
  rw [hv] at hs
  refine ⟨h.keeps.trans ((hs.keeps).congr (s' := u) ht.symm rfl), (h.frame.trans hframe).trans (LinkFrame.trans (t := t.aimRate p r) rfl hs.frame),
    hs.linkState, by rw [hs.lanes]; exact numGet_put_self _ _ _ _, hs.pending (.inl ?_), fun f hf hd => ?_⟩
  · exact (State.latchedBit_congr (State.rd_regs u t ht _ _ _)).trans hu
  · exact (hs.phy f hf hd).trans ((State.get_regs u t ht _ _ _).trans (h.phy f hf hd))

/-! ## The link holds L0 at a rate (R52, R60, R68) -/

/-- The rate is the last good one of the port (R63). -/
def State.heldAt (s : State) (p rate : Nat) : State :=
  { s with lanes := { s.lanes with lastGood := numPut 0 p rate s.lanes.lastGood } }

theorem OnlyRegs.heldAt {s t : State} {ks : List Key} (h : OnlyRegs s t ks) (p rate : Nat) : OnlyRegs (s.heldAt p rate) (t.heldAt p rate) ks :=
  h.map (State.heldAt · p rate) (fun _ => rfl) (fun _ _ => rfl)

@[simp] theorem State.get_heldAt (s : State) (p r : Nat) (f : Fld) (i j : Nat) : (s.heldAt p r).get f i j = s.get f i j := rfl

/-- The framing of a rate, where training settled one (R95). -/
def State.framed (s : State) (p rate : Nat) : State :=
  match s.trainingOf p with
  | some t => s.put F.PORT_STATUS_FLIT ((s.framing p t rate).getD 0) p
  | none => s

theorem State.framed_onlyRegs (s : State) (p rate : Nat) : OnlyRegs s (s.framed p rate) [⟨.PORT_STATUS, p, 0⟩] := by
  unfold State.framed
  split
  · exact (OnlyRegs.refl s _).put _ _ _ _ (.head _)
  · exact OnlyRegs.refl s _

theorem State.holdsL0_eq (s : State) (p rate : Nat) :
    s.holdsL0 p rate = (let t := ((s.put F.PHY_STATUS_CUR_RATE rate p).framed p rate).heldAt p rate
      if rate < 2 then t.eachLane p State.eqOff else t) := rfl

theorem State.holdsL0_onlyRegs (s : State) (p rate : Nat) : OnlyRegs (s.heldAt p rate) (s.holdsL0 p rate) (linkRegs p) := by
  have hput : OnlyRegs s (s.put F.PHY_STATUS_CUR_RATE rate p) (linkRegs p) := (OnlyRegs.refl s _).put _ _ _ _ (.head _)
  have hframed := (s.put F.PHY_STATUS_CUR_RATE rate p).framed_onlyRegs p rate
  have hheld : OnlyRegs (s.heldAt p rate) (((s.put F.PHY_STATUS_CUR_RATE rate p).framed p rate).heldAt p rate) (linkRegs p) :=
    (hput.trans (hframed.mono (fun k hk => by rw [List.mem_singleton.mp hk]; exact .tail _ (.head _)))).heldAt p rate
  rw [State.holdsL0_eq]
  simp only
  split
  · have hoff := State.eqOff_onlyRegs (((s.put F.PHY_STATUS_CUR_RATE rate p).framed p rate).heldAt p rate) p
    exact hheld.trans (hoff.mono (fun k hk => .tail _ (.tail _ hk)))
  · exact hheld

/-- The fields of PHY_STATUS: the current rate is the new one, and the rest stays. -/
theorem State.holdsL0_phy (s : State) (p rate : Nat) (f : Fld) (hf : f.reg = .PHY_STATUS) :
    (s.holdsL0 p rate).get f p = (s.put F.PHY_STATUS_CUR_RATE rate p).get f p := by
  have hframed : (((s.put F.PHY_STATUS_CUR_RATE rate p).framed p rate).heldAt p rate).get f p = (s.put F.PHY_STATUS_CUR_RATE rate p).get f p :=
    (State.get_heldAt _ _ _ _ _ _).trans ((State.framed_onlyRegs _ p rate).1.get (by simp [hf]))
  rw [State.holdsL0_eq]
  simp only
  split
  · exact ((State.eqOff_onlyRegs _ p).1.get (fun hm => by have hreg := eqRegs_reg hm; simp [hf] at hreg)).trans hframed
  · exact hframed

/-! ## Widths (R64, R75) -/

/-- LANE_STATUS of a port's lanes. -/
def laneStatusRegs (p : Nat) : List Key := (List.range 16).map (fun k => ⟨.LANE_STATUS, p + k / 8, k % 8⟩)

theorem mem_laneStatusRegs {p k : Nat} (hk : k < 16) : (⟨.LANE_STATUS, p + k / 8, k % 8⟩ : Key) ∈ laneStatusRegs p :=
  List.mem_map.mpr ⟨k, List.mem_range.mpr hk, rfl⟩

theorem laneStatusRegs_reg {p : Nat} {k : Key} (h : k ∈ laneStatusRegs p) : k.reg = .LANE_STATUS := by
  obtain ⟨n, -, rfl⟩ := List.mem_map.mp h
  rfl

/-- Which lanes a width uses, and their logical numbers. -/
def State.numbered (s : State) (p : Nat) (w : Nat × Bool) : State :=
  s.eachLane p (fun t q j =>
    let k := 8 * (q - p) + j
    (t.putFlag F.LANE_STATUS_IN_USE ((widthLanes (s.laneCount p) w.1 w.2).contains k) q j).put F.LANE_STATUS_LOGICAL
      (if w.2 then s.laneCount p - 1 - k else k) q j)

theorem State.recordWidth_eq (s : State) (p : Nat) (w : Nat × Bool) :
    s.recordWidth p w = ((s.numbered p w).put F.PHY_STATUS_CUR_WIDTH w.1 p).putFlag F.PHY_STATUS_REVERSED w.2 p := rfl

theorem State.numbered_onlyRegs (s : State) (p : Nat) (w : Nat × Bool) : OnlyRegs s (s.numbered p w) (laneStatusRegs p) :=
  State.eachLane_induction (P := fun t => OnlyRegs s t (laneStatusRegs p)) (OnlyRegs.refl s _) (fun _ _ hk ht =>
    (ht.put _ _ _ _ (mem_laneStatusRegs hk)).put _ _ _ _ (mem_laneStatusRegs hk))

theorem State.recordWidth_onlyRegs (s : State) (p : Nat) (w : Nat × Bool) :
    OnlyRegs s (s.recordWidth p w) (⟨.PHY_STATUS, p, 0⟩ :: laneStatusRegs p) := by
  have h := (s.numbered_onlyRegs p w).mono (List.subset_cons_self ⟨.PHY_STATUS, p, 0⟩ _)
  rw [State.recordWidth_eq]
  exact (h.put _ _ _ _ (.head _)).put _ _ _ _ (.head _)

theorem State.recordWidth_phy (s : State) (p : Nat) (w : Nat × Bool) {f : Fld} (hf : f.reg = .PHY_STATUS)
    (hwidth : F.PHY_STATUS_CUR_WIDTH.apart f = true) (hrev : F.PHY_STATUS_REVERSED.apart f = true) :
    (s.recordWidth p w).get f p = s.get f p := by
  rw [State.recordWidth_eq, State.putFlag, State.get_put_of_apart _ hrev, State.get_put_of_apart _ hwidth]
  exact (s.numbered_onlyRegs p w).1.get (fun hm => by simpa [hf] using laneStatusRegs_reg hm)

theorem State.recordWidth_reads (s : State) (p : Nat) (w : Nat × Bool) :
    (s.recordWidth p w).get F.PHY_STATUS_CUR_WIDTH p = w.1 % 32 ∧ (s.recordWidth p w).flag F.PHY_STATUS_REVERSED p = w.2 := by
  rw [State.recordWidth_eq]
  refine ⟨?_, State.flag_putFlag_self _ (by decide) (by decide) _ _ _⟩
  rw [State.putFlag, State.get_put_of_apart _ (by decide), State.get_put_self _ _ _ _ _ (by decide)]
  rfl

/-- A port that was in L0p is back at its full width, and nothing else of PHY_STATUS differs (R75). -/
theorem State.widen_effect (s : State) (p : Nat) :
    LinkFrame s (s.widen p) ∧ KeepsRegs s (s.widen p) (⟨.PHY_STATUS, p, 0⟩ :: laneStatusRegs p) ∧
      ∀ f : Fld, f.reg = .PHY_STATUS → F.PHY_STATUS_CUR_WIDTH.apart f = true → F.PHY_STATUS_REVERSED.apart f = true →
        (s.widen p).get f p = s.get f p := by
  unfold State.widen
  split
  · exact ⟨rfl, KeepsRegs.refl s _, fun _ _ _ _ => rfl⟩
  · next w _ =>
    let u : State := { s with lanes := { s.lanes with fullWidth := numPut 0 p 0 s.lanes.fullWidth } }
    have hw := u.recordWidth_onlyRegs p (numGet 0 p s.lanes.fullWidth, s.flag F.PHY_STATUS_REVERSED p)
    exact ⟨LinkFrame.trans (t := u) rfl hw.linkFrame, hw.1.congr rfl rfl, fun f hf hc hr => u.recordWidth_phy p _ hf hc hr⟩

/-! ## Settled in L0 (R60, R63, R96, R113) -/

/-- ELASTIC_ERR of a port's lanes reads 0 (R58). -/
theorem State.clearElastic_onlyRegs (s : State) (p : Nat) :
    OnlyRegs s (s.eachLane p (fun s q j => s.put F.LANE_STATUS_ELASTIC_ERR 0 q j)) (laneStatusRegs p) :=
  State.eachLane_induction (P := fun t => OnlyRegs s t (laneStatusRegs p)) (OnlyRegs.refl s _)
    (fun _ _ hk ht => ht.put _ _ _ _ (mem_laneStatusRegs hk))

/-- A port whose bring-up has ended shows whether it is held. -/
def State.broughtUp (s : State) (p : Nat) : State :=
  State.putFlag { s with lanes := { s.lanes with fromDetect := s.lanes.fromDetect.filter (fun x => x != p) } } F.PORT_STATUS_HELD
    (s.isHeld p) p

/-- The parts of settling in L0 short of the records, where the port is no Cascade port. -/
theorem State.settleL0_uncascaded (s : State) (p rate : Nat) (viral : Bool) {t : State}
    (ht : (((((s.aimRate p rate).widen p).setLinkState p lsL0).eachLane p
      (fun s q j => s.put F.LANE_STATUS_ELASTIC_ERR 0 q j)).lowRate p rate) = t) (hc : (t.broughtUp p).isCascade p = false) :
    s.settleL0 p rate viral false =
      if t.lanes.fromDetect.contains p then (t.broughtUp p).viralSettle p viral else t.broughtUp p := by
  unfold State.settleL0
  simp only [ht, Bool.false_eq_true, if_false]
  show (if t.lanes.fromDetect.contains p = true then (if State.isCascade (t.broughtUp p) p = true then _ else t.broughtUp p).viralSettle p viral
    else if State.isCascade (t.broughtUp p) p = true then _ else t.broughtUp p) = _
  rw [hc]
  rfl

/-- What settling in L0 at a rate leaves of a port whose link was elsewhere and which keeps no Viral hold. -/
structure SettledL0 (s t : State) (p rate : Nat) : Prop where
  keeps : KeepsRegs s t (⟨.IA_PENDING, (96 + p) / 32, 0⟩ :: (linkRegs p ++ laneStatusRegs p))
  frame : LinkFrame s t
  linkState : t.linkState p = lsL0
  pending : t.latchedBit (96 + p) = true
  rate : t.get F.PHY_STATUS_CUR_RATE p = rate % 8
  marks : t.get rateMarks p = s.get rateMarks p

theorem settledRegs_reg {p : Nat} {k : Key} (h : k ∈ (⟨.IA_PENDING, (96 + p) / 32, 0⟩ :: (linkRegs p ++ laneStatusRegs p) : List Key)) :
    k.reg ∈ [Reg.IA_PENDING, .LANE_STATUS, .PHY_STATUS, .PORT_STATUS, .LANE_RXEQ, .LANE_DFE0, .LANE_DFE1, .LANE_DFE2] := by
  obtain rfl | h := List.mem_cons.mp h
  · exact .head _
  obtain h | h := List.mem_append.mp h
  · exact .tail _ (.tail _ (linkRegs_reg h))
  · rw [laneStatusRegs_reg h]
    exact .tail _ (.head _)

theorem SettledL0.role {s t : State} {p rate : Nat} (h : SettledL0 s t p rate) (q : Nat) : t.role q = s.role q :=
  h.keeps.role (fun k hk => by
    have hreg := settledRegs_reg hk
    constructor <;> intro e <;> simp [e] at hreg) q

/-- Lanes and ports show more of themselves. -/
theorem SettledL0.onlyRegs {s t u : State} {p rate : Nat} {ks : List Key} (h : SettledL0 s t p rate) (hu : OnlyRegs t u ks)
    (hks : ks ⊆ linkRegs p ++ laneStatusRegs p) (hphy : ∀ k ∈ ks, k.reg ≠ .PHY_STATUS ∧ k.reg ≠ .IA_PENDING) : SettledL0 s u p rate where
  keeps := h.keeps.trans (hu.1.mono (fun _ hk => .tail _ (hks hk)))
  frame := h.frame.trans hu.linkFrame
  linkState := (hu.1.get (fun hm => (hphy _ hm).1 rfl)).trans h.linkState
  pending := (State.latchedBit_congr (hu.1.rd (fun hm => (hphy _ hm).2 rfl))).trans h.pending
  rate := (hu.1.get (fun hm => (hphy _ hm).1 rfl)).trans h.rate
  marks := (hu.1.get (fun hm => (hphy _ hm).1 rfl)).trans h.marks

theorem SettledL0.withLanes {s t : State} {p rate : Nat} (h : SettledL0 s t p rate) (x : Lanes) : SettledL0 s { t with lanes := x } p rate where
  keeps := h.keeps
  frame := h.frame
  linkState := h.linkState
  pending := h.pending
  rate := h.rate
  marks := h.marks

theorem State.setLinkState_L0_settles (s : State) (p rate : Nat) (hl : s.linkState p ≠ lsL0) :
    SettledL0 s ((((s.holdsL0 p rate).aimRate p rate).widen p).setLinkState p lsL0) p rate := by
  have honly := s.holdsL0_onlyRegs p rate
  have hholds := s.holdsL0_phy p rate
  generalize s.holdsL0 p rate = a at honly hholds
  obtain ⟨hbframe, hbkeeps, hbphy⟩ := (a.aimRate p rate).widen_effect p
  generalize (a.aimRate p rate).widen p = b at hbframe hbkeeps hbphy
  have hphy : ∀ f : Fld, f.reg = .PHY_STATUS → F.PHY_STATUS_CUR_WIDTH.apart f = true → F.PHY_STATUS_REVERSED.apart f = true →
      b.get f p = (s.put F.PHY_STATUS_CUR_RATE rate p).get f p := fun f hf hc hr =>
    (hbphy f hf hc hr).trans ((State.get_aimRate _ _ _ _ _ _).trans (hholds f hf))
  have hbl : b.linkState p = s.linkState p :=
    (hphy F.PHY_STATUS_LINK_STATE rfl (by decide) (by decide)).trans (State.get_put_of_apart _ (by decide) _ _ _ _ _)
  have hmove := b.setLinkState_moves p lsL0 (by decide) (fun h => absurd (hbl.symm.trans h) hl)
  have hin : (⟨.PHY_STATUS, p, 0⟩ :: laneStatusRegs p : List Key) ⊆ linkRegs p ++ laneStatusRegs p :=
    List.cons_subset.mpr ⟨List.mem_append_left _ (.head _), List.subset_append_right _ _⟩
  have hkeeps : KeepsRegs s b (⟨.IA_PENDING, (96 + p) / 32, 0⟩ :: (linkRegs p ++ laneStatusRegs p)) :=
    ((honly.1.mono (List.subset_cons_of_subset _ (List.subset_append_left _ _))).congr rfl (t' := a.aimRate p rate) rfl).trans
      (hbkeeps.mono (List.subset_cons_of_subset _ hin))
  exact
    { keeps := hkeeps.trans (hmove.keeps.mono (List.cons_subset.mpr ⟨.tail _ (.head _), List.cons_subset.mpr ⟨.head _, List.nil_subset _⟩⟩))
      frame := ((LinkFrame.trans (t := s.heldAt p rate) rfl honly.linkFrame).trans
        (LinkFrame.trans (t := a.aimRate p rate) rfl hbframe)).trans hmove.frame
      linkState := hmove.linkState
      pending := hmove.pending (.inr (by simp [hbl, hl]))
      rate := by
        rw [hmove.phy F.PHY_STATUS_CUR_RATE rfl (by decide), hphy F.PHY_STATUS_CUR_RATE rfl (by decide) (by decide),
          State.get_put_self _ _ _ _ _ (by decide)]
        rfl
      marks := by
        rw [hmove.phy rateMarks rfl (by decide), hphy rateMarks rfl (by decide) (by decide), State.get_put_of_apart _ (by decide)] }

/-- A port outside L0 that is no Cascade port, keeps no Viral hold and is not below 8 GT/s in a CXL role settles in L0. -/
theorem State.reachRate_settles (s : State) (p rate : Nat) (hl : s.linkState p ≠ lsL0) (hc : s.isCascade p = false)
    (hslow : cxlRole (s.role p) = false ∨ 2 ≤ rate) (hviral : s.holds.contains (p, .viral) = false) :
    SettledL0 s (s.reachRate p rate true false false) p rate := by
  have hport : (⟨.PORT_STATUS, p, 0⟩ : Key) ∈ linkRegs p ++ laneStatusRegs p := .tail _ (.head _)
  have h := s.setLinkState_L0_settles p rate hl
  generalize hc' : (((s.holdsL0 p rate).aimRate p rate).widen p).setLinkState p lsL0 = c at h
  have helastic := h.onlyRegs (c.clearElastic_onlyRegs p) (List.subset_append_right _ _)
    (fun k hk => by rw [laneStatusRegs_reg hk]; decide)
  generalize hd : c.eachLane p (fun s q j => s.put F.LANE_STATUS_ELASTIC_ERR 0 q j) = d at helastic
  have hlow : d.lowRate p rate = d.put F.PORT_STATUS_LOW_RATE 0 p := by
    have hfast : (cxlRole (d.role p) && decide (rate < 2)) = false := by
      rw [helastic.role]
      rcases hslow with h | h
      · simp [h]
      · simp [Nat.not_lt.mpr h]
    simp only [State.lowRate, hfast, Bool.false_eq_true, if_false]
  have hput : ∀ (u : State) (f : Fld) (v : Nat), f.reg = .PORT_STATUS → SettledL0 s u p rate → SettledL0 s (u.put f v p) p rate :=
    fun u f v hf hu => hu.onlyRegs ((OnlyRegs.refl u [⟨f.reg, p, 0⟩]).put f v p 0 (.head _))
      (by simpa [hf] using hport) (by simp [hf])
  have he := hput d F.PORT_STATUS_LOW_RATE 0 rfl helastic
  rw [← hlow] at he
  generalize ht : d.lowRate p rate = t at he
  have hup : SettledL0 s (t.broughtUp p) p rate := hput _ F.PORT_STATUS_HELD _ rfl (he.withLanes _)
  have hcascade : (t.broughtUp p).isCascade p = false := (State.isCascade_of_role (hup.role p)).trans hc
  have hheld : (t.broughtUp p).holds = s.holds := by
    have e := congrArg State.holds hup.frame
    exact e
  have hcascade' : (s.holdsL0 p rate).isCascade p = false :=
    (State.isCascade_of_role ((s.holdsL0_onlyRegs p rate).1.role (fun _ => linkRegs_not_role) p)).trans hc
  have hreach : s.reachRate p rate true false false = (s.holdsL0 p rate).settleL0 p rate true false := by
    simp only [State.reachRate, State.tooSlow, hcascade', Bool.false_and, Bool.false_eq_true, if_false]
  rw [hreach, State.settleL0_uncascaded (t := t) _ p rate true (by rw [hc', hd, ht]) hcascade]
  split
  · have hviral' : (t.broughtUp p).viralSettle p true = { t.broughtUp p with
        lanes := { (t.broughtUp p).lanes with viralRetrain := (t.broughtUp p).lanes.viralRetrain.filter (fun x => x != p) } } := by
      simp only [State.viralSettle, if_true, hheld, hviral, Bool.false_eq_true, if_false]
    rw [hviral']
    exact hup.withLanes _
  · exact hup

end Sys2Proof.Machine

/-!
PROOF. Failed rates, equalisation phases, records, adaptation and bonding (R63, R66 to R69, R72, R77).
-/
namespace Sys2Proof.Machine

/-! ## Failed rates (R63) -/

theorem State.rateFailed_bit (s : State) (p n : Nat) (h : n ≤ 6) :
    Word.bits ((s.put ⟨.PHY_STATUS, 8 + n, 1⟩ 1 p).rd .PHY_STATUS p) (8 + n) 1 = 1 :=
  s.get_put_lt ⟨.PHY_STATUS, 8 + n, 1⟩ p 0 (by simp only; omega) (by simp)

/-- What a failed rate leaves (R63): it is marked, its fault counted, and the port is back in L0 at the last good rate. -/
abbrev RateFailed (s t : State) (p : Port) : Prop :=
  Word.bits (t.rd .PHY_STATUS p.val) (8 + numGet 0 p.val s.lanes.target) 1 = 1 ∧
    t.get F.PHY_STATUS_CUR_RATE p.val = numGet 0 p.val s.lanes.lastGood % 8 ∧
    t.linkState p.val = lsL0 ∧
    t.get F.FC_SRC_COUNT (8 * p.val) = saturated 8 (s.get F.FC_SRC_COUNT (8 * p.val)) 1 ∧
    t.irqPending (96 + p.val) = true ∧
    t.mem = s.mem ∧
    t.msgs = s.msgs ∧
    t.out = s.out ++ (if s.isHostPort p.val && !s.hearthDown then [.linkError p.val] else [])

theorem gives_rateFailed {c : Instr} {s : State} {p : Port} (hq : Quiet s) (e : exec c s = done (s.rateFails p.val))
    (hl : s.linkState p.val ≠ lsL0) (hby : s.lanes.bypassing.contains p.val = false) (hc : s.isCascade p.val = false)
    (hslow : cxlRole (s.role p.val) = false ∨ 2 ≤ numGet 0 p.val s.lanes.lastGood) (hviral : s.holds.contains (p.val, .viral) = false)
    (hlatched : s.flag F.FC_SRC_LATCHED (8 * p.val) = true) (ht : numGet 0 p.val s.lanes.target ≤ 6) :
    Gives c s (fun t => RateFailed s t p) := by
  let a : State := { s with lanes := { s.lanes with bypassing := s.lanes.bypassing.filter (fun x => x != p.val),
                                                    resize := s.lanes.resize.filter (fun x => x != p.val) } }
  let mark : Fld := ⟨.PHY_STATUS, 8 + numGet 0 p.val s.lanes.target, 1⟩
  have hmark : mark.apart F.PHY_STATUS_LINK_STATE = true := by simp [mark, Fld.apart, F.PHY_STATUS_LINK_STATE]; omega
  have hrole : ∀ q, (a.put mark 1 p.val).role q = s.role q :=
    ((KeepsRegs.refl a [⟨.PHY_STATUS, p.val, 0⟩]).put mark 1 p.val 0 (.head _)).role (by simp)
  have hflag : (a.put mark 1 p.val).flag F.FC_SRC_LATCHED (8 * p.val) = true := by
    rw [State.flag, State.get_put_reg _ _ _ _ _ _ _ _ (show Reg.FC_SRC ≠ .PHY_STATUS by decide)]
    exact hlatched
  obtain ⟨vs, herr⟩ := (a.put mark 1 p.val).linkError_latched p.val hflag
  rw [State.isHostPort_of_role (hrole p.val), State.get_put_reg _ _ _ _ _ _ _ _ (show Reg.FC_SRC ≠ .PHY_STATUS by decide)] at herr
  generalize hb : (a.put mark 1 p.val).linkError p.val = b at herr
  have hbkeeps : KeepsRegs (a.put mark 1 p.val) b [⟨.FC_SRC, 8 * p.val, 0⟩] := by
    rw [herr]
    exact ((KeepsRegs.refl _ _).put F.FC_SRC_COUNT _ _ _ (.head _)).regs rfl
  have hbrole : ∀ q, b.role q = s.role q := fun q => (hbkeeps.role (by simp) q).trans (hrole q)
  have hbl : b.linkState p.val = s.linkState p.val :=
    (hbkeeps.get (by simp [F.PHY_STATUS_LINK_STATE])).trans (State.get_put_of_apart _ hmark _ _ _ _ _)
  have hholds : b.holds = s.holds := by rw [herr]; rfl
  have h := b.reachRate_settles p.val (numGet 0 p.val s.lanes.lastGood) (hbl ▸ hl) ((State.isCascade_of_role (hbrole _)).trans hc)
    (by rw [hbrole]; exact hslow) (hholds ▸ hviral)
  have hfails : s.rateFails p.val = b.reachRate p.val (numGet 0 p.val s.lanes.lastGood) true false false := by
    rw [← hb]
    simp only [State.rateFails, hby, Bool.false_eq_true, if_false]
    rfl
  obtain ⟨hmem, hmsgs, hout, htodo⟩ := h.frame.rest
  generalize b.reachRate p.val (numGet 0 p.val s.lanes.lastGood) true false false = t at h hfails hmem hmsgs hout htodo
  refine Gives.of_done (e.trans (congrArg done hfails)) (htodo.trans (by rw [herr]; exact hq)) ⟨?_, h.rate, h.linkState, ?_, ?_, ?_, ?_, ?_⟩
  · rw [State.rateMark_congr h.marks (by omega), hbkeeps.rd (by simp)]
    exact a.rateFailed_bit p.val _ ht
  · rw [h.keeps.get (fun hm => by have hreg := settledRegs_reg hm; simp [F.FC_SRC_COUNT] at hreg), herr]
    exact State.get_put_lt _ F.FC_SRC_COUNT _ _ (by decide) (saturated_lt 8 _ _)
  · rw [State.irqPending_port]
    exact h.pending
  · rw [hmem, herr]; rfl
  · rw [hmsgs, herr]; rfl
  · rw [hout, herr]; rfl

/-! ## Equalisation phases (R66) -/

/-- A lane's transmitter register after the partner's request: an accepted request sets it, and any other leaves it. -/
def answeredTaps (rate : Nat) (old : Word) : Option EqRequest → Word
  | some r => (match requestTaps rate r with | some c => BitVec.ofNat 64 c.toNat | none => old)
  | none => old

/-- The partner's request of a lane's transmitter is answered. -/
def State.eqAnswer (s : State) (p rate k q j : Nat) : Option EqRequest → State
  | some r =>
    let s := s.emit (.eqReply p k (requestTaps rate r).isSome)
    match requestTaps rate r with
    | some c => s.wr .LANE_TXEQ (BitVec.ofNat 64 c.toNat) q j
    | none => s
  | none => s

/-- What the lane asks of the partner's transmitter is kept. -/
def State.eqAsk (s : State) (q j : Nat) : Option (BitVec 32) → State
  | some c => { s with lanes := { s.lanes with partnerTx := numPut 0 (8 * q + j) (c.toNat % 2 ^ 32) s.lanes.partnerTx } }
  | none => s

theorem State.eqLane_eq (s : State) (p rate : Nat) (own : List EqRequest) (partner : List (BitVec 32)) (q j : Nat) :
    s.eqLane p rate own partner q j =
      (s.eqAnswer p rate (8 * (q - p) + j) q j own[8 * (q - p) + j]?).eqAsk q j partner[8 * (q - p) + j]? := rfl

theorem State.eqAnswer_effect (s : State) (p rate k q j : Nat) (r : Option EqRequest) :
    KeepsRegs s (s.eqAnswer p rate k q j r) [⟨.LANE_TXEQ, q, j⟩] ∧
      { s.eqAnswer p rate k q j r with regs := s.regs, out := s.out } = s ∧
      (s.eqAnswer p rate k q j r).rd .LANE_TXEQ q j = answeredTaps rate (s.rd .LANE_TXEQ q j) r := by
  cases r with
  | none => exact ⟨KeepsRegs.refl s _, rfl, rfl⟩
  | some r =>
    unfold State.eqAnswer answeredTaps
    simp only
    cases requestTaps rate r with
    | none => exact ⟨KeepsRegs.refl s _, rfl, rfl⟩
    | some c => exact ⟨(KeepsRegs.refl s _).wr _ _ _ _ (.head _), rfl, State.rd_wr_self _ _ _ _ _⟩

theorem State.eqAsk_effect (s : State) (q j : Nat) (c : Option (BitVec 32)) :
    { s.eqAsk q j c with lanes := s.lanes } = s ∧ { (s.eqAsk q j c).lanes with partnerTx := s.lanes.partnerTx } = s.lanes ∧
      numGet 0 (8 * q + j) (s.eqAsk q j c).lanes.partnerTx = c.elim (numGet 0 (8 * q + j) s.lanes.partnerTx) BitVec.toNat ∧
      ∀ n, n ≠ 8 * q + j → numGet 0 n (s.eqAsk q j c).lanes.partnerTx = numGet 0 n s.lanes.partnerTx := by
  cases c with
  | none => exact ⟨rfl, rfl, rfl, fun _ _ => rfl⟩
  | some c => exact ⟨rfl, rfl, (numGet_put_self _ _ _ _).trans (Nat.mod_eq_of_lt c.isLt), fun n hn => numGet_put_ne _ hn _ _⟩

/-- A lane's part of a phase leaves the other lanes alone. -/
theorem State.eqLane_other (s : State) (p rate : Nat) (own : List EqRequest) (partner : List (BitVec 32)) (q j : Nat) :
    KeepsRegs s (s.eqLane p rate own partner q j) [⟨.LANE_TXEQ, q, j⟩] ∧
      ∀ n, n ≠ 8 * q + j → numGet 0 n (s.eqLane p rate own partner q j).lanes.partnerTx = numGet 0 n s.lanes.partnerTx := by
  rw [State.eqLane_eq]
  obtain ⟨hkeeps, hframe, -⟩ := s.eqAnswer_effect p rate (8 * (q - p) + j) q j own[8 * (q - p) + j]?
  generalize s.eqAnswer p rate (8 * (q - p) + j) q j own[8 * (q - p) + j]? = u at hkeeps hframe
  obtain ⟨hask, -, -, hother⟩ := u.eqAsk_effect q j partner[8 * (q - p) + j]?
  have hregs : (u.eqAsk q j partner[8 * (q - p) + j]?).regs = u.regs := by have e := congrArg State.regs hask; exact e
  have hlanes : u.lanes = s.lanes := by have e := congrArg State.lanes hframe; exact e
  exact ⟨hkeeps.regs hregs, fun n hn => (hother n hn).trans (by rw [hlanes])⟩

/-- The transmitters of a lane of the port's own block after a phase. -/
theorem State.eqLane_reads (s : State) (p rate : Nat) (own : List EqRequest) (partner : List (BitVec 32)) (k : Lane) :
    (s.eqLane p rate own partner p k.val).rd .LANE_TXEQ p k.val = answeredTaps rate (s.rd .LANE_TXEQ p k.val) own[k.val]? ∧
      numGet 0 (8 * p + k.val) (s.eqLane p rate own partner p k.val).lanes.partnerTx =
        partner[k.val]?.elim (numGet 0 (8 * p + k.val) s.lanes.partnerTx) BitVec.toNat := by
  rw [State.eqLane_eq, show 8 * (p - p) + k.val = k.val by omega]
  obtain ⟨-, hframe, htx⟩ := s.eqAnswer_effect p rate k.val p k.val own[k.val]?
  generalize s.eqAnswer p rate k.val p k.val own[k.val]? = u at hframe htx
  obtain ⟨hask, -, hread, -⟩ := u.eqAsk_effect p k.val partner[k.val]?
  have hregs : (u.eqAsk p k.val partner[k.val]?).regs = u.regs := by have e := congrArg State.regs hask; exact e
  have hlanes : u.lanes = s.lanes := by have e := congrArg State.lanes hframe; exact e
  exact ⟨(State.rd_regs u _ hregs _ _ _).trans htx, hread.trans (by rw [hlanes])⟩

/-- What a phase changes: transmitters of the port's lanes, what is kept of the partner's, and replies. -/
structure PhaseFrame (s t : State) (p : Nat) : Prop where
  keeps : KeepsRegs s t ((List.range 16).map (fun k => ⟨.LANE_TXEQ, p + k / 8, k % 8⟩))
  frame : { t with regs := s.regs, lanes := s.lanes, out := s.out } = s
  lanes : { t.lanes with partnerTx := s.lanes.partnerTx } = s.lanes

theorem PhaseFrame.eqLane {s t : State} {p : Nat} (h : PhaseFrame s t p) (rate : Nat) (own : List EqRequest)
    (partner : List (BitVec 32)) {n : Nat} (hn : n < 16) : PhaseFrame s (t.eqLane p rate own partner (p + n / 8) (n % 8)) p := by
  rw [State.eqLane_eq]
  obtain ⟨hkeeps, hframe, -⟩ := t.eqAnswer_effect p rate (8 * (p + n / 8 - p) + n % 8) (p + n / 8) (n % 8)
    own[8 * (p + n / 8 - p) + n % 8]?
  generalize t.eqAnswer p rate (8 * (p + n / 8 - p) + n % 8) (p + n / 8) (n % 8) own[8 * (p + n / 8 - p) + n % 8]? = u at hkeeps hframe
  obtain ⟨hask, hlanes, -, -⟩ := u.eqAsk_effect (p + n / 8) (n % 8) partner[8 * (p + n / 8 - p) + n % 8]?
  generalize u.eqAsk (p + n / 8) (n % 8) partner[8 * (p + n / 8 - p) + n % 8]? = v at hask hlanes
  have hregs : v.regs = u.regs := by have e := congrArg State.regs hask; exact e
  have hsame : u.lanes = t.lanes := by have e := congrArg State.lanes hframe; exact e
  have hlane : (⟨.LANE_TXEQ, p + n / 8, n % 8⟩ : Key) ∈ (List.range 16).map (fun k => (⟨.LANE_TXEQ, p + k / 8, k % 8⟩ : Key)) :=
    List.mem_map.mpr ⟨n, List.mem_range.mpr hn, rfl⟩
  refine ⟨(h.keeps.trans (hkeeps.mono (List.cons_subset.mpr ⟨hlane, List.nil_subset _⟩))).regs hregs, ?_, ?_⟩
  · have e : ({ v with regs := s.regs, lanes := s.lanes, out := s.out } : State) = { t with regs := s.regs, lanes := s.lanes, out := s.out } :=
      (congrArg (fun x : State => { x with regs := s.regs, lanes := s.lanes, out := s.out }) hask).trans
        (congrArg (fun x : State => { x with regs := s.regs, lanes := s.lanes, out := s.out }) hframe)
    exact e.trans h.frame
  · rw [hsame] at hlanes
    have e : ({ v.lanes with partnerTx := s.lanes.partnerTx } : Lanes) = { t.lanes with partnerTx := s.lanes.partnerTx } :=
      congrArg (fun x : Lanes => { x with partnerTx := s.lanes.partnerTx }) hlanes
    exact e.trans h.lanes

/-! ## Equalisation records (R69, R72) -/

/-- The records of a port's lanes. -/
def recordRegs (p : Nat) : List Key := (List.range 128).map (fun n => ⟨.LANE_EQ_RECORD, p + n / 64, n % 64⟩)

theorem mem_recordRegs {p k n : Nat} (hk : k < 16) (hn : n < 8) : (⟨.LANE_EQ_RECORD, p + k / 8, 8 * (k % 8) + n⟩ : Key) ∈ recordRegs p := by
  refine List.mem_map.mpr ⟨8 * k + n, List.mem_range.mpr (by omega), ?_⟩
  have hblock : (8 * k + n) / 64 = k / 8 := by omega
  have hword : (8 * k + n) % 64 = 8 * (k % 8) + n := by omega
  rw [hblock, hword]

theorem recordRegs_reg {p : Nat} {k : Key} (h : k ∈ recordRegs p) : k.reg = .LANE_EQ_RECORD := by
  obtain ⟨n, -, rfl⟩ := List.mem_map.mp h
  rfl

theorem State.clearRecords_onlyRegs (s : State) (p : Nat) : OnlyRegs s (s.clearRecords p) (recordRegs p) :=
  State.eachLane_induction (P := fun t => OnlyRegs s t (recordRegs p)) (OnlyRegs.refl s _)
    (fun _ _ hk ht => ht.wr _ _ _ _ (mem_recordRegs hk (by decide)))

/-- No record of the port's own block is valid (R72). -/
theorem State.clearRecords_invalid (s : State) (p : Nat) (k : Lane) :
    Word.bits ((s.clearRecords p).rd .LANE_EQ_RECORD p (8 * k.val + 1)) 31 1 = 0 := by
  obtain ⟨t, -, -, ht⟩ := State.eachLane_of_lane (I := fun _ => True) (s := s) (p := p)
    (f := fun s q j => s.wr .LANE_EQ_RECORD (Word.setBits (s.rd .LANE_EQ_RECORD q (8 * j + 1)) 31 1 0) q (8 * j + 1))
    (fun t => Word.bits (t.rd .LANE_EQ_RECORD p (8 * k.val + 1)) 31 1) k trivial (fun _ _ _ _ => trivial)
    (fun t n _ hne => by rw [State.rd_wr_index _ _ _ _ _ _ _ (by omega)])
  refine ht.trans ?_
  rw [State.rd_wr_self, Word.bits_setBits_self _ _ _ _ (by decide)]
  rfl

/-- The second word of a lane's record as SAVE_EQ writes it: VALID above TJ, rate, logical number and polarity (R69, R88). -/
theorem record_valid {tj rate logical pol : Nat} (htj : tj < 2 ^ 8) (hrate : rate < 2 ^ 3) (hlogical : logical < 2 ^ 7) (hpol : pol < 2 ^ 1) :
    Word.bits (BitVec.ofNat 64 (2 ^ 31 + tj * 2 ^ 16 + rate * 2 ^ 8 + logical * 2 + pol)) 31 1 = 1 := by
  rw [Word.bits, BitVec.toNat_ofNat]
  omega

/-- The eight words of a lane's record. -/
def laneRecord (q j : Nat) : List Key := (List.range 8).map (fun n => ⟨.LANE_EQ_RECORD, q, 8 * j + n⟩)

theorem mem_laneRecord (q j : Nat) {n : Nat} (hn : n < 8) : (⟨.LANE_EQ_RECORD, q, 8 * j + n⟩ : Key) ∈ laneRecord q j :=
  List.mem_map.mpr ⟨n, List.mem_range.mpr hn, rfl⟩

/-- A record that is captured: the next free value is drawn for TJ, and only the record's words are written. -/
theorem State.captureLane_onlyRegs (s : State) (p q j : Nat) :
    OnlyRegs { s with free := s.free + 1 } (s.captureLane p q j) (laneRecord q j) :=
  ((((((((OnlyRegs.refl _ _).wr _ _ _ _ (mem_laneRecord q j (by decide))).wr _ _ _ _ (mem_laneRecord q j (by decide))).wr
    _ _ _ _ (mem_laneRecord q j (by decide))).wr _ _ _ _ (mem_laneRecord q j (by decide))).wr _ _ _ _ (mem_laneRecord q j (by decide))).wr
    _ _ _ _ (mem_laneRecord q j (by decide))).wr _ _ _ _ (mem_laneRecord q j (by decide))).wr _ _ _ _ (mem_laneRecord q j (by decide))

theorem State.captureLane_reads (s : State) (p q j : Nat) :
    Word.bits ((s.captureLane p q j).rd .LANE_EQ_RECORD q (8 * j + 1)) 31 1 = 1 ∧
      (s.captureLane p q j).rd .LANE_EQ_RECORD q (8 * j + 2) = s.rd .LANE_TXEQ q j ∧
      (s.captureLane p q j).rd .LANE_EQ_RECORD q (8 * j + 7) = s.rd .LANE_DFE2 q j := by
  refine ⟨?valid, ?tx, ?dfe⟩
  case valid =>
    simp (disch := omega) only [State.captureLane, State.rd_wr_self, State.rd_wr_index]
    exact record_valid (Nat.mod_lt _ (by decide)) (s.get_lt F.PHY_STATUS_CUR_RATE p 0) (s.get_lt F.LANE_STATUS_LOGICAL q j)
      (s.get_lt F.LANE_STATUS_POL_INV q j)
  all_goals
    simp (disch := omega) only [State.captureLane, State.rd_wr_self, State.rd_wr_index]
    simp (disch := decide) only [State.rd_wr_reg, BitVec.ofNat_toNat, BitVec.setWidth_eq]
    rfl

/-- What SAVE_EQ changes: records of the port's lanes, and the draws. -/
def Captured (s : State) (p : Nat) (t : State) : Prop :=
  KeepsRegs s t (recordRegs p) ∧ { t with regs := s.regs, free := s.free } = s

/-- The record of a lane in use, none otherwise (R69). -/
def State.captureUsed (p : Nat) (s : State) (q j : Nat) : State :=
  if s.flag F.LANE_STATUS_IN_USE q j then s.captureLane p q j else s

theorem State.captureUsed_captured {s t : State} {p n : Nat} (hn : n < 16) (h : Captured s p t) :
    Captured s p (t.captureUsed p (p + n / 8) (n % 8)) := by
  unfold State.captureUsed
  split
  · have hc := t.captureLane_onlyRegs p (p + n / 8) (n % 8)
    have hin : laneRecord (p + n / 8) (n % 8) ⊆ recordRegs p := fun k hk => by
      obtain ⟨m, hm, rfl⟩ := List.mem_map.mp hk
      exact mem_recordRegs hn (List.mem_range.mp hm)
    generalize t.captureLane p (p + n / 8) (n % 8) = u at hc
    have e : ({ u with regs := s.regs, free := s.free } : State) = { t with regs := s.regs, free := s.free } :=
      congrArg (fun x : State => { x with regs := s.regs, free := s.free }) hc.2
    exact ⟨h.1.trans ((hc.1.mono hin).congr (s' := t) rfl rfl), e.trans h.2⟩
  · exact h

theorem State.captureRecords_captured (s : State) (p : Nat) : Captured s p (s.captureRecords p) :=
  State.eachLane_induction (P := Captured s p) (f := State.captureUsed p) ⟨KeepsRegs.refl s _, rfl⟩
    (fun _ _ hn ht => State.captureUsed_captured hn ht)

/-- The record of a lane in use is valid, and its words hold what the lane's registers held. -/
theorem State.captureRecords_reads (s : State) (p : Nat) (k : Lane) (h : s.flag F.LANE_STATUS_IN_USE p k.val = true) :
    Word.bits ((s.captureRecords p).rd .LANE_EQ_RECORD p (8 * k.val + 1)) 31 1 = 1 ∧
      (s.captureRecords p).rd .LANE_EQ_RECORD p (8 * k.val + 2) = s.rd .LANE_TXEQ p k.val ∧
      (s.captureRecords p).rd .LANE_EQ_RECORD p (8 * k.val + 7) = s.rd .LANE_DFE2 p k.val := by
  have hother : ∀ (t : State) (n : Nat), n < 16 → n ≠ k.val → ∀ m, m < 8 →
      (t.captureUsed p (p + n / 8) (n % 8)).rd .LANE_EQ_RECORD p (8 * k.val + m) = t.rd .LANE_EQ_RECORD p (8 * k.val + m) := by
    intro t n hn hne m hm
    unfold State.captureUsed
    split
    · refine ((t.captureLane_onlyRegs p (p + n / 8) (n % 8)).1.rd (fun hmem => ?_)).trans rfl
      obtain ⟨x, hx, e⟩ := List.mem_map.mp hmem
      simp only [Key.mk.injEq, List.mem_range] at e hx
      omega
    · rfl
  obtain ⟨t, ht, -, hread⟩ := State.eachLane_of_lane (I := Captured s p) (s := s) (p := p) (f := State.captureUsed p)
    (fun t => (t.rd .LANE_EQ_RECORD p (8 * k.val + 1), t.rd .LANE_EQ_RECORD p (8 * k.val + 2), t.rd .LANE_EQ_RECORD p (8 * k.val + 7))) k
    ⟨KeepsRegs.refl s _, rfl⟩ (fun _ _ hn ht => State.captureUsed_captured hn ht)
    (fun t n hn hne => by rw [hother t n hn hne 1 (by decide), hother t n hn hne 2 (by decide), hother t n hn hne 7 (by decide)])
  have hkeep : ∀ r j, r ≠ .LANE_EQ_RECORD → t.rd r p j = s.rd r p j := fun r j hr => ht.1.rd (fun hm => hr (recordRegs_reg hm))
  have huse : t.flag F.LANE_STATUS_IN_USE p k.val = true := by
    rw [State.flag, State.get, hkeep _ _ (by decide)]
    exact h
  have hlane : t.captureUsed p p k.val = t.captureLane p p k.val := by rw [State.captureUsed, if_pos huse]
  rw [hlane] at hread
  obtain ⟨hvalid, htx, hdfe⟩ := t.captureLane_reads p p k.val
  simp only [Prod.mk.injEq] at hread
  obtain ⟨h1, h2, h7⟩ := hread
  exact ⟨(congrArg (fun v => Word.bits v 31 1) h1).trans hvalid, h2.trans (htx.trans (hkeep _ _ (by decide))),
    h7.trans (hdfe.trans (hkeep _ _ (by decide)))⟩

/-! ## Adaptation (R68) -/

theorem stepCode_mem {lo hi : Int} (h : lo ≤ hi) (v d : Int) : lo ≤ stepCode lo hi v d ∧ stepCode lo hi v d ≤ hi := by
  unfold stepCode
  omega

theorem State.adaptTaps_onlyRegs {s t : State} {ks : List Key} (h : OnlyRegs s t ks) (r : Reg) (p k : Nat) (d : List Int)
    (hk : (⟨r, p, k⟩ : Key) ∈ ks) : OnlyRegs s (t.adaptTaps r p k d) ks :=
  List.foldlRecOn (motive := fun u => OnlyRegs s u ks) _ _ h (fun _ hu _ _ => hu.wr _ _ _ _ hk)

/-- A code that one step of the update leaves within its range. -/
theorem State.get_put_stepCode (s : State) (f : Fld) (hi v d : Int) (i j : Nat) (hf : f.lo + f.w ≤ 64) (h0 : 0 ≤ hi) (hw : hi < 2 ^ f.w) :
    ((s.put f (stepCode 0 hi v d).toNat i j).get f i j : Int) = stepCode 0 hi v d := by
  obtain ⟨hlo, hle⟩ := stepCode_mem h0 v d
  have hlt : (stepCode 0 hi v d).toNat < 2 ^ f.w := by
    zify
    omega
  rw [State.get_put_lt _ _ _ _ hf hlt, Int.toNat_of_nonneg hlo]

/-- A phase of a port on its way to a rate (R66). -/
theorem gives_eqPhaseComplete (s : State) (p : Port) (own : List EqRequest) (partner : List (BitVec 32)) (hq : Quiet s)
    (hl : s.linkState p.val = lsRecoveryEq) (hphase : numGet 0 p.val s.lanes.eqPhase < 4) :
    Gives (.eqPhaseComplete p own partner) s (fun t =>
      (∀ k : Lane, t.rd .LANE_TXEQ p.val k.val =
        answeredTaps (numGet 0 p.val s.lanes.target) (s.rd .LANE_TXEQ p.val k.val) own[k.val]?) ∧
      (∀ k : Lane, numGet 0 (8 * p.val + k.val) t.lanes.partnerTx =
        partner[k.val]?.elim (numGet 0 (8 * p.val + k.val) s.lanes.partnerTx) BitVec.toNat) ∧
      numGet 0 p.val t.lanes.eqPhase = numGet 0 p.val s.lanes.eqPhase + 1 ∧
      KeepsRegs s t ((List.range 16).map (fun k => ⟨.LANE_TXEQ, p.val + k / 8, k % 8⟩)) ∧
      { t with regs := s.regs, lanes := s.lanes, out := s.out } = s) := by
  let f : State → Nat → Nat → State := fun t q j => t.eqLane p.val (numGet 0 p.val t.lanes.target) own partner q j
  have hstart : PhaseFrame s s p.val := ⟨KeepsRegs.refl s _, rfl, rfl⟩
  have hstep : ∀ t n, n < 16 → PhaseFrame s t p.val → PhaseFrame s (f t (p.val + n / 8) (n % 8)) p.val :=
    fun t n hn ht => ht.eqLane _ own partner hn
  have hall : PhaseFrame s (s.eachLane p.val f) p.val := State.eachLane_induction hstart hstep
  have hlane : ∀ k : Lane,
      (s.eachLane p.val f).rd .LANE_TXEQ p.val k.val =
          answeredTaps (numGet 0 p.val s.lanes.target) (s.rd .LANE_TXEQ p.val k.val) own[k.val]? ∧
        numGet 0 (8 * p.val + k.val) (s.eachLane p.val f).lanes.partnerTx =
          partner[k.val]?.elim (numGet 0 (8 * p.val + k.val) s.lanes.partnerTx) BitVec.toNat := by
    intro k
    obtain ⟨t, ht, hsame, hread⟩ := State.eachLane_of_lane (s := s) (p := p.val) (f := f)
      (fun t => (t.rd .LANE_TXEQ p.val k.val, numGet 0 (8 * p.val + k.val) t.lanes.partnerTx)) k hstart hstep
      (fun t n hn hne => by
        obtain ⟨hkeeps, hother⟩ := t.eqLane_other p.val (numGet 0 p.val t.lanes.target) own partner (p.val + n / 8) (n % 8)
        rw [hother _ (by omega), hkeeps.rd (by simp; omega)])
    have htarget : t.lanes.target = s.lanes.target := by have e := congrArg Lanes.target ht.lanes; exact e
    obtain ⟨htx, hpartner⟩ := t.eqLane_reads p.val (numGet 0 p.val t.lanes.target) own partner k
    simp only [Prod.mk.injEq] at hsame hread
    exact ⟨hread.1.trans (by rw [htx, hsame.1, htarget]), hread.2.trans (by rw [hpartner, hsame.2])⟩
  have hexec : exec (.eqPhaseComplete p own partner) s = done
      { s.eachLane p.val f with lanes := { (s.eachLane p.val f).lanes with
          eqPhase := numPut 0 p.val (numGet 0 p.val s.lanes.eqPhase + 1) (s.eachLane p.val f).lanes.eqPhase } } := by
    show execEqPhaseComplete p own partner s = _
    simp only [execEqPhaseComplete, State.eqPhaseComplete, hl, hphase, beq_self_eq_true, decide_true, Bool.and_self, if_true, f]
  generalize s.eachLane p.val f = u at hall hlane hexec
  have htodo : u.todo = s.todo := by have e := congrArg State.todo hall.frame; exact e
  exact Gives.of_done hexec (htodo.trans hq) ⟨fun k => (hlane k).1, fun k => (hlane k).2, by simp, hall.keeps, hall.frame⟩

theorem Gives.imp {c : Instr} {s : State} {P Q : State → Prop} (h : Gives c s P) (hpq : ∀ t, P t → Q t) : Gives c s Q := by
  obtain ⟨t, hexec, ht⟩ := h
  exact ⟨t, hexec, hpq t ht⟩

/-- The registers of a port that a new start of its rates writes: its status and its records. -/
abbrev startRegs (p : Nat) : List Key := ⟨.PHY_STATUS, p, 0⟩ :: recordRegs p

theorem startRegs_reg {p : Nat} {k : Key} (h : k ∈ startRegs p) : k.reg = .PHY_STATUS ∨ k.reg = .LANE_EQ_RECORD :=
  (List.mem_cons.mp h).imp (fun e => by rw [e]) recordRegs_reg

/-- What lets a port in L0 leave it for Recovery alone. -/
structure MayRecover (s : State) (p : Nat) : Prop where
  frozen : Frozen s
  linkState : s.linkState p = lsL0
  uncascaded : s.isCascade p = false
  idle : s.flag F.MARGIN_STATUS_BUSY p = false

theorem MayRecover.of_onlyRegs {s t : State} {p : Nat} (h : MayRecover s p) (ht : OnlyRegs s t (startRegs p))
    (hl : t.linkState p = s.linkState p) : MayRecover t p where
  frozen := ht.1.frozen (fun hm => by rcases startRegs_reg hm with e | e <;> cases e) h.frozen
  linkState := hl.trans h.linkState
  uncascaded := (State.isCascade_of_role (ht.1.role (fun k hk => by rcases startRegs_reg hk with e | e <;> rw [e] <;> decide) p)).trans
    h.uncascaded
  idle := by
    rw [State.flag, ht.1.get (fun hm => by rcases startRegs_reg hm with e | e <;> cases e)]
    exact h.idle

/-- A command that clears what a port knows of its rates, takes it to Recovery and on to a rate. -/
theorem gives_step_from_L0 {c : Instr} {s b v : State} {p : Port} {r : Nat} (hq : Quiet s) (hb : OnlyRegs s b (startRegs p.val))
    (hrec : MayRecover b p.val) (hv : v.regs = (b.toRecovery p.val).regs) (hvf : LinkFrame (b.toRecovery p.val) v)
    (hexec : exec c s = done (v.stepTo p.val r)) :
    Gives c s (fun t => t.linkState p.val = stepState r ∧ numGet 0 p.val t.lanes.target = r ∧ t.irqPending (96 + p.val) = true ∧
      t.mem = s.mem ∧ t.msgs = s.msgs ∧ t.out = s.out ∧
      (∀ f : Fld, f.reg = .PHY_STATUS → F.PHY_STATUS_LINK_STATE.apart f = true → t.get f p.val = b.get f p.val) ∧
      ∀ j, t.rd .LANE_EQ_RECORD p.val j = b.rd .LANE_EQ_RECORD p.val j) := by
  obtain ⟨u, hu, hpending, hto⟩ := b.toRecovery_uncascaded p.val hrec.frozen hrec.linkState hrec.uncascaded hrec.idle
  rw [hto] at hv hvf
  obtain ⟨hkeeps, hframe, hstate, htarget, hlatched, hphy⟩ := hu.then_step hpending (hv.trans rfl)
    (LinkFrame.trans (t := u.aimRate p.val (b.get F.PHY_STATUS_CUR_RATE p.val)) rfl hvf) (r := r) rfl
  obtain ⟨hmem, hmsgs, hout, htodo⟩ := (hb.linkFrame.trans hframe).rest
  exact Gives.of_done hexec (htodo.trans hq) ⟨hstate, htarget, (State.irqPending_port _ p).trans hlatched, hmem, hmsgs, hout, hphy,
    fun j => hkeeps.rd (by simp)⟩

/-- Errors after a bypass: no record stays valid, and the port goes on from the lowest rate (R72). -/
theorem gives_eqBypassFallback (s : State) (p : Port) (r : Nat) (hq : Quiet s) (hs : MayRecover s p.val)
    (hused : s.flag F.PHY_STATUS_BYPASS_USED p.val = true) (hr : s.nextRate p.val 0 = some r) :
    Gives (.eqBypassFallback p) s (fun t => t.linkState p.val = stepState r ∧ t.get F.PHY_STATUS_BYPASS_USED p.val = 0 ∧
      (∀ k : Lane, Word.bits (t.rd .LANE_EQ_RECORD p.val (8 * k.val + 1)) 31 1 = 0) ∧ t.mem = s.mem ∧ t.msgs = s.msgs ∧ t.out = s.out) := by
  have hclear := s.clearRecords_onlyRegs p.val
  have hb : OnlyRegs s ((s.clearRecords p.val).put F.PHY_STATUS_BYPASS_USED 0 p.val) (startRegs p.val) :=
    (hclear.mono (List.subset_cons_self _ _)).put _ _ _ _ (.head _)
  have hget : ∀ f : Fld, f.reg = .PHY_STATUS → F.PHY_STATUS_BYPASS_USED.apart f = true →
      ((s.clearRecords p.val).put F.PHY_STATUS_BYPASS_USED 0 p.val).get f p.val = s.get f p.val := fun f hr hd =>
    ((s.clearRecords p.val).get_put_of_apart hd _ _ _ _ _).trans (hclear.1.get (fun hm => by simpa [hr] using recordRegs_reg hm))
  have hzero : ((s.clearRecords p.val).put F.PHY_STATUS_BYPASS_USED 0 p.val).get F.PHY_STATUS_BYPASS_USED p.val = 0 :=
    State.get_put_lt _ _ _ _ (by decide) (by decide)
  have hinvalid : ∀ k : Lane, Word.bits (((s.clearRecords p.val).put F.PHY_STATUS_BYPASS_USED 0 p.val).rd .LANE_EQ_RECORD p.val
      (8 * k.val + 1)) 31 1 = 0 := fun k => by
    rw [State.rd_put_reg _ _ _ _ _ _ _ _ (by decide)]
    exact s.clearRecords_invalid p.val k
  generalize hbe : (s.clearRecords p.val).put F.PHY_STATUS_BYPASS_USED 0 p.val = b at hb hget hzero hinvalid
  have hrates : SameRates s b p.val := SameRates.of_keeps hb.1
    (fun k hk => by rcases startRegs_reg hk with e | e <;> rw [e] <;> decide) (by rw [hb.lanes]) (hget rateMarks rfl (by decide))
  have hrec : MayRecover b p.val := hs.of_onlyRegs hb (hget F.PHY_STATUS_LINK_STATE rfl (by decide))
  have hnext : (b.toRecovery p.val).nextRate p.val 0 = some r := by
    rw [(hrates.trans (b.toRecovery_sameRates p.val hrec.frozen hrec.linkState hrec.uncascaded hrec.idle)).nextRate, hr]
  have hexec : exec (.eqBypassFallback p) s = done ((b.toRecovery p.val).stepTo p.val r) := by
    show execEqBypassFallback p s = _
    simp only [execEqBypassFallback, State.eqBypassFallback, hused, hs.linkState, beq_self_eq_true, Bool.and_self, if_true, hbe,
      State.count_frozen _ _ _ _ hrec.frozen, hnext, Option.getD_some]
  refine (gives_step_from_L0 hq hb hrec rfl rfl hexec).imp (fun t ⟨hstate, _, _, hmem, hmsgs, hout, hphy, hrecords⟩ => ?_)
  exact ⟨hstate, (hphy F.PHY_STATUS_BYPASS_USED rfl (by decide)).trans hzero, fun k => by rw [hrecords]; exact hinvalid k, hmem, hmsgs, hout⟩

theorem State.settleAnew_effect (s : State) (p : Nat) : (s.settleAnew p).regs = s.regs ∧ LinkFrame s (s.settleAnew p) := ⟨rfl, rfl⟩

/-- RETRAIN of a port in L0 clears RATE_FAILED and goes on to the rate that is left (R63, R65). -/
theorem gives_retrain (s : State) (p : Port) (r : Nat) (hq : Quiet s) (hs : MayRecover s p.val)
    (hr : r = ((s.clearRateFailed p.val).nextRate p.val (s.get F.PHY_STATUS_CUR_RATE p.val)).getD
      ((s.clearRateFailed p.val).heldRate p.val (s.get F.PHY_STATUS_CUR_RATE p.val))) :
    Gives (.retrain p) s (fun t => t.linkState p.val = stepState r ∧ numGet 0 p.val t.lanes.target = r ∧
      t.get F.PHY_STATUS_RATE_FAILED p.val = 0 ∧ t.irqPending (96 + p.val) = true ∧ t.mem = s.mem ∧ t.msgs = s.msgs ∧ t.out = s.out) := by
  have hb : OnlyRegs s (s.clearRateFailed p.val) (startRegs p.val) := (OnlyRegs.refl s _).put _ _ _ _ (.head _)
  have hl : (s.clearRateFailed p.val).linkState p.val = s.linkState p.val := s.get_put_of_apart (by decide) _ _ _ _ _
  have hcleared : (s.clearRateFailed p.val).get F.PHY_STATUS_RATE_FAILED p.val = 0 := s.get_put_lt _ _ _ (by decide) (by decide)
  generalize hbe : s.clearRateFailed p.val = b at hb hl hcleared hr
  have hrec : MayRecover b p.val := hs.of_onlyRegs hb hl
  have hrates : SameRates b ((b.toRecovery p.val).settleAnew p.val) p.val :=
    (b.toRecovery_sameRates p.val hrec.frozen hrec.linkState hrec.uncascaded hrec.idle).trans
      (State.sameRates_settleAnew _ p.val)
  have hexec : exec (.retrain p) s = done (((b.toRecovery p.val).settleAnew p.val).stepTo p.val r) := by
    show execRetrain p s = _
    simp only [execRetrain, State.retrain, hs.linkState, beq_self_eq_true, Bool.true_or, if_true, hbe, hrates.nextRate,
      hrates.heldRate (s.get_lt F.PHY_STATUS_CUR_RATE p.val 0), hr]
  obtain ⟨hregs, hframe⟩ := (b.toRecovery p.val).settleAnew_effect p.val
  refine (gives_step_from_L0 hq hb hrec hregs hframe hexec).imp (fun t ⟨hstate, htarget, hpending, hmem, hmsgs, hout, hphy, _⟩ => ?_)
  exact ⟨hstate, htarget, (hphy F.PHY_STATUS_RATE_FAILED rfl (by decide)).trans hcleared, hpending, hmem, hmsgs, hout⟩

/-- An adaptation update steps a lane's codes within their ranges, and writes nothing but its receiver (R67, R68). -/
theorem gives_adaptationUpdate (s : State) (p : Port) (k : Lane) (signs : List Int) (hq : Quiet s)
    (hl : s.linkState (s.linkPort p.val) = lsL0) (hrate : 2 ≤ s.get F.PHY_STATUS_CUR_RATE (s.linkPort p.val))
    (hfreeze : s.flag F.LANE_RXEQ_FREEZE p.val k.val = false) :
    Gives (.adaptationUpdate p k signs) s (fun t =>
      (t.get F.LANE_RXEQ_CTLE p.val k.val : Int) = stepCode 0 36 (s.get F.LANE_RXEQ_CTLE p.val k.val) (signs.getD 0 0) ∧
      (t.get F.LANE_RXEQ_LF p.val k.val : Int) = stepCode 0 6 (s.get F.LANE_RXEQ_LF p.val k.val) (signs.getD 1 0) ∧
      OnlyRegs s t [⟨.LANE_RXEQ, p.val, k.val⟩, ⟨.LANE_DFE0, p.val, k.val⟩, ⟨.LANE_DFE1, p.val, k.val⟩, ⟨.LANE_DFE2, p.val, k.val⟩]) := by
  let a : State := s.put F.LANE_RXEQ_CTLE (stepCode 0 36 (s.get F.LANE_RXEQ_CTLE p.val k.val) (signs.getD 0 0)).toNat p.val k.val
  let b : State := a.put F.LANE_RXEQ_LF (stepCode 0 6 (s.get F.LANE_RXEQ_LF p.val k.val) (signs.getD 1 0)).toNat p.val k.val
  have htaps : ∀ ks : List Key, (⟨.LANE_DFE0, p.val, k.val⟩ : Key) ∈ ks → (⟨.LANE_DFE1, p.val, k.val⟩ : Key) ∈ ks →
      (⟨.LANE_DFE2, p.val, k.val⟩ : Key) ∈ ks → ∀ u, OnlyRegs u b ks → OnlyRegs u (((b.adaptTaps .LANE_DFE0 p.val k.val (signs.drop 2)).adaptTaps
        .LANE_DFE1 p.val k.val (signs.drop 6)).adaptTaps .LANE_DFE2 p.val k.val (signs.drop 10)) ks := fun ks h0 h1 h2 u hu =>
    State.adaptTaps_onlyRegs (State.adaptTaps_onlyRegs (State.adaptTaps_onlyRegs hu _ _ _ _ h0) _ _ _ _ h1) _ _ _ _ h2
  have hexec : exec (.adaptationUpdate p k signs) s = done (((b.adaptTaps .LANE_DFE0 p.val k.val (signs.drop 2)).adaptTaps
      .LANE_DFE1 p.val k.val (signs.drop 6)).adaptTaps .LANE_DFE2 p.val k.val (signs.drop 10)) := by
    show execAdaptationUpdate p k signs s = _
    simp only [execAdaptationUpdate, State.adaptationUpdate, hl, hrate, hfreeze, beq_self_eq_true, decide_true, Bool.not_false, Bool.and_self,
      if_true, a, b]
  generalize ((b.adaptTaps .LANE_DFE0 p.val k.val (signs.drop 2)).adaptTaps .LANE_DFE1 p.val k.val (signs.drop 6)).adaptTaps
    .LANE_DFE2 p.val k.val (signs.drop 10) = t at htaps hexec
  have hb : OnlyRegs s b [⟨.LANE_RXEQ, p.val, k.val⟩, ⟨.LANE_DFE0, p.val, k.val⟩, ⟨.LANE_DFE1, p.val, k.val⟩, ⟨.LANE_DFE2, p.val, k.val⟩] :=
    ((OnlyRegs.refl s _).put F.LANE_RXEQ_CTLE _ _ _ (.head _)).put F.LANE_RXEQ_LF _ _ _ (.head _)
  have hall := htaps _ (by simp) (by simp) (by simp) s hb
  have hrxeq : ∀ f : Fld, f.reg = .LANE_RXEQ → t.get f p.val k.val = b.get f p.val k.val := fun f hf =>
    (htaps [⟨.LANE_DFE0, p.val, k.val⟩, ⟨.LANE_DFE1, p.val, k.val⟩, ⟨.LANE_DFE2, p.val, k.val⟩] (by simp) (by simp) (by simp) b
      (OnlyRegs.refl b _)).1.get (by simp [hf])
  refine Gives.of_done hexec (hall.todo.trans hq) ⟨?_, ?_, hall⟩
  · rw [hrxeq F.LANE_RXEQ_CTLE rfl, State.get_put_of_apart a (by decide)]
    exact State.get_put_stepCode _ _ _ _ _ _ _ (by decide) (by decide) (by decide)
  · rw [hrxeq F.LANE_RXEQ_LF rfl]
    exact State.get_put_stepCode _ _ _ _ _ _ _ (by decide) (by decide) (by decide)

/-! ## The statement -/

/-- Settles O2: each command's effect is written out by the lemma about its path, and the rest of the state is untouched. -/
theorem ratesAndEqualisation : Obligations.RatesAndEqualisation := by
  unfold Obligations.RatesAndEqualisation
  refine ⟨?failed, ?phaseFailed, ?phase, ?fallback, ?adaptation, ?retrain, ?save, ?bond⟩
  case failed =>
    intro s p hq _ hchange hconfig hby hc hslow hviral hlatched ht
    have hl : s.linkState p.val ≠ lsL0 := by
      intro h
      simp [State.changingRate, h] at hchange
    have hexec : exec (.speedChangeTimeout p) s = done (s.rateFails p.val) := by
      show execSpeedChangeTimeout p s = _
      simp only [execSpeedChangeTimeout, hchange, if_true]
    exact gives_rateFailed hq hexec hl hby hc hslow hviral hlatched ht
  case phaseFailed =>
    intro s p hq _ hl hone hfour hby hc hslow hviral hlatched ht
    have hexec : exec (.eqPhaseTimeout p) s = done (s.rateFails p.val) := by
      show execEqPhaseTimeout p s = _
      simp [execEqPhaseTimeout, hl, hone, hfour]
    exact gives_rateFailed hq hexec (by rw [hl]; decide) hby hc hslow hviral hlatched ht
  case phase =>
    intro s p own partner hq _ hl hphase
    refine (gives_eqPhaseComplete s p own partner hq hl hphase).imp
      (fun t ⟨htx, hpartner, hrest⟩ => ⟨fun k => (htx k).trans ?_, fun k => (hpartner k).trans ?_, hrest⟩)
    · cases own[k.val]? <;> rfl
    · cases partner[k.val]? <;> rfl
  case fallback => exact fun s p r hq hf hused hl hc hidle hr => gives_eqBypassFallback s p r hq ⟨hf, hl, hc, hidle⟩ hused hr
  case adaptation => exact fun s p k signs hq _ hl hrate hfreeze => gives_adaptationUpdate s p k signs hq hl hrate hfreeze
  case retrain => exact fun s p r hq hf hl hc hidle hr => gives_retrain s p r hq ⟨hf, hl, hc, hidle⟩ hr
  case save =>
    intro s p hq _ hl
    have hexec : exec (.saveEq p) s = done (s.captureRecords p.val) := by
      show execSaveEq p s = _
      simp only [execSaveEq, State.saveEq, hl, beq_self_eq_true, if_true]
    obtain ⟨hkeeps, hframe⟩ := s.captureRecords_captured p.val
    have htodo : (s.captureRecords p.val).todo = s.todo := by have e := congrArg State.todo hframe; exact e
    exact Gives.of_done hexec (htodo.trans hq) ⟨fun k hk => s.captureRecords_reads p.val k hk, hkeeps, hframe⟩
  case bond =>
    intro s p b hq _ heven hl hl' hrole
    have hexec : exec (.bond p b) s = done ((s.putFlag F.BOND_CTRL_BOND b p.val).putFlag F.BOND_CTRL_BOND_ACTIVE b p.val) := by
      show execBond p b s = _
      have hroles : (!b || s.get F.PORT_CFG_ROLE p.val == s.get F.PORT_CFG_ROLE (p.val + 1)) = true := by
        cases b
        · rfl
        · simpa using hrole rfl
      simp only [execBond, State.bondWrite, heven, hl, hl', hroles, beq_self_eq_true, Bool.and_self, if_true]
    refine Gives.of_done hexec hq ⟨?_, State.flag_putFlag_self _ (by decide) (by decide) _ _ _, ?_⟩
    · rw [State.putFlag, State.flag_put_of_apart _ (by decide)]
      exact State.flag_putFlag_self _ (by decide) (by decide) _ _ _
    · exact ((OnlyRegs.refl s _).put _ _ _ _ (.head _)).put _ _ _ _ (.head _)

end Sys2Proof.Machine

/-!
PROOF. Loopbacks and patterns, margining, slip and lane retirement, and a link that leaves L0 (R78 to R86, R147).
-/
namespace Sys2Proof.Machine

/-! ## Tests (R79) -/

/-- A test of a port in Disabled begins: at MAX_RATE, with a register of the test written before. -/
theorem gives_startTest {c : Instr} {s a : State} {p : Port} {st : Nat} {r : Reg} (hq : Quiet s) (hexec : exec c s = done (a.startTest p.val st))
    (ha : OnlyRegs s a [⟨r, p.val, 0⟩]) (hr : r ∉ [Reg.PORT_CFG, .BOND_CTRL, .PHY_CTRL, .PARTNER_RATES, .PHY_STATUS])
    (hl : s.linkState p.val = lsDisabled) (hst : st ≠ lsL0) (hlt : st < 32) :
    Gives c s (fun t => t.linkState p.val = st ∧ t.get F.PHY_STATUS_CUR_RATE p.val = s.rateCap p.val % 8 ∧
      (∀ f : Fld, f.reg = r → t.get f p.val = a.get f p.val) ∧ KeepsRegs s t [⟨r, p.val, 0⟩, ⟨.PHY_STATUS, p.val, 0⟩] ∧
      { t with regs := s.regs, sessions := s.sessions } = s) := by
  simp only [List.mem_cons, List.not_mem_nil, or_false, not_or] at hr
  obtain ⟨hcfg, hbond, hctrl, hpartner, hphy⟩ := hr
  have hget : ∀ f : Fld, f.reg = .PHY_STATUS → a.get f p.val = s.get f p.val := fun f hf =>
    ha.1.get (by simpa [hf] using fun e => hphy e.symm)
  have hrates : SameRates s a p.val := SameRates.of_keeps ha.1 (by simp; tauto) (by rw [ha.lanes]) (hget rateMarks rfl)
  have hout : a.linkState p.val ≠ lsL0 := by
    rw [State.linkState, hget _ rfl]
    exact fun h => absurd (hl.symm.trans h) (by decide)
  obtain ⟨hkeeps, hframe⟩ := a.setLinkState_within_frame p.val st (iff_of_false hout hst)
  have hstate := (a.setLinkState_moves p.val st hlt (fun h => absurd h hout)).linkState
  have hstart : a.startTest p.val st = (a.setLinkState p.val st).put F.PHY_STATUS_CUR_RATE (s.rateCap p.val) p.val := by
    rw [State.startTest, hrates.rateCap]
  rw [hstart] at hexec
  generalize a.setLinkState p.val st = u at hkeeps hframe hstate hexec
  have hput : OnlyRegs u (u.put F.PHY_STATUS_CUR_RATE (s.rateCap p.val) p.val) [⟨.PHY_STATUS, p.val, 0⟩] :=
    (OnlyRegs.refl u _).put _ _ _ _ (.head _)
  have hframe' : ({ u with regs := s.regs, sessions := s.sessions } : State) = s :=
    (congrArg (fun x : State => { x with regs := s.regs, sessions := s.sessions }) hframe).trans
      (congrArg (fun x : State => { x with sessions := s.sessions }) ha.2)
  have htodo : u.todo = s.todo := by have e := congrArg State.todo hframe'; exact e
  refine Gives.of_done hexec ((hput.todo.trans htodo).trans hq) ⟨?_, ?_, fun f hf => ?_, ?_, ?_⟩
  · exact (State.get_put_of_apart _ (by decide) _ _ _ _ _).trans hstate
  · exact State.get_put_self _ _ _ _ _ (by decide)
  · exact (hput.1.get (by simpa [hf] using hphy)).trans (hkeeps.get (by simpa [hf] using hphy))
  · exact (ha.1.mono (by simp)).trans ((hkeeps.trans hput.1).mono (by simp))
  · exact (hput.unseen (fun x => { x with regs := s.regs, sessions := s.sessions }) (fun _ _ => rfl)).trans hframe'

/-- LOOPBACK_CTRL as a write `v` leaves it where its loopback starts. -/
def State.loopbackSet (s : State) (p v : Nat) : State :=
  ((if v / 2 ^ 31 % 2 == 1 then s.put F.LOOPBACK_CTRL_REFUSED 0 p else s).put F.LOOPBACK_CTRL_MODE (v % 4) p).put F.LOOPBACK_CTRL_FOLLOW_EN
    (v / 4 % 2) p

theorem State.clearRefused_onlyRegs (s : State) (p v : Nat) :
    OnlyRegs s (if v / 2 ^ 31 % 2 == 1 then s.put F.LOOPBACK_CTRL_REFUSED 0 p else s) [⟨.LOOPBACK_CTRL, p, 0⟩] := by
  split
  · exact (OnlyRegs.refl s _).put _ _ _ _ (.head _)
  · exact OnlyRegs.refl s _

theorem State.loopbackSet_onlyRegs (s : State) (p v : Nat) : OnlyRegs s (s.loopbackSet p v) [⟨.LOOPBACK_CTRL, p, 0⟩] :=
  ((s.clearRefused_onlyRegs p v).put _ _ _ _ (.head _)).put _ _ _ _ (.head _)

theorem State.loopbackSet_reads (s : State) (p v : Nat) :
    (s.loopbackSet p v).get F.LOOPBACK_CTRL_MODE p = v % 4 ∧ (s.loopbackSet p v).get F.LOOPBACK_CTRL_FOLLOW_EN p = v / 4 % 2 :=
  ⟨(State.get_put_of_apart _ (by decide) _ _ _ _ _).trans (State.get_put_lt _ _ _ _ (by decide) (Nat.mod_lt v (by decide))),
    State.get_put_lt _ _ _ _ (by decide) (Nat.mod_lt (v / 4) (by decide))⟩

/-- A loopback of a port in Disabled starts, where the write changes MODE (R79). -/
theorem State.loopbackCtrlWrite_starts (s : State) (p v : Nat) (hl : s.linkState p = lsDisabled) (htest : s.get F.PHY_CTRL_TEST_MODE p = 2)
    (hmode : v % 4 ≠ 0) (hchange : v % 4 ≠ s.get F.LOOPBACK_CTRL_MODE p) :
    s.loopbackCtrlWrite p v = (s.loopbackSet p v).startTest p lsLoopLead := by
  have hold : (if v / 2 ^ 31 % 2 == 1 then s.put F.LOOPBACK_CTRL_REFUSED 0 p else s).get F.LOOPBACK_CTRL_MODE p = s.get F.LOOPBACK_CTRL_MODE p := by
    split
    · exact State.get_put_of_apart _ (by decide) _ _ _ _ _
    · rfl
  have hclear := s.clearRefused_onlyRegs p v
  simp only [State.loopbackCtrlWrite, State.loopbackSet]
  generalize (if v / 2 ^ 31 % 2 == 1 then s.put F.LOOPBACK_CTRL_REFUSED 0 p else s) = a at hold hclear
  have hal : a.linkState p = lsDisabled := (hclear.1.linkState (by simp)).trans hl
  have hat : a.get F.PHY_CTRL_TEST_MODE p = 2 := (hclear.1.get (by simp [F.PHY_CTRL_TEST_MODE])).trans htest
  simp only [hold, hal, hat, beq_eq_false_iff_ne.mpr hmode, beq_eq_false_iff_ne.mpr hchange, Bool.and_false, Bool.false_and,
    Bool.false_eq_true, if_false, beq_self_eq_true, Bool.true_or, Bool.and_self, if_true]

/-- TEST_CTRL as a write of a pattern and the enables leaves it. -/
def State.testSet (s : State) (p v : Nat) : State :=
  ((s.put F.TEST_CTRL_PATTERN (v % 8) p).put F.TEST_CTRL_GEN_EN (v / 8 % 4 % 2) p).put F.TEST_CTRL_CHK_EN (v / 8 % 4 / 2) p

theorem State.testSet_onlyRegs (s : State) (p v : Nat) : OnlyRegs s (s.testSet p v) [⟨.TEST_CTRL, p, 0⟩] := by
  have hk : (⟨.TEST_CTRL, p, 0⟩ : Key) ∈ [(⟨.TEST_CTRL, p, 0⟩ : Key)] := .head _
  exact (((OnlyRegs.refl s _).put _ _ _ _ hk).put _ _ _ _ hk).put _ _ _ _ hk

theorem State.testSet_reads (s : State) (p v : Nat) :
    (s.testSet p v).get F.TEST_CTRL_PATTERN p = v % 8 ∧ (s.testSet p v).get F.TEST_CTRL_GEN_EN p = v / 8 % 2 ∧
      (s.testSet p v).get F.TEST_CTRL_CHK_EN p = v / 16 % 2 := by
  have hgen : v / 8 % 4 % 2 = v / 8 % 2 := by omega
  have hchk : v / 8 % 4 / 2 = v / 16 % 2 := by omega
  unfold State.testSet
  rw [hgen, hchk]
  refine ⟨?_, ?_, State.get_put_lt _ _ _ _ (by decide) (Nat.mod_lt _ (by decide))⟩ <;> simp (disch := decide) only [State.get_put_of_apart]
  · exact State.get_put_lt _ _ _ _ (by decide) (Nat.mod_lt _ (by decide))
  · exact State.get_put_lt _ _ _ _ (by decide) (Nat.mod_lt _ (by decide))

/-- A pattern of a port in Disabled starts, where its write enables the generator or the checker (R80). -/
theorem State.testCtrlWrite_starts (s : State) (p v : Nat) (hl : s.linkState p = lsDisabled) (htest : s.get F.PHY_CTRL_TEST_MODE p = 1)
    (hpattern : v % 8 ≤ 3) (henable : v / 8 % 4 ≠ 0) : s.testCtrlWrite p v = (s.testSet p v).startTest p lsPattern := by
  have hfive : decide (5 ≤ v % 8) = false := decide_eq_false (by omega)
  have hfour : (v % 8 == 4) = false := beq_eq_false_iff_ne.mpr (by omega)
  simp only [State.testCtrlWrite, State.testSet, hl, htest, hfive, hfour, beq_eq_false_iff_ne.mpr henable, beq_self_eq_true, Bool.true_or,
    Bool.and_self, if_true, Bool.false_and, Bool.or_self, Bool.false_eq_true, if_false]

/-- A partner that asks for loopback is followed (R78). -/
theorem gives_partnerLoopbackRequest (s : State) (p : Port) (hq : Quiet s) (hfollow : s.flag F.LOOPBACK_CTRL_FOLLOW_EN p.val = true)
    (hl : s.linkState p.val = lsConfig ∨ s.linkState p.val = lsPolling) (hc : s.isCascade p.val = false) :
    Gives (.partnerLoopbackRequest p) s (fun t => t.linkState p.val = lsLoopFollow ∧ t.get F.PHY_STATUS_CUR_RATE p.val = 0 ∧
      KeepsRegs s t (linkRegs p.val) ∧
      { t with regs := s.regs, lanes := s.lanes, sessions := s.sessions, msgs := s.msgs, spans := s.spans } = s) := by
  have hexec : exec (.partnerLoopbackRequest p) s = done (s.linkFalls p.val lsLoopFollow) := by
    show execPartnerLoopbackRequest p s = _
    rcases hl with hl | hl <;> simp [execPartnerLoopbackRequest, hfollow, hl]
  obtain ⟨hkeeps, hstate, hrate, -, hframe⟩ := s.linkFalls_within p.val lsLoopFollow (by rcases hl with hl | hl <;> rw [hl] <;> decide)
    (by decide) (by decide) hc
  have htodo : (s.linkFalls p.val lsLoopFollow).todo = s.todo := by have e := congrArg State.todo hframe; exact e
  exact Gives.of_done hexec (htodo.trans hq) ⟨hstate, hrate, hkeeps, hframe⟩

/-! ## Margining (R82, R83) -/

/-- The fields of a run. -/
def State.marginCtrl (s : State) (p lane axis dir limit steps : Nat) : State :=
  ((((s.put F.MARGIN_CTRL_LANE lane p).put F.MARGIN_CTRL_AXIS axis p).put F.MARGIN_CTRL_DIRECTION dir p).put
    F.MARGIN_CTRL_ERR_LIMIT limit p).put F.MARGIN_CTRL_STEPS steps p

/-- A start that uses every value writes every field. -/
theorem State.marginFields_used (s : State) (p lane dir limit steps : Nat) (axis : Bool) (hlimit : limit ≠ 0) (hsteps : steps ≠ 0)
    (haxis : axis = false → steps ≤ 32) :
    s.marginFields p lane axis.toNat dir limit steps = s.marginCtrl p lane axis.toNat dir limit steps := by
  have hused : (axis.toNat == 0 && decide (32 < steps)) = false := by
    cases axis
    · simpa using haxis rfl
    · rfl
  simp only [State.marginFields, beq_eq_false_iff_ne.mpr hlimit, beq_eq_false_iff_ne.mpr hsteps, hused, Bool.or_self, Bool.false_eq_true,
    if_false, State.marginCtrl]

theorem State.marginCtrl_onlyRegs (s : State) (p lane axis dir limit steps : Nat) :
    OnlyRegs s (s.marginCtrl p lane axis dir limit steps) [⟨.MARGIN_CTRL, p, 0⟩] := by
  have hk : (⟨.MARGIN_CTRL, p, 0⟩ : Key) ∈ [(⟨.MARGIN_CTRL, p, 0⟩ : Key)] := .head _
  exact (((((OnlyRegs.refl s _).put _ _ _ _ hk).put _ _ _ _ hk).put _ _ _ _ hk).put _ _ _ _ hk).put _ _ _ _ hk

theorem State.marginCtrl_reads (s : State) {p lane axis dir limit steps : Nat} (hlane : lane < 8) (haxis : axis < 2) (hdir : dir < 2)
    (hlimit : limit < 64) (hsteps : steps < 64) :
    (s.marginCtrl p lane axis dir limit steps).get F.MARGIN_CTRL_LANE p = lane ∧
      (s.marginCtrl p lane axis dir limit steps).get F.MARGIN_CTRL_AXIS p = axis ∧
      (s.marginCtrl p lane axis dir limit steps).get F.MARGIN_CTRL_DIRECTION p = dir ∧
      (s.marginCtrl p lane axis dir limit steps).get F.MARGIN_CTRL_ERR_LIMIT p = limit ∧
      (s.marginCtrl p lane axis dir limit steps).get F.MARGIN_CTRL_STEPS p = steps := by
  unfold State.marginCtrl
  refine ⟨?_, ?_, ?_, ?_, State.get_put_lt _ _ _ _ (by decide) hsteps⟩ <;> simp (disch := decide) only [State.get_put_of_apart]
  · exact State.get_put_lt _ _ _ _ (by decide) hlane
  · exact State.get_put_lt _ _ _ _ (by decide) haxis
  · exact State.get_put_lt _ _ _ _ (by decide) hdir
  · exact State.get_put_lt _ _ _ _ (by decide) hlimit

/-- A run that begins: no step taken, no error, not interrupted, and under way. -/
def State.marginBegins (s : State) (p : Nat) : State :=
  (((s.put F.MARGIN_STATUS_LAST_STEP 0 p).put F.MARGIN_STATUS_ERRORS 0 p).put F.MARGIN_STATUS_INTERRUPTED 0 p).put F.MARGIN_STATUS_BUSY 1 p

theorem State.marginBegins_onlyRegs (s : State) (p : Nat) : OnlyRegs s (s.marginBegins p) [⟨.MARGIN_STATUS, p, 0⟩] := by
  have hk : (⟨.MARGIN_STATUS, p, 0⟩ : Key) ∈ [(⟨.MARGIN_STATUS, p, 0⟩ : Key)] := .head _
  exact ((((OnlyRegs.refl s _).put _ _ _ _ hk).put _ _ _ _ hk).put _ _ _ _ hk).put _ _ _ _ hk

theorem State.marginBegins_reads (s : State) (p : Nat) :
    (s.marginBegins p).get F.MARGIN_STATUS_BUSY p = 1 ∧ (s.marginBegins p).get F.MARGIN_STATUS_LAST_STEP p = 0 ∧
      (s.marginBegins p).get F.MARGIN_STATUS_ERRORS p = 0 ∧ (s.marginBegins p).get F.MARGIN_STATUS_INTERRUPTED p = 0 := by
  refine ⟨?_, ?_, ?_, ?_⟩ <;> simp (disch := decide) only [State.marginBegins, State.get_put_of_apart, State.get_put_lt]

/-- The error limit and the steps of a run are kept as it begins (log entry 153). -/
def State.marginKept (s : State) (p : Nat) (run : Nat × Nat) : State :=
  { s with lanes := { s.lanes with margin := numPut (0, 0) p run s.lanes.margin } }

@[simp] theorem State.get_marginKept (s : State) (p : Nat) (run : Nat × Nat) (f : Fld) (i j : Nat) :
    (s.marginKept p run).get f i j = s.get f i j := rfl

theorem State.flag_marginKept (s : State) (p : Nat) (run : Nat × Nat) (f : Fld) (i j : Nat) :
    (s.marginKept p run).flag f i j = s.flag f i j := rfl

theorem State.margin_marginKept (s : State) (p : Nat) (run : Nat × Nat) : numGet (0, 0) p (s.marginKept p run).lanes.margin = run :=
  numGet_put_self _ _ _ _

theorem State.todo_marginKept (s : State) (p : Nat) (run : Nat × Nat) : (s.marginKept p run).todo = s.todo := rfl

theorem KeepsRegs.marginKept {s b : State} {ks : List Key} (h : KeepsRegs s b ks) (p : Nat) (run : Nat × Nat) :
    KeepsRegs s (b.marginKept p run) ks := h.congr rfl rfl

theorem OnlyRegs.marginKept {s b : State} {ks : List Key} (h : OnlyRegs s b ks) (p : Nat) (run : Nat × Nat) :
    ({ b.marginKept p run with regs := s.regs, lanes := s.lanes } : State) = s :=
  h.unseen (fun x => { x with regs := s.regs, lanes := s.lanes }) (fun _ _ => rfl)

theorem State.marginStart_idle (s : State) (p lane axis dir limit steps : Nat) (hidle : s.flag F.MARGIN_STATUS_BUSY p = false) :
    s.marginStart p lane axis dir limit steps =
      (let b := (s.marginFields p lane axis dir limit steps).marginBegins p
      let t := b.marginKept p (b.get F.MARGIN_CTRL_ERR_LIMIT p, b.marginLength p)
      if t.linkState p == lsL0 then t else t.marginInterrupt p) := by
  unfold State.marginStart
  rw [hidle]
  exact if_neg Bool.false_ne_true

theorem State.marginStart_L0 {s a b : State} {p lane axis dir limit steps : Nat} (hidle : s.flag F.MARGIN_STATUS_BUSY p = false)
    (ha : s.marginFields p lane axis dir limit steps = a) (hb : a.marginBegins p = b) {run : Nat × Nat}
    (hrun : (b.get F.MARGIN_CTRL_ERR_LIMIT p, b.marginLength p) = run) (hl : b.linkState p = lsL0) :
    s.marginStart p lane axis dir limit steps = b.marginKept p run := by
  have hkept : (b.marginKept p run).linkState p = lsL0 := (State.get_marginKept _ _ _ _ _ _).trans hl
  rw [s.marginStart_idle _ _ _ _ _ _ hidle, ha, hb]
  subst hrun
  exact if_pos (beq_iff_eq.mpr hkept)

/-- Margining of a port in L0 starts (R82). -/
theorem gives_marginStart (s : State) (p : Port) (k : Lane) (axis dir : Bool) (limit steps : Fin 64) (hq : Quiet s)
    (hidle : s.flag F.MARGIN_STATUS_BUSY p.val = false) (hl : s.linkState p.val = lsL0) (hlimit : limit.val ≠ 0) (hsteps : steps.val ≠ 0)
    (haxis : axis = false → steps.val ≤ 32) :
    Gives (.marginStart p k axis dir limit steps) s (fun t => t.get F.MARGIN_CTRL_LANE p.val = k.val ∧
      t.flag F.MARGIN_CTRL_AXIS p.val = axis ∧
      t.flag F.MARGIN_CTRL_DIRECTION p.val = dir ∧
      t.get F.MARGIN_CTRL_ERR_LIMIT p.val = limit.val ∧
      t.get F.MARGIN_CTRL_STEPS p.val = steps.val ∧
      t.get F.MARGIN_STATUS_BUSY p.val = 1 ∧
      t.get F.MARGIN_STATUS_LAST_STEP p.val = 0 ∧
      t.get F.MARGIN_STATUS_ERRORS p.val = 0 ∧
      t.get F.MARGIN_STATUS_INTERRUPTED p.val = 0 ∧
      numGet (0, 0) p.val t.lanes.margin = (limit.val, steps.val) ∧
      KeepsRegs s t [⟨.MARGIN_CTRL, p.val, 0⟩, ⟨.MARGIN_STATUS, p.val, 0⟩] ∧
      { t with regs := s.regs, lanes := s.lanes } = s) := by
  have hctrl := s.marginCtrl_onlyRegs p.val k.val axis.toNat dir.toNat limit.val steps.val
  obtain ⟨hlane, hax, hdir, hlim, hstep⟩ := s.marginCtrl_reads (p := p.val) (limit := limit.val) (steps := steps.val) k.isLt axis.toNat_lt
    dir.toNat_lt limit.isLt steps.isLt
  have hfields := s.marginFields_used p.val k.val dir.toNat limit.val steps.val axis hlimit hsteps haxis
  generalize s.marginCtrl p.val k.val axis.toNat dir.toNat limit.val steps.val = a at hctrl hlane hax hdir hlim hstep hfields
  have hbegin := a.marginBegins_onlyRegs p.val
  obtain ⟨hbusy, hlast, herrors, hinterrupted⟩ := a.marginBegins_reads p.val
  generalize hbe : a.marginBegins p.val = b at hbegin hbusy hlast herrors hinterrupted
  have hb : ∀ f : Fld, f.reg = .MARGIN_CTRL → b.get f p.val = a.get f p.val := fun f hf => hbegin.1.get (by simp [hf])
  have hflag : ∀ (f : Fld) (x : Bool), f.reg = .MARGIN_CTRL → a.get f p.val = x.toNat → b.flag f p.val = x := fun f x hf hx => by
    rw [State.flag, hb f hf, hx]
    cases x <;> rfl
  have hall : OnlyRegs s b [⟨.MARGIN_CTRL, p.val, 0⟩, ⟨.MARGIN_STATUS, p.val, 0⟩] := (hctrl.mono (by simp)).trans (hbegin.mono (by simp))
  have hlength : b.marginLength p.val = steps.val := by
    rw [State.marginLength, hb F.MARGIN_CTRL_AXIS rfl, hb F.MARGIN_CTRL_STEPS rfl, hax, hstep]
    cases axis
    · exact min_eq_right (haxis rfl)
    · rfl
  obtain ⟨run, hrun⟩ : ∃ run, run = (limit.val, steps.val) := ⟨_, rfl⟩
  have hexec : exec (.marginStart p k axis dir limit steps) s = done (b.marginKept p.val run) :=
    congrArg done (State.marginStart_L0 hidle hfields hbe (by rw [hb F.MARGIN_CTRL_ERR_LIMIT rfl, hlim, hlength, hrun])
      ((hall.1.linkState (by simp)).trans hl))
  have hget : ∀ (f : Fld) (x : Nat), b.get f p.val = x → (b.marginKept p.val run).get f p.val = x := fun f x hx =>
    (b.get_marginKept p.val run f p.val 0).trans hx
  refine Gives.of_done hexec ((b.todo_marginKept p.val run).trans (hall.todo.trans hq)) ⟨hget _ _ ((hb _ rfl).trans hlane),
    (b.flag_marginKept p.val run _ _ _).trans (hflag _ _ rfl hax), (b.flag_marginKept p.val run _ _ _).trans (hflag _ _ rfl hdir),
    hget _ _ ((hb _ rfl).trans hlim), hget _ _ ((hb _ rfl).trans hstep), hget _ _ hbusy, hget _ _ hlast, hget _ _ herrors,
    hget _ _ hinterrupted, (b.margin_marginKept p.val run).trans hrun, hall.1.marginKept p.val run, hall.marginKept p.val run⟩

/-- A step that is not the last of its run is recorded, its errors at most the limit of the run (R82). -/
theorem gives_marginStepEnd (s : State) (p : Port) (e n m : Nat) (hq : Quiet s) (hbusy : s.flag F.MARGIN_STATUS_BUSY p.val = true)
    (hrun : numGet (0, 0) p.val s.lanes.margin = (n, m)) (hn : n < 64) (hstep : s.get F.MARGIN_STATUS_LAST_STEP p.val + 1 < 64)
    (hm : s.get F.MARGIN_STATUS_LAST_STEP p.val + 1 < m) :
    Gives (.marginStepEnd p e) s (fun t => t.get F.MARGIN_STATUS_LAST_STEP p.val = s.get F.MARGIN_STATUS_LAST_STEP p.val + 1 ∧
      t.get F.MARGIN_STATUS_ERRORS p.val = min e n ∧ t.flag F.MARGIN_STATUS_BUSY p.val = true ∧
      OnlyRegs s t [⟨.MARGIN_STATUS, p.val, 0⟩]) := by
  have hexec : exec (.marginStepEnd p e) s = done ((s.put F.MARGIN_STATUS_LAST_STEP (s.get F.MARGIN_STATUS_LAST_STEP p.val + 1) p.val).put
      F.MARGIN_STATUS_ERRORS (min e n) p.val) := by
    show execMarginStepEnd p e s = _
    simp only [execMarginStepEnd, State.marginStepEnd, hbusy, hrun, if_true, if_neg (not_le.mpr hm)]
  have hregs : OnlyRegs s ((s.put F.MARGIN_STATUS_LAST_STEP (s.get F.MARGIN_STATUS_LAST_STEP p.val + 1) p.val).put F.MARGIN_STATUS_ERRORS
      (min e n) p.val) [⟨.MARGIN_STATUS, p.val, 0⟩] := ((OnlyRegs.refl s _).put _ _ _ _ (.head _)).put _ _ _ _ (.head _)
  refine Gives.of_done hexec (hregs.todo.trans hq) ⟨?_, ?_, ?_, hregs⟩
  · exact (State.get_put_of_apart _ (by decide) _ _ _ _ _).trans (State.get_put_lt _ _ _ _ (by decide) hstep)
  · exact State.get_put_lt _ _ _ _ (by decide) (lt_of_le_of_lt (min_le_right e n) hn)
  · exact (State.flag_put_of_apart _ (by decide) _ _ _ _ _).trans ((State.flag_put_of_apart _ (by decide) _ _ _ _ _).trans hbusy)

/-! ## Lane retirement (R84 to R86) -/

theorem State.testBit_retired (s : State) (p n : Nat) :
    (s.get F.LANE_RETIRE_RETIRED p).testBit n = (decide (n < 8) && (s.rd .LANE_RETIRE p).toNat.testBit n) := by
  rw [State.get, Word.testBit_bits]
  rfl

/-- Outside L0 and Cascade a retired lane is marked, and nothing else happens. -/
theorem State.retireLane_disabled (s : State) (p k : Nat) (hk : k < 64) (hc : s.isCascade (s.linkPort p) = false)
    (hl : s.linkState (s.linkPort p) = lsDisabled) :
    OnlyRegs s (s.retireLane p k) [⟨.LANE_RETIRE, p, 0⟩] ∧
      ∀ n, ((s.retireLane p k).rd .LANE_RETIRE p).toNat.testBit n = (decide (n = k) || (s.rd .LANE_RETIRE p).toNat.testBit n) := by
  have hw : OnlyRegs s (s.wr .LANE_RETIRE (Word.setBits (s.rd .LANE_RETIRE p) k 1 1) p) [⟨.LANE_RETIRE, p, 0⟩] :=
    (OnlyRegs.refl s _).wr _ _ _ _ (.head _)
  have hread : (s.wr .LANE_RETIRE (Word.setBits (s.rd .LANE_RETIRE p) k 1 1) p).rd .LANE_RETIRE p = Word.setBits (s.rd .LANE_RETIRE p) k 1 1 :=
    s.rd_wr_self _ _ _ _
  have hwc := (State.isCascade_of_role (hw.1.role (by simp) (s.linkPort p))).trans hc
  have hwl : (s.wr .LANE_RETIRE (Word.setBits (s.rd .LANE_RETIRE p) k 1 1) p).linkState (s.linkPort p) = lsDisabled :=
    (hw.1.linkState (by simp)).trans hl
  simp only [State.retireLane, hc, Bool.false_and, Bool.false_eq_true, if_false, beq_iff_eq]
  generalize s.wr .LANE_RETIRE (Word.setBits (s.rd .LANE_RETIRE p) k 1 1) p = a at hw hread hwc hwl
  have hne : ¬ lsDisabled = lsL0 := by decide
  simp only [hwc, hwl, hne, Bool.false_eq_true, if_false]
  split
  · next h =>
    have hbit : (s.rd .LANE_RETIRE p).toNat.testBit k = true := by
      rw [Nat.testBit_eq_decide_div_mod_eq, decide_eq_true_eq]
      exact h
    refine ⟨OnlyRegs.refl s _, fun n => ?_⟩
    by_cases hn : n = k
    · simp [hn, hbit]
    · simp [hn]
  · refine ⟨hw, fun n => ?_⟩
    rw [hread, Word.testBit_setBits _ _ _ _ _ (by omega)]
    by_cases hn : n = k
    · simp [hn]
    · rw [if_neg (by omega)]
      simp [hn]

theorem linkPort_of_keeps {s t : State} {ks : List Key} (h : KeepsRegs s t ks) (hk : ∀ k ∈ ks, k.reg ≠ .BOND_CTRL) (p : Nat) :
    t.linkPort p = s.linkPort p := by
  have hbond : t.bondedInto p = s.bondedInto p := by
    rw [State.bondedInto, State.flag, h.get (fun hm => hk _ hm rfl)]
    rfl
  rw [State.linkPort, hbond, State.linkPort]

/-- Several lanes of a Disabled port are marked. -/
theorem State.retireLanes_disabled (l : List Nat) (s : State) (p : Nat) (hk : ∀ k ∈ l, k < 64) (hc : s.isCascade (s.linkPort p) = false)
    (hl : s.linkState (s.linkPort p) = lsDisabled) :
    OnlyRegs s (l.foldl (fun s k => s.retireLane p k) s) [⟨.LANE_RETIRE, p, 0⟩] ∧
      ∀ n, ((l.foldl (fun s k => s.retireLane p k) s).rd .LANE_RETIRE p).toNat.testBit n =
        (decide (n ∈ l) || (s.rd .LANE_RETIRE p).toNat.testBit n) := by
  induction l generalizing s with
  | nil => exact ⟨OnlyRegs.refl s _, fun n => by simp⟩
  | cons k l ih =>
    obtain ⟨honly, hbits⟩ := s.retireLane_disabled p k (hk k List.mem_cons_self) hc hl
    rw [List.foldl_cons]
    generalize s.retireLane p k = a at honly hbits
    have hport : a.linkPort p = s.linkPort p := linkPort_of_keeps honly.1 (by simp) p
    obtain ⟨honly', hbits'⟩ := ih a (fun n hn => hk n (List.mem_cons_of_mem _ hn))
      (by rw [hport]; exact (State.isCascade_of_role (honly.1.role (by simp) _)).trans hc)
      (by rw [hport]; exact (honly.1.linkState (by simp)).trans hl)
    refine ⟨honly.trans honly', fun n => ?_⟩
    rw [hbits', hbits]
    simp [List.mem_cons, ← Bool.or_assoc, Bool.or_comm]

/-- A write of LANE_RETIRE while the port is Disabled leaves retired what its mask says (R84, R86). -/
theorem gives_laneRetire (s : State) (p : Port) (mask : BitVec 8) (hq : Quiet s) (hc : s.isCascade (s.linkPort p.val) = false)
    (hl : s.linkState (s.linkPort p.val) = lsDisabled) :
    Gives (.laneRetire p mask) s (fun t => t.get F.LANE_RETIRE_RETIRED p.val = mask.toNat ∧ OnlyRegs s t [⟨.LANE_RETIRE, p.val, 0⟩]) := by
  have hput : OnlyRegs s (s.put F.LANE_RETIRE_RETIRED (Nat.land (s.get F.LANE_RETIRE_RETIRED p.val) mask.toNat) p.val)
      [⟨.LANE_RETIRE, p.val, 0⟩] := (OnlyRegs.refl s _).put _ _ _ _ (.head _)
  have hkept := s.get_put_self F.LANE_RETIRE_RETIRED (Nat.land (s.get F.LANE_RETIRE_RETIRED p.val) mask.toNat) p.val 0 (by decide)
  have hport : (s.put F.LANE_RETIRE_RETIRED (Nat.land (s.get F.LANE_RETIRE_RETIRED p.val) mask.toNat) p.val).linkPort p.val = s.linkPort p.val :=
    linkPort_of_keeps hput.1 (by simp) p.val
  have hexec : exec (.laneRetire p mask) s = done ((laneList.filter (fun k => mask.toNat / 2 ^ k % 2 == 1)).foldl
      (fun s k => s.retireLane p.val k) (s.put F.LANE_RETIRE_RETIRED (Nat.land (s.get F.LANE_RETIRE_RETIRED p.val) mask.toNat) p.val)) := by
    show execLaneRetire p mask s = _
    simp only [execLaneRetire, State.laneRetireWrite, hc, hl, Bool.false_and, Bool.false_eq_true, if_false, beq_self_eq_true, if_true]
  generalize s.put F.LANE_RETIRE_RETIRED (Nat.land (s.get F.LANE_RETIRE_RETIRED p.val) mask.toNat) p.val = a at hput hkept hport hexec
  obtain ⟨honly, hbits⟩ := State.retireLanes_disabled (laneList.filter (fun k => mask.toNat / 2 ^ k % 2 == 1)) a p.val
    (fun k hk => by have := List.mem_range.mp (List.mem_filter.mp hk).1; omega)
    (by rw [hport]; exact (State.isCascade_of_role (hput.1.role (by simp) _)).trans hc)
    (by rw [hport]; exact (hput.1.linkState (by simp)).trans hl)
  have hall := hput.trans honly
  refine Gives.of_done hexec (hall.todo.trans hq) ⟨Nat.eq_of_testBit_eq (fun n => ?_), hall⟩
  have hmem : decide (n ∈ laneList.filter (fun k => mask.toNat / 2 ^ k % 2 == 1)) = (decide (n < 8) && mask.toNat.testBit n) := by
    simp [laneList, Nat.testBit_eq_decide_div_mod_eq]
  have hold : (a.get F.LANE_RETIRE_RETIRED p.val).testBit n =
      (decide (n < 8) && ((s.get F.LANE_RETIRE_RETIRED p.val).testBit n && mask.toNat.testBit n)) := by
    rw [hkept, Nat.testBit_mod_two_pow]
    exact congrArg _ (Nat.testBit_land _ _ _)
  rw [State.testBit_retired] at hold
  rw [State.testBit_retired, hbits, hmem]
  by_cases hn : n < 8
  · simp only [hn, decide_true, Bool.true_and] at hold ⊢
    rw [hold]
    cases mask.toNat.testBit n <;> simp
  · simp [hn, Nat.testBit_lt_two_pow (lt_of_lt_of_le mask.isLt (Nat.pow_le_pow_right (by decide) (not_lt.mp hn)))]

/-! ## A link leaves L0 (R147) -/

theorem State.restState_cases (s : State) (p : Nat) :
    s.restState p = lsScan ∨ s.restState p = lsDisabled ∨ s.restState p = lsDetect := by
  unfold State.restState
  split
  · exact .inl rfl
  · split
    · exact .inr (.inl rfl)
    · exact .inr (.inr rfl)

theorem gives_portLeavesL0 (s : State) (p : Port) (k : LeaveKind) (hq : Quiet s) (hs : MayRecover s p.val) :
    Gives (.portLeavesL0 p k) s (fun t =>
      (t.linkState p.val = (match k with | .recovery => lsRecovery | .hotReset => lsHotReset | .detect => s.restState p.val)) ∧
      t.irqPending (96 + p.val) = true ∧ t.mem = s.mem ∧
      (t.msgs = (match k with | .recovery => s.msgs | _ => (s.cellsLost p.val).msgs)) ∧ t.out = s.out) := by
  have hnc : ∀ v, v < 32 → (s.setLinkState p.val v).isCascade p.val = false := fun v hv =>
    (State.isCascade_of_role ((s.setLinkState_moves p.val v hv (fun _ => hs.idle)).keeps.role (by simp) p.val)).trans hs.uncascaded
  have hfall : ∀ v, v < 32 → v ≠ lsL0 → exec (.portLeavesL0 p k) s = done (s.linkFalls p.val v) →
      Gives (.portLeavesL0 p k) s (fun t => t.linkState p.val = v ∧ t.irqPending (96 + p.val) = true ∧ t.mem = s.mem ∧
        t.msgs = (s.cellsLost p.val).msgs ∧ t.out = s.out) := by
    intro v hv hne hexec
    have hmove := s.setLinkState_moves p.val v hv (fun _ => hs.idle)
    obtain ⟨honly, hstate, -⟩ := s.linkFalls_uncascaded p.val v (hnc v hv)
    generalize s.setLinkState p.val v = u at hmove honly hstate
    obtain ⟨hmem, hmsgs, hout, htodo⟩ := hmove.frame.rest
    generalize s.linkFalls p.val v = t at honly hstate hexec
    have hpending : t.latchedBit (96 + p.val) = u.latchedBit (96 + p.val) :=
      State.latchedBit_congr (honly.1.rd (fun hm => by have hreg := linkRegs_reg hm; simp at hreg))
    refine Gives.of_done hexec ((honly.todo.trans htodo).trans hq) ⟨hstate.trans hmove.linkState, ?_, ?_, ?_, ?_⟩
    · rw [State.irqPending_port, hpending]
      exact hmove.pending (.inr (by simp [hs.linkState, hne]))
    · exact (honly.unseen State.mem (fun _ _ => rfl)).trans hmem
    · have hcells : (u.cellsLost p.val).msgs = (s.cellsLost p.val).msgs := by simp only [State.cellsLost, hmsgs]
      exact (honly.unseen State.msgs (fun _ _ => rfl)).trans hcells
    · exact (honly.unseen State.out (fun _ _ => rfl)).trans hout
  cases k with
  | recovery =>
    obtain ⟨u, hu, hpending, hrec⟩ := s.toRecovery_uncascaded p.val hs.frozen hs.linkState hs.uncascaded hs.idle
    have hexec : exec (.portLeavesL0 p .recovery) s = done (u.aimRate p.val (s.get F.PHY_STATUS_CUR_RATE p.val)) := by
      show execPortLeavesL0 p .recovery s = _
      simp only [execPortLeavesL0, State.portLeavesL0, hs.linkState, beq_self_eq_true, Bool.true_or, if_true, hrec]
    obtain ⟨hmem, hmsgs, hout, htodo⟩ := hu.frame.rest
    exact Gives.of_done hexec (htodo.trans hq) ⟨hu.linkState, (State.irqPending_port _ p).trans hpending, hmem, hmsgs, hout⟩
  | hotReset =>
    refine hfall lsHotReset (by decide) (by decide) ?_
    show execPortLeavesL0 p .hotReset s = _
    simp only [execPortLeavesL0, State.portLeavesL0, hs.linkState, beq_self_eq_true, Bool.true_or, if_true]
  | detect =>
    refine hfall (s.restState p.val) ?_ ?_ ?_
    · rcases s.restState_cases p.val with h | h | h <;> rw [h] <;> decide
    · rcases s.restState_cases p.val with h | h | h <;> rw [h] <;> decide
    · show execPortLeavesL0 p .detect s = _
      simp only [execPortLeavesL0, State.portLeavesL0, hs.linkState, beq_self_eq_true, Bool.true_or, if_true]

/-! ## The statement -/

/-- Settles O3: a test starts with its register written, the other commands write the registers of their own unit, and a link leaves L0
by the lemma about its path. -/
theorem testsMarginingAndLanes : Obligations.TestsMarginingAndLanes := by
  unfold Obligations.TestsMarginingAndLanes
  refine ⟨?loopback, ?pattern, ?follow, ?slip, ?margin, ?step, ?partner, ?retire, ?leave⟩
  case loopback =>
    intro s p v hq _ hl htest hmode hchange
    have hexec : exec (.loopbackCtrlWrite p v) s = done ((s.loopbackSet p.val v.toNat).startTest p.val lsLoopLead) :=
      congrArg done (s.loopbackCtrlWrite_starts p.val v.toNat hl htest hmode hchange)
    obtain ⟨hread, hfollow⟩ := s.loopbackSet_reads p.val v.toNat
    refine (gives_startTest hq hexec (s.loopbackSet_onlyRegs p.val v.toNat) (by decide) hl (by decide) (by decide)).imp ?_
    exact fun t ⟨hstate, hrate, hget, hrest⟩ => ⟨(hget _ rfl).trans hread, (hget _ rfl).trans hfollow, hstate, hrate, hrest⟩
  case pattern =>
    intro s p v hq _ hl htest hpattern henable
    have hexec : exec (.testCtrlWrite p v) s = done ((s.testSet p.val v.toNat).startTest p.val lsPattern) :=
      congrArg done (s.testCtrlWrite_starts p.val v.toNat hl htest hpattern henable)
    obtain ⟨hread, hgen, hchk⟩ := s.testSet_reads p.val v.toNat
    refine (gives_startTest hq hexec (s.testSet_onlyRegs p.val v.toNat) (by decide) hl (by decide) (by decide)).imp ?_
    exact fun t ⟨hstate, hrate, hget, hrest⟩ =>
      ⟨(hget _ rfl).trans hread, (hget _ rfl).trans hgen, (hget _ rfl).trans hchk, hstate, hrate, hrest⟩
  case follow => exact fun s p hq _ hfollow hl hc => gives_partnerLoopbackRequest s p hq hfollow hl hc
  case slip =>
    intro s p k pos hq _ hmode hpam
    have hin : (s.pam4 (s.linkPort p.val) && decide (63 < pos.val)) = false := by
      cases h : s.pam4 (s.linkPort p.val)
      · rfl
      · simpa using hpam h
    have hexec : exec (.laneSlipWrite p k pos) s = done (s.put F.LANE_SLIP_SLIP_POS pos.val p.val k.val) := by
      show execLaneSlipWrite p k pos s = _
      rcases hmode with h | h <;> simp [execLaneSlipWrite, State.slipWrite, h, hin]
    have hput : OnlyRegs s (s.put F.LANE_SLIP_SLIP_POS pos.val p.val k.val) [⟨.LANE_SLIP, p.val, k.val⟩] :=
      (OnlyRegs.refl s _).put _ _ _ _ (.head _)
    exact Gives.of_done hexec (hput.todo.trans hq) ⟨State.get_put_lt _ _ _ _ (by decide) pos.isLt, hput⟩
  case margin => exact fun s p k axis dir limit steps hq _ hidle hl => gives_marginStart s p k axis dir limit steps hq hidle hl
  case step => exact fun s p e n m hq _ => gives_marginStepEnd s p e n m hq
  case partner =>
    intro s p k v step e hq _ hl hrange
    have hin : (v || decide (step.val ≤ 32)) = true := by
      cases v
      · simpa using hrange rfl
      · rfl
    have hexec : exec (.partnerMarginRequest p k ⟨v, step⟩ e) s = done (s.emit (.marginReply p.val k.val step.val e.val)) := by
      show execPartnerMarginRequest p k ⟨v, step⟩ e s = _
      simp only [execPartnerMarginRequest, State.partnerMargin, hl, hin, beq_self_eq_true, Bool.and_self, if_true]
    exact Gives.of_done hexec hq ⟨rfl, rfl⟩
  case retire => exact fun s p mask hq _ hc hl => gives_laneRetire s p mask hq hc hl
  case leave => exact fun s p k hq hf hl hc hidle => gives_portLeavesL0 s p k hq ⟨hf, hl, hc, hidle⟩

end Sys2Proof.Machine

/-!
PROOF. Reference clocks and skip ordered sets (R56, R58, R59).
-/
namespace Sys2Proof.Machine

/-! ## A group PLL loses its lock and finds it again (R56) -/

/-- The registers that a port's part of a lock loss writes, where its source is latched. -/
def lossRegs (p : Nat) : List Key := [⟨.PHY_STATUS, p, 0⟩, ⟨.FC_SRC, 8 * p, 0⟩]

/-- What a lock loss reports to hosts. -/
def State.lossReport (s : State) (p : Nat) : List Out := if s.isHostPort p && !s.hearthDown then [.linkError p] else []

/-- Ports that rest in Detect, each with its source latched, lose their clock. -/
structure PortsLose (s t : State) (l : List Nat) : Prop where
  lost : ∀ p ∈ l, t.get F.PHY_STATUS_REFCLK_LOST p = 1
  counted : ∀ p ∈ l, t.get F.FC_SRC_COUNT (8 * p) = saturated 8 (s.get F.FC_SRC_COUNT (8 * p)) 1
  out : t.out = s.out ++ l.flatMap s.lossReport
  keeps : KeepsRegs s t (l.flatMap lossRegs)
  frame : { t with regs := s.regs, out := s.out, vports := s.vports } = s

theorem State.portLockLoss_detect (s : State) (p : Nat) (hl : s.linkState p = lsDetect) (h : s.flag F.FC_SRC_LATCHED (8 * p) = true) :
    ∃ vs, s.portLockLoss p = ((s.put F.PHY_STATUS_REFCLK_LOST 1 p).put F.FC_SRC_COUNT (saturated 8 (s.get F.FC_SRC_COUNT (8 * p)) 1)
      (8 * p)).withReport (s.lossReport p) vs := by
  have hput : OnlyRegs s (s.put F.PHY_STATUS_REFCLK_LOST 1 p) [⟨.PHY_STATUS, p, 0⟩] := (OnlyRegs.refl s _).put _ _ _ _ (.head _)
  have hget : ∀ f : Fld, F.PHY_STATUS_REFCLK_LOST.apart f = true → ∀ i,
      (s.put F.PHY_STATUS_REFCLK_LOST 1 p).get f i = s.get f i := fun f hf i => State.get_put_of_apart _ hf _ _ _ _ _
  rw [State.portLockLoss]
  generalize s.put F.PHY_STATUS_REFCLK_LOST 1 p = a at hput hget
  have hlink : a.hasLink p = false := by
    have hl' : a.linkState p = lsDetect := (hget _ (by decide) _).trans hl
    simp [State.hasLink, hl']
  have hhost : a.isHostPort p = s.isHostPort p := State.isHostPort_of_role (hput.1.role (by simp) p)
  have hdown : a.hearthDown = s.hearthDown := hput.unseen State.hearthDown (fun _ _ => rfl)
  have hlatched : a.flag F.FC_SRC_LATCHED (8 * p) = true := by
    rw [State.flag, hget _ (by decide)]
    exact h
  obtain ⟨vs, hraise⟩ := a.linkError_latched p hlatched
  rw [hget _ (by decide), hhost, hdown, ← State.lossReport] at hraise
  simp only [hlink, Bool.false_eq_true, if_false]
  exact ⟨vs, hraise⟩

theorem OnlyRegs.withReport {s t : State} {ks : List Key} (h : OnlyRegs s t ks) (os : List Out) (vs : List (Nat × List (Nat × Nat))) :
    KeepsRegs s (t.withReport os vs) ks ∧ (t.withReport os vs).out = s.out ++ os ∧
      { t.withReport os vs with regs := s.regs, out := s.out, vports := s.vports } = s :=
  ⟨h.1.regs rfl, congrArg (· ++ os) (h.unseen State.out (fun _ _ => rfl)),
    h.unseen (fun x => { x with regs := s.regs, out := s.out, vports := s.vports }) (fun _ _ => rfl)⟩

theorem State.portLockLoss_loses (s : State) (p : Nat) (hl : s.linkState p = lsDetect) (h : s.flag F.FC_SRC_LATCHED (8 * p) = true) :
    PortsLose s (s.portLockLoss p) [p] := by
  obtain ⟨vs, hloss⟩ := s.portLockLoss_detect p hl h
  have honly : OnlyRegs s ((s.put F.PHY_STATUS_REFCLK_LOST 1 p).put F.FC_SRC_COUNT (saturated 8 (s.get F.FC_SRC_COUNT (8 * p)) 1) (8 * p))
      (lossRegs p) := ((OnlyRegs.refl s _).put _ _ _ _ (.head _)).put _ _ _ _ (.tail _ (.head _))
  have hlost : ((s.put F.PHY_STATUS_REFCLK_LOST 1 p).put F.FC_SRC_COUNT (saturated 8 (s.get F.FC_SRC_COUNT (8 * p)) 1) (8 * p)).get
      F.PHY_STATUS_REFCLK_LOST p = 1 :=
    (State.get_put_of_apart _ (by decide) _ _ _ _ _).trans (State.get_put_lt _ _ _ _ (by decide) (by decide))
  have hcount := State.get_put_lt (s.put F.PHY_STATUS_REFCLK_LOST 1 p) F.FC_SRC_COUNT (8 * p) 0 (by decide)
    (saturated_lt 8 (s.get F.FC_SRC_COUNT (8 * p)) 1)
  rw [hloss]
  generalize (s.put F.PHY_STATUS_REFCLK_LOST 1 p).put F.FC_SRC_COUNT (saturated 8 (s.get F.FC_SRC_COUNT (8 * p)) 1) (8 * p) = a
    at honly hlost hcount
  obtain ⟨hkeeps, hout, hframe⟩ := honly.withReport (s.lossReport p) vs
  have hget := fun f i => a.get_withReport (s.lossReport p) vs f i 0
  refine ⟨fun q hq => ?_, fun q hq => ?_, ?_, ?_, hframe⟩
  · rw [List.mem_singleton.mp hq]
    exact (hget _ _).trans hlost
  · rw [List.mem_singleton.mp hq]
    exact (hget _ _).trans hcount
  · rw [List.flatMap_singleton]
    exact hout
  · rw [List.flatMap_singleton]
    exact hkeeps

theorem mem_flatMap_lossRegs {l : List Nat} {p : Nat} (hp : p ∉ l) :
    (⟨.PHY_STATUS, p, 0⟩ : Key) ∉ l.flatMap lossRegs ∧ (⟨.FC_SRC, 8 * p, 0⟩ : Key) ∉ l.flatMap lossRegs := by
  simpa [lossRegs, List.mem_flatMap] using hp

/-- What a port's loss reads of another stands as it was. -/
theorem PortsLose.others {s t : State} {l : List Nat} (h : PortsLose s t l) {p : Nat} (hp : p ∉ l) :
    t.linkState p = s.linkState p ∧ t.get F.FC_SRC_COUNT (8 * p) = s.get F.FC_SRC_COUNT (8 * p) ∧
      t.flag F.FC_SRC_LATCHED (8 * p) = s.flag F.FC_SRC_LATCHED (8 * p) := by
  obtain ⟨hphy, hsrc⟩ := mem_flatMap_lossRegs hp
  exact ⟨h.keeps.linkState hphy, h.keeps.get hsrc, by rw [State.flag, h.keeps.get hsrc, State.flag]⟩

theorem PortsLose.lossReport {s t : State} {l : List Nat} (h : PortsLose s t l) (p : Nat) : t.lossReport p = s.lossReport p := by
  have hhost : t.isHostPort p = s.isHostPort p := State.isHostPort_of_role (h.keeps.role (fun k hk => by
    obtain ⟨q, -, hk⟩ := List.mem_flatMap.mp hk
    simp only [lossRegs, List.mem_cons, List.not_mem_nil, or_false] at hk
    rcases hk with rfl | rfl <;> simp) p)
  have hdown : t.hearthDown = s.hearthDown := by have e := congrArg State.hearthDown h.frame; exact e
  rw [State.lossReport, hhost, hdown, State.lossReport]

/-- A port more. -/
theorem PortsLose.cons {s t u : State} {p : Nat} {l : List Nat} (h : PortsLose s t [p]) (h' : PortsLose t u l) (hp : p ∉ l) :
    PortsLose s u (p :: l) := by
  obtain ⟨hphy, hsrc⟩ := mem_flatMap_lossRegs hp
  refine ⟨fun q hq => ?_, fun q hq => ?_, ?_, ?_, ?_⟩
  · rcases List.mem_cons.mp hq with rfl | hq
    · exact (h'.keeps.get hphy).trans (h.lost _ (.head _))
    · exact h'.lost q hq
  · rcases List.mem_cons.mp hq with rfl | hq
    · exact (h'.keeps.get hsrc).trans (h.counted _ (.head _))
    · obtain ⟨-, hcount, -⟩ := h.others (p := q) (fun e => hp (List.mem_singleton.mp e ▸ hq))
      rw [h'.counted q hq, hcount]
  · rw [h'.out, h.out, List.append_assoc, List.flatMap_congr (fun q _ => h.lossReport q), List.flatMap_singleton, List.flatMap_cons]
  · exact (h.keeps.mono (by simp)).trans (h'.keeps.mono (by simp))
  · have e : ({ u with regs := s.regs, out := s.out, vports := s.vports } : State)
        = { t with regs := s.regs, out := s.out, vports := s.vports } :=
      congrArg (fun x : State => { x with regs := s.regs, out := s.out, vports := s.vports }) h'.frame
    exact e.trans h.frame

theorem State.portLockLoss_list (l : List Nat) (s : State) (hnodup : l.Nodup)
    (h : ∀ p ∈ l, s.linkState p = lsDetect ∧ s.flag F.FC_SRC_LATCHED (8 * p) = true) : PortsLose s (l.foldl State.portLockLoss s) l := by
  induction l generalizing s with
  | nil => exact ⟨by simp, by simp, by simp, KeepsRegs.refl s _, rfl⟩
  | cons p l ih =>
    obtain ⟨hp, hl⟩ := List.nodup_cons.mp hnodup
    obtain ⟨hstate, hlatched⟩ := h p (.head _)
    have hhead := s.portLockLoss_loses p hstate hlatched
    refine hhead.cons (ih _ hl (fun q hq => ?_)) hp
    obtain ⟨hqstate, -, hqlatched⟩ := hhead.others (p := q) (fun e => hp (List.mem_singleton.mp e ▸ hq))
    rw [hqstate, hqlatched]
    exact h q (.tail _ hq)

/-- The ports of a group. -/
theorem State.eachGroupPort_eq (s : State) (g : Nat) (f : State → Nat → State) :
    s.eachGroupPort g f = ((List.range 4).map (fun k => 4 * g + k)).foldl f s := rfl

theorem mem_groupPorts {g p : Nat} (h : p ∈ (List.range 4).map (fun k => 4 * g + k)) : ∃ k : Fin 4, p = 4 * g + k.val := by
  obtain ⟨k, hk, rfl⟩ := List.mem_map.mp h
  exact ⟨⟨k, List.mem_range.mp hk⟩, rfl⟩

theorem groupPort_mem (g : Nat) (k : Fin 4) : 4 * g + k.val ∈ (List.range 4).map (fun k => 4 * g + k) :=
  List.mem_map.mpr ⟨k.val, List.mem_range.mpr k.isLt, rfl⟩

theorem State.flatMap_lossReport (s : State) (l : List Nat) :
    l.flatMap s.lossReport = (l.filter (fun p => s.isHostPort p && !s.hearthDown)).map .linkError := by
  induction l with
  | nil => rfl
  | cons p l ih =>
    rw [List.flatMap_cons, ih, List.filter_cons, State.lossReport]
    split <;> rfl

/-- The clock of a group is lost, and the loss counted. -/
def State.lockLost (s : State) (g : Nat) : State :=
  (s.wr .CLK_GROUP_LOCK (Word.setBits (s.rd .CLK_GROUP_LOCK) g 1 0)).put F.CLK_LOSS_GROUPS (saturated 8 (s.get F.CLK_LOSS_GROUPS) 1)

theorem State.lockLost_onlyRegs (s : State) (g : Nat) : OnlyRegs s (s.lockLost g) [⟨.CLK_GROUP_LOCK, 0, 0⟩, ⟨.CLK_LOSS, 0, 0⟩] :=
  ((OnlyRegs.refl s _).wr _ _ _ _ (.head _)).put _ _ _ _ (.tail _ (.head _))

theorem State.lockLost_reads (s : State) (g : Nat) (hg : g < 24) :
    Word.bits ((s.lockLost g).rd .CLK_GROUP_LOCK) g 1 = 0 ∧ (s.lockLost g).get F.CLK_LOSS_GROUPS = saturated 8 (s.get F.CLK_LOSS_GROUPS) 1 := by
  refine ⟨?_, State.get_put_lt _ _ _ _ (by decide) (saturated_lt 8 _ _)⟩
  rw [State.lockLost, State.rd_put_reg _ _ _ _ _ _ _ _ (by decide), State.rd_wr_self, Word.bits_setBits_self _ _ _ _ (by omega)]
  rfl

theorem State.pllLockLoss_frozen (s : State) (g : Nat) (hf : Frozen s) :
    s.pllLockLoss g = ((List.range 4).map (fun k => 4 * g + k)).foldl State.portLockLoss (s.lockLost g) := by
  have hread : (s.wr .CLK_GROUP_LOCK (Word.setBits (s.rd .CLK_GROUP_LOCK) g 1 0)).get F.CLK_LOSS_GROUPS = s.get F.CLK_LOSS_GROUPS :=
    s.get_wr_reg _ _ _ _ _ _ _ (by decide)
  have hbump : (s.wr .CLK_GROUP_LOCK (Word.setBits (s.rd .CLK_GROUP_LOCK) g 1 0)).bump F.CLK_LOSS_GROUPS 1 = s.lockLost g := by
    rw [State.bump_unwatched _ _ _ _ _ rfl, hread]
    rfl
  rw [State.pllLockLoss]
  simp only [hbump, State.count_frozen _ _ _ _ ((s.lockLost_onlyRegs g).1.frozen (by simp) hf), State.eachGroupPort_eq]

theorem groupLosses_clock {g : Nat} {k : Key} (hk : k ∈ ((List.range 4).map (fun k => 4 * g + k)).flatMap lossRegs) :
    k.reg = .PHY_STATUS ∨ k.reg = .FC_SRC := by
  obtain ⟨q, -, hm⟩ := List.mem_flatMap.mp hk
  simp only [lossRegs, List.mem_cons, List.not_mem_nil, or_false] at hm
  rcases hm with rfl | rfl <;> simp

/-- A group whose ports rest in Detect, each with its source latched, loses its clock (R56). -/
theorem gives_pllLockLoss (s : State) (g : Fin 24) (hq : Quiet s) (hf : Frozen s)
    (h : ∀ k : Fin 4, s.linkState (4 * g.val + k.val) = lsDetect ∧ s.flag F.FC_SRC_LATCHED (8 * (4 * g.val + k.val)) = true) :
    Gives (.pllLockLoss g) s (fun t => Word.bits (t.rd .CLK_GROUP_LOCK) g.val 1 = 0 ∧
      t.get F.CLK_LOSS_GROUPS = saturated 8 (s.get F.CLK_LOSS_GROUPS) 1 ∧
      (∀ k : Fin 4, t.get F.PHY_STATUS_REFCLK_LOST (4 * g.val + k.val) = 1 ∧
        t.get F.FC_SRC_COUNT (8 * (4 * g.val + k.val)) = saturated 8 (s.get F.FC_SRC_COUNT (8 * (4 * g.val + k.val))) 1) ∧
      (t.out = s.out ++ ((List.range 4).filter (fun k => s.isHostPort (4 * g.val + k) && !s.hearthDown)).map
        (fun k => .linkError (4 * g.val + k))) ∧
      KeepsRegs s t ([⟨.CLK_GROUP_LOCK, 0, 0⟩, ⟨.CLK_LOSS, 0, 0⟩] ++
        (List.range 4).flatMap (fun k => [⟨.PHY_STATUS, 4 * g.val + k, 0⟩, ⟨.FC_SRC, 8 * (4 * g.val + k), 0⟩])) ∧
      { t with regs := s.regs, out := s.out, vports := s.vports } = s) := by
  have hexec : exec (.pllLockLoss g) s = done (((List.range 4).map (fun k => 4 * g.val + k)).foldl State.portLockLoss (s.lockLost g.val)) :=
    congrArg done (s.pllLockLoss_frozen g.val hf)
  have hregs := s.lockLost_onlyRegs g.val
  obtain ⟨hlock, hloss⟩ := s.lockLost_reads g.val g.isLt
  generalize s.lockLost g.val = b at hexec hregs hlock hloss
  have hsrc : ∀ (f : Fld) p, f.reg = .FC_SRC → b.get f p = s.get f p := fun f p hr => hregs.1.get (by simp [hr])
  have hreport : ∀ p, b.lossReport p = s.lossReport p := fun p => by
    rw [State.lossReport, State.isHostPort_of_role (hregs.1.role (by simp) p), hregs.unseen State.hearthDown (fun _ _ => rfl), State.lossReport]
  have hports := State.portLockLoss_list ((List.range 4).map (fun k => 4 * g.val + k)) b (by simp [List.range_succ]) (fun p hp => by
    obtain ⟨k, rfl⟩ := mem_groupPorts hp
    rw [hregs.1.linkState (by simp), State.flag, hsrc F.FC_SRC_LATCHED _ rfl]
    exact h k)
  generalize ((List.range 4).map (fun k => 4 * g.val + k)).foldl State.portLockLoss b = t at hports hexec
  have htodo : t.todo = b.todo := by have e := congrArg State.todo hports.frame; exact e
  refine Gives.of_done hexec (htodo.trans (hregs.todo.trans hq)) ⟨?_, ?_, fun k => ⟨hports.lost _ (groupPort_mem g.val k), ?_⟩, ?_, ?_, ?_⟩
  · rw [hports.keeps.rd (fun hm => by simpa using groupLosses_clock hm)]
    exact hlock
  · exact (hports.keeps.get (fun hm => by simpa [F.CLK_LOSS_GROUPS] using groupLosses_clock hm)).trans hloss
  · rw [hports.counted _ (groupPort_mem g.val k), hsrc F.FC_SRC_COUNT _ rfl]
  · rw [hports.out, hregs.unseen State.out (fun _ _ => rfl), List.flatMap_congr (fun p _ => hreport p), s.flatMap_lossReport, List.filter_map,
      List.map_map]
    rfl
  · refine (hregs.1.mono (List.subset_append_left _ _)).trans (hports.keeps.mono ?_)
    rw [List.flatMap_map]
    exact List.subset_append_right _ _
  · have e : ({ t with regs := s.regs, out := s.out, vports := s.vports } : State)
        = { b with regs := s.regs, out := s.out, vports := s.vports } :=
      congrArg (fun x : State => { x with regs := s.regs, out := s.out, vports := s.vports }) hports.frame
    exact e.trans (hregs.unseen (fun x => { x with regs := s.regs, out := s.out, vports := s.vports }) (fun _ _ => rfl))

theorem State.portRelock_elsewhere (s : State) (p : Nat) (hl : s.linkState p ≠ lsDetect) :
    s.portRelock p = s.put F.PHY_STATUS_REFCLK_LOST 0 p := by
  have hl' : (s.put F.PHY_STATUS_REFCLK_LOST 0 p).linkState p = s.linkState p := State.get_put_of_apart _ (by decide) _ _ _ _ _
  rw [State.portRelock]
  exact if_neg (by simpa [hl'] using hl)

/-- Ports outside Detect have their clock again. -/
theorem State.portRelock_list (l : List Nat) (s : State) (h : ∀ p ∈ l, s.linkState p ≠ lsDetect) :
    OnlyRegs s (l.foldl State.portRelock s) (l.map (fun p => ⟨.PHY_STATUS, p, 0⟩)) ∧
      ∀ p, p ∈ l ∨ s.get F.PHY_STATUS_REFCLK_LOST p = 0 → (l.foldl State.portRelock s).get F.PHY_STATUS_REFCLK_LOST p = 0 := by
  induction l generalizing s with
  | nil => exact ⟨OnlyRegs.refl s _, fun p hp => by simpa using hp⟩
  | cons q l ih =>
    have hput : OnlyRegs s (s.put F.PHY_STATUS_REFCLK_LOST 0 q) ((q :: l).map (fun p => ⟨.PHY_STATUS, p, 0⟩)) :=
      (OnlyRegs.refl s _).put _ _ _ _ (.head _)
    obtain ⟨honly, hlost⟩ := ih (s.put F.PHY_STATUS_REFCLK_LOST 0 q) (fun p hp => by
      rw [State.linkState, State.get_put_of_apart _ (by decide)]
      exact h p (.tail _ hp))
    rw [List.foldl_cons, s.portRelock_elsewhere q (h q (.head _))]
    refine ⟨hput.trans (honly.mono (List.map_subset _ (List.subset_cons_self _ _))), fun p hp => hlost p ?_⟩
    by_cases hpq : p = q
    · rw [hpq]
      exact .inr (State.get_put_lt _ _ _ _ (by decide) (by decide))
    · refine hp.imp (fun hm => (List.mem_cons.mp hm).resolve_left hpq) (fun h0 => ?_)
      rw [State.get_put_index _ _ _ _ _ _ _ _ (.inl hpq)]
      exact h0

/-- A group whose ports are elsewhere than in Detect has its clock again (R56). -/
theorem gives_pllRelock (s : State) (g : Fin 24) (hq : Quiet s) (h : ∀ k : Fin 4, s.linkState (4 * g.val + k.val) ≠ lsDetect) :
    Gives (.pllRelock g) s (fun t => Word.bits (t.rd .CLK_GROUP_LOCK) g.val 1 = 1 ∧
      (∀ k : Fin 4, t.get F.PHY_STATUS_REFCLK_LOST (4 * g.val + k.val) = 0) ∧
      OnlyRegs s t ([⟨.CLK_GROUP_LOCK, 0, 0⟩] ++ (List.range 4).map (fun k => ⟨.PHY_STATUS, 4 * g.val + k, 0⟩))) := by
  have hexec : exec (.pllRelock g) s = done (((List.range 4).map (fun k => 4 * g.val + k)).foldl State.portRelock
      (s.wr .CLK_GROUP_LOCK (Word.setBits (s.rd .CLK_GROUP_LOCK) g.val 1 1))) := rfl
  have hregs : OnlyRegs s (s.wr .CLK_GROUP_LOCK (Word.setBits (s.rd .CLK_GROUP_LOCK) g.val 1 1)) [⟨.CLK_GROUP_LOCK, 0, 0⟩] :=
    (OnlyRegs.refl s _).wr _ _ _ _ (.head _)
  have hlock : Word.bits ((s.wr .CLK_GROUP_LOCK (Word.setBits (s.rd .CLK_GROUP_LOCK) g.val 1 1)).rd .CLK_GROUP_LOCK) g.val 1 = 1 := by
    rw [State.rd_wr_self, Word.bits_setBits_self _ _ _ _ (by omega)]
    rfl
  generalize s.wr .CLK_GROUP_LOCK (Word.setBits (s.rd .CLK_GROUP_LOCK) g.val 1 1) = b at hexec hregs hlock
  obtain ⟨honly, hlost⟩ := State.portRelock_list ((List.range 4).map (fun k => 4 * g.val + k)) b (fun p hp => by
    obtain ⟨k, rfl⟩ := mem_groupPorts hp
    rw [hregs.1.linkState (by simp)]
    exact h k)
  rw [List.map_map] at honly
  have hall := (hregs.mono (List.subset_append_left _ _)).trans (honly.mono (List.subset_append_right [(⟨.CLK_GROUP_LOCK, 0, 0⟩ : Key)] _))
  refine Gives.of_done hexec (hall.todo.trans hq) ⟨?_, fun k => hlost _ (.inl (groupPort_mem g.val k)), hall⟩
  rw [honly.1.rd (by simp)]
  exact hlock

/-! ## Skip ordered sets (R58, R59) -/

/-- The errors of a set are counted. -/
def State.setErrors (s : State) (p k errors : Nat) : State :=
  if errors = 0 then s else (s.bump F.LANE_ERR_V errors p k).count p 2 (if 5 ≤ s.get F.PHY_STATUS_CUR_RATE (s.linkPort p) then errors else 0)

theorem State.setErrors_frozen (s : State) (p k errors : Nat) (hf : Frozen s) :
    OnlyRegs s (s.setErrors p k errors) [⟨.LANE_ERR, p, k⟩] ∧
      (s.setErrors p k errors).get F.LANE_ERR_V p k = saturated 16 (s.get F.LANE_ERR_V p k) errors := by
  unfold State.setErrors
  split
  · next h =>
    refine ⟨OnlyRegs.refl s _, ?_⟩
    have hlt : s.get F.LANE_ERR_V p k < 2 ^ 16 := s.get_lt _ _ _
    rw [h, saturated]
    omega
  · have hput : OnlyRegs s (s.put F.LANE_ERR_V (saturated 16 (s.get F.LANE_ERR_V p k) errors) p k) [⟨.LANE_ERR, p, k⟩] :=
      (OnlyRegs.refl s _).put _ _ _ _ (.head _)
    rw [State.bump_unwatched _ F.LANE_ERR_V _ _ _ rfl]
    refine (State.count_frozen _ _ _ _ (hput.1.frozen (by simp) hf)).symm ▸ ⟨hput, ?_⟩
    exact State.get_put_lt _ _ _ _ (by decide) (saturated_lt 16 _ _)

/-- The fill of a lane's elastic buffer. -/
def State.withElastic (s : State) (p k : Nat) (fill : Int) : State :=
  { s with lanes := { s.lanes with elastic := numPut 0 (8 * p + k) fill s.lanes.elastic } }

theorem OnlyRegs.withElastic {s t : State} {ks : List Key} (h : OnlyRegs s t ks) (p k : Nat) (fill : Int) :
    KeepsRegs s (t.withElastic p k fill) ks ∧ numGet 0 (8 * p + k) (t.withElastic p k fill).lanes.elastic = fill ∧
      { t.withElastic p k fill with regs := s.regs, lanes := s.lanes } = s :=
  ⟨h.1.regs rfl, numGet_put_self _ _ _ _, h.unseen (fun x => { x with regs := s.regs, lanes := s.lanes }) (fun _ _ => rfl)⟩

theorem State.get_withElastic (s : State) (p k : Nat) (fill : Int) (f : Fld) (i j : Nat) :
    (s.withElastic p k fill).get f i j = s.get f i j := rfl

/-- A fill within 32 units of the nominal stays. -/
theorem State.skpOrderedSet_within (s : State) (p k : Nat) (drift : Int) (enough : Bool) (errors : Nat)
    (h : -32 ≤ s.elasticAfter p k drift enough ∧ s.elasticAfter p k drift enough ≤ 32) :
    s.skpOrderedSet p k drift enough errors = (s.setErrors p k errors).withElastic p k (s.elasticAfter p k drift enough) :=
  if_neg (by omega)

/-- A fill beyond 32 units is an error of the lane. -/
def State.elasticError (s : State) (p k : Nat) : State :=
  (((s.withElastic p k 0).bump F.LANE_ERR_V 1 p k).put F.LANE_STATUS_ELASTIC_ERR 1 p k).count (192 + p / 4) 1 1

theorem State.skpOrderedSet_beyond (s : State) (p k : Nat) (drift : Int) (enough : Bool) (errors : Nat)
    (h : 32 < s.elasticAfter p k drift enough) :
    s.skpOrderedSet p k drift enough errors =
      (let t := (s.setErrors p k errors).elasticError p k
      if t.linkState (t.linkPort p) == lsL0 || t.linkState (t.linkPort p) == lsL0p then t.toRecovery (t.linkPort p) else t) :=
  if_pos (.inr h)

theorem State.elasticError_frozen (s : State) (p k : Nat) (hf : Frozen s) :
    OnlyRegs (s.withElastic p k 0) (s.elasticError p k) [⟨.LANE_STATUS, p, k⟩, ⟨.LANE_ERR, p, k⟩] ∧
      (s.elasticError p k).get F.LANE_STATUS_ELASTIC_ERR p k = 1 ∧
      (s.elasticError p k).get F.LANE_ERR_V p k = saturated 16 (s.get F.LANE_ERR_V p k) 1 := by
  have hf' : Frozen (s.withElastic p k 0) := hf
  have hget := s.get_withElastic p k 0 F.LANE_ERR_V p k
  rw [State.elasticError, State.bump_unwatched _ F.LANE_ERR_V _ _ _ rfl, hget]
  generalize s.withElastic p k 0 = b at hf'
  have hput : OnlyRegs b ((b.put F.LANE_ERR_V (saturated 16 (s.get F.LANE_ERR_V p k) 1) p k).put F.LANE_STATUS_ELASTIC_ERR 1 p k)
      [⟨.LANE_STATUS, p, k⟩, ⟨.LANE_ERR, p, k⟩] := ((OnlyRegs.refl b _).put _ _ _ _ (.tail _ (.head _))).put _ _ _ _ (.head _)
  refine (State.count_frozen _ _ _ _ (hput.1.frozen (by simp) hf')).symm ▸ ⟨hput, State.get_put_lt _ _ _ _ (by decide) (by decide), ?_⟩
  exact (State.get_put_of_apart _ (by decide) _ _ _ _ _).trans (State.get_put_lt _ _ _ _ (by decide) (saturated_lt 16 _ _))

/-- A set that leaves the buffer within 32 units (R58). -/
theorem gives_skpOrderedSet_within (s : State) (p : Port) (k : Lane) (drift n : Int) (enough : Bool) (e : Fin 65536) (hq : Quiet s)
    (hf : Frozen s) (hn : n = numGet 0 (8 * p.val + k.val) s.lanes.elastic + drift) (hlo : -32 ≤ n) (hhi : n ≤ 32) :
    Gives (.skpOrderedSet p k drift ⟨enough, e⟩) s (fun t =>
      (numGet 0 (8 * p.val + k.val) t.lanes.elastic = if n < 0 then n + 1 else if 0 < n ∧ enough = true then n - 1 else n) ∧
      t.get F.LANE_ERR_V p.val k.val = saturated 16 (s.get F.LANE_ERR_V p.val k.val) e.val ∧
      KeepsRegs s t [⟨.LANE_ERR, p.val, k.val⟩] ∧ { t with regs := s.regs, lanes := s.lanes } = s) := by
  have hfill : s.elasticAfter p.val k.val drift enough = skipAdjust n enough := by rw [State.elasticAfter, ← hn]
  have hrange : -32 ≤ skipAdjust n enough ∧ skipAdjust n enough ≤ 32 := by
    unfold skipAdjust
    split
    · omega
    · split <;> omega
  have hexec : exec (.skpOrderedSet p k drift ⟨enough, e⟩) s =
      done ((s.setErrors p.val k.val e.val).withElastic p.val k.val (skipAdjust n enough)) :=
    congrArg done ((s.skpOrderedSet_within p.val k.val drift enough e.val (hfill ▸ hrange)).trans (by rw [hfill]))
  obtain ⟨honly, herr⟩ := s.setErrors_frozen p.val k.val e.val hf
  generalize s.setErrors p.val k.val e.val = b at honly herr hexec
  obtain ⟨hkeeps, helastic, hframe⟩ := honly.withElastic p.val k.val (skipAdjust n enough)
  have hget := b.get_withElastic p.val k.val (skipAdjust n enough) F.LANE_ERR_V p.val k.val
  generalize b.withElastic p.val k.val (skipAdjust n enough) = t at hkeeps helastic hframe hget hexec
  have htodo : t.todo = s.todo := by have e := congrArg State.todo hframe; exact e
  exact Gives.of_done hexec (htodo.trans hq) ⟨helastic, hget.trans herr, hkeeps, hframe⟩

/-- A set that leaves the buffer beyond 32 units, outside L0 (R58). -/
theorem gives_skpOrderedSet_beyond (s : State) (p : Port) (k : Lane) (drift : Int) (enough : Bool) (e : Fin 65536) (hq : Quiet s)
    (hf : Frozen s) (hn : 33 < numGet 0 (8 * p.val + k.val) s.lanes.elastic + drift) (hl : s.linkState (s.linkPort p.val) ≠ lsL0)
    (hl' : s.linkState (s.linkPort p.val) ≠ lsL0p) :
    Gives (.skpOrderedSet p k drift ⟨enough, e⟩) s (fun t => numGet 0 (8 * p.val + k.val) t.lanes.elastic = 0 ∧
      t.get F.LANE_STATUS_ELASTIC_ERR p.val k.val = 1 ∧
      t.get F.LANE_ERR_V p.val k.val = saturated 16 (saturated 16 (s.get F.LANE_ERR_V p.val k.val) e.val) 1 ∧
      KeepsRegs s t [⟨.LANE_STATUS, p.val, k.val⟩, ⟨.LANE_ERR, p.val, k.val⟩] ∧ { t with regs := s.regs, lanes := s.lanes } = s) := by
  have hfill : 32 < s.elasticAfter p.val k.val drift enough := by
    unfold State.elasticAfter skipAdjust
    split
    · omega
    · split <;> omega
  have hexec : exec (.skpOrderedSet p k drift ⟨enough, e⟩) s = done (s.skpOrderedSet p.val k.val drift enough e.val) := rfl
  rw [s.skpOrderedSet_beyond _ _ _ _ _ hfill] at hexec
  obtain ⟨honly, herr⟩ := s.setErrors_frozen p.val k.val e.val hf
  generalize s.setErrors p.val k.val e.val = b at honly herr hexec
  obtain ⟨hkeeps, helastic, hframe⟩ := honly.withElastic p.val k.val 0
  obtain ⟨honly', hstatus, herr'⟩ := b.elasticError_frozen p.val k.val (honly.1.frozen (by simp) hf)
  generalize b.withElastic p.val k.val 0 = u at hkeeps helastic hframe honly'
  generalize b.elasticError p.val k.val = t at honly' hstatus herr' hexec
  have hall : KeepsRegs s t [⟨.LANE_STATUS, p.val, k.val⟩, ⟨.LANE_ERR, p.val, k.val⟩] := (hkeeps.mono (by simp)).trans honly'.1
  have hport : t.linkPort p.val = s.linkPort p.val := linkPort_of_keeps hall (by simp) p.val
  have hstate : t.linkState (s.linkPort p.val) = s.linkState (s.linkPort p.val) := hall.linkState (by simp)
  have hstays : (t.linkState (t.linkPort p.val) == lsL0 || t.linkState (t.linkPort p.val) == lsL0p) = false := by
    rw [hport, hstate]
    simp [hl, hl']
  simp only [hstays, Bool.false_eq_true, if_false] at hexec
  have hframe' : ({ t with regs := s.regs, lanes := s.lanes } : State) = s :=
    (honly'.unseen (fun x => { x with regs := s.regs, lanes := s.lanes }) (fun _ _ => rfl)).trans hframe
  have htodo : t.todo = s.todo := by have e := congrArg State.todo hframe'; exact e
  refine Gives.of_done hexec (htodo.trans hq) ⟨?_, hstatus, by rw [herr', herr], hall, hframe'⟩
  rw [honly'.lanes]
  exact helastic

end Sys2Proof.Machine

/-!
PROOF. Bring-up: receiver detect, training, a return to Detect, and a rate on the way to the final one (R60 to R64, R93).
-/
namespace Sys2Proof.Machine

/-! ## What training records (R60, R64, R70) -/

/-- Nothing differs but registers and what the PHY holds of its ports. -/
abbrev PhyFrame (s t : State) : Prop := { t with regs := s.regs, lanes := s.lanes } = s

theorem PhyFrame.trans {s t u : State} (h : PhyFrame s t) (h' : PhyFrame t u) : PhyFrame s u := by
  have e : ({ u with regs := s.regs, lanes := s.lanes } : State) = { t with regs := s.regs, lanes := s.lanes } :=
    congrArg (fun x : State => { x with regs := s.regs, lanes := s.lanes }) h'
  exact e.trans h

theorem OnlyRegs.phyFrame {s t : State} {ks : List Key} (h : OnlyRegs s t ks) : PhyFrame s t :=
  h.unseen (fun x => { x with regs := s.regs, lanes := s.lanes }) (fun _ _ => rfl)

theorem PhyFrame.withLanes {s t : State} (h : PhyFrame s t) (x : Lanes) : PhyFrame s { t with lanes := x } := h
theorem PhyFrame.put {s t : State} (h : PhyFrame s t) (f : Fld) (v i j : Nat) : PhyFrame s (t.put f v i j) := h

/-- The tag of lane `n` of port `p`. -/
def State.withTag (s : State) (p n : Nat) (r : Training) (rev : Bool) : State :=
  { s with lanes := { s.lanes with tags := numPut 0 (8 * p + n) (tagOf r n rev) s.lanes.tags } }

theorem KeepsRegs.withTag {s t : State} {ks : List Key} (h : KeepsRegs s t ks) (p n : Nat) (r : Training) (rev : Bool) :
    KeepsRegs s (t.withTag p n r rev) ks := h.regs rfl

theorem PhyFrame.withTag {s t : State} (h : PhyFrame s t) (p n : Nat) (r : Training) (rev : Bool) : PhyFrame s (t.withTag p n r rev) := h

/-- The polarity and the tag of a lane. -/
def State.tagLane (p : Nat) (r : Training) (rev : Bool) (s : State) (q j : Nat) : State :=
  (s.put F.LANE_STATUS_POL_INV (r.inverted.toNat / 2 ^ (8 * (q - p) + j) % 2) q j).withTag p (8 * (q - p) + j) r rev

theorem State.tagLanes_keeps (s : State) (p : Nat) (r : Training) (rev : Bool) :
    KeepsRegs s (s.eachLane p (State.tagLane p r rev)) (laneStatusRegs p) ∧ PhyFrame s (s.eachLane p (State.tagLane p r rev)) :=
  State.eachLane_induction (P := fun t => KeepsRegs s t (laneStatusRegs p) ∧ PhyFrame s t) ⟨KeepsRegs.refl s _, rfl⟩
    (fun _ _ hk ⟨hkeeps, hframe⟩ =>
      ⟨(hkeeps.put _ _ _ _ (mem_laneStatusRegs hk)).withTag _ _ _ _, (hframe.put _ _ _ _).withTag _ _ _ _⟩)

/-- The partner's training, and the limit that its width settled under. -/
def State.withTraining (s : State) (p : Nat) (r : Training) : State :=
  { s with lanes := { s.lanes with training := tabErase p s.lanes.training ++ [(p, r)],
                                   widthCap := numPut 0 p (s.get F.PHY_CTRL_MAX_WIDTH p) s.lanes.widthCap } }

/-- What PORT_STATUS shows of the negotiation. -/
def State.negotiated (s : State) (p : Nat) (r : Training) : State :=
  let s := s.putFlag F.PORT_STATUS_BI_SUPPORTED r.backInvalidate p
  s.putFlag F.PORT_STATUS_CXL_ACTIVE (s.role p != 2 && s.role p != 5) p

theorem State.negotiated_onlyRegs (s : State) (p : Nat) (r : Training) : OnlyRegs s (s.negotiated p r) [⟨.PORT_STATUS, p, 0⟩] :=
  ((OnlyRegs.refl s _).put _ _ _ _ (.head _)).put _ _ _ _ (.head _)

theorem State.recordTraining_eq (s : State) (p : Nat) (r : Training) (w : Nat × Bool) :
    s.recordTraining p r w =
      ((((s.withTraining p r).put F.PARTNER_RATES_V r.rates.toNat p).eachLane p (State.tagLane p r w.2)).recordWidth p w).negotiated p r := rfl

/-- The registers that training writes. -/
def trainingRegs (p : Nat) : List Key := [⟨.PHY_STATUS, p, 0⟩, ⟨.PARTNER_RATES, p, 0⟩, ⟨.PORT_STATUS, p, 0⟩] ++ laneStatusRegs p

theorem State.recordTraining_effect (s : State) (p : Nat) (r : Training) (w : Nat × Bool) :
    KeepsRegs s (s.recordTraining p r w) (trainingRegs p) ∧ PhyFrame s (s.recordTraining p r w) ∧
      (s.recordTraining p r w).linkState p = s.linkState p ∧
      (s.recordTraining p r w).get F.PHY_STATUS_CUR_WIDTH p = w.1 % 32 ∧
      (s.recordTraining p r w).flag F.PHY_STATUS_REVERSED p = w.2 ∧
      (s.recordTraining p r w).get F.PARTNER_RATES_V p = r.rates.toNat := by
  have hput : KeepsRegs s ((s.withTraining p r).put F.PARTNER_RATES_V r.rates.toNat p) [⟨.PARTNER_RATES, p, 0⟩] :=
    ((KeepsRegs.refl s _).put F.PARTNER_RATES_V r.rates.toNat p 0 (.head _)).regs rfl
  have hrates : ((s.withTraining p r).put F.PARTNER_RATES_V r.rates.toNat p).get F.PARTNER_RATES_V p = r.rates.toNat :=
    State.get_put_lt _ _ _ _ (by decide) r.rates.isLt
  have hframe : PhyFrame s ((s.withTraining p r).put F.PARTNER_RATES_V r.rates.toNat p) := rfl
  rw [State.recordTraining_eq]
  generalize (s.withTraining p r).put F.PARTNER_RATES_V r.rates.toNat p = a at hput hrates hframe
  obtain ⟨hkeepsb, hframeb⟩ := a.tagLanes_keeps p r w.2
  generalize a.eachLane p (State.tagLane p r w.2) = b at hkeepsb hframeb
  have honlyc := b.recordWidth_onlyRegs p w
  have hphy : (b.recordWidth p w).linkState p = b.linkState p := b.recordWidth_phy p w rfl (by decide) (by decide)
  obtain ⟨hwidth, hrev⟩ := b.recordWidth_reads p w
  generalize b.recordWidth p w = c at honlyc hphy hwidth hrev
  have honlyd := c.negotiated_onlyRegs p r
  generalize c.negotiated p r = d at honlyd
  have hlane : ∀ {r}, r ≠ Reg.LANE_STATUS → (⟨r, p, 0⟩ : Key) ∉ laneStatusRegs p := fun h hm => h (laneStatusRegs_reg hm)
  have hd : ∀ f : Fld, f.reg = .PHY_STATUS → d.get f p = c.get f p := fun f hf => honlyd.1.get (by simp [hf])
  refine ⟨?_, ((hframe.trans hframeb).trans honlyc.phyFrame).trans honlyd.phyFrame, ?_, (hd _ rfl).trans hwidth, ?_, ?_⟩
  · refine (((hput.mono ?_).trans (hkeepsb.mono ?_)).trans (honlyc.1.mono ?_)).trans (honlyd.1.mono ?_)
    · simp [trainingRegs]
    · exact List.subset_append_right _ _
    · exact List.cons_subset.mpr ⟨.head _, List.subset_append_right _ _⟩
    · simp [trainingRegs]
  · exact (hd _ rfl).trans (hphy.trans ((hkeepsb.linkState (hlane (by decide))).trans (hput.linkState (by simp))))
  · rw [State.flag, hd _ rfl]
    exact hrev
  · have hc : c.get F.PARTNER_RATES_V p = b.get F.PARTNER_RATES_V p :=
      honlyc.1.get (List.not_mem_cons_of_ne_of_not_mem (by simp [F.PARTNER_RATES_V]) (hlane (by decide)))
    exact (honlyd.1.get (by simp [F.PARTNER_RATES_V])).trans (hc.trans ((hkeepsb.get (hlane (by decide))).trans hrates))

/-! ## Polling and Configuration (R60, R61, R93) -/

theorem State.protocolOk_congr {s t : State} {p : Nat} (hrole : t.role p = s.role p) (hconfig : t.rd .PORT_CFG p = s.rd .PORT_CFG p)
    (r : Training) : t.protocolOk p r = s.protocolOk p r := by
  simp only [State.protocolOk, hrole, State.framing_congr hrole hconfig]

theorem State.mayTrain_linkState {s : State} {p : Nat} (h : s.mayTrain p = true) : s.linkState p = lsDetect := by
  rw [State.mayTrain, Bool.and_eq_true] at h
  exact beq_iff_eq.mp h.1

/-- What a port of a role offers, latency-optimised flits where `lo` enables them. -/
def offerOf (p role : Nat) (lo : Bool) : Out := .offer p (roleProtocol role) (cxlRole role) (cxlRole role) (cxlRole role && lo)

theorem State.offerLink_eq (s : State) (p : Nat) : s.offerLink p = s.emit (offerOf p (s.role p) (s.flag F.PORT_CFG_LO_FLIT_EN p)) := rfl

/-- The partner's answer carries what the role requires: only what the PHY holds of its ports is added to what training records. -/
theorem State.configure_settles (s : State) (p : Nat) (r : Training) (w : Nat × Bool)
    (hw : (s.put F.PARTNER_RATES_V r.rates.toNat p).settleWidth p r = some w)
    (hok : (((s.put F.PARTNER_RATES_V r.rates.toNat p).setLinkState p lsConfig).offerLink p).protocolOk p r = true) :
    ∃ x : Lanes, x.fromDetect.contains p = true ∧ s.configure p r =
      { (((s.put F.PARTNER_RATES_V r.rates.toNat p).setLinkState p lsConfig).offerLink p).recordTraining p r w with lanes := x } := by
  unfold State.configure
  simp only [hw, hok, if_true]
  exact ⟨_, by simp, rfl⟩

theorem State.get_withLanes (s : State) (x : Lanes) (f : Fld) (i j : Nat) : ({ s with lanes := x } : State).get f i j = s.get f i j := rfl
theorem State.flag_withLanes (s : State) (x : Lanes) (f : Fld) (i j : Nat) : ({ s with lanes := x } : State).flag f i j = s.flag f i j := rfl
theorem KeepsRegs.withLanes {s t : State} {ks : List Key} (h : KeepsRegs s t ks) (x : Lanes) : KeepsRegs s { t with lanes := x } ks := h.regs rfl

/-- Configuration begins: the offer is made, and only the link state, the partner's rates and sessions differ beside. -/
theorem State.offer_effect (s : State) (p : Nat) (r : Training) (hl : s.linkState p ≠ lsL0) {u : State}
    (hu : ((s.put F.PARTNER_RATES_V r.rates.toNat p).setLinkState p lsConfig).offerLink p = u) :
    KeepsRegs s u [⟨.PARTNER_RATES, p, 0⟩, ⟨.PHY_STATUS, p, 0⟩] ∧ u.linkState p = lsConfig ∧
      u.out = s.out ++ [offerOf p (s.role p) (s.flag F.PORT_CFG_LO_FLIT_EN p)] ∧
      { u with regs := s.regs, sessions := s.sessions, out := s.out } = s := by
  have hput : OnlyRegs s (s.put F.PARTNER_RATES_V r.rates.toNat p) [⟨.PARTNER_RATES, p, 0⟩] := (OnlyRegs.refl s _).put _ _ _ _ (.head _)
  generalize s.put F.PARTNER_RATES_V r.rates.toNat p = a at hput hu
  have hal : a.linkState p ≠ lsL0 := by rwa [hput.1.linkState (by simp)]
  obtain ⟨hkeeps, hframe⟩ := a.setLinkState_within_frame p lsConfig (iff_of_false hal (by decide))
  have hstate := (a.setLinkState_moves p lsConfig (by decide) (fun h => absurd h hal)).linkState
  generalize a.setLinkState p lsConfig = b at hkeeps hframe hstate hu
  have hall : KeepsRegs s b [⟨.PARTNER_RATES, p, 0⟩, ⟨.PHY_STATUS, p, 0⟩] := (hput.1.mono (by simp)).trans (hkeeps.mono (by simp))
  have hrole : b.role p = s.role p := hall.role (by simp) p
  have hflag : b.flag F.PORT_CFG_LO_FLIT_EN p = s.flag F.PORT_CFG_LO_FLIT_EN p := by
    rw [State.flag, hall.get (by simp [F.PORT_CFG_LO_FLIT_EN]), State.flag]
  have hframe' : ({ b with regs := s.regs, sessions := s.sessions } : State) = s :=
    (congrArg (fun x : State => { x with regs := s.regs, sessions := s.sessions }) hframe).trans
      (hput.unseen (fun x => { x with regs := s.regs, sessions := s.sessions }) (fun _ _ => rfl))
  have hout : b.out = s.out := by have e := congrArg State.out hframe'; exact e
  rw [State.offerLink_eq, hrole, hflag] at hu
  generalize offerOf p (s.role p) (s.flag F.PORT_CFG_LO_FLIT_EN p) = o at hu ⊢
  subst hu
  exact ⟨hall.regs rfl, hstate, congrArg (· ++ [o]) hout,
    congrArg (fun x : State => { x with out := s.out }) hframe'⟩

/-- The partner answers: Configuration, with the width of its training sets (R60, R64, R93). -/
theorem gives_receiverDetected_some (s : State) (p : Port) (r : Training) (w : Nat) (rev : Bool) (hq : Quiet s)
    (hl : s.mayTrain p.val = true ∨ s.linkState p.val = lsPolling)
    (hw : (s.put F.PARTNER_RATES_V r.rates.toNat p.val).settleWidth p.val r = some (w, rev)) (hok : s.protocolOk p.val r = true) :
    Gives (.receiverDetected p (some r)) s (fun t => t.linkState p.val = lsConfig ∧
      t.get F.PHY_STATUS_CUR_WIDTH p.val = w % 32 ∧ t.get F.PARTNER_RATES_V p.val = r.rates.toNat ∧
      t.flag F.PHY_STATUS_REVERSED p.val = rev ∧ t.lanes.fromDetect.contains p.val = true ∧
      t.out = s.out ++ [offerOf p.val (s.role p.val) (s.flag F.PORT_CFG_LO_FLIT_EN p.val)] ∧ KeepsRegs s t (trainingRegs p.val) ∧
      { t with regs := s.regs, lanes := s.lanes, sessions := s.sessions, out := s.out } = s) := by
  have hopen : (s.mayTrain p.val || s.linkState p.val == lsPolling) = true := by rcases hl with h | h <;> simp [h]
  have hne : s.linkState p.val ≠ lsL0 := by
    rcases hl with h | h
    · rw [State.mayTrain_linkState h]
      decide
    · rw [h]
      decide
  have hexec : exec (.receiverDetected p (some r)) s = done (s.configure p.val r) := by
    show execReceiverDetected p (some r) s = _
    simp only [execReceiverDetected, State.receiverDetected, hopen, if_true]
  have hsettles := s.configure_settles p.val r (w, rev) hw
  generalize hu : ((s.put F.PARTNER_RATES_V r.rates.toNat p.val).setLinkState p.val lsConfig).offerLink p.val = u at hsettles
  obtain ⟨hkeeps, hstate, hout, hframe⟩ := s.offer_effect p.val r hne hu
  obtain ⟨x, hx, hconf⟩ := hsettles ((State.protocolOk_congr (hkeeps.role (by simp) p.val) (hkeeps.rd (by simp)) r).trans hok)
  obtain ⟨hkeepsv, hframev, hstatev, hwidth, hrev, hrates⟩ := u.recordTraining_effect p.val r (w, rev)
  generalize u.recordTraining p.val r (w, rev) = v at hconf hkeepsv hframev hstatev hwidth hrev hrates
  have hall : KeepsRegs s v (trainingRegs p.val) := (hkeeps.mono (by simp [trainingRegs])).trans hkeepsv
  have hvout : v.out = u.out := by have e := congrArg State.out hframev; exact e
  have hframeall : ({ v with regs := s.regs, lanes := s.lanes, sessions := s.sessions, out := s.out } : State) = s :=
    (congrArg (fun x : State => { x with regs := s.regs, lanes := s.lanes, sessions := s.sessions, out := s.out }) hframev).trans
      (congrArg (fun x : State => { x with lanes := s.lanes }) hframe)
  have htodo : v.todo = s.todo := by have e := congrArg State.todo hframeall; exact e
  rw [hconf] at hexec
  exact Gives.of_done hexec (htodo.trans hq) ⟨(v.get_withLanes x _ _ _).trans (hstatev.trans hstate), (v.get_withLanes x _ _ _).trans hwidth,
    (v.get_withLanes x _ _ _).trans hrates, (v.flag_withLanes x _ _ _).trans hrev, hx, hvout.trans hout, hall.withLanes x, hframeall⟩

/-- A change of link state that stays outside L0 or in it, made by a command of its own. -/
theorem gives_setLinkState_within {c : Instr} {s : State} {p : Port} {v : Nat} (hq : Quiet s) (hexec : exec c s = done (s.setLinkState p.val v))
    (hv : v < 32) (h : s.linkState p.val ≠ lsL0) (hne : v ≠ lsL0) :
    Gives c s (fun t => t.linkState p.val = v ∧ KeepsRegs s t [⟨.PHY_STATUS, p.val, 0⟩] ∧
      { t with regs := s.regs, sessions := s.sessions } = s) := by
  obtain ⟨hkeeps, hframe⟩ := s.setLinkState_within_frame p.val v (iff_of_false h hne)
  have hstate := (s.setLinkState_moves p.val v hv (fun h0 => absurd h0 h)).linkState
  have htodo : (s.setLinkState p.val v).todo = s.todo := by have e := congrArg State.todo hframe; exact e
  exact Gives.of_done hexec (htodo.trans hq) ⟨hstate, hkeeps, hframe⟩

/-! ## A return to Detect (R61, R62) -/

/-- The returns to Detect of a port. -/
def State.withFails (s : State) (p n : Nat) : State := { s with lanes := { s.lanes with fails := numPut 0 p n s.lanes.fails } }

theorem State.countFail_between (s : State) (p : Nat) (h : (numGet 0 p s.lanes.fails + 1) % 8 ≠ 0) :
    s.countFail p = s.withFails p (numGet 0 p s.lanes.fails + 1) :=
  if_neg (by simpa using h)

theorem KeepsRegs.withFails {s t : State} {ks : List Key} (h : KeepsRegs s t ks) (p n : Nat) : KeepsRegs s (t.withFails p n) ks := h.regs rfl
theorem State.get_withFails (s : State) (p n : Nat) (f : Fld) (i j : Nat) : (s.withFails p n).get f i j = s.get f i j := rfl
theorem State.fails_withFails (s : State) (p n : Nat) : numGet 0 p (s.withFails p n).lanes.fails = n := numGet_put_self _ _ _ _

/-- A training that times out, short of the eighth return to Detect. -/
theorem gives_trainingTimeout (s : State) (p : Port) (hq : Quiet s) (hl : s.linkState p.val = lsPolling ∨ s.linkState p.val = lsConfig)
    (hc : s.isCascade p.val = false) (hfails : (numGet 0 p.val s.lanes.fails + 1) % 8 ≠ 0) :
    Gives (.trainingTimeout p) s (fun t => t.linkState p.val = lsDetect ∧
      t.get F.DETECT_FAILS_V p.val = saturated 16 (s.get F.DETECT_FAILS_V p.val) 1 ∧
      numGet 0 p.val t.lanes.fails = numGet 0 p.val s.lanes.fails + 1 ∧ t.get F.PHY_STATUS_CUR_RATE p.val = 0 ∧
      KeepsRegs s t (⟨.DETECT_FAILS, p.val, 0⟩ :: linkRegs p.val) ∧
      { t with regs := s.regs, lanes := s.lanes, sessions := s.sessions, msgs := s.msgs, spans := s.spans } = s) := by
  have hexec : exec (.trainingTimeout p) s = done (((s.bump F.DETECT_FAILS_V 1 p.val).linkFalls p.val lsDetect).countFail p.val) := by
    show execTrainingTimeout p s = _
    rcases hl with h | h <;> simp [execTrainingTimeout, State.trainingTimeout, h]
  rw [State.bump_unwatched _ F.DETECT_FAILS_V _ _ _ rfl] at hexec
  have hput : OnlyRegs s (s.put F.DETECT_FAILS_V (saturated 16 (s.get F.DETECT_FAILS_V p.val) 1) p.val) [⟨.DETECT_FAILS, p.val, 0⟩] :=
    (OnlyRegs.refl s _).put _ _ _ _ (.head _)
  have hcount : (s.put F.DETECT_FAILS_V (saturated 16 (s.get F.DETECT_FAILS_V p.val) 1) p.val).get F.DETECT_FAILS_V p.val =
      saturated 16 (s.get F.DETECT_FAILS_V p.val) 1 := State.get_put_lt _ _ _ _ (by decide) (saturated_lt 16 _ _)
  have hw : F.DETECT_FAILS_V.w = 16 := rfl
  rw [hw] at hexec
  generalize s.put F.DETECT_FAILS_V (saturated 16 (s.get F.DETECT_FAILS_V p.val) 1) p.val = a at hput hcount hexec
  have hal : a.linkState p.val ≠ lsL0 := by
    rw [hput.1.linkState (by simp)]
    rcases hl with h | h <;> rw [h] <;> decide
  obtain ⟨hkeeps, hstate, hrate, hlanes, hframe⟩ := a.linkFalls_within p.val lsDetect hal (by decide) (by decide)
    ((State.isCascade_of_role (hput.1.role (by simp) p.val)).trans hc)
  generalize a.linkFalls p.val lsDetect = b at hkeeps hstate hrate hlanes hframe hexec
  have hbfails : b.lanes.fails = s.lanes.fails := by
    rw [hlanes, hput.lanes]
    rfl
  rw [b.countFail_between p.val (by rw [hbfails]; exact hfails), hbfails] at hexec
  have hall : KeepsRegs s b (⟨.DETECT_FAILS, p.val, 0⟩ :: linkRegs p.val) :=
    (hput.1.mono (by simp)).trans (hkeeps.mono (List.subset_cons_self _ _))
  have hframeall : ({ b with regs := s.regs, lanes := s.lanes, sessions := s.sessions, msgs := s.msgs, spans := s.spans } : State) = s :=
    (congrArg (fun x : State => { x with regs := s.regs, lanes := s.lanes, sessions := s.sessions, msgs := s.msgs, spans := s.spans }) hframe).trans
      (hput.unseen (fun x => { x with regs := s.regs, lanes := s.lanes, sessions := s.sessions, msgs := s.msgs, spans := s.spans }) (fun _ _ => rfl))
  have htodo : b.todo = s.todo := by have e := congrArg State.todo hframeall; exact e
  have hbcount : b.get F.DETECT_FAILS_V p.val = saturated 16 (s.get F.DETECT_FAILS_V p.val) 1 :=
    (hkeeps.get (fun hm => by have hreg := linkRegs_reg hm; simp [F.DETECT_FAILS_V] at hreg)).trans hcount
  exact Gives.of_done hexec (htodo.trans hq) ⟨(b.get_withFails _ _ _ _ _).trans hstate, (b.get_withFails _ _ _ _ _).trans hbcount,
    b.fails_withFails _ _, (b.get_withFails _ _ _ _ _).trans hrate, hall.withFails _ _, hframeall⟩

/-! ## A rate below the final one (R60, R63) -/

theorem State.holdsL0_sameRates (s : State) (p rate : Nat) : SameRates s (s.holdsL0 p rate) p := by
  have honly := s.holdsL0_onlyRegs p rate
  have hheld : KeepsRegs s (s.holdsL0 p rate) (linkRegs p) := honly.1.congr rfl rfl
  refine SameRates.of_keeps hheld (fun k hk => ?_) (by rw [honly.lanes]; rfl) ?_
  · have hreg := linkRegs_reg hk
    revert hreg
    generalize k.reg = r
    intro hreg
    fin_cases hreg <;> decide
  · rw [s.holdsL0_phy p rate rateMarks rfl]
    exact State.get_put_of_apart _ (by decide) _ _ _ _ _

theorem State.tooSlow_congr {s t : State} {p : Nat} (h : t.role p = s.role p) (rate : Nat) : t.tooSlow p rate = s.tooSlow p rate := by
  rw [State.tooSlow, State.isCascade_of_role h, State.tooSlow]

/-- With a rate left to try, the link holds L0 only on its way there. -/
theorem State.reachRate_steps (s : State) (p rate r : Nat) (viral full : Bool) (hslow : s.tooSlow p rate = false)
    (hr : s.nextRate p rate = some r) :
    s.reachRate p rate viral true full = ((s.holdsL0 p rate).setLinkState p lsL0).stepTo p r := by
  have hrates := s.holdsL0_sameRates p rate
  simp only [State.reachRate, if_true, hrates.nextRate, hr, State.tooSlow_congr hrates.role, hslow, Bool.false_eq_true, if_false]

/-- The link shows L0 and leaves it for the next rate. -/
theorem State.reachRate_moves (s : State) (p rate r : Nat) (hl : s.linkState p ≠ lsL0) (hidle : s.flag F.MARGIN_STATUS_BUSY p = false)
    {t : State} (ht : ((s.holdsL0 p rate).setLinkState p lsL0).stepTo p r = t) :
    t.linkState p = stepState r ∧ t.get F.PHY_STATUS_CUR_RATE p = rate % 8 ∧ numGet 0 p t.lanes.target = r ∧
      numGet 0 p t.lanes.lastGood = rate ∧ t.latchedBit (96 + p) = true ∧
      KeepsRegs s t (⟨.IA_PENDING, (96 + p) / 32, 0⟩ :: linkRegs p) ∧ LinkFrame s t := by
  have honly := s.holdsL0_onlyRegs p rate
  have hlanes : numGet 0 p (s.holdsL0 p rate).lanes.lastGood = rate := by
    rw [honly.lanes]
    exact numGet_put_self _ _ _ _
  have hheld : KeepsRegs s (s.holdsL0 p rate) (linkRegs p) := honly.1.congr rfl rfl
  have hframe : LinkFrame s (s.holdsL0 p rate) := LinkFrame.trans (t := s.heldAt p rate) rfl honly.linkFrame
  have hstate : (s.holdsL0 p rate).linkState p = s.linkState p :=
    (s.holdsL0_phy p rate _ rfl).trans (State.get_put_of_apart _ (by decide) _ _ _ _ _)
  have hrate : (s.holdsL0 p rate).get F.PHY_STATUS_CUR_RATE p = rate % 8 :=
    (s.holdsL0_phy p rate _ rfl).trans (State.get_put_self _ _ _ _ _ (by decide))
  generalize s.holdsL0 p rate = a at hlanes hheld hframe hstate hrate ht
  have hout : a.linkState p ≠ lsL0 := by rwa [hstate]
  have hmove := a.setLinkState_moves p lsL0 (by decide) (fun h => absurd h hout)
  generalize a.setLinkState p lsL0 = b at hmove ht
  have hmargin : b.flag F.MARGIN_STATUS_BUSY p = false := by
    rw [State.flag, hmove.keeps.get (by simp [F.MARGIN_STATUS_BUSY]), hheld.get (fun hm => by
      have hreg := linkRegs_reg hm
      simp [F.MARGIN_STATUS_BUSY] at hreg)]
    exact hidle
  have hstep := b.stepTo_moves p r (fun _ => hmargin)
  rw [ht] at hstep
  refine ⟨hstep.linkState, ?_, ?_, ?_, hstep.pending (.inl ?_), ?_, (hframe.trans hmove.frame).trans
    (LinkFrame.trans (t := b.aimRate p r) rfl hstep.frame)⟩
  · exact (hstep.phy _ rfl (by decide)).trans ((b.get_aimRate p r _ _ _).trans ((hmove.phy _ rfl (by decide)).trans hrate))
  · rw [hstep.lanes]
    exact numGet_put_self _ _ _ _
  · rw [hstep.lanes]
    show numGet 0 p b.lanes.lastGood = rate
    rw [hmove.lanes]
    exact hlanes
  · exact (State.latchedBit_congr (State.rd_aimRate _ _ _ _ _ _)).trans (hmove.pending (.inr (by simp [hout])))
  · have hsub : ([⟨.PHY_STATUS, p, 0⟩, ⟨.IA_PENDING, (96 + p) / 32, 0⟩] : List Key) ⊆ ⟨.IA_PENDING, (96 + p) / 32, 0⟩ :: linkRegs p :=
      List.cons_subset.mpr ⟨.tail _ (.head _), List.cons_subset.mpr ⟨.head _, List.nil_subset _⟩⟩
    have hstep' : KeepsRegs b t [⟨.PHY_STATUS, p, 0⟩, ⟨.IA_PENDING, (96 + p) / 32, 0⟩] := hstep.keeps.congr (s' := b) rfl rfl
    exact ((hheld.mono (List.subset_cons_self _ _)).trans (hmove.keeps.mono hsub)).trans (hstep'.mono hsub)

/-- A port that no longer goes past its lower rates. -/
def State.unbypassed (s : State) (p : Nat) : State :=
  { s with lanes := { s.lanes with bypassing := s.lanes.bypassing.filter (fun x => x != p) } }

theorem State.unbypassed_keeps (s : State) (p : Nat) :
    (s.unbypassed p).regs = s.regs ∧ (s.unbypassed p).lanes.training = s.lanes.training ∧ LinkFrame s (s.unbypassed p) := ⟨rfl, rfl, rfl⟩

/-- The port as its equalisation ends at a rate, which it shows. -/
def State.equalised (s : State) (p rate : Nat) : State := (s.unbypassed p).put F.PHY_STATUS_CUR_RATE rate p

theorem State.equalised_keeps (s : State) (p rate : Nat) :
    KeepsRegs s (s.equalised p rate) [⟨.PHY_STATUS, p, 0⟩] ∧ LinkFrame s (s.equalised p rate) ∧
      (s.equalised p rate).linkState p = s.linkState p ∧ SameRates s (s.equalised p rate) p := by
  obtain ⟨hregs, htraining, hframe⟩ := s.unbypassed_keeps p
  rw [State.equalised]
  generalize s.unbypassed p = a at hregs htraining hframe
  have hget : ∀ f : Fld, F.PHY_STATUS_CUR_RATE.apart f = true → (a.put F.PHY_STATUS_CUR_RATE rate p).get f p = s.get f p := fun f hf =>
    (State.get_put_of_apart _ hf _ _ _ _ _).trans (State.get_regs s a hregs _ _ _)
  have hkeeps : KeepsRegs s (a.put F.PHY_STATUS_CUR_RATE rate p) [⟨.PHY_STATUS, p, 0⟩] :=
    ((KeepsRegs.refl s _).regs hregs).put _ _ _ _ (.head _)
  exact ⟨hkeeps, hframe.put _ _ _ _, hget _ (by decide), SameRates.of_keeps hkeeps (by simp) htraining (hget _ (by decide))⟩

theorem State.linkReachesL0_equalised (s : State) (p : Nat) (viral : Bool) (hl : s.linkState p = lsRecoveryEq)
    (hphase : numGet 0 p s.lanes.eqPhase = 4) (hbypass : s.lanes.bypassing.contains p = false) (hresize : s.lanes.resize.contains p = false) :
    s.linkReachesL0 p viral =
      (s.equalised p (numGet 0 p s.lanes.target)).reachRate p (numGet 0 p s.lanes.target) viral true true := by
  have hmay : s.mayReachL0 p = true := by simp [State.mayReachL0, hl, hphase]
  have hwidth : s.resettleWidth p = some s := by
    rw [State.resettleWidth, hresize]
    exact if_neg Bool.false_ne_true
  have hconfig : (lsRecoveryEq == lsConfig) = false := by decide
  have hrecovery : (lsRecoveryEq == lsRecovery) = false := by decide
  have hne : (lsRecoveryEq != lsRecovery) = true := by decide
  simp only [State.linkReachesL0, hmay, hwidth, hl, hbypass, hconfig, hrecovery, hne, beq_self_eq_true, Bool.false_and, Bool.or_self,
    Bool.not_false, Bool.and_self, Bool.false_eq_true, if_false, if_true]
  rfl

/-- A link that reaches L0 below its final rate goes on to the next one (R60). -/
theorem gives_linkReachesL0 (s : State) (p : Port) (viral : Bool) (r : Nat) (hq : Quiet s) (hl : s.linkState p.val = lsRecoveryEq)
    (hphase : numGet 0 p.val s.lanes.eqPhase = 4) (hbypass : s.lanes.bypassing.contains p.val = false)
    (hresize : s.lanes.resize.contains p.val = false) (hidle : s.flag F.MARGIN_STATUS_BUSY p.val = false)
    (hslow : s.tooSlow p.val (numGet 0 p.val s.lanes.target) = false) (hr : s.nextRate p.val (numGet 0 p.val s.lanes.target) = some r)
    (hrate : numGet 0 p.val s.lanes.target ≤ 6) :
    Gives (.linkReachesL0 p viral) s (fun t => t.linkState p.val = stepState r ∧
      t.get F.PHY_STATUS_CUR_RATE p.val = numGet 0 p.val s.lanes.target ∧ numGet 0 p.val t.lanes.target = r ∧
      numGet 0 p.val t.lanes.lastGood = numGet 0 p.val s.lanes.target ∧ t.irqPending (96 + p.val) = true ∧
      KeepsRegs s t (⟨.IA_PENDING, (96 + p.val) / 32, 0⟩ :: linkRegs p.val) ∧ LinkFrame s t) := by
  have hexec : exec (.linkReachesL0 p viral) s = done ((s.equalised p.val (numGet 0 p.val s.lanes.target)).reachRate p.val
      (numGet 0 p.val s.lanes.target) viral true true) := congrArg done (s.linkReachesL0_equalised p.val viral hl hphase hbypass hresize)
  generalize numGet 0 p.val s.lanes.target = rate at hexec hslow hr hrate ⊢
  obtain ⟨hkeeps, hframe, hstate, hsame⟩ := s.equalised_keeps p.val rate
  generalize s.equalised p.val rate = a at hexec hkeeps hframe hstate hsame
  rw [a.reachRate_steps p.val rate r viral true ((State.tooSlow_congr hsame.role rate).trans hslow) ((hsame.nextRate rate).trans hr)] at hexec
  have hmargin : a.flag F.MARGIN_STATUS_BUSY p.val = false := by
    rw [State.flag, hkeeps.get (by simp [F.MARGIN_STATUS_BUSY])]
    exact hidle
  have hmoves := a.reachRate_moves p.val rate r (by rw [hstate, hl]; decide) hmargin rfl
  generalize ((a.holdsL0 p.val rate).setLinkState p.val lsL0).stepTo p.val r = t at hmoves hexec
  obtain ⟨htstate, htrate, htarget, hgood, hpending, htkeeps, htframe⟩ := hmoves
  have hall := hframe.trans htframe
  obtain ⟨-, -, -, htodo⟩ := hall.rest
  exact Gives.of_done hexec (htodo.trans hq) ⟨htstate, htrate.trans (Nat.mod_eq_of_lt (by omega)), htarget, hgood,
    (State.irqPending_port _ p).trans hpending, (hkeeps.mono (by simp [linkRegs_eq])).trans htkeeps, hall⟩

/-! ## The statement -/

/-- Settles O1: a clock is lost and found port by port, a skip set steps one lane, and a port moves through bring-up by the lemma about
each of its link states. -/
theorem clocksAndBringUp : Obligations.ClocksAndBringUp := by
  unfold Obligations.ClocksAndBringUp
  refine ⟨?loss, ?relock, ?within, ?beyond, ?answered, ?found, ?quiet, ?timeout, ?reaches⟩
  case loss => exact fun s g hq hf h => gives_pllLockLoss s g hq hf h
  case relock => exact fun s g hq _ h => gives_pllRelock s g hq h
  case within => exact fun s p k drift n enough e hq hf hn hlo hhi => gives_skpOrderedSet_within s p k drift n enough e hq hf hn hlo hhi
  case beyond => exact fun s p k drift enough e hq hf hn hl hl' => gives_skpOrderedSet_beyond s p k drift enough e hq hf hn hl hl'
  case answered => exact fun s p r w rev hq _ hl hw hok => gives_receiverDetected_some s p r w rev hq hl hw hok
  case found =>
    intro s p hq _ hmay
    have hl := State.mayTrain_linkState hmay
    have hexec : exec (.receiverDetected p none) s = done (s.setLinkState p.val lsPolling) := by
      show execReceiverDetected p none s = _
      simp only [execReceiverDetected, State.receiverDetected, hmay, Bool.true_or, if_true]
    exact gives_setLinkState_within hq hexec (by decide) (by rw [hl]; decide) (by decide)
  case quiet =>
    intro s p hq _ hl
    have hexec : exec (.detectQuietTimer p) s = done (s.setLinkState p.val (s.restState p.val)) := by
      show execDetectQuietTimer p s = _
      simp only [execDetectQuietTimer, hl, beq_self_eq_true, if_true]
    refine gives_setLinkState_within hq hexec ?_ (by rw [hl]; decide) ?_
    · rcases s.restState_cases p.val with h | h | h <;> rw [h] <;> decide
    · rcases s.restState_cases p.val with h | h | h <;> rw [h] <;> decide
  case timeout => exact fun s p hq _ hl hc hfails => gives_trainingTimeout s p hq hl hc hfails
  case reaches =>
    exact fun s p viral r hq _ hl hphase hbypass hresize hidle hslow hr hrate =>
      gives_linkReachesL0 s p viral r hq hl hphase hbypass hresize hidle hslow hr hrate

end Sys2Proof.Machine

/-!
PROOF. A port error whose source is latched, a Stall that fails with others, and a port that is held (R109, R113, R116, R497).
-/
namespace Sys2Proof.Machine

/-! ## The slices on a port while other registers are written -/

theorem filter_tabErase {κ α : Type} [DecidableEq κ] {P : κ × α → Bool} {k : κ} (hP : ∀ v, P (k, v) = false) (t : List (κ × α)) :
    (tabErase k t).filter P = t.filter P := by
  rw [tabErase, List.filter_filter]
  refine List.filter_congr (fun e _ => ?_)
  by_cases h : e.1 = k
  · have he : P e = false := by simpa [← h] using hP e.2
    simp [he]
  · simp [h]

theorem filter_tabInsert {κ α : Type} (lt : κ → κ → Bool) {P : κ × α → Bool} {k : κ} {v : α} (hP : P (k, v) = false) (t : List (κ × α)) :
    (tabInsert lt k v t).filter P = t.filter P := by
  induction t with
  | nil => simp [tabInsert, hP]
  | cons e t ih =>
    cases hl : lt k e.1
    · simp [tabInsert, hl, List.filter_cons, ih]
    · simp [tabInsert, hl, List.filter_cons, hP]

/-- What a filter keeps of a table when a key that it drops is written. -/
theorem filter_tabPut {κ α : Type} [DecidableEq κ] [DecidableEq α] (lt : κ → κ → Bool) (d : α) {P : κ × α → Bool} {k : κ}
    (hP : ∀ v, P (k, v) = false) (v : α) (t : List (κ × α)) : (tabPut lt d k v t).filter P = t.filter P := by
  by_cases hv : v = d
  · rw [tabPut, if_pos hv, filter_tabErase hP]
  · rw [tabPut, if_neg hv, filter_tabInsert lt (hP v), filter_tabErase hP]

theorem State.slicesOn_put (s : State) {f : Fld} (hf : f.reg ≠ .STALL_SLICE) (v i j p : Nat) :
    (s.put f v i j).slicesOn p = s.slicesOn p :=
  congrArg (List.map _) (filter_tabPut Key.lt _ (fun _ => by simp [hf]) _ s.regs)

theorem State.slicesOn_regs {s t : State} (h : t.regs = s.regs) (p : Nat) : t.slicesOn p = s.slicesOn p := by
  rw [State.slicesOn, h, State.slicesOn]

/-- A port that no Stall lies on posts no record. -/
theorem State.postPort_unused (s : State) (p kind : Nat) (h : s.slicesOn p = []) : s.postPort p kind = s := by
  rw [State.postPort, h]
  rfl

/-! ## A port error whose source is latched (R116, R497) -/

/-- Bit `f` of a port's PORT_ERR is set and source `n`, latched before, counts once more. -/
structure ErrorCounted (s t : State) (f : Fld) (p n : Nat) : Prop where
  bit : t.flag f p = true
  keeps : KeepsRegs s t [⟨.PORT_ERR, p, 0⟩, ⟨.FC_SRC, n, 0⟩]
  slices : t.slicesOn p = s.slicesOn p
  frame : { t with regs := s.regs, agg := s.agg } = s

theorem State.setErr_latched (s : State) (f : Fld) (p n : Nat) (i : FaultInfo) (hreg : f.reg = .PORT_ERR)
    (h : s.flag F.FC_SRC_LATCHED n = true) :
    s.setErr f p n i = (s.put f 1 p).put F.FC_SRC_COUNT (saturated 8 (s.get F.FC_SRC_COUNT n) 1) n := by
  have hne : ∀ g : Fld, g.reg = .FC_SRC → (s.put f 1 p).get g n = s.get g n := fun g hg =>
    s.get_put_reg _ _ _ _ _ _ _ (by rw [hg, hreg]; decide)
  have hl : (s.put f 1 p).flag F.FC_SRC_LATCHED n = true := by
    rw [State.flag, hne _ rfl]
    exact h
  rw [State.setErr, State.raise_latched _ _ _ hl, hne _ rfl]

theorem State.setErr_counted (s : State) (f : Fld) (p n : Nat) (i : FaultInfo) (hreg : f.reg = .PORT_ERR) (hlo : f.lo < 64) (hw : f.w = 1)
    (h : s.flag F.FC_SRC_LATCHED n = true) : ErrorCounted s ((s.setErr f p n i).irqTouch p) f p n := by
  have hset := s.setErr_latched f p n i hreg h
  have honly : OnlyRegs s (s.setErr f p n i) [⟨.PORT_ERR, p, 0⟩, ⟨.FC_SRC, n, 0⟩] := by
    rw [hset]
    exact ((OnlyRegs.refl s _).put f _ _ _ (by simp [hreg])).put _ _ _ _ (.tail _ (.head _))
  have hbit : (s.setErr f p n i).get f p = 1 := by
    have hne : f.reg ≠ F.FC_SRC_COUNT.reg := by rw [hreg]; decide
    rw [hset, State.get_put_reg _ _ _ _ _ _ _ _ hne, s.get_put_lt f p 0 (by omega) (by rw [hw]; decide)]
  have hslices : (s.setErr f p n i).slicesOn p = s.slicesOn p := by
    rw [hset, State.slicesOn_put _ (by decide), State.slicesOn_put _ (by rw [hreg]; decide)]
  generalize s.setErr f p n i = u at honly hbit hslices
  have hregs := u.irqTouch_regs p
  refine ⟨?_, honly.1.regs hregs, (State.slicesOn_regs hregs p).trans hslices, ?_⟩
  · rw [State.flag, State.get_regs u _ hregs, hbit]
    rfl
  · exact (congrArg (fun x : State => { x with regs := s.regs, agg := s.agg }) (u.irqTouch_frame p)).trans
      (congrArg (fun x : State => { x with agg := s.agg }) honly.2)

theorem ErrorCounted.rest {s t : State} {f : Fld} {p n : Nat} (h : ErrorCounted s t f p n) :
    t.holds = s.holds ∧ t.lanes = s.lanes ∧ t.mem = s.mem ∧ t.msgs = s.msgs ∧ t.out = s.out ∧ t.todo = s.todo :=
  ⟨by have e := congrArg State.holds h.frame; exact e, by have e := congrArg State.lanes h.frame; exact e,
   by have e := congrArg State.mem h.frame; exact e, by have e := congrArg State.msgs h.frame; exact e,
   by have e := congrArg State.out h.frame; exact e, by have e := congrArg State.todo h.frame; exact e⟩

/-! ## Stalls that take one state (R113, R450) -/

/-- Every Stall of a list is in one state, and only sessions hear of it. -/
structure StallsRead (s t : State) (l : List Nat) (v : Nat) : Prop where
  reads : ∀ st ∈ l, t.stall st = v
  keeps : KeepsRegs s t (l.map (fun x => ⟨.STALL_STATE, x, 0⟩))
  frame : { t with regs := s.regs, sessions := s.sessions } = s

theorem OnlyRegs.event {s t : State} {ks : List Key} (h : OnlyRegs s t ks) (opcode : Nat) (l : List Nat) :
    KeepsRegs s (t.event opcode l) ks ∧ { t.event opcode l with regs := s.regs, sessions := s.sessions } = s :=
  ⟨h.1.regs rfl, congrArg (fun x : State => { x with sessions := s.sessions }) h.2⟩

theorem State.setStall_same (s : State) (st v : Nat) (h : s.stall st = v) : s.setStall st v = s := by
  simp [State.setStall, h]

theorem State.setStall_other (s : State) (st v : Nat) (h : s.stall st ≠ v) :
    s.setStall st v = (s.put F.STALL_STATE_STATE v st).event 0x02F0 [st, ((s.put F.STALL_STATE_STATE v st).rd .STALL_STATE st).toNat] :=
  if_neg (by simpa using h)

theorem State.stall_event (s : State) (opcode : Nat) (l : List Nat) (st : Nat) : (s.event opcode l).stall st = s.stall st := rfl

theorem State.stall_put (s : State) (st v : Nat) (hv : v < 16) : (s.put F.STALL_STATE_STATE v st).stall st = v :=
  s.get_put_lt F.STALL_STATE_STATE st 0 (by decide) hv

theorem State.setStall_reads (s : State) (st v : Nat) (hv : v < 16) : StallsRead s (s.setStall st v) [st] v := by
  by_cases h : s.stall st = v
  · rw [s.setStall_same st v h]
    exact ⟨fun x hx => by rw [List.mem_singleton.mp hx]; exact h, KeepsRegs.refl s _, rfl⟩
  · have hput : OnlyRegs s (s.put F.STALL_STATE_STATE v st) [⟨.STALL_STATE, st, 0⟩] := (OnlyRegs.refl s _).put _ _ _ _ (.head _)
    have hread := s.stall_put st v hv
    rw [s.setStall_other st v h]
    generalize s.put F.STALL_STATE_STATE v st = u at hput hread
    obtain ⟨hkeeps, hframe⟩ := hput.event 0x02F0 [st, (u.rd .STALL_STATE st).toNat]
    exact ⟨fun x hx => by rw [List.mem_singleton.mp hx, State.stall_event]; exact hread, hkeeps, hframe⟩

theorem StallsRead.cons {s t u : State} {x v : Nat} {l : List Nat} (h : StallsRead s t [x] v) (h' : StallsRead t u l v) :
    StallsRead s u (x :: l) v := by
  refine ⟨fun st hst => ?_, (h.keeps.mono ?_).trans (h'.keeps.mono (List.subset_cons_self _ _)), ?_⟩
  · by_cases hl : st ∈ l
    · exact h'.reads st hl
    · have hx : st = x := (List.mem_cons.mp hst).resolve_right hl
      have hkept : u.stall st = t.stall st := h'.keeps.get (f := F.STALL_STATE_STATE) (by simpa [F.STALL_STATE_STATE] using hl)
      exact hkept.trans (h.reads st (by simp [hx]))
  · exact List.cons_subset.mpr ⟨.head _, List.nil_subset _⟩
  · exact (congrArg (fun a : State => { a with regs := s.regs, sessions := s.sessions }) h'.frame).trans h.frame

theorem State.setStalls_read (l : List Nat) (s : State) (v : Nat) (hv : v < 16) :
    StallsRead s (l.foldl (fun s st => s.setStall st v) s) l v := by
  induction l generalizing s with
  | nil => exact ⟨fun _ h => absurd h List.not_mem_nil, KeepsRegs.refl s _, rfl⟩
  | cons x l ih => exact (s.setStall_reads x v hv).cons (ih _)

/-! ## A port is held (R109) -/

/-- A cause more for a port's hold. -/
def State.heldFor (s : State) (p : Nat) (c : HoldCause) : State := ({ s with holds := s.holds ++ [(p, c)] }).put F.PORT_STATUS_HELD 1 p

theorem State.heldFor_keeps (s : State) (p : Nat) (c : HoldCause) : KeepsRegs s (s.heldFor p c) [⟨.PORT_STATUS, p, 0⟩] :=
  KeepsRegs.put (t := { s with holds := s.holds ++ [(p, c)] }) (KeepsRegs.refl s _) _ _ _ _ (.head _)

theorem State.held_heldFor (s : State) (p : Nat) (c : HoldCause) : (s.heldFor p c).flag F.PORT_STATUS_HELD p = true := by
  rw [State.flag, State.heldFor, State.get_put_self _ _ _ _ _ (by decide)]
  rfl

theorem State.heldFor_rest (s : State) (p : Nat) (c : HoldCause) :
    (s.heldFor p c).holds = s.holds ++ [(p, c)] ∧ (s.heldFor p c).lanes = s.lanes ∧ (s.heldFor p c).mem = s.mem ∧
      (s.heldFor p c).msgs = s.msgs ∧ (s.heldFor p c).out = s.out ∧ (s.heldFor p c).todo = s.todo :=
  ⟨State.put_holds _ _ _ _ _, State.put_lanes _ _ _ _ _, State.put_mem _ _ _ _ _, State.put_msgs _ _ _ _ _, State.put_out _ _ _ _ _,
   State.put_todo _ _ _ _ _⟩

/-- A Host port with no message in the device has none to answer as its hold starts. -/
theorem State.holdStarts_host (s : State) (p : Nat) (hhost : s.isHostPort p = true) (hm : s.msgs = []) : s.holdStarts p = s := by
  have hcells : s.cellsLost p = s := by
    rw [State.cellsLost, hm, List.map_nil, ← hm]
  simp [State.holdStarts, hcells, hhost, hm, State.snoopsAbsent]

/-- An Insecure stream holds a Host port and leaves its link as it is. -/
theorem State.holdPort_insecure (s : State) (p : Nat) (hnew : s.holds.contains (p, .insecure) = false) (hhost : s.isHostPort p = true)
    (hm : s.msgs = []) : s.holdPort p .insecure = s.heldFor p .insecure := by
  have hrole : (s.heldFor p .insecure).role p = s.role p := (s.heldFor_keeps p .insecure).role (by simp) p
  obtain ⟨-, -, -, hmsgs, -, -⟩ := s.heldFor_rest p .insecure
  have hstarts := (s.heldFor p .insecure).holdStarts_host p ((State.isHostPort_of_role hrole).trans hhost) (hmsgs.trans hm)
  rw [State.heldFor] at hstarts ⊢
  simp only [State.holdPort, hnew, ideCause, Bool.true_or, Bool.false_eq_true, if_false, if_true, hstarts, ite_self]

/-- Where a port rests follows its role, its bond and what the PHY holds of it. -/
theorem KeepsRegs.restState {s t : State} {ks : List Key} (h : KeepsRegs s t ks) (hk : ∀ k ∈ ks, k.reg ≠ .PORT_CFG ∧ k.reg ≠ .BOND_CTRL)
    (hl : t.lanes = s.lanes) (p : Nat) : t.restState p = s.restState p := by
  have hget : t.get F.BOND_CTRL_BOND_ACTIVE p = s.get F.BOND_CTRL_BOND_ACTIVE p := h.get (fun hm => (hk _ hm).2 rfl)
  have hbond : t.bonded p = s.bonded p := by rw [State.bonded, State.flag, hget, State.bonded, State.flag]
  have hscan : t.scanned p = s.scanned p := by
    rw [State.scanned, State.portLanes, hbond, hl, State.scanned, State.portLanes]
  rw [State.restState, hscan, h.role hk, hl, State.restState]

/-- Viral moves the link of a port that was held already to where it rests. -/
theorem State.holdPort_viral (s : State) (p : Nat) (hnew : s.holds.contains (p, .viral) = false) (hheld : s.isHeld p = true)
    (hl : s.linkState p = lsL0) : s.holdPort p .viral = (s.heldFor p .viral).linkFalls p (s.restState p) := by
  have hkeeps := s.heldFor_keeps p .viral
  have hstate : (s.heldFor p .viral).linkState p = lsL0 := (hkeeps.linkState (by simp)).trans hl
  obtain ⟨-, hlanes, -⟩ := s.heldFor_rest p .viral
  have hrest : (s.heldFor p .viral).restState p = s.restState p := hkeeps.restState (by simp) hlanes p
  have hdisabled : (lsL0 == lsDisabled) = false := by decide
  have hdetect : (lsL0 == lsDetect) = false := by decide
  rw [State.heldFor] at hstate hrest ⊢
  simp only [State.holdPort, hnew, hheld, ideCause, hstate, hrest, hdisabled, hdetect, Bool.or_self, Bool.false_eq_true, if_false, if_true]

/-! ## The hold shows after the link fell (R83, R109) -/

theorem State.linkFalls_uncascaded_eq (s : State) (p v : Nat) (hc : (s.setLinkState p v).isCascade p = false) :
    s.linkFalls p v = (((s.setLinkState p v).unnegotiated p).unlinked p).eachLane p State.eqOff := by
  have honly := (((s.setLinkState p v).unnegotiated_onlyRegs p).unlinked p).trans
    ((State.eqOff_onlyRegs (((s.setLinkState p v).unnegotiated p).unlinked p) p).mono (fun k hk => .tail _ (.tail _ hk)))
  have hcascade := (State.isCascade_of_role (honly.1.role (fun _ => linkRegs_not_role) p)).trans hc
  rw [State.linkFalls_eq]
  simp only [hcascade, Bool.false_and, Bool.false_eq_true, if_false]

/-- A port whose link fell from a state shows its hold as before. -/
theorem State.linkFalls_held (s : State) (p v : Nat) (hc : (s.setLinkState p v).isCascade p = false) :
    (s.linkFalls p v).flag F.PORT_STATUS_HELD p = (s.setLinkState p v).flag F.PORT_STATUS_HELD p := by
  have hoff := (State.eqOff_onlyRegs (((s.setLinkState p v).unnegotiated p).unlinked p) p).1.get (f := F.PORT_STATUS_HELD) (i := p) (j := 0)
    (fun hm => by have hreg := eqRegs_reg hm; simp [F.PORT_STATUS_HELD] at hreg)
  rw [State.linkFalls_uncascaded_eq s p v hc, State.flag, hoff, State.get_unlinked, State.flag]
  simp (disch := decide) only [State.unnegotiated, State.get_put_of_apart]

/-- A link that fell from L0: the registers it may change, the hold it shows, and what it leaves alone. -/
structure LinkFell (s t : State) (p v : Nat) : Prop where
  linkState : t.linkState p = v
  held : t.flag F.PORT_STATUS_HELD p = s.flag F.PORT_STATUS_HELD p
  keeps : KeepsRegs s t (⟨.IA_PENDING, (96 + p) / 32, 0⟩ :: linkRegs p)
  holds : t.holds = s.holds
  mem : t.mem = s.mem
  out : t.out = s.out
  todo : t.todo = s.todo

theorem State.linkFalls_fell (s : State) (p v : Nat) (hv : v < 32) (hc : s.isCascade p = false)
    (hidle : s.flag F.MARGIN_STATUS_BUSY p = false) : LinkFell s (s.linkFalls p v) p v := by
  have hmove := s.setLinkState_moves p v hv (fun _ => hidle)
  have hcascade := (State.isCascade_of_role (hmove.keeps.role (by simp) p)).trans hc
  obtain ⟨honly, hstate, -⟩ := s.linkFalls_uncascaded p v hcascade
  have hheld := s.linkFalls_held p v hcascade
  generalize s.setLinkState p v = u at hmove honly hstate hheld
  generalize s.linkFalls p v = t at honly hstate hheld
  obtain ⟨hmem, -, hout, htodo⟩ := hmove.frame.rest
  have hholds : u.holds = s.holds := by have e := congrArg State.holds hmove.frame; exact e
  have hkept : u.flag F.PORT_STATUS_HELD p = s.flag F.PORT_STATUS_HELD p := by
    rw [State.flag, hmove.keeps.get (by simp [F.PORT_STATUS_HELD]), State.flag]
  have hfall : KeepsRegs u t (linkRegs p) := honly.1.congr rfl rfl
  refine ⟨hstate.trans hmove.linkState, hheld.trans hkept,
    (hmove.keeps.mono ?_).trans (hfall.mono (List.subset_cons_self _ _)), (honly.unseen State.holds (fun _ _ => rfl)).trans hholds,
    (honly.unseen State.mem (fun _ _ => rfl)).trans hmem, (honly.unseen State.out (fun _ _ => rfl)).trans hout, honly.todo.trans htodo⟩
  exact List.cons_subset.mpr ⟨.tail _ (.head _), List.cons_subset.mpr ⟨.head _, List.nil_subset _⟩⟩

end Sys2Proof.Machine

/-!
PROOF. Integrity and data encryption, and Viral: a failed MAC check, keys, a rollover, and Viral from a device and from a host
(R103, R105, R113).
-/
namespace Sys2Proof.Machine

/-! ## A failed MAC check (R105) -/

/-- Received data of a port that waits for its MAC is discarded. -/
def State.unspanned (s : State) (p : Nat) : State := { s with spans := s.spans.filter (fun e => e.1 != p) }

theorem State.unspanned_regs (s : State) (p : Nat) : (s.unspanned p).regs = s.regs := rfl
theorem State.unspanned_rest (s : State) (p : Nat) :
    (s.unspanned p).holds = s.holds ∧ (s.unspanned p).msgs = s.msgs ∧ (s.unspanned p).out = s.out ∧ (s.unspanned p).todo = s.todo :=
  ⟨rfl, rfl, rfl, rfl⟩

/-- The receive stream of a port after a failed MAC check: Insecure and counted. -/
def State.macCounted (s : State) (p : Nat) : State :=
  (s.put F.IDE_STATUS_RX 3 p).put F.IDE_STATUS_MAC (saturated 16 (s.get F.IDE_STATUS_MAC p) 1) p

theorem State.macCounted_onlyRegs (s : State) (p : Nat) : OnlyRegs s (s.macCounted p) [⟨.IDE_STATUS, p, 0⟩] :=
  ((OnlyRegs.refl s _).put _ _ _ _ (.head _)).put _ _ _ _ (.head _)

theorem State.macCounted_reads (s : State) (p : Nat) :
    (s.macCounted p).get F.IDE_STATUS_RX p = 3 ∧ (s.macCounted p).get F.IDE_STATUS_MAC p = saturated 16 (s.get F.IDE_STATUS_MAC p) 1 :=
  ⟨(State.get_put_of_apart _ (by decide) _ _ _ _ _).trans (s.get_put_lt F.IDE_STATUS_RX p 0 (by decide) (by decide)),
   State.get_put_lt _ F.IDE_STATUS_MAC p 0 (by decide) (saturated_lt _ _ _)⟩

/-- A port whose receive stream failed a MAC check (R105). -/
def State.macFailed (s : State) (p : Nat) : State := (s.macCounted p).unspanned p

theorem State.macFailed_keeps (s : State) (p : Nat) : KeepsRegs s (s.macFailed p) [⟨.IDE_STATUS, p, 0⟩] :=
  (s.macCounted_onlyRegs p).1.regs ((s.macCounted p).unspanned_regs p)

theorem State.macFailed_get (s : State) (p : Nat) (f : Fld) : (s.macFailed p).get f p = (s.macCounted p).get f p :=
  State.get_regs _ _ ((s.macCounted p).unspanned_regs p) _ _ _

theorem State.macFailed_rest (s : State) (p : Nat) :
    (s.macFailed p).holds = s.holds ∧ (s.macFailed p).msgs = s.msgs ∧ (s.macFailed p).out = s.out ∧ (s.macFailed p).todo = s.todo := by
  have honly := s.macCounted_onlyRegs p
  obtain ⟨hholds, hmsgs, hout, htodo⟩ := (s.macCounted p).unspanned_rest p
  exact ⟨hholds.trans (honly.unseen State.holds (fun _ _ => rfl)), hmsgs.trans (honly.unseen State.msgs (fun _ _ => rfl)),
    hout.trans (honly.unseen State.out (fun _ _ => rfl)), htodo.trans honly.todo⟩

theorem exec_ideMacFailure {s : State} {p : Port} (hf : Frozen s) (hrx : s.get F.IDE_STATUS_RX p.val = 2) :
    exec (.ideMacFailure p true .mac) s = done (((s.macFailed p.val).portErr F.PORT_ERR_IDE_FAIL p.val).holdPort p.val .insecure) := by
  have hmac : ((s.put F.IDE_STATUS_RX 3 p.val).bump F.IDE_STATUS_MAC 1 p.val).count p.val 10 1 = s.macCounted p.val := by
    rw [State.bump_unwatched _ _ _ _ _ rfl, State.get_put_of_apart _ (by decide)]
    exact State.count_frozen _ _ _ _ ((s.macCounted_onlyRegs p.val).1.frozen (by simp) hf)
  show execIdeMacFailure p true .mac s = _
  simp only [execIdeMacFailure, hrx, beq_self_eq_true, if_true, hmac]
  rfl

theorem gives_ideMacFailure (s : State) (p : Port) (hq : Quiet s) (hf : Frozen s) (hhost : s.isHostPort p.val = true)
    (hrx : s.get F.IDE_STATUS_RX p.val = 2) (hm : s.msgs = []) (hl : s.flag F.FC_SRC_LATCHED (8 * p.val + 2) = true)
    (hnew : s.holds.contains (p.val, .insecure) = false) :
    Gives (.ideMacFailure p true .mac) s (fun t => t.get F.IDE_STATUS_RX p.val = 3 ∧
      t.get F.IDE_STATUS_MAC p.val = saturated 16 (s.get F.IDE_STATUS_MAC p.val) 1 ∧ t.flag F.PORT_ERR_IDE_FAIL p.val = true ∧
      t.holds = s.holds ++ [(p.val, .insecure)] ∧ t.flag F.PORT_STATUS_HELD p.val = true ∧ t.linkState p.val = s.linkState p.val ∧
      t.msgs = s.msgs ∧ t.out = s.out) := by
  have hexec := exec_ideMacFailure hf hrx
  have hkeeps := s.macFailed_keeps p.val
  obtain ⟨hread, hmac⟩ := s.macCounted_reads p.val
  obtain ⟨hholds, hmsgs, hout, htodo⟩ := s.macFailed_rest p.val
  have hlatched : (s.macFailed p.val).flag F.FC_SRC_LATCHED (8 * p.val + 2) = true := by
    rw [State.flag, hkeeps.get (by simp [F.FC_SRC_LATCHED])]
    exact hl
  have herr : ErrorCounted (s.macFailed p.val) ((s.macFailed p.val).portErr F.PORT_ERR_IDE_FAIL p.val) F.PORT_ERR_IDE_FAIL p.val
      (8 * p.val + 2) := (s.macFailed p.val).setErr_counted _ _ _ _ rfl (by decide) rfl hlatched
  generalize (s.macFailed p.val).portErr F.PORT_ERR_IDE_FAIL p.val = b at hexec herr
  obtain ⟨hholds', -, -, hmsgs', hout', htodo'⟩ := herr.rest
  have hsb : KeepsRegs s b [⟨.IDE_STATUS, p.val, 0⟩, ⟨.PORT_ERR, p.val, 0⟩, ⟨.FC_SRC, 8 * p.val + 2, 0⟩] :=
    (hkeeps.mono (by simp)).trans (herr.keeps.mono (List.subset_cons_self _ _))
  have hhostb : b.isHostPort p.val = true := (State.isHostPort_of_role (hsb.role (by simp) p.val)).trans hhost
  rw [b.holdPort_insecure p.val (by rw [hholds', hholds]; exact hnew) hhostb (hmsgs'.trans (hmsgs.trans hm))] at hexec
  have hheld := b.heldFor_keeps p.val .insecure
  have hide : ∀ f : Fld, f.reg = .IDE_STATUS → (b.heldFor p.val .insecure).get f p.val = (s.macCounted p.val).get f p.val := fun f hreg =>
    ((hheld.get (by simp [hreg])).trans (herr.keeps.get (by simp [hreg]))).trans (s.macFailed_get p.val f)
  have hshown := b.held_heldFor p.val .insecure
  obtain ⟨hcause, -, -, hmsgs'', hout'', htodo''⟩ := b.heldFor_rest p.val .insecure
  generalize b.heldFor p.val .insecure = t at hexec hheld hide hshown hcause hmsgs'' hout'' htodo''
  refine Gives.of_done hexec (htodo''.trans (htodo'.trans (htodo.trans hq))) ⟨(hide F.IDE_STATUS_RX rfl).trans hread,
    (hide F.IDE_STATUS_MAC rfl).trans hmac, ?_, ?_, hshown, ?_, hmsgs''.trans (hmsgs'.trans hmsgs), hout''.trans (hout'.trans hout)⟩
  · rw [State.flag, hheld.get (by simp [F.PORT_ERR_IDE_FAIL])]
    exact herr.bit
  · rw [hcause, hholds', hholds]
  · exact (hheld.linkState (by simp)).trans (hsb.linkState (by simp))

/-! ## Keys (R103, R105) -/

/-- A port with a key set programmed into each stream. -/
def State.keyed (s : State) (p : Nat) : State := ((s.spdmOpen p).put F.IDE_STATUS_RX 2 p).put F.IDE_STATUS_TX 2 p

theorem State.keyed_onlyRegs (s : State) (p : Nat) : OnlyRegs (s.spdmOpen p) (s.keyed p) [⟨.IDE_STATUS, p, 0⟩] :=
  ((OnlyRegs.refl _ _).put _ _ _ _ (.head _)).put _ _ _ _ (.head _)

theorem State.keyed_reads (s : State) (p : Nat) :
    (s.keyed p).get F.IDE_STATUS_RX p = 2 ∧ (s.keyed p).get F.IDE_STATUS_TX p = 2 :=
  ⟨(State.get_put_of_apart _ (by decide) _ _ _ _ _).trans (State.get_put_lt _ F.IDE_STATUS_RX p 0 (by decide) (by decide)),
   State.get_put_lt _ F.IDE_STATUS_TX p 0 (by decide) (by decide)⟩

theorem State.spdmOpen_session (s : State) (p : Nat) : (s.spdmOpen p).sec.spdm.contains p = true := by
  simp [State.spdmOpen]

theorem State.secure_of_reads {s : State} {p : Nat} (h : s.get F.IDE_STATUS_RX p = 2 ∧ s.get F.IDE_STATUS_TX p = 2) : s.secure p = true := by
  simp [State.secure, h]

/-- The end of some causes of a hold shows in PORT_STATUS only. -/
theorem State.unhold_keeps (s : State) (p : Nat) (f : HoldCause → Bool) : KeepsRegs s (s.unhold p f) [⟨.PORT_STATUS, p, 0⟩] :=
  KeepsRegs.put (t := { s with holds := s.holds.filter (fun e => !(e.1 == p && f e.2)) }) (KeepsRegs.refl s _) _ _ _ _ (.head _)

theorem State.unhold_rest (s : State) (p : Nat) (f : HoldCause → Bool) :
    (s.unhold p f).sec = s.sec ∧ (s.unhold p f).msgs = s.msgs ∧ (s.unhold p f).out = s.out ∧ (s.unhold p f).todo = s.todo :=
  ⟨State.putFlag_sec _ _ _ _ _, State.putFlag_msgs _ _ _ _ _, State.putFlag_out _ _ _ _ _, State.putFlag_todo _ _ _ _ _⟩

theorem State.unhold_ends (s : State) (p : Nat) (f : HoldCause → Bool) (c : HoldCause) (h : f c = true) :
    (s.unhold p f).holds.contains (p, c) = false := by
  simp [State.unhold, h]

theorem gives_ideKeyProgram (s : State) (p : Port) (hq : Quiet s) (htamper : s.flag F.TAMPER_STATUS_TAMPER_LATCHED = false)
    (hide : s.hasIde p.val = true) (hen : s.flag F.IDE_CTRL_EN p.val = true) :
    Gives (.ideKeyProgram p true true) s (fun t => t.secure p.val = true ∧ t.get F.IDE_STATUS_RX p.val = 2 ∧
      t.get F.IDE_STATUS_TX p.val = 2 ∧ t.sec.spdm.contains p.val = true ∧ t.holds.contains (p.val, .insecure) = false ∧
      KeepsRegs s t [⟨.IDE_STATUS, p.val, 0⟩, ⟨.PORT_STATUS, p.val, 0⟩] ∧ t.msgs = s.msgs ∧ t.out = s.out) := by
  have hreads := s.keyed_reads p.val
  have hexec : exec (.ideKeyProgram p true true) s = done ((s.keyed p.val).unhold p.val (fun c => decide (c = .insecure))) := by
    have hsettle : (s.keyed p.val).ideSettle p.val = (s.keyed p.val).unhold p.val (fun c => decide (c = .insecure)) := by
      rw [State.ideSettle, State.secure_of_reads hreads, if_pos rfl]
    rw [← hsettle]
    show execIdeKeyProgram p true true s = _
    simp only [execIdeKeyProgram, htamper, hide, hen, Bool.and_self, Bool.false_eq_true, if_false, if_true]
    rfl
  have hends := (s.keyed p.val).unhold_ends p.val (fun c => decide (c = .insecure)) .insecure (by decide)
  have hunhold := (s.keyed p.val).unhold_keeps p.val (fun c => decide (c = .insecure))
  obtain ⟨hsec, hmsgs', hout', htodo'⟩ := (s.keyed p.val).unhold_rest p.val (fun c => decide (c = .insecure))
  generalize (s.keyed p.val).unhold p.val (fun c => decide (c = .insecure)) = t at hexec hends hunhold hsec hmsgs' hout' htodo'
  have hkeyed := s.keyed_onlyRegs p.val
  have hopen := s.spdmOpen_session p.val
  have hspdm : (s.keyed p.val).sec = (s.spdmOpen p.val).sec := hkeyed.unseen State.sec (fun _ _ => rfl)
  have hmsgs : (s.keyed p.val).msgs = s.msgs := hkeyed.unseen State.msgs (fun _ _ => rfl)
  have hout : (s.keyed p.val).out = s.out := hkeyed.unseen State.out (fun _ _ => rfl)
  have hkeeps : KeepsRegs s (s.keyed p.val) [⟨.IDE_STATUS, p.val, 0⟩] := hkeyed.1.congr rfl rfl
  have hreads' : t.get F.IDE_STATUS_RX p.val = 2 ∧ t.get F.IDE_STATUS_TX p.val = 2 :=
    ⟨(hunhold.get (by simp [F.IDE_STATUS_RX])).trans hreads.1, (hunhold.get (by simp [F.IDE_STATUS_TX])).trans hreads.2⟩
  exact Gives.of_done hexec (htodo'.trans (hkeyed.todo.trans hq)) ⟨State.secure_of_reads hreads', hreads'.1, hreads'.2,
    by rw [hsec, hspdm]; exact hopen, hends, (hkeeps.mono (by simp)).trans (hunhold.mono (by simp)), hmsgs'.trans hmsgs, hout'.trans hout⟩

/-- The window in which the old keys of a port are still checked (R103). -/
def State.oldKept (s : State) (p : Nat) : State := { s with oldKeys := s.oldKeys.filter (fun x => x != p) ++ [p] }

theorem State.oldKept_contains (s : State) (p : Nat) : (s.oldKept p).oldKeys.contains p = true := by
  simp [State.oldKept]

theorem State.get_oldKept (s : State) (p : Nat) (f : Fld) (i j : Nat) : (s.oldKept p).get f i j = s.get f i j := rfl
theorem State.todo_oldKept (s : State) (p : Nat) : (s.oldKept p).todo = s.todo := rfl

theorem OnlyRegs.oldKept {s t : State} {ks : List Key} (h : OnlyRegs s t ks) (p : Nat) :
    KeepsRegs s (t.oldKept p) ks ∧ { t.oldKept p with regs := s.regs, oldKeys := s.oldKeys } = s :=
  ⟨h.1.regs rfl, congrArg (fun x : State => { x with oldKeys := s.oldKeys }) h.2⟩

theorem State.rolledOver_onlyRegs (s : State) (p : Nat) : OnlyRegs s (s.bumpWrap F.IDE_STATUS_ROLLOVERS 1 p) [⟨.IDE_STATUS, p, 0⟩] :=
  (OnlyRegs.refl s _).put _ _ _ _ (.head _)

theorem State.rolledOver_count (s : State) (p : Nat) :
    (s.bumpWrap F.IDE_STATUS_ROLLOVERS 1 p).get F.IDE_STATUS_ROLLOVERS p = (s.get F.IDE_STATUS_ROLLOVERS p + 1) % 256 :=
  s.get_put_self F.IDE_STATUS_ROLLOVERS _ p 0 (by decide)

theorem exec_keyRollover {s : State} {p : Port} (htamper : s.flag F.TAMPER_STATUS_TAMPER_LATCHED = false)
    (hsecure : s.secure p.val = true) (hspdm : s.sec.spdm.contains p.val = true) :
    exec (.keyRollover p) s = done ((s.bumpWrap F.IDE_STATUS_ROLLOVERS 1 p.val).oldKept p.val) := by
  show execKeyRollover p s = _
  simp only [execKeyRollover, htamper, hsecure, hspdm, Bool.not_true, Bool.or_self, Bool.false_eq_true, if_false, if_true]
  rfl

theorem gives_keyRollover (s : State) (p : Port) (hq : Quiet s) (htamper : s.flag F.TAMPER_STATUS_TAMPER_LATCHED = false)
    (hsecure : s.secure p.val = true) (hspdm : s.sec.spdm.contains p.val = true) :
    Gives (.keyRollover p) s (fun t => t.get F.IDE_STATUS_ROLLOVERS p.val = (s.get F.IDE_STATUS_ROLLOVERS p.val + 1) % 256 ∧
      t.oldKeys.contains p.val = true ∧ KeepsRegs s t [⟨.IDE_STATUS, p.val, 0⟩] ∧ { t with regs := s.regs, oldKeys := s.oldKeys } = s) := by
  have hexec := exec_keyRollover htamper hsecure hspdm
  have honly := s.rolledOver_onlyRegs p.val
  obtain ⟨hkeeps, hframe⟩ := honly.oldKept p.val
  exact Gives.of_done hexec ((State.todo_oldKept _ _).trans (honly.todo.trans hq))
    ⟨(State.get_oldKept _ _ _ _ _).trans (s.rolledOver_count p.val), State.oldKept_contains _ _, hkeeps, hframe⟩

/-! ## Viral (R113) -/

theorem gives_viralReceived (s : State) (p : Port) (hq : Quiet s) (hrole : s.role p.val = 3 ∨ s.role p.val = 4)
    (hslices : s.slicesOn p.val = []) (hlatched : s.flag F.FC_SRC_LATCHED (8 * p.val + 3) = true) (hheld : s.isHeld p.val = true)
    (hnew : s.holds.contains (p.val, .viral) = false) (hl : s.linkState p.val = lsL0) (hidle : s.flag F.MARGIN_STATUS_BUSY p.val = false) :
    Gives (.viralReceived p) s (fun t => t.flag F.PORT_ERR_VIRAL_RX p.val = true ∧ t.holds = s.holds ++ [(p.val, .viral)] ∧
      t.flag F.PORT_STATUS_HELD p.val = true ∧ t.linkState p.val = s.restState p.val ∧ t.mem = s.mem ∧ t.out = s.out) := by
  have hexec : exec (.viralReceived p) s = done (((s.portErr F.PORT_ERR_VIRAL_RX p.val).postPort p.val 2).holdPort p.val .viral) := by
    show execViralReceived p s = _
    have hmemory : (s.role p.val == 3 || s.role p.val == 4) = true := by simpa using hrole
    simp only [execViralReceived, hmemory, if_true]
  have herr : ErrorCounted s (s.portErr F.PORT_ERR_VIRAL_RX p.val) F.PORT_ERR_VIRAL_RX p.val (8 * p.val + 3) :=
    s.setErr_counted _ _ _ _ rfl (by decide) rfl hlatched
  generalize s.portErr F.PORT_ERR_VIRAL_RX p.val = b at hexec herr
  obtain ⟨hholds, hlanes, hmem, -, hout, htodo⟩ := herr.rest
  rw [b.postPort_unused p.val 2 (herr.slices.trans hslices), b.holdPort_viral p.val (by rw [hholds]; exact hnew)
    (by rw [State.isHeld, hholds]; exact hheld) ((herr.keeps.linkState (by simp)).trans hl),
    herr.keeps.restState (by simp) hlanes] at hexec
  have hfor := b.heldFor_keeps p.val .viral
  have hcascade : (b.heldFor p.val .viral).isCascade p.val = false := by
    rw [State.isCascade, hfor.role (by simp), herr.keeps.role (by simp)]
    rcases hrole with h | h <;> rw [h] <;> rfl
  have hmargin : (b.heldFor p.val .viral).flag F.MARGIN_STATUS_BUSY p.val = false := by
    rw [State.flag, hfor.get (by simp [F.MARGIN_STATUS_BUSY]), herr.keeps.get (by simp [F.MARGIN_STATUS_BUSY])]
    exact hidle
  have hrest : s.restState p.val < 32 := by
    rcases s.restState_cases p.val with h | h | h <;> rw [h] <;> decide
  have hshown := b.held_heldFor p.val .viral
  obtain ⟨hcause, -, hmem', -, hout', htodo'⟩ := b.heldFor_rest p.val .viral
  have hfell := (b.heldFor p.val .viral).linkFalls_fell p.val (s.restState p.val) hrest hcascade hmargin
  generalize (b.heldFor p.val .viral).linkFalls p.val (s.restState p.val) = t at hexec hfell
  refine Gives.of_done hexec (hfell.todo.trans (htodo'.trans (htodo.trans hq))) ⟨?_, by rw [hfell.holds, hcause, hholds],
    hfell.held.trans hshown, hfell.linkState, hfell.mem.trans (hmem'.trans hmem), hfell.out.trans (hout'.trans hout)⟩
  have herrReg : (⟨.PORT_ERR, p.val, 0⟩ : Key) ∉ (⟨.IA_PENDING, (96 + p.val) / 32, 0⟩ :: linkRegs p.val : List Key) := fun hmem => by
    have hreg := linkRegs_reg ((List.mem_cons.mp hmem).resolve_left (by simp))
    simp at hreg
  rw [State.flag, hfell.keeps.get herrReg, hfor.get (by simp [F.PORT_ERR_VIRAL_RX])]
  exact herr.bit

theorem gives_viralFromHost (s : State) (p : Port) (st : StallId) (hq : Quiet s) (hhost : s.isHostPort p.val = true)
    (hst : (s.stallsOf (s.get F.PORT_CFG_HOST_ID p.val)).contains st.val = true) :
    Gives (.viralFromHost p) s (fun t => t.stall st.val = stFailed ∧
      KeepsRegs s t ((s.stallsOf (s.get F.PORT_CFG_HOST_ID p.val)).map (fun x => ⟨.STALL_STATE, x, 0⟩)) ∧
      { t with regs := s.regs, sessions := s.sessions } = s) := by
  generalize hstalls : s.stallsOf (s.get F.PORT_CFG_HOST_ID p.val) = l at hst ⊢
  have hexec : exec (.viralFromHost p) s = done (l.foldl (fun s st => s.setStall st stFailed) s) := by
    show execViralFromHost p s = _
    rw [execViralFromHost, hhost, if_pos rfl, hstalls]
  obtain ⟨hreads, hkeeps, hframe⟩ := State.setStalls_read l s stFailed (by decide)
  have htodo := congrArg State.todo hframe
  exact Gives.of_done hexec (htodo.trans hq) ⟨hreads st.val (List.contains_iff_mem.mp hst), hkeeps, hframe⟩

/-! ## The statement -/

/-- Settles O9: each command's effect is written out by the lemma about its path; a hold leaves the link as it is for an Insecure stream
and moves it to rest for Viral. -/
theorem keysAndViral : Obligations.KeysAndViral := by
  unfold Obligations.KeysAndViral
  refine ⟨?macFailure, ?keys, ?rollover, ?windowEnd, ?viral, ?fromHost⟩
  case macFailure => exact fun s p hq hf hhost hrx hm hl hnew => gives_ideMacFailure s p hq hf hhost hrx hm hl hnew
  case keys => exact fun s p hq _ htamper hide hen => gives_ideKeyProgram s p hq htamper hide hen
  case rollover => exact fun s p hq _ htamper hsecure hspdm => gives_keyRollover s p hq htamper hsecure hspdm
  case windowEnd =>
    intro s p hq _
    have hexec : exec (.oldKeyWindowEnd p) s = done { s with oldKeys := s.oldKeys.filter (fun x => x != p.val) } := rfl
    exact Gives.of_done hexec hq ⟨rfl, rfl⟩
  case viral =>
    exact fun s p hq _ hrole hslices hlatched hheld hnew hl hidle =>
      gives_viralReceived s p hq hrole hslices hlatched hheld hnew hl hidle
  case fromHost => exact fun s p st hq _ hhost hst => gives_viralFromHost s p st hq hhost hst

end Sys2Proof.Machine

/-!
PROOF. A message of the Hearth whose data block holds nothing, which a Seam channel sends with a block cell (R122, R149).
-/
namespace Sys2Proof.Machine

/-- A class 9 message with one block and no data, as the Hearth's own messages are, bound from West for port 7. -/
def bareBlockMsg : Msg := { id := 5, cls := 9, op := .mgmt, input := 95, dst := 7, half := 1, charge := .staging, blocks := 1 }

/-- Seam channel 15, Active with credit for the message, which is its only head; the counter units are frozen. -/
def bareBlockWaits : State :=
  { regs := [(⟨.LL_STATUS, 111, 0⟩, 0x40000000), (⟨.PMU_GLOBAL, 0, 0⟩, 0x80000000)], links := [(111, { peerA := [1, 1, 0, 0] })],
    msgs := [bareBlockMsg] }

/-- Channel 15 of West. -/
def westLastChannel : LinkId := 111

/-- The channel may send the message at once. -/
theorem bareBlockWaits_may_send :
    Frozen bareBlockWaits ∧ isSeam westLastChannel.val = true ∧
      bareBlockWaits.get F.LL_STATUS_STATE westLastChannel.val = linkActive ∧
      bareBlockWaits.seamHeads westLastChannel.val = [bareBlockMsg] ∧
      bareBlockWaits.mayAsk westLastChannel.val bareBlockMsg.cls bareBlockMsg.blocks = true ∧
      bareBlockWaits.replayRoom westLastChannel.val carriedWords bareBlockMsg.blocks = true ∧
      bareBlockWaits.flag F.LL_INJECT_ARM westLastChannel.val = false ∧
      (bareBlockWaits.link westLastChannel.val).injectHeld = none := by
  decide +kernel

/-- The flit that goes out carries the cell of the block, whose CRC-32 begins at byte 88. -/
theorem bareBlockWaits_sends_cell :
    (((bareBlockWaits.flitPeriod westLastChannel.val).settle.link westLastChannel.val).replay.getLast?.map Flit.body).map
      (fun b => b.bytes[88]?) = some (some 174) := by
  decide +kernel

/-- The message without cells ends before byte 88, where the flit holds padding. -/
theorem bareBlockMsg_without_cells_padded :
    (padTo 480 (WireMsg.bytes (bareBlockWaits.wire bareBlockMsg (wirePort bareBlockMsg.dst) [])))[88]? = some 0 := by
  decide +kernel

/-- A Seam channel's flit period is what the command runs. -/
theorem exec_linkMessageSend_seam (s : State) {l : LinkId} (h : isSeam l.val = true) :
    exec (.linkMessageSend l) s = done (s.flitPeriod l.val) := by
  show execLinkMessageSend l s = _
  rw [execLinkMessageSend, h, Bool.true_or, if_pos rfl]

/-- Refutes O4: the clause for a Seam channel's first head admits a message with a block and no data, and says it goes out
without cells; its block goes out as a cell of zeros under a CRC-32. -/
theorem not_linkFlitsAndTimers : ¬ Obligations.LinkFlitsAndTimers := by
  unfold Obligations.LinkFlitsAndTimers
  rintro ⟨-, -, -, -, -, -, send, -⟩
  obtain ⟨hfrozen, hseam, hactive, hheads, hask, hroom, harm, hheld⟩ := bareBlockWaits_may_send
  obtain ⟨t, hexec, -, -, hbody, -⟩ := send bareBlockWaits westLastChannel bareBlockMsg [] rfl hfrozen hseam hactive hheads hask
    hroom rfl rfl rfl rfl rfl rfl harm hheld
  rw [exec_linkMessageSend_seam _ hseam] at hexec
  obtain rfl : (bareBlockWaits.flitPeriod westLastChannel.val).settle = t := Host.Outcome.next.inj hexec
  have hbyte := bareBlockWaits_sends_cell
  rw [hbody, Option.map_some, FlitBody.bytes, bareBlockMsg_without_cells_padded] at hbyte
  exact absurd hbyte (by decide)

end Sys2Proof.Machine

/-!
PROOF. A poisoned write towards the far half, which starts a reaction of the fault collector before it is settled (R252, R501).
-/
namespace Sys2Proof.Machine

/-- A session with every permission, and a sequence record that stands at 4. -/
def poisonSession : Session :=
  { id := 9, credential := 3, perms := ⟨true, true, true, true, true⟩, source := .udp 7 1024, high := 4, record := [4] }

/-- The next packet of that session. -/
def poisonHdr : EcpHdr := { sess := 9, seq := 5, src := .udp 7 1024, tagOk := true, paramErr := none }

/-- Stall 5 is defined with one slice, whose entry names port 127; the Flue link of West is lost, and the source of a lost
message there reacts with Ash. -/
def stallBehindLostFlue : State :=
  { sessions := [poisonSession]
    regs := [(⟨.STALL_CTRL, 5, 0⟩, 0x80000000), (⟨.STALL_LAYOUT, 5, 0⟩, 1), (⟨.STALL_SLICE, 5, 0⟩, 0x807F000000000000),
             (⟨.FC_SRC, 781, 0⟩, 4), (⟨.PMU_GLOBAL, 0, 0⟩, 0x80000000)]
    txns := { lost := [1] } }

/-- The state that the statement names: the write of the poisoned line has gone out, and no reaction has been taken. -/
def stallBehindLostFlue_written : State :=
  stallBehindLostFlue.hearthWrite (stallBehindLostFlue.stallLine 5 0).1 (stallBehindLostFlue.stallLine 5 0).2
    (List.replicate 64 0) true

/-- The command is admitted and the line may be poisoned. -/
theorem stallBehindLostFlue_admits :
    Frozen stallBehindLostFlue ∧ Takes stallBehindLostFlue poisonHdr poisonSession ∧ stallBehindLostFlue.debugAllowed = true ∧
      stallBehindLostFlue.flag F.STALL_CTRL_DEFINED 5 = true ∧ stallBehindLostFlue.inStall 5 0 = true ∧
      stallBehindLostFlue.flag F.STALL_CTRL_SEALED 5 = false := by
  decide +kernel

/-- The write is lost at the Flue link, and the reaction to that still waits. -/
theorem stallBehindLostFlue_written_todo : stallBehindLostFlue_written.todo = [.ash] := by
  decide +kernel

/-- No reaction waits in a state that a command answers. -/
theorem todo_of_done {u t : State} (h : done u = .next t) : t.todo = [] := by
  obtain rfl : u.settle = t := Host.Outcome.next.inj h
  exact u.settle_todo

/-- Refutes O45: the clause for a poisoned line says that the answered state is that of the line's write, before it is settled. Where
the write is lost at a Flue link whose source reacts with Ash, that state has a reaction under way, and no answered state has. -/
theorem not_firmwareAndDebugCommands : ¬ Obligations.FirmwareAndDebugCommands := by
  unfold Obligations.FirmwareAndDebugCommands
  rintro ⟨-, -, -, -, -, -, -, -, -, poison⟩
  obtain ⟨hfrozen, htakes, hdebug, hdefined, hin, hsealed⟩ := stallBehindLostFlue_admits
  obtain ⟨t, hexec, -, hsame⟩ := poison stallBehindLostFlue poisonHdr poisonSession 5 0 rfl hfrozen htakes rfl hdebug hdefined
    hin hsealed
  have hwritten : t.todo = [.ash] := (congrArg State.todo hsame).trans stallBehindLostFlue_written_todo
  rw [todo_of_done hexec] at hwritten
  exact absurd hwritten (by decide)

end Sys2Proof.Machine

/-!
PROOF. The link layers of the state, and the flits that a link sends past its injector or that the injector drops (R119, R130, R139,
R158).
-/
namespace Sys2Proof.Machine

/-! ## Link layers -/

@[simp] theorem State.link_setLink_self (s : State) (l : Nat) (x : Link) : (s.setLink l x).link l = x := numGet_put_self _ _ _ _

theorem State.link_setLink_ne (s : State) {l l' : Nat} (h : l' ≠ l) (x : Link) : (s.setLink l x).link l' = s.link l' :=
  numGet_put_ne _ h _ _

@[simp] theorem State.get_setLink (s : State) (l : Nat) (x : Link) (f : Fld) (i j : Nat) : (s.setLink l x).get f i j = s.get f i j := rfl
@[simp] theorem State.flag_setLink (s : State) (l : Nat) (x : Link) (f : Fld) (i j : Nat) :
    (s.setLink l x).flag f i j = s.flag f i j := rfl
@[simp] theorem State.todo_setLink (s : State) (l : Nat) (x : Link) : (s.setLink l x).todo = s.todo := rfl
@[simp] theorem State.link_put (s : State) (f : Fld) (v i j l : Nat) : (s.put f v i j).link l = s.link l := rfl

theorem KeepsRegs.setLink {s t : State} {ks : List Key} (h : KeepsRegs s t ks) (l : Nat) (x : Link) : KeepsRegs s (t.setLink l x) ks :=
  h.regs rfl

theorem isSeam_port (p : Port) : isSeam p.val = false := decide_eq_false (by omega)

/-- The two ends of a Seam channel are not the same (R151). -/
theorem seamPeer_ne {l : Nat} (h : isSeam l = true) (hl : l < 112) : seamPeer l ≠ l := by
  have hs : 96 ≤ l := of_decide_eq_true h
  simp only [seamPeer, seamHalf]
  omega

/-- A Seam channel runs native mode, in which no XOFF is sent (R143, R144). -/
theorem State.linkVersion_seam (s : State) {l : Nat} (h : isSeam l = true) : s.linkVersion l = 1 := by
  simp [State.linkVersion, h]

theorem State.updateXoff_seam (s : State) {l : Nat} (h : isSeam l = true) : s.updateXoff l = s := by
  simp [State.updateXoff, s.linkVersion_seam h]

/-! ## What sending may change -/

/-- Nothing differs but link layers. -/
abbrev LinksFrame (s t : State) : Prop := { t with links := s.links } = s

theorem LinksFrame.trans {s t u : State} (h : LinksFrame s t) (h' : LinksFrame t u) : LinksFrame s u := by
  have e : ({ u with links := s.links } : State) = { t with links := s.links } :=
    congrArg (fun x : State => { x with links := s.links }) h'
  exact e.trans h

theorem LinksFrame.setLink {s t : State} (h : LinksFrame s t) (l : Nat) (x : Link) : LinksFrame s (t.setLink l x) := h

theorem LinksFrame.regs {s t : State} (h : LinksFrame s t) : t.regs = s.regs := by
  have e := congrArg State.regs h
  exact e

theorem LinksFrame.get {s t : State} (h : LinksFrame s t) (f : Fld) (i j : Nat) : t.get f i j = s.get f i j :=
  State.get_regs s t h.regs f i j

theorem LinksFrame.flag {s t : State} (h : LinksFrame s t) (f : Fld) (i j : Nat) : t.flag f i j = s.flag f i j := by
  rw [State.flag, h.get, State.flag]

theorem LinksFrame.debugAllowed {s t : State} (h : LinksFrame s t) : t.debugAllowed = s.debugAllowed := by
  rw [State.debugAllowed, h.get, h.flag, State.debugAllowed]

/-- Nothing differs but registers, link layers and what has left the chip. -/
abbrev SendFrame (s t : State) : Prop := { t with regs := s.regs, links := s.links, out := s.out } = s

theorem LinksFrame.send {s t : State} (h : LinksFrame s t) : SendFrame s t :=
  congrArg (fun x : State => { x with regs := s.regs, out := s.out }) h

theorem SendFrame.trans {s t u : State} (h : SendFrame s t) (h' : SendFrame t u) : SendFrame s u := by
  have e : ({ u with regs := s.regs, links := s.links, out := s.out } : State)
      = { t with regs := s.regs, links := s.links, out := s.out } :=
    congrArg (fun x : State => { x with regs := s.regs, links := s.links, out := s.out }) h'
  exact e.trans h

theorem SendFrame.put {s t : State} (h : SendFrame s t) (f : Fld) (v i j : Nat) : SendFrame s (t.put f v i j) := h
theorem SendFrame.setLink {s t : State} (h : SendFrame s t) (l : Nat) (x : Link) : SendFrame s (t.setLink l x) := h

theorem SendFrame.msgs {s t : State} (h : SendFrame s t) : t.msgs = s.msgs := by
  have e := congrArg State.msgs h
  exact e

theorem SendFrame.todo {s t : State} (h : SendFrame s t) : t.todo = s.todo := by
  have e := congrArg State.todo h
  exact e

/-! ## A flit on its way -/

theorem State.launch_frame (s : State) (l : Nat) (raw : List Byte) : (s.launch l raw).regs = s.regs ∧ SendFrame s (s.launch l raw) := by
  unfold State.launch
  split <;> exact ⟨rfl, rfl⟩

/-- Onto the wire of the other end of a Seam channel: what this end holds, and what leaves the chip, stay. -/
theorem State.launch_seam (s : State) {l : Nat} (h : isSeam l = true) (hl : l < 112) (raw : List Byte) :
    (s.launch l raw).link l = s.link l ∧ (s.launch l raw).out = s.out := by
  simp only [State.launch, h, if_true]
  exact ⟨s.link_setLink_ne (seamPeer_ne h hl).symm _, rfl⟩

/-- With no injector armed and nothing held back a flit leaves as it is. -/
theorem State.inject_idle (s : State) (l : Nat) (f : Flit) (harm : s.flag F.LL_INJECT_ARM l = false)
    (hheld : (s.link l).injectHeld = none) : s.inject l f = ([f.raw l], s) := by
  simp [State.inject, harm, hheld]

theorem State.sendFlit_seam_idle (s : State) {l : Nat} (h : isSeam l = true) (f : Flit) (harm : s.flag F.LL_INJECT_ARM l = false)
    (hheld : (s.link l).injectHeld = none) : s.sendFlit l f = s.launch l (f.raw l) := by
  simp [State.sendFlit, s.inject_idle l f harm hheld, h]

/-- What is sent anew is a flit of the body given, from a state in which only link layers differ, and no injector's. -/
theorem State.transmit_eq_sendFlit (s : State) (l : Nat) (b : FlitBody) (seq ack : Nat) (new : Bool) (next : Nat) :
    ∃ u f, s.transmit l b seq ack new next = u.sendFlit l f ∧ f.body = b ∧ LinksFrame s u ∧
      (u.link l).injectLeft = (s.link l).injectLeft ∧ (u.link l).injectHeld = (s.link l).injectHeld := by
  have hxoff : LinksFrame s (s.updateXoff l) ∧ ((s.updateXoff l).link l).injectLeft = (s.link l).injectLeft ∧
      ((s.updateXoff l).link l).injectHeld = (s.link l).injectHeld := by
    unfold State.updateXoff
    split
    · exact ⟨rfl, rfl, rfl⟩
    · refine ⟨rfl, ?_, ?_⟩ <;> rw [State.link_setLink_self]
  obtain ⟨hframe, hleft, hheld⟩ := hxoff
  refine ⟨_, _, rfl, rfl, hframe.setLink l _, ?_, ?_⟩ <;> rw [State.link_setLink_self]
  · exact hleft
  · exact hheld

/-! ## A flit that the injector drops (R158) -/

/-- The injector has dropped a flit: it is disarmed, and its act counted. -/
def State.dropped (s : State) (l : Nat) : State :=
  ((s.setLink l { s.link l with injectLeft := 0 }).put F.LL_INJECT_ARM 0 l).put F.LL_INJECT_STATUS_V
    (saturated F.LL_INJECT_STATUS_V.w (s.get F.LL_INJECT_STATUS_V l) 1) l

theorem State.dropped_regs (s : State) (l : Nat) :
    (s.dropped l).flag F.LL_INJECT_ARM l = false ∧
      (s.dropped l).get F.LL_INJECT_STATUS_V l = saturated F.LL_INJECT_STATUS_V.w (s.get F.LL_INJECT_STATUS_V l) 1 ∧
      KeepsRegs s (s.dropped l) [⟨.LL_INJECT, l, 0⟩, ⟨.LL_INJECT_STATUS, l, 0⟩] :=
  ⟨(State.flag_put_of_apart _ (by decide) _ _ _ _ _).trans (State.flag_putFlag_self _ (by decide) (by decide) false _ _),
   State.get_put_lt _ _ _ _ (by decide) (saturated_lt _ _ _),
   (((KeepsRegs.refl s _).setLink l _).put _ _ _ _ (.head _)).put _ _ _ _ (.tail _ (.head _))⟩

/-- In mode Drop, not to be repeated, the injector acts on the null flit that it waits for: a null flit leaves in its place. -/
theorem State.inject_drops (s : State) (l : Nat) (f : Flit) (hbody : f.body = .null) (hdebug : s.debugAllowed = true)
    (harm : s.flag F.LL_INJECT_ARM l = true) (hkind : s.flag F.LL_INJECT_KIND l = true)
    (hrepeat : s.flag F.LL_INJECT_REPEAT l = false) (hmode : s.get F.LL_INJECT_MODE l = 1) (hleft : (s.link l).injectLeft ≤ 1)
    (hheld : (s.link l).injectHeld = none) : s.inject l f = ([f.asNull.raw l], s.dropped l) := by
  have hcount : ∀ x, ((s.setLink l x).put F.LL_INJECT_ARM 0 l).bump F.LL_INJECT_STATUS_V 1 l =
      ((s.setLink l x).put F.LL_INJECT_ARM 0 l).put F.LL_INJECT_STATUS_V
        (saturated F.LL_INJECT_STATUS_V.w (s.get F.LL_INJECT_STATUS_V l) 1) l := fun x => by
    rw [State.bump_unwatched _ _ _ _ _ rfl, State.get_put_of_apart _ (by decide), State.get_setLink]
  simp [State.inject, State.dropped, hbody, hdebug, harm, hkind, hrepeat, hmode, hleft, hheld, hcount]

theorem State.sendFlit_drops (s : State) (l : Nat) (f : Flit) (hf : Frozen s) (hbody : f.body = .null) (hdebug : s.debugAllowed = true)
    (harm : s.flag F.LL_INJECT_ARM l = true) (hkind : s.flag F.LL_INJECT_KIND l = true)
    (hrepeat : s.flag F.LL_INJECT_REPEAT l = false) (hmode : s.get F.LL_INJECT_MODE l = 1) (hleft : (s.link l).injectLeft ≤ 1)
    (hheld : (s.link l).injectHeld = none) : s.sendFlit l f = (s.dropped l).launch l (f.asNull.raw l) := by
  have hfrozen : Frozen (s.dropped l) := by
    simp only [Frozen, State.dropped, State.flag_put_of_apart _ (by decide : F.LL_INJECT_STATUS_V.apart F.PMU_GLOBAL_FREEZE_ALL = true),
      State.flag_put_of_apart _ (by decide : F.LL_INJECT_ARM.apart F.PMU_GLOBAL_FREEZE_ALL = true), State.flag_setLink]
    exact hf
  simp [State.sendFlit, s.inject_drops l f hbody hdebug harm hkind hrepeat hmode hleft hheld, State.count_frozen _ _ _ _ hfrozen]

/-! ## A message of one flit on a Seam channel (R128, R131, R139) -/

/-- The payload flit that a link numbers next. -/
def State.nextFlit (s : State) (l : Nat) (b : List Byte) (next : Nat) : Flit :=
  s.flitHeader l (s.link l) (.payload b) (s.get F.LL_STATUS_SEQ (txRegs l)) (s.link l).lastAck false next

/-- The flit is numbered, and kept for replay. -/
def State.keepFlit (s : State) (l : Nat) (f : Flit) : State :=
  (s.setLink l { s.link l with replay := (s.link l).replay ++ [f], wantReplay := false }).put F.LL_STATUS_SEQ
    ((s.get F.LL_STATUS_SEQ (txRegs l) + 1) % 4096) (txRegs l)

theorem State.sendPayload_seam (s : State) {l : Nat} (h : isSeam l = true) (harm : s.flag F.LL_INJECT_ARM l = false)
    (hheld : (s.link l).injectHeld = none) (b : List Byte) (next : Nat) :
    s.sendPayload l [(b, next)] = (s.keepFlit l (s.nextFlit l b next)).launch l ((s.nextFlit l b next).raw l) := by
  have harm' : (s.keepFlit l (s.nextFlit l b next)).flag F.LL_INJECT_ARM l = false :=
    (State.flag_put_of_apart _ (by decide) _ _ _ _ _).trans harm
  have hheld' : ((s.keepFlit l (s.nextFlit l b next)).link l).injectHeld = none := by
    rw [State.keepFlit, State.link_put, State.link_setLink_self]
    exact hheld
  rw [← State.sendFlit_seam_idle _ h _ harm' hheld']
  simp only [State.sendPayload, s.updateXoff_seam h]
  rfl

/-- A message that fits a flit is sent as one payload flit, which is kept for replay and numbered in the block of the other half. -/
theorem State.sendWire_one_flit (s : State) {l : Nat} (w : WireMsg) (h : isSeam l = true) (hl : l < 112)
    (hone : flitsOf l (w.carried.length / 4) w.cells.length = 1) (harm : s.flag F.LL_INJECT_ARM l = false)
    (hheld : (s.link l).injectHeld = none) :
    ∃ f : Flit, f.body = .payload (padTo 480 w.bytes) ∧ ((s.sendWire l w).link l).replay = (s.link l).replay ++ [f] ∧
      (s.sendWire l w).get F.LL_STATUS_SEQ (seamPeer l) = (s.get F.LL_STATUS_SEQ (seamPeer l) + 1) % 4096 ∧
      KeepsRegs s (s.sendWire l w) [⟨.LL_STATUS, seamPeer l, 0⟩] ∧ SendFrame s (s.sendWire l w) ∧ (s.sendWire l w).out = s.out := by
  have hpayloads : payloadsOf l w = [(padTo 480 w.bytes, 0)] := by
    simp [payloadsOf, hone, payloadBytes, h]
  have htx : txRegs l = seamPeer l := by simp [txRegs, h]
  obtain ⟨u, hu, hframe, hreplay, hheld'⟩ : ∃ u, s.setLink l ((s.link l).consume (s.linkVersion l == 1) w) = u ∧ LinksFrame s u ∧
      (u.link l).replay = (s.link l).replay ∧ (u.link l).injectHeld = none := by
    refine ⟨_, rfl, rfl, ?_, ?_⟩ <;> rw [State.link_setLink_self, s.linkVersion_seam h]
    · rfl
    · exact hheld
  have hsend : s.sendWire l w =
      (u.keepFlit l (u.nextFlit l (padTo 480 w.bytes) 0)).launch l ((u.nextFlit l (padTo 480 w.bytes) 0).raw l) := by
    rw [State.sendWire, hu, hpayloads]
    exact u.sendPayload_seam h ((hframe.flag _ _ _).trans harm) hheld' _ _
  rw [hsend]
  generalize hflit : u.nextFlit l (padTo 480 w.bytes) 0 = f
  obtain ⟨hregs, hlaunch⟩ := (u.keepFlit l f).launch_frame l (f.raw l)
  obtain ⟨hlink, hout⟩ := (u.keepFlit l f).launch_seam h hl (f.raw l)
  have hkept : SendFrame s (u.keepFlit l f) := (hframe.send.setLink l _).put _ _ _ _
  refine ⟨f, hflit ▸ rfl, ?_, ?_, ?_, hkept.trans hlaunch, hout.trans ?_⟩
  · rw [hlink, State.keepFlit, State.link_put, State.link_setLink_self]
    exact congrArg (· ++ [f]) hreplay
  · have hlt : (s.get F.LL_STATUS_SEQ (seamPeer l) + 1) % 4096 < 4096 := Nat.mod_lt _ (by decide)
    rw [State.get_regs _ _ hregs, State.keepFlit, htx, hframe.get]
    exact State.get_put_lt _ F.LL_STATUS_SEQ _ _ (by decide) hlt
  · exact ((((KeepsRegs.refl s _).regs hframe.regs).setLink l _).put _ _ _ _ (htx ▸ .head _)).regs hregs
  · have e := congrArg State.out hframe
    exact e

end Sys2Proof.Machine

/-!
PROOF. A Cascade port that goes to Recovery, and what lane retirement leaves in the registers (R147, R155 to R157).
-/
namespace Sys2Proof.Machine

/-! ## To Recovery with a link layer (R147, R157) -/

/-- Nothing differs but registers, link layers, what the PHY holds of its ports, sessions and the aggregator. -/
abbrev CascadeFrame (s t : State) : Prop :=
  { t with regs := s.regs, links := s.links, lanes := s.lanes, sessions := s.sessions, agg := s.agg } = s

theorem CascadeFrame.trans {s t u : State} (h : CascadeFrame s t) (h' : CascadeFrame t u) : CascadeFrame s u := by
  have e : ({ u with regs := s.regs, links := s.links, lanes := s.lanes, sessions := s.sessions, agg := s.agg } : State)
      = { t with regs := s.regs, links := s.links, lanes := s.lanes, sessions := s.sessions, agg := s.agg } :=
    congrArg (fun x : State =>
      { x with regs := s.regs, links := s.links, lanes := s.lanes, sessions := s.sessions, agg := s.agg }) h'
  exact e.trans h

theorem LinkFrame.cascade {s t : State} (h : LinkFrame s t) : CascadeFrame s t :=
  congrArg (fun x : State => { x with links := s.links }) h

theorem LinksFrame.cascade {s t : State} (h : LinksFrame s t) : CascadeFrame s t :=
  congrArg (fun x : State => { x with regs := s.regs, lanes := s.lanes, sessions := s.sessions, agg := s.agg }) h

theorem LinkFrame.link {s t : State} (h : LinkFrame s t) (l : Nat) : t.link l = s.link l := by
  have e := congrArg (fun x : State => x.link l) h
  exact e

theorem CascadeFrame.rest {s t : State} (h : CascadeFrame s t) :
    t.mem = s.mem ∧ t.msgs = s.msgs ∧ t.out = s.out ∧ t.todo = s.todo ∧ t.ops = s.ops :=
  ⟨by have e := congrArg State.mem h; exact e, by have e := congrArg State.msgs h; exact e, by have e := congrArg State.out h; exact e,
   by have e := congrArg State.todo h; exact e, by have e := congrArg State.ops h; exact e⟩

/-- Nothing differs but registers and link layers. -/
abbrev RegsLinksFrame (s t : State) : Prop := { t with regs := s.regs, links := s.links } = s

theorem RegsLinksFrame.refl (s : State) : RegsLinksFrame s s := rfl
theorem RegsLinksFrame.put {s t : State} (h : RegsLinksFrame s t) (f : Fld) (v i j : Nat) : RegsLinksFrame s (t.put f v i j) := h
theorem RegsLinksFrame.setLink {s t : State} (h : RegsLinksFrame s t) (l : Nat) (x : Link) : RegsLinksFrame s (t.setLink l x) := h

theorem RegsLinksFrame.onlyRegs {s t u : State} {ks : List Key} (h : RegsLinksFrame s t) (h' : OnlyRegs t u ks) : RegsLinksFrame s u := by
  have e : ({ u with regs := s.regs, links := s.links } : State) = { t with regs := s.regs, links := s.links } :=
    congrArg (fun x : State => { x with regs := s.regs, links := s.links }) h'.2
  exact e.trans h

theorem RegsLinksFrame.cascade {s t : State} (h : RegsLinksFrame s t) : CascadeFrame s t :=
  congrArg (fun x : State => { x with lanes := s.lanes, sessions := s.sessions, agg := s.agg }) h

theorem RegsLinksFrame.todo {s t : State} (h : RegsLinksFrame s t) : t.todo = s.todo := by
  have e := congrArg State.todo h
  exact e

theorem RegsLinksFrame.ops {s t : State} (h : RegsLinksFrame s t) : t.ops = s.ops := by
  have e := congrArg State.ops h
  exact e

/-- A link layer that pauses or rests changes its state in LL_STATUS alone. -/
theorem State.linkPause_onlyRegs (s : State) (l : Nat) : OnlyRegs s (s.linkPause l) [⟨.LL_STATUS, l, 0⟩] := by
  unfold State.linkPause
  split
  · exact (OnlyRegs.refl s _).put _ _ _ _ (.head _)
  · exact OnlyRegs.refl s _

/-- A port that goes to Recovery drops a retirement under way, to start it again at the next L0. -/
def State.retireAgain (s : State) (p : Nat) : State :=
  let x := s.link p
  if x.retireAsked || x.switchTx.isSome || x.switchRx.isSome then
    s.setLink p { x with retireAsked := false, retireDue := true, switchTx := none, switchRx := none }
  else s

theorem State.retireAgain_drops (s : State) (p : Nat) :
    LinksFrame s (s.retireAgain p) ∧ ((s.retireAgain p).link p).retireAsked = false := by
  unfold State.retireAgain
  simp only
  split
  · exact ⟨rfl, by rw [State.link_setLink_self]⟩
  · next h => exact ⟨rfl, by simp_all⟩

/-- A Cascade port that does not run margining goes to Recovery: its link layer pauses, and awaits no acknowledgement of a retirement. -/
theorem State.toRecovery_cascade (s : State) (p : Nat) (hf : Frozen s) (hc : s.isCascade p = true)
    (hidle : s.flag F.MARGIN_STATUS_BUSY p = false) :
    KeepsRegs s (s.toRecovery p) [⟨.PHY_STATUS, p, 0⟩, ⟨.IA_PENDING, (96 + p) / 32, 0⟩, ⟨.LL_STATUS, p, 0⟩] ∧
      CascadeFrame s (s.toRecovery p) ∧ (s.toRecovery p).linkState p = lsRecovery ∧
      (s.toRecovery p).lanes.resize = s.lanes.resize ∧ ((s.toRecovery p).link p).retireAsked = false := by
  have hmove := s.setLinkState_moves p lsRecovery (by decide) (fun _ => hidle)
  have hcount := State.count_frozen (s.setLinkState p lsRecovery) (192 + p / 4) 4 1 (hmove.keeps.frozen (by simp) hf)
  generalize hu : s.setLinkState p lsRecovery = u at hmove hcount
  obtain ⟨a, ha⟩ : ∃ a, u.aimRate p (u.get F.PHY_STATUS_CUR_RATE p) = a := ⟨_, rfl⟩
  have hcascade : a.isCascade p = true := by
    rw [← ha]
    exact (State.isCascade_of_role (hmove.keeps.role (by simp) p)).trans hc
  have hrecovery : s.toRecovery p = (a.retireAgain p).linkPause p := by
    simp only [State.toRecovery, hu, hcount, ha, hcascade, if_true, State.retireAgain]
  obtain ⟨hframe, hasked⟩ := a.retireAgain_drops p
  have hpause := (a.retireAgain p).linkPause_onlyRegs p
  have hregs : (a.retireAgain p).regs = u.regs := hframe.regs.trans (ha ▸ rfl)
  have haimed : CascadeFrame u (a.retireAgain p) := by
    have e : CascadeFrame u a := ha ▸ rfl
    exact e.trans hframe.cascade
  have hlanes : (a.retireAgain p).lanes.resize = u.lanes.resize := by
    have e := congrArg (fun x : State => x.lanes.resize) hframe
    exact e.trans (ha ▸ rfl)
  rw [hrecovery]
  generalize a.retireAgain p = w at hpause hregs haimed hlanes hasked
  refine ⟨?_, (hmove.frame.cascade.trans haimed).trans hpause.linkFrame.cascade, ?_, ?_, ?_⟩
  · exact ((hmove.keeps.regs hregs).mono (by simp)).trans (hpause.1.mono (by simp))
  · exact (hpause.1.linkState (by simp)).trans ((State.get_regs u w hregs _ _ _).trans hmove.linkState)
  · rw [hpause.lanes, hlanes, hmove.lanes]
  · rw [hpause.linkFrame.link]
    exact hasked

/-! ## A retirement that is not answered (R156) -/

theorem State.irqTouch_linkFrame (s : State) (n : Nat) : LinkFrame s (s.irqTouch n) :=
  congrArg (fun x : State => { x with regs := s.regs, lanes := s.lanes, sessions := s.sessions }) (s.irqTouch_frame n)

/-- A fault of a port's link layer whose source is latched: its bit stands, and the source counts. -/
theorem State.linkErr_latched (s : State) (p : Port) (f : Fld) (hfld : f.lo + f.w ≤ 64) (hw : 0 < f.w) (hlo : 2 ≤ f.lo)
    (hreg : f.reg = .LL_ERR) (h : s.flag F.FC_SRC_LATCHED (8 * p.val + 4) = true) :
    (s.linkErr f p.val).flag f p.val = true ∧
      KeepsRegs s (s.linkErr f p.val) [⟨.LL_ERR, p.val, 0⟩, ⟨.FC_SRC, 8 * p.val + 4, 0⟩] ∧ LinkFrame s (s.linkErr f p.val) := by
  have hlatched : (s.put f 1 p.val).flag F.FC_SRC_LATCHED (8 * p.val + 4) = true := by
    rw [State.flag, State.get_put_reg _ _ _ _ _ _ _ _ (by rw [hreg]; decide)]
    exact h
  have herr : s.linkErr f p.val = ((s.put f 1 p.val).put F.FC_SRC_COUNT
      (saturated 8 ((s.put f 1 p.val).get F.FC_SRC_COUNT (8 * p.val + 4)) 1) (8 * p.val + 4)).irqTouch p.val := by
    simp only [State.linkErr, hlo, if_true, linkSource, isSeam_port, Bool.false_eq_true, if_false, State.raise_latched _ _ _ hlatched]
  generalize hc : saturated 8 ((s.put f 1 p.val).get F.FC_SRC_COUNT (8 * p.val + 4)) 1 = c at herr
  have hput : KeepsRegs s ((s.put f 1 p.val).put F.FC_SRC_COUNT c (8 * p.val + 4))
      [⟨.LL_ERR, p.val, 0⟩, ⟨.FC_SRC, 8 * p.val + 4, 0⟩] :=
    ((KeepsRegs.refl s _).put _ _ _ _ (by simp [hreg])).put _ _ _ _ (.tail _ (.head _))
  rw [herr]
  refine ⟨?_, hput.regs (State.irqTouch_regs _ _), ?_⟩
  · rw [State.flag, State.get_regs _ _ (State.irqTouch_regs _ _), State.get_put_reg _ _ _ _ _ _ _ _ (by rw [hreg]; decide)]
    exact s.flag_putFlag_self hfld hw true p.val 0
  · exact LinkFrame.trans (t := (s.put f 1 p.val).put F.FC_SRC_COUNT c (8 * p.val + 4)) rfl (State.irqTouch_linkFrame _ _)

/-- With no operation known none ends. -/
theorem State.endRetires_nil (s : State) (p : Nat) (st : Status) (h : s.ops = []) : s.endRetires p st = s := by
  have hend : ∀ k ∈ laneList, s.endOp (.retireLane p k) st = s := fun k _ => by simp [State.endOp, h]
  exact foldl_eq_self hend

/-! ## Lanes out of use (R155) -/

/-- A lane that a mask leaves out is out of use. -/
def State.maskLane (p mask : Nat) (s : State) (k : Nat) : State :=
  if mask / 2 ^ k % 2 == 0 then s.put F.LANE_STATUS_IN_USE 0 p k else s

theorem State.maskLane_onlyRegs (p mask : Nat) (s : State) (k : Nat) : OnlyRegs s (s.maskLane p mask k) [⟨.LANE_STATUS, p, k⟩] := by
  unfold State.maskLane
  split
  · exact (OnlyRegs.refl s _).put _ _ _ _ (.head _)
  · exact OnlyRegs.refl s _

theorem State.maskLanes_onlyRegs (p mask : Nat) (s : State) (l : List Nat) :
    OnlyRegs s (l.foldl (State.maskLane p mask) s) (l.map (fun k => ⟨.LANE_STATUS, p, k⟩)) :=
  List.foldlRecOn (motive := fun t => OnlyRegs s t (l.map (fun k => ⟨.LANE_STATUS, p, k⟩))) l _ (OnlyRegs.refl s _) (fun t ht k hk =>
    ht.trans ((State.maskLane_onlyRegs p mask t k).mono (fun x hx => by
      rw [List.mem_singleton.mp hx]
      exact List.mem_map_of_mem hk)))

/-- A lane out of use stays so. -/
theorem State.maskLane_stays (p mask : Nat) (s : State) (k n : Nat) (h : s.flag F.LANE_STATUS_IN_USE p n = false) :
    (s.maskLane p mask k).flag F.LANE_STATUS_IN_USE p n = false := by
  unfold State.maskLane
  split
  · by_cases hn : n = k
    · subst hn
      exact s.flag_putFlag_self (by decide) (by decide) false p n
    · rw [State.flag, State.get_put_index _ _ _ _ _ _ _ _ (.inr hn)]
      exact h
  · exact h

theorem State.maskLanes_out (p mask : Nat) (s : State) {l : List Nat} {k : Nat} (hk : k ∈ l) (hmask : mask / 2 ^ k % 2 = 0) :
    (l.foldl (State.maskLane p mask) s).flag F.LANE_STATUS_IN_USE p k = false := by
  induction l generalizing s with
  | nil => cases hk
  | cons n l ih =>
    rw [List.foldl_cons]
    cases hk with
    | tail _ hk => exact ih _ hk
    | head =>
      have hout : (s.maskLane p mask k).flag F.LANE_STATUS_IN_USE p k = false := by
        rw [State.maskLane, hmask, if_pos (beq_self_eq_true 0)]
        exact s.flag_putFlag_self (by decide) (by decide) false p k
      exact List.foldlRecOn (motive := fun t : State => t.flag F.LANE_STATUS_IN_USE p k = false) l _ hout
        (fun t ht n _ => t.maskLane_stays p mask n k ht)

end Sys2Proof.Machine

/-!
PROOF. What the retirement, injector and status commands of the link layer answer (R155, R156, R158, R159, R184, R185, R296).
-/
namespace Sys2Proof.Machine

/-! ## Lane retirement (R155, R156) -/

theorem gives_retireControlFlit_answer (s : State) (p : Port) (mask : BitVec 8) (hq : Quiet s) (hc : s.isCascade p.val = true)
    (hsend : s.sending p.val = true) (hasked : (s.link p.val).retireAsked = true) :
    Gives (.retireControlFlit p mask true) s (fun t => (t.link p.val).retireAsked = false ∧
      (t.link p.val).switchRx = some mask.toNat ∧ { t with links := s.links } = s) := by
  have hexec : exec (.retireControlFlit p mask true) s =
      done (s.setLink p.val { s.link p.val with retireAsked := false, switchRx := some mask.toNat }) := by
    show execRetireControlFlit p mask true s = _
    simp [execRetireControlFlit, State.retireControl, hc, hsend, hasked]
  exact Gives.of_done hexec ((s.todo_setLink _ _).trans hq) ⟨by rw [State.link_setLink_self], by rw [State.link_setLink_self], rfl⟩

theorem gives_retireSwitch_transmitter (s : State) (p : Port) (m : Nat) (hq : Quiet s) (hm : (s.link p.val).switchTx = some m) :
    Gives (.retireSwitch p false) s (fun t => (t.link p.val).txMask = (s.link p.val).txMask / 256 * 256 + m % 256 ∧
      (t.link p.val).switchTx = none ∧ { t with links := s.links } = s) := by
  have hexec : exec (.retireSwitch p false) s =
      done (s.setLink p.val { s.link p.val with txMask := Link.newMask (s.link p.val).txMask m, switchTx := none }) := by
    show execRetireSwitch p false s = _
    simp [execRetireSwitch, hm]
  exact Gives.of_done hexec ((s.todo_setLink _ _).trans hq) ⟨by rw [State.link_setLink_self]; rfl, by rw [State.link_setLink_self], rfl⟩

/-- The registers in which a retirement ends. -/
def retireRegs (p : Nat) : List Key :=
  [⟨.LANE_RETIRE, p, 0⟩, ⟨.LL_STATUS, p, 0⟩, ⟨.PHY_STATUS, p, 0⟩] ++ (List.range 8).map (fun k => ⟨.LANE_STATUS, p, k⟩)

/-- The state in which a receiver has switched to a mask, before lanes are taken out of use. -/
def State.switched (s : State) (p mask : Nat) : State :=
  ((s.setLink p { s.link p with rxMask := Link.newMask (s.link p).rxMask mask, switchRx := none }).put
    F.LANE_RETIRE_RETIRE_BUSY 0 p).put F.LL_STATUS_RETIRING 0 p

theorem State.switched_frame (s : State) (p mask : Nat) : RegsLinksFrame s (s.switched p mask) :=
  (((RegsLinksFrame.refl s).setLink p _).put _ _ _ _).put _ _ _ _

theorem State.switched_link (s : State) (p mask : Nat) :
    (s.switched p mask).link p = { s.link p with rxMask := Link.newMask (s.link p).rxMask mask, switchRx := none } := by
  rw [State.switched, State.link_put, State.link_put, State.link_setLink_self]

theorem State.switched_regs (s : State) (p mask : Nat) :
    KeepsRegs s (s.switched p mask) (retireRegs p) ∧ (s.switched p mask).flag F.LANE_RETIRE_RETIRE_BUSY p = false :=
  ⟨(((KeepsRegs.refl s _).setLink p _).put _ _ _ _ (.head _)).put _ _ _ _ (.tail _ (.head _)),
   (State.flag_put_of_apart _ (by decide) _ _ _ _ _).trans (State.flag_putFlag_self _ (by decide) (by decide) false _ _)⟩

theorem State.maskLane_eq (p mask : Nat) :
    (fun (s : State) k => if mask / 2 ^ k % 2 == 0 then s.put F.LANE_STATUS_IN_USE 0 p k else s) = State.maskLane p mask := rfl

/-- With no operation known the receiver's switch takes lanes out of use and shows the new width. -/
theorem State.retireReceiver_eq (s : State) (p mask : Nat) (hops : s.ops = []) :
    s.retireReceiver p mask = (laneList.foldl (State.maskLane p mask) (s.switched p mask)).put F.PHY_STATUS_CUR_WIDTH
      ((laneList.filter (fun k => mask / 2 ^ k % 2 == 1)).length) p := by
  have hframe := (s.switched_frame p mask).onlyRegs (State.maskLanes_onlyRegs p mask (s.switched p mask) laneList)
  unfold State.retireReceiver
  simp only [State.maskLane_eq]
  rw [← State.switched]
  refine State.endRetires_nil _ p .ok ?_
  rw [State.put_ops, hframe.ops, hops]

theorem gives_retireSwitch_receiver (s : State) (p : Port) (m : Nat) (hq : Quiet s) (hm : (s.link p.val).switchRx = some m)
    (hops : s.ops = []) :
    Gives (.retireSwitch p true) s (fun t => (t.link p.val).rxMask = (s.link p.val).rxMask / 256 * 256 + m % 256 ∧
      (t.link p.val).switchRx = none ∧
      t.flag F.LANE_RETIRE_RETIRE_BUSY p.val = false ∧
      t.get F.PHY_STATUS_CUR_WIDTH p.val = ((List.range 8).filter (fun k => m / 2 ^ k % 2 == 1)).length ∧
      (∀ k : Lane, m / 2 ^ k.val % 2 = 0 → t.flag F.LANE_STATUS_IN_USE p.val k.val = false) ∧
      KeepsRegs s t (retireRegs p.val) ∧
      { t with regs := s.regs, links := s.links } = s) := by
  have hexec : exec (.retireSwitch p true) s = done (s.retireReceiver p.val m) := by
    show execRetireSwitch p true s = _
    simp [execRetireSwitch, hm]
  rw [s.retireReceiver_eq p.val m hops] at hexec
  have hwidth : (laneList.filter (fun k => m / 2 ^ k % 2 == 1)).length < 32 :=
    (List.length_filter_le _ laneList).trans_lt (by decide)
  generalize hn : (laneList.filter (fun k => m / 2 ^ k % 2 == 1)).length = n at hexec hwidth
  obtain ⟨hkeeps, hbusy⟩ := s.switched_regs p.val m
  have hlanes := State.maskLanes_onlyRegs p.val m (s.switched p.val m) laneList
  have hout := fun (k : Lane) hk => State.maskLanes_out p.val m (s.switched p.val m) (List.mem_range.mpr k.isLt) (k := k.val) hk
  have hlink := (hlanes.linkFrame.link p.val).trans (s.switched_link p.val m)
  have hframe := (s.switched_frame p.val m).onlyRegs hlanes
  have hmem : (laneList.map (fun k => ⟨.LANE_STATUS, p.val, k⟩) : List Key) ⊆ retireRegs p.val := List.subset_append_right _ _
  rw [← laneList] at hout
  generalize s.switched p.val m = u at hexec hkeeps hbusy hlanes hout hlink hframe
  generalize laneList.foldl (State.maskLane p.val m) u = t at hexec hlanes hout hlink hframe
  refine Gives.of_done hexec ((State.put_todo _ _ _ _ _).trans (hframe.todo.trans hq)) ⟨?_, ?_, ?_,
    (State.get_put_lt _ _ _ _ (by decide) hwidth).trans hn.symm, fun k hk => ?_,
    (hkeeps.trans (hlanes.1.mono hmem)).put _ _ _ _ (by simp [retireRegs, F.PHY_STATUS_CUR_WIDTH]), hframe.put _ _ _ _⟩
  · rw [State.link_put, hlink, Link.newMask]
  · rw [State.link_put, hlink]
  · rw [State.flag_put_of_apart _ (by decide), State.flag, hlanes.1.get (by simp [F.LANE_RETIRE_RETIRE_BUSY])]
    exact hbusy
  · exact (State.flag_put_of_apart _ (by decide) _ _ _ _ _).trans (hout k hk)

/-- A retirement that was not answered is given up. -/
def State.givenUp (s : State) (p : Nat) : State :=
  ((s.setLink p { s.link p with retireAsked := false, switchTx := none }).put F.LANE_RETIRE_RETIRE_BUSY 0 p).put
    F.LL_STATUS_RETIRING 0 p

theorem State.givenUp_regs (s : State) (p : Nat) :
    KeepsRegs s (s.givenUp p) [⟨.LANE_RETIRE, p, 0⟩, ⟨.LL_STATUS, p, 0⟩] ∧ (s.givenUp p).flag F.LANE_RETIRE_RETIRE_BUSY p = false :=
  ⟨(((KeepsRegs.refl s _).setLink p _).put _ _ _ _ (.head _)).put _ _ _ _ (.tail _ (.head _)),
   (State.flag_put_of_apart _ (by decide) _ _ _ _ _).trans (State.flag_putFlag_self _ (by decide) (by decide) false _ _)⟩

theorem State.givenUp_frame (s : State) (p : Nat) : CascadeFrame s (s.givenUp p) :=
  ((((RegsLinksFrame.refl s).setLink p _).put _ _ _ _).put _ _ _ _).cascade

/-- The width of a port is to be chosen anew. -/
def State.resizes (s : State) (p : Nat) : State :=
  { s with lanes := { s.lanes with resize := s.lanes.resize.filter (fun x => x != p) ++ [p] } }

theorem State.resizes_frame (s : State) (p : Nat) : (s.resizes p).regs = s.regs ∧ CascadeFrame s (s.resizes p) := ⟨rfl, rfl⟩

theorem State.resizes_contains (s : State) (p : Nat) : (s.resizes p).lanes.resize.contains p = true := by
  simp [State.resizes]

theorem gives_retireAckTimeout (s : State) (p : Port) (hq : Quiet s) (hf : Frozen s) (hc : s.isCascade p.val = true)
    (hasked : (s.link p.val).retireAsked = true) (hlatched : s.flag F.FC_SRC_LATCHED (8 * p.val + 4) = true)
    (hidle : s.flag F.MARGIN_STATUS_BUSY p.val = false) (hops : s.ops = []) :
    Gives (.retireAckTimeout p) s (fun t => t.flag F.LL_ERR_RETIRE_FAIL p.val = true ∧
      t.flag F.LANE_RETIRE_RETIRE_BUSY p.val = false ∧
      (t.link p.val).retireAsked = false ∧
      t.linkState p.val = lsRecovery ∧
      t.lanes.resize.contains p.val = true ∧
      t.mem = s.mem ∧
      t.msgs = s.msgs ∧
      t.out = s.out) := by
  have hexec : exec (.retireAckTimeout p) s =
      done (((((s.linkErr F.LL_ERR_RETIRE_FAIL p.val).givenUp p.val).resizes p.val).toRecovery p.val).endRetires p.val .faulted) := by
    show execRetireAckTimeout p s = _
    simp only [execRetireAckTimeout, hasked, if_true, State.linkRetrain, isSeam_port, Bool.false_eq_true, if_false, State.givenUp,
      State.resizes]
  obtain ⟨hfail, herr, herrFrame⟩ := s.linkErr_latched p F.LL_ERR_RETIRE_FAIL (by decide) (by decide) (by decide) rfl hlatched
  generalize s.linkErr F.LL_ERR_RETIRE_FAIL p.val = e at hexec hfail herr herrFrame
  obtain ⟨hgiven, hbusy⟩ := e.givenUp_regs p.val
  have hgivenFrame := e.givenUp_frame p.val
  generalize e.givenUp p.val = g at hexec hgiven hbusy hgivenFrame
  obtain ⟨hregs, hresizeFrame⟩ := g.resizes_frame p.val
  have hresize := g.resizes_contains p.val
  generalize g.resizes p.val = a at hexec hregs hresizeFrame hresize
  have hkeeps : KeepsRegs s a
      [⟨.LL_ERR, p.val, 0⟩, ⟨.FC_SRC, 8 * p.val + 4, 0⟩, ⟨.LANE_RETIRE, p.val, 0⟩, ⟨.LL_STATUS, p.val, 0⟩] :=
    ((herr.mono (by simp)).trans (hgiven.mono (by simp))).regs hregs
  have hstill : a.flag F.MARGIN_STATUS_BUSY p.val = false := by
    rw [State.flag, hkeeps.get (by simp [F.MARGIN_STATUS_BUSY])]
    exact hidle
  obtain ⟨hrec, hrecFrame, hstate, hlanes, hdropped⟩ := a.toRecovery_cascade p.val (hkeeps.frozen (by simp) hf)
    ((State.isCascade_of_role (hkeeps.role (by simp) p.val)).trans hc) hstill
  generalize a.toRecovery p.val = t at hexec hrec hrecFrame hstate hlanes hdropped
  obtain ⟨hmem, hmsgs, hout, htodo, htops⟩ := (((herrFrame.cascade.trans hgivenFrame).trans hresizeFrame).trans hrecFrame).rest
  rw [t.endRetires_nil p.val .faulted (htops.trans hops)] at hexec
  refine Gives.of_done hexec (htodo.trans hq) ⟨?_, ?_, hdropped, hstate, by rw [hlanes, hresize], hmem, hmsgs, hout⟩
  · rw [State.flag, hrec.get (by simp [F.LL_ERR_RETIRE_FAIL]), State.get_regs g a hregs, hgiven.get (by simp [F.LL_ERR_RETIRE_FAIL])]
    exact hfail
  · rw [State.flag, hrec.get (by simp [F.LANE_RETIRE_RETIRE_BUSY]), State.get_regs g a hregs]
    exact hbusy

/-! ## The injector (R158, R159) -/

/-- LL_INJECT is written but for its link's count (R158). -/
def State.injectWord (s : State) (l v : Nat) : State :=
  ((((s.put F.LL_INJECT_MODE (v % 8) l).put F.LL_INJECT_WORD (v / 2 ^ 16 % 128) l).put F.LL_INJECT_KIND (v / 2 ^ 28 % 2) l).put
    F.LL_INJECT_REPEAT (v / 2 ^ 30) l).put F.LL_INJECT_ARM (v / 2 ^ 31) l

theorem State.injectWord_fields (s : State) (l v : Nat) (hv : v < 2 ^ 32) :
    (s.injectWord l v).get F.LL_INJECT_MODE l = v % 8 ∧ (s.injectWord l v).get F.LL_INJECT_WORD l = v / 2 ^ 16 % 128 ∧
      (s.injectWord l v).get F.LL_INJECT_KIND l = v / 2 ^ 28 % 2 ∧ (s.injectWord l v).get F.LL_INJECT_REPEAT l = v / 2 ^ 30 % 2 ∧
      (s.injectWord l v).get F.LL_INJECT_ARM l = v / 2 ^ 31 ∧ (s.injectWord l v).get F.LL_INJECT_N_N l = s.get F.LL_INJECT_N_N l := by
  have harm : v / 2 ^ 31 < 2 ^ F.LL_INJECT_ARM.w := Nat.div_lt_of_lt_mul hv
  refine ⟨?_, ?_, ?_, ?_, State.get_put_lt _ _ _ _ (by decide) harm, ?_⟩ <;>
    simp (disch := decide) only [State.injectWord, State.get_put_of_apart, State.get_put_self]
  · exact Nat.mod_mod_of_dvd _ (by decide)
  · exact Nat.mod_mod_of_dvd _ (by decide)
  · exact Nat.mod_mod_of_dvd _ (by decide)
  · rfl

theorem State.injectWord_onlyRegs (s : State) (l v : Nat) : OnlyRegs s (s.injectWord l v) [⟨.LL_INJECT, l, 0⟩] :=
  have hkey : (⟨.LL_INJECT, l, 0⟩ : Key) ∈ [(⟨.LL_INJECT, l, 0⟩ : Key)] := .head _
  (((((OnlyRegs.refl s _).put F.LL_INJECT_MODE _ l 0 hkey).put F.LL_INJECT_WORD _ l 0 hkey).put F.LL_INJECT_KIND _ l 0 hkey).put
    F.LL_INJECT_REPEAT _ l 0 hkey).put F.LL_INJECT_ARM _ l 0 hkey

theorem gives_llInjectArm (s : State) (p : Port) (v : BitVec 32) (hq : Quiet s) (hc : s.isCascade p.val = true)
    (hdebug : s.debugAllowed = true) (hmode : v.toNat % 8 < 4) (hword : v.toNat / 2 ^ 16 % 128 ≤ 59) :
    Gives (.llInjectArm ⟨p.val, by omega⟩ v) s (fun t => t.get F.LL_INJECT_MODE p.val = v.toNat % 8 ∧
      t.get F.LL_INJECT_WORD p.val = v.toNat / 2 ^ 16 % 128 ∧
      t.get F.LL_INJECT_KIND p.val = v.toNat / 2 ^ 28 % 2 ∧
      t.get F.LL_INJECT_REPEAT p.val = v.toNat / 2 ^ 30 % 2 ∧
      t.get F.LL_INJECT_ARM p.val = v.toNat / 2 ^ 31 ∧
      (t.link p.val).injectLeft = s.get F.LL_INJECT_N_N p.val ∧
      KeepsRegs s t [⟨.LL_INJECT, p.val, 0⟩] ∧
      { t with regs := s.regs, links := s.links } = s) := by
  have hexec : exec (.llInjectArm ⟨p.val, by omega⟩ v) s = done ((s.injectWord p.val v.toNat).setLink p.val
      { (s.injectWord p.val v.toNat).link p.val with
        injectLeft := (s.injectWord p.val v.toNat).get F.LL_INJECT_N_N p.val, injectHeld := none }) := by
    have hguard : (!s.debugAllowed || decide (5 ≤ v.toNat % 8) || (v.toNat % 8 == 2 && decide (59 < v.toNat / 2 ^ 16 % 128)) ||
        (v.toNat % 8 == 4 && v.toNat / 2 ^ 28 % 2 == 1)) = false := by
      simp [hdebug]
      omega
    show execLlInjectArm ⟨p.val, _⟩ v s = _
    simp only [execLlInjectArm, hc, Bool.or_true, if_true, State.llInjectArm, isSeam_port, Bool.false_eq_true, if_false, hguard,
      State.injectWord]
  obtain ⟨hm, hw, hk, hr, harm, hn⟩ := s.injectWord_fields p.val v.toNat v.isLt
  have honly := s.injectWord_onlyRegs p.val v.toNat
  generalize s.injectWord p.val v.toNat = u at hexec hm hw hk hr harm hn honly
  have hget := fun (x : Link) (f : Fld) => u.get_setLink p.val x f p.val 0
  refine Gives.of_done hexec ((u.todo_setLink _ _).trans (honly.todo.trans hq)) ⟨(hget _ _).trans hm, (hget _ _).trans hw,
    (hget _ _).trans hk, (hget _ _).trans hr, (hget _ _).trans harm, ?_, honly.1.setLink _ _,
    ((RegsLinksFrame.refl s).onlyRegs honly).setLink _ _⟩
  rw [State.link_setLink_self]
  exact hn

theorem gives_injectorFire_drop (s : State) (l : LinkId) (hq : Quiet s) (hf : Frozen s) (hdebug : s.debugAllowed = true)
    (hsend : s.sending l.val = true) (harm : s.flag F.LL_INJECT_ARM l.val = true) (hkind : s.flag F.LL_INJECT_KIND l.val = true)
    (hrepeat : s.flag F.LL_INJECT_REPEAT l.val = false) (hmode : s.get F.LL_INJECT_MODE l.val = 1)
    (hheld : (s.link l.val).injectHeld = none) :
    Gives (.injectorFire l) s (fun t => t.flag F.LL_INJECT_ARM l.val = false ∧
      t.get F.LL_INJECT_STATUS_V l.val = saturated F.LL_INJECT_STATUS_V.w (s.get F.LL_INJECT_STATUS_V l.val) 1 ∧
      KeepsRegs s t [⟨.LL_INJECT, l.val, 0⟩, ⟨.LL_INJECT_STATUS, l.val, 0⟩] ∧
      t.msgs = s.msgs) := by
  obtain ⟨a, ha, hcounted, hleft, hnone⟩ : ∃ a, s.setLink l.val { s.link l.val with injectLeft := 1 } = a ∧ LinksFrame s a ∧
      (a.link l.val).injectLeft = 1 ∧ (a.link l.val).injectHeld = none :=
    ⟨_, rfl, rfl, by rw [State.link_setLink_self], by rw [State.link_setLink_self]; exact hheld⟩
  have hsendA : a.sending l.val = true := by rw [State.sending, hcounted.get, ← State.sending]; exact hsend
  have hexec : exec (.injectorFire l) s = done (a.transmit l.val .null 0 (a.link l.val).lastAck false) := by
    show execInjectorFire l s = _
    simp only [execInjectorFire, State.injectorFire, ha, hdebug, harm, hcounted.flag, hkind, hsendA, Bool.and_self, if_true,
      State.sendNull]
  obtain ⟨u, f, hflit, hbody, hframe, hleftU, hheldU⟩ := a.transmit_eq_sendFlit l.val .null 0 (a.link l.val).lastAck false 127
  have hall := hcounted.trans hframe
  rw [hflit, u.sendFlit_drops l.val f ((hall.flag _ _ _).trans hf) hbody (hall.debugAllowed.trans hdebug) ((hall.flag _ _ _).trans harm)
    ((hall.flag _ _ _).trans hkind) ((hall.flag _ _ _).trans hrepeat) ((hall.get _ _ _).trans hmode) (hleftU.trans hleft).le
    (hheldU.trans hnone)] at hexec
  obtain ⟨hregs, hlaunch⟩ := (u.dropped l.val).launch_frame l.val (f.asNull.raw l.val)
  have hdropped : SendFrame s (u.dropped l.val) := ((hall.send.setLink l.val _).put _ _ _ _).put _ _ _ _
  obtain ⟨hdisarmed, hstatus, hkeeps⟩ := u.dropped_regs l.val
  have hsent := hdropped.trans hlaunch
  generalize (u.dropped l.val).launch l.val (f.asNull.raw l.val) = t at hexec hregs hsent
  refine Gives.of_done hexec (hsent.todo.trans hq) ⟨?_, ?_, (hkeeps.congr hall.regs.symm hregs), hsent.msgs⟩
  · rw [State.flag, State.get_regs _ t hregs]
    exact hdisarmed
  · rw [State.get_regs _ t hregs, hstatus, hall.get]

/-! ## Status messages of the halves (R184, R185, R296) -/

/-- The Seam channel on which a half sends its status messages (R184). -/
abbrev statusLink (h : Half) : Nat := 96 + 8 * hix h

theorem statusLink_seam (h : Half) :
    isSeam (statusLink h) = true ∧ statusLink h < 112 ∧ seamPeer (statusLink h) = 96 + 8 * (1 - hix h) := by
  cases h <;> decide

/-- A half may send a status message, and no injector stands in its way. -/
structure MaySendStatus (s : State) (h : Half) : Prop where
  active : s.get F.LL_STATUS_STATE (statusLink h) = linkActive
  credit : s.mayAsk (statusLink h) 9 0 = true
  room : s.replayRoom (statusLink h) 1 0 = true
  unarmed : s.flag F.LL_INJECT_ARM (statusLink h) = false
  unheld : (s.link (statusLink h)).injectHeld = none

/-- The status message of a half: one carried word, with POISON for an epoch mark (R184, R296). -/
def State.statusMsg (s : State) (h : Half) (mark : Bool) (value : Nat) : WireMsg :=
  { cls := 9, blocks := 0, poison := mark, src := 127, dst := 127, tag := s.get F.HALF_EPOCH_V (hix h), carried := leBytes 4 value,
    cells := [] }

/-- What sending a status message leaves. -/
structure StatusSent (s t : State) (h : Half) (w : WireMsg) : Prop where
  flit : (t.link (statusLink h)).replay.getLast?.map Flit.body = some (.payload (padTo 480 w.bytes))
  seq : t.get F.LL_STATUS_SEQ (96 + 8 * (1 - hix h)) = (s.get F.LL_STATUS_SEQ (96 + 8 * (1 - hix h)) + 1) % 4096
  kept : (t.link (statusLink h)).replay.length = (s.link (statusLink h)).replay.length + 1
  keeps : KeepsRegs s t [⟨.LL_STATUS, 96 + 8 * (1 - hix h), 0⟩]
  frame : SendFrame s t
  out : t.out = s.out

theorem State.sendStatus_sent (s : State) (h : Half) (mark : Bool) (value : Nat) (hs : MaySendStatus s h) :
    StatusSent s (s.sendStatus (hix h) mark value) h (s.statusMsg h mark value) := by
  obtain ⟨hseam, hlt, hpeer⟩ := statusLink_seam h
  have hone : flitsOf (statusLink h) ((s.statusMsg h mark value).carried.length / 4) (s.statusMsg h mark value).cells.length = 1 := by
    simp [flitsOf, payloadBytes, hseam, State.statusMsg, leBytes]
  have hsend : s.sendStatus (hix h) mark value = s.sendWire (statusLink h) (s.statusMsg h mark value) := by
    simp only [State.sendStatus, hs.active, hs.credit, hs.room, beq_self_eq_true, Bool.and_self, if_true, State.statusMsg]
  obtain ⟨f, hbody, hreplay, hseq, hkeeps, hframe, hout⟩ :=
    s.sendWire_one_flit (s.statusMsg h mark value) hseam hlt hone hs.unarmed hs.unheld
  rw [← hsend] at hreplay hseq hkeeps hframe hout
  rw [hpeer] at hseq hkeeps
  exact ⟨by rw [hreplay, List.getLast?_concat, Option.map_some, hbody], hseq, by rw [hreplay, List.length_append, List.length_singleton],
    hkeeps, hframe, hout⟩

theorem gives_epochMarkSend (s : State) (h : Half) (hq : Quiet s) (hblaze : s.atBlaze (hix h) = true) (hs : MaySendStatus s h) :
    Gives (.epochMarkSend h) s (fun t => StatusSent s t h (s.statusMsg h true (s.get F.HALF_COMMIT_V (hix h)))) := by
  have hexec : exec (.epochMarkSend h) s = done (s.sendEpochMark (hix h)) := by
    show execEpochMarkSend h s = _
    rw [execEpochMarkSend, if_pos hblaze]
  have hsent := s.sendStatus_sent h true (s.get F.HALF_COMMIT_V (hix h)) hs
  exact Gives.of_done hexec (hsent.frame.todo.trans hq) hsent

theorem MaySendStatus.put {s : State} {h : Half} (hs : MaySendStatus s h) (f : Fld) (v i j : Nat) (hf : f.reg = .BUF_STATUS) :
    MaySendStatus (s.put f v i j) h := by
  have hget : ∀ (g : Fld) k, g.reg ≠ .BUF_STATUS → (s.put f v i j).get g k = s.get g k := fun g k hg =>
    s.get_put_reg f g v i j k 0 (by rw [hf]; exact hg)
  obtain ⟨hseam, -, -⟩ := statusLink_seam h
  refine ⟨(hget _ _ (by decide)).trans hs.active, ?_, hs.room, ?_, hs.unheld⟩
  · have hcredit := hs.credit
    rw [State.mayAsk, State.linkVersion_seam _ hseam] at hcredit ⊢
    exact hcredit
  · rw [State.flag, hget _ _ (by decide)]
    exact hs.unarmed

/-- The state that shows a half's own pool state (R184). -/
def State.poolShown (s : State) (h : Half) : State := s.putFlag F.BUF_STATUS_OWN_CLOSED (s.poolClosed (hix h)) (hix h)

theorem gives_poolStateSend (s : State) (h : Half) (hq : Quiet s) (hblaze : s.atBlaze (hix h) = true) (hs : MaySendStatus s h) :
    Gives (.poolStateSend h) s (fun t => t.flag F.BUF_STATUS_OWN_CLOSED (hix h) = s.poolClosed (hix h) ∧
      StatusSent (s.poolShown h) t h (s.statusMsg h false (if s.poolClosed (hix h) = true then 1 else 0))) := by
  have hexec : exec (.poolStateSend h) s =
      done ((s.poolShown h).sendStatus (hix h) false (if s.poolClosed (hix h) = true then 1 else 0)) := by
    show execPoolStateSend h s = _
    rw [execPoolStateSend, if_pos hblaze]
    rfl
  have hmsg : ∀ v, (s.poolShown h).statusMsg h false v = s.statusMsg h false v := fun v => by
    rw [State.statusMsg, State.poolShown, State.putFlag, State.get_put_reg _ _ _ _ _ _ _ _ (by decide), ← State.statusMsg]
  have hsent := (s.poolShown h).sendStatus_sent h false (if s.poolClosed (hix h) = true then 1 else 0) (hs.put _ _ _ _ rfl)
  rw [hmsg] at hsent
  refine Gives.of_done hexec (hsent.frame.todo.trans ((s.put_todo _ _ _ _).trans hq)) ⟨?_, hsent⟩
  rw [State.flag, hsent.keeps.get (by simp [F.BUF_STATUS_OWN_CLOSED])]
  exact s.flag_putFlag_self (by decide) (by decide) _ _ _

/-! ## The statement -/

/-- Settles O5: each command's effect is written out by the lemma about its path; a status message is one flit, which the replay buffer
keeps and the other half's block numbers. -/
theorem retirementInjectionAndStatus : Obligations.RetirementInjectionAndStatus := by
  unfold Obligations.RetirementInjectionAndStatus
  refine ⟨?answer, ?transmitter, ?receiver, ?unanswered, ?armed, ?fired, ?poolState, ?stale, ?mark⟩
  case answer => exact fun s p mask hq _ hc hsend hasked => gives_retireControlFlit_answer s p mask hq hc hsend hasked
  case transmitter => exact fun s p m hq _ hm => gives_retireSwitch_transmitter s p m hq hm
  case receiver => exact fun s p m hq _ hm hops => gives_retireSwitch_receiver s p m hq hm hops
  case unanswered =>
    exact fun s p hq hf hc hasked hlatched _ hidle hops => gives_retireAckTimeout s p hq hf hc hasked hlatched hidle hops
  case armed => exact fun s p v hq _ hc hdebug hmode hword => gives_llInjectArm s p v hq hc hdebug hmode hword
  case fired =>
    exact fun s l hq hf hdebug hsend harm hkind hrepeat hmode hheld =>
      gives_injectorFire_drop s l hq hf hdebug hsend harm hkind hrepeat hmode hheld
  case poolState =>
    intro s h hq _ hblaze hactive hcredit hroom hunarmed hunheld
    refine (gives_poolStateSend s h hq hblaze ⟨hactive, hcredit, hroom, hunarmed, hunheld⟩).imp (fun t ⟨hclosed, hsent⟩ => ?_)
    have hseq : (s.poolShown h).get F.LL_STATUS_SEQ (96 + 8 * (1 - hix h)) = s.get F.LL_STATUS_SEQ (96 + 8 * (1 - hix h)) :=
      s.get_put_reg _ _ _ _ _ _ _ (by decide)
    have hlink : (s.poolShown h).link (96 + 8 * hix h) = s.link (96 + 8 * hix h) := s.link_put _ _ _ _ _
    have hkeeps : KeepsRegs s (s.poolShown h) [⟨.BUF_STATUS, hix h, 0⟩, ⟨.LL_STATUS, 96 + 8 * (1 - hix h), 0⟩] :=
      (KeepsRegs.refl s _).put _ _ _ _ (.head _)
    exact ⟨hclosed, hsent.flit, by rw [hsent.seq, hseq], by rw [hsent.kept, hlink],
      hkeeps.trans (hsent.keeps.mono (by simp)), hsent.frame.msgs.trans (s.put_msgs _ _ _ _), hsent.out.trans (s.put_out _ _ _ _)⟩
  case stale =>
    intro s h hq _ hblaze
    have hexec : exec (.poolStateStale h) s = done (s.put F.BUF_STATUS_PEER_STALE 1 (hix h)) := by
      show execPoolStateStale h s = _
      rw [execPoolStateStale, if_pos hblaze]
    exact Gives.of_done hexec ((s.put_todo _ _ _ _).trans hq)
      ⟨s.flag_putFlag_self (by decide) (by decide) true _ _, (OnlyRegs.refl s _).put _ _ _ _ (.head _)⟩
  case mark =>
    intro s h hq _ hblaze hactive hcredit hroom hunarmed hunheld
    exact (gives_epochMarkSend s h hq hblaze ⟨hactive, hcredit, hroom, hunarmed, hunheld⟩).imp (fun t hsent =>
      ⟨hsent.flit, hsent.seq, hsent.kept, hsent.keeps, hsent.frame.msgs, hsent.out⟩)

end Sys2Proof.Machine

/-!
PROOF. Hold lists toward the Hearth, an answer that leaves a Host port, partner credits, mirror timers and the census (R178, R187, R189,
R191, R196, R205).
-/
namespace Sys2Proof.Machine

/-! ## A management message toward the Hearth (R178, R218) -/

theorem State.not_quenched_of_queue {s : State} {m : Msg} (h : m.queueIx ≠ 2) : s.quenched m = false := by
  simp [State.quenched, State.passesMeter, h]

/-- A Green message for the Hearth that nothing holds back, at the head of its list, is offered to it (R178). -/
theorem State.retry_toHearth (s : State) (m : Msg) (hst : m.stage = .held) (hw : m.wait = none) (ht : m.twin = none)
    (hqueue : m.queueIx ≠ 2) (hd : m.dst = 127) (hcol : m.colour = .green) : s.retry m = s.offer m false := by
  have hfar : ¬ m.dst < 96 := by omega
  simp [State.retry, State.tryHead, hw, ht, hst, hcol, State.not_quenched_of_queue hqueue, hfar]

/-- A message that fits within the management reserve goes by it, where no session copies and no copy waits (R176, R192, R195). -/
theorem State.toHearth_reserve (s : State) (m : Msg) (hf : Frozen s) (hop : m.op ≠ .mirror) (hall : ∀ x ∈ s.msgs, x.op ≠ .mirror)
    (hoff : ∀ n : Fin 8, s.flag F.MIR_CTRL_EN m.half n.val = false)
    (hhdr : (s.msgs.filter (fun x => x.half == m.half && x.hdrMgmt)).length < 256)
    (hfit : s.charged m.half .mgmt + m.blocks ≤ s.get F.BUF_MGMT_RESERVE_V m.half) :
    s.toHearth m = some (s.place m.withHearth) := by
  have hnone : (s.place m.withHearth).mirrorHead m.half = none := by
    refine List.find?_eq_none.mpr (fun x hx => ?_)
    have hx : x.op ≠ .mirror := by
      obtain hx | hx := List.mem_append.mp hx
      · exact hall x (List.mem_of_mem_filter hx)
      · rw [List.mem_singleton.mp hx]
        exact hop
    simp [hx]
  have htake : s.toHearth m = some ((((s.place m.withHearth).count 226 1 1).mirrorCopies m.half m.withHearth).mirrorFloor m.half
      (((s.place m.withHearth).count 226 1 1).mirrorCopies m.half m.withHearth).msgs.length) := by
    simp only [State.toHearth, hhdr, hfit, decide_true, Bool.and_self, if_true, Msg.withHearth]
  rw [htake, (s.place m.withHearth).count_frozen _ _ _ hf, (s.place m.withHearth).mirrorCopies_off _ _ hoff,
    State.mirrorFloor_none _ _ _ hnone]

/-- A Green message that the Hearth takes while its Flue link stands, whose credits no Cascade partner waits for (R174). -/
theorem State.offer_toHearth {s t : State} {m : Msg} (hd : m.dst = 127) (hcol : m.colour = .green)
    (hlost : s.txns.lost.contains m.half = false) (ht : s.toHearth m = some t) (hcredit : t.creditsBack m = t) :
    s.offer m false = t := by
  simp only [State.offer, hd, hcol, hlost, ht, hcredit]
  simp

/-! ## What the CRC of stored cells and the egress find (R197, R204) -/

theorem cellsMatch_dataCells (m : Msg) : cellsMatch m.dataCells = true := by
  simp [cellsMatch, Msg.dataCells]

theorem padTo_of_length {n : Nat} {b : List Byte} (h : n ≤ b.length) : padTo n b = b.take n := by
  rw [padTo, Nat.sub_eq_zero_of_le h, List.replicate_zero, List.append_nil]

/-- Whole blocks put together again. -/
theorem flatMap_take_drop (b : List Byte) (n k : Nat) :
    (List.range k).flatMap (fun i => (b.drop (n * i)).take n) = b.take (n * k) := by
  induction k with
  | zero => simp
  | succ k ih => rw [List.range_succ, List.flatMap_append, ih, List.flatMap_singleton, Nat.mul_succ, List.take_add]

/-- Data that fills its cells is what they hold. -/
theorem Msg.flatMap_dataCells {m : Msg} (h : m.data.length = 64 * m.blocks) : m.dataCells.flatMap Prod.fst = m.data := by
  have hcell : ∀ i ∈ List.range m.blocks, padTo 64 (m.data.drop (64 * i)) = (m.data.drop (64 * i)).take 64 := fun i hi => by
    have hi := List.mem_range.mp hi
    exact padTo_of_length (by rw [List.length_drop]; omega)
  rw [Msg.dataCells, List.flatMap_map, List.flatMap_congr hcell, flatMap_take_drop, ← h, List.take_length]

theorem Msg.sentCells_whole {m : Msg} (h : m.missing = 0) (cs : List (List Byte × Nat)) : m.sentCells cs = cs := by
  simp [Msg.sentCells, h]

/-- A message without cells of its own, all of whose data came, leaves the buffer as it is (R182, R197). -/
theorem State.leaves_uncelled (s : State) (p : Nat) (m : Msg) (hf : Frozen s) (hc : m.cells = []) (hk : s.buf.skid = [])
    (hmissing : m.missing = 0) (hqueue : m.queueIx ≠ 3) (hlen : m.data.length = 64 * m.blocks) :
    s.leaves p m = ({ m with late := 0 }, m.dataCells, { s with msgs := s.msgs.filter (fun x => x.id != m.id) }) := by
  have hcells : s.msgCells m = m.dataCells := by simp [State.msgCells, hc]
  have hcheck : s.egressCheck m = (m, s) := by rw [State.egressCheck, hcells, cellsMatch_dataCells, if_pos rfl]
  have hfill : s.fillMissing m = (m, s) := by simp [State.fillMissing, hmissing]
  have hsent : ({ m with data := ((m.sentCells (s.msgCells m)).flatMap Prod.fst).take m.data.length, late := 0, missing := 0 } : Msg)
      = { m with late := 0 } := by
    rw [hcells, Msg.sentCells_whole hmissing, Msg.flatMap_dataCells hlen, List.take_length, ← hmissing]
  have hq : (({ m with late := 0 } : Msg).queueIx == 3) = false := beq_eq_false_iff_ne.mpr hqueue
  have hremove := s.remove_no_cells { m with late := 0 } hc hk
  have hcount (v n k : Nat) : State.count { s with msgs := s.msgs.filter (fun x => x.id != m.id) } v n k =
      { s with msgs := s.msgs.filter (fun x => x.id != m.id) } := State.count_frozen _ v n k hf
  unfold State.leaves
  simp only [hcheck, hfill, hsent, hremove, hcount, hq, Bool.false_eq_true, if_false]
  rw [hcells, Msg.sentCells_whole hmissing]

/-- A read response with its data goes out to the host of its port (R28, R101). -/
theorem State.depart_memResp (s : State) (p : Nat) (m : Msg) (hf : Frozen s) (hc : m.cells = []) (hk : s.buf.skid = [])
    (hmissing : m.missing = 0) (hqueue : m.queueIx ≠ 3) (hlen : m.data.length = 64 * m.blocks) (hop : m.op = .memResp)
    (hdata : m.data ≠ []) (hpoison : m.poison = false) (hsaid : m.said = none) (hhost : s.isHostPort p = true) :
    s.depart p m = State.emit { s with msgs := s.msgs.filter (fun x => x.id != m.id) }
      (.toHost p m.id .memResp m.data false m.devLoad) := by
  have hhost' : State.isHostPort { s with msgs := s.msgs.filter (fun x => x.id != m.id) } p = true := hhost
  have hcascade := State.isCascade_of_isHostPort hhost'
  have hsome : m.data.isEmpty = false := by simpa using hdata
  simp only [State.depart, s.leaves_uncelled p m hf hc hk hmissing hqueue hlen, hsaid, hcascade, hhost', hpoison, hop, hsome]
  rfl

/-- The state after a start whose reads wait for no bank: the half's count of deferred reads is stored again. -/
def State.deferred (s : State) (h : Nat) : State := s.wr .READ_DEFER_COUNT (s.rd .READ_DEFER_COUNT h) h

/-- Where no check finds anything, no read waits and a message has no cells, the message that a port starts departs. -/
theorem exec_egressMessageStart_uncelled {s : State} {p : Port} {m : Msg} (hm : s.nextStart p.val = some m) (hc : m.cells = []) :
    exec (.egressMessageStart p .none 0) s =
      done ((s.deferred (halfOf p.val)).depart p.val m) := by
  show execEgressMessageStart p .none 0 s = _
  simp [execEgressMessageStart, hm, State.bump_zero, State.deferred, State.startChecked, hc, F.READ_DEFER_COUNT_V]

/-- A port starts a read response for its host: it leaves with its data. -/
theorem gives_egressMessageStart (s : State) (p : Port) (m : Msg) (hq : Quiet s) (hf : Frozen s) (hm : s.nextStart p.val = some m)
    (hop : m.op = .memResp) (hqueue : m.queueIx ≠ 3) (hdata : m.data ≠ []) (hlen : m.data.length = 64 * m.blocks)
    (hpoison : m.poison = false) (hc : m.cells = []) (hk : s.buf.skid = []) (hmissing : m.missing = 0) (hsaid : m.said = none)
    (hhost : s.isHostPort p.val = true) :
    Gives (.egressMessageStart p .none 0) s (fun t => t.out = s.out ++ [.toHost p.val m.id .memResp m.data false m.devLoad] ∧
      t.msgs = s.msgs.filter (fun x => x.id != m.id) ∧ KeepsRegs s t [] ∧
      { t with regs := s.regs, out := s.out, msgs := s.msgs } = s) := by
  have hexec := exec_egressMessageStart_uncelled hm hc
  have honly : OnlyRegs s (s.deferred (halfOf p.val)) [⟨.READ_DEFER_COUNT, halfOf p.val, 0⟩] := (OnlyRegs.refl s _).wr _ _ _ _ (.head _)
  have hrd := s.rd_wr_rd .READ_DEFER_COUNT (halfOf p.val) 0
  have hget := s.get_wr_rd .READ_DEFER_COUNT (halfOf p.val) 0
  rw [← State.deferred] at hrd hget
  generalize s.deferred (halfOf p.val) = u at hexec honly hrd hget
  have hout : u.out = s.out := honly.unseen State.out (fun _ _ => rfl)
  have hmsgs : u.msgs = s.msgs := honly.unseen State.msgs (fun _ _ => rfl)
  have hbuf : u.buf = s.buf := honly.unseen State.buf (fun _ _ => rfl)
  have hfu : Frozen u := by rw [Frozen, State.flag, hget]; exact hf
  rw [u.depart_memResp p.val m hfu hc (by rw [hbuf, hk]) hmissing hqueue hlen hop hdata hpoison hsaid
    ((State.isHostPort_congr hget _).trans hhost)] at hexec
  exact Gives.of_done hexec (honly.todo.trans hq) ⟨congrArg (· ++ _) hout, congrArg (List.filter _) hmsgs,
    (show KeepsRegs s u [] from fun k _ => hrd k.reg k.i k.j).regs rfl,
    honly.unseen (fun x => { x with regs := s.regs, out := s.out, msgs := s.msgs }) (fun _ _ => rfl)⟩

/-! ## Partner credits (R205) -/

/-- Exactly the classes whose heads the credits do not cover are remembered. -/
theorem starved_contains (l : List Nat) (p : Nat) (covered : BitVec 4) (q : Fin 4) :
    (l.filter (fun n => n / 4 != p) ++ ((List.range 4).filter (fun q => !covered.getLsbD q)).map (fun q => 4 * p + q)).contains
      (4 * p + q.val) = !covered.getLsbD q.val := by
  have hdiv : (4 * p + q.val) / 4 = p := by omega
  rw [Bool.eq_iff_iff]
  simp [hdiv]

/-! ## The census (R187, R189) -/

theorem State.censusStart_idle {s : State} {h : Nat} (hblaze : s.atBlaze h = true) (hidle : s.flag F.CENSUS_STATUS_BUSY h = false) :
    s.censusStart h = s.put F.CENSUS_STATUS_BUSY 1 h := by
  simp [State.censusStart, hblaze, hidle]

/-- A census starts where none runs, whichever command asks for it (R187, R191). -/
theorem gives_censusStart {c : Instr} {s : State} {h : Nat} (hq : Quiet s) (e : exec c s = done (s.censusStart h))
    (hblaze : s.atBlaze h = true) (hidle : s.flag F.CENSUS_STATUS_BUSY h = false) :
    Gives c s (fun t => t.flag F.CENSUS_STATUS_BUSY h = true ∧ OnlyRegs s t [⟨.CENSUS_STATUS, h, 0⟩]) := by
  rw [State.censusStart_idle hblaze hidle] at e
  exact Gives.of_done e ((s.put_todo _ _ _ _).trans hq)
    ⟨s.flag_putFlag_self (by decide) (by decide) true _ _, (OnlyRegs.refl s _).put _ _ _ _ (.head _)⟩

/-- What a first census did not find is marked; every orphan of another half stays. -/
def markMissed (h : Nat) (o : Orphan) : Orphan := if o.half == h then { o with missed := 1 } else o

/-- A completed census is counted. -/
def State.censusCounted (s : State) (h : Nat) : State := (s.put F.CENSUS_STATUS_BUSY 0 h).bumpWrap F.CENSUS_STATUS_COUNT 1 h

theorem State.censusCounted_onlyRegs (s : State) (h : Nat) : OnlyRegs s (s.censusCounted h) [⟨.CENSUS_STATUS, h, 0⟩] :=
  ((OnlyRegs.refl s _).put _ _ _ _ (.head _)).put _ _ _ _ (.head _)

theorem State.censusCounted_reads (s : State) (h : Nat) :
    (s.censusCounted h).flag F.CENSUS_STATUS_BUSY h = false ∧
      (s.censusCounted h).get F.CENSUS_STATUS_COUNT h = (s.get F.CENSUS_STATUS_COUNT h + 1) % 2 ^ F.CENSUS_STATUS_COUNT.w := by
  refine ⟨(State.flag_put_of_apart _ (by decide) _ _ _ _ _).trans (s.flag_putFlag_self (by decide) (by decide) false _ _),
    (State.get_put_self _ _ _ _ _ (by decide)).trans ?_⟩
  rw [State.get_put_of_apart _ (by decide)]

/-- A census of a half in which no orphan was missed before reclaims nothing (R189). -/
theorem State.censusComplete_first (s : State) (h : Nat) (hbusy : s.flag F.CENSUS_STATUS_BUSY h = true)
    (hnew : ∀ o ∈ s.buf.orphans, o.missed = 0) :
    s.censusComplete h [] = { s.censusCounted h with buf := { s.buf with orphans := s.buf.orphans.map (markMissed h) } } := by
  have hdue : s.buf.orphans.filter (fun o => o.half == h && decide (1 ≤ o.missed)) = [] :=
    List.filter_eq_nil_iff.mpr (fun o ho => by simp [hnew o ho])
  have hrest : s.buf.orphans.filter (fun o => !(o.half == h && decide (1 ≤ o.missed))) = s.buf.orphans :=
    List.filter_eq_self.mpr (fun o ho => by simp [hnew o ho])
  have hmark : s.buf.orphans.map (fun o => if o.half == h then { o with missed := o.missed + 1 } else o) =
      s.buf.orphans.map (markMissed h) := List.map_congr_left (fun o ho => by rw [hnew o ho]; rfl)
  have hbuf : (s.censusCounted h).buf = s.buf := (s.censusCounted_onlyRegs h).unseen State.buf (fun _ _ => rfl)
  unfold State.censusComplete
  rw [if_pos hbusy]
  have hcounted : (s.put F.CENSUS_STATUS_BUSY 0 h).bumpWrap F.CENSUS_STATUS_COUNT 1 h = s.censusCounted h := rfl
  simp only [hcounted, hbuf, hdue, hrest, hmark, List.foldl_nil]

/-- A first census ends: it is counted, and the orphans of its half are marked. -/
theorem gives_censusComplete (s : State) (h : Half) (hq : Quiet s) (hbusy : s.flag F.CENSUS_STATUS_BUSY (hix h) = true)
    (hnew : ∀ o ∈ s.buf.orphans, o.missed = 0) :
    Gives (.censusComplete h []) s (fun t => t.flag F.CENSUS_STATUS_BUSY (hix h) = false ∧
      t.get F.CENSUS_STATUS_COUNT (hix h) = (s.get F.CENSUS_STATUS_COUNT (hix h) + 1) % 2 ^ F.CENSUS_STATUS_COUNT.w ∧
      t.buf.orphans = s.buf.orphans.map (markMissed (hix h)) ∧ KeepsRegs s t [⟨.CENSUS_STATUS, hix h, 0⟩] ∧
      t.msgs = s.msgs ∧ t.out = s.out) := by
  have hexec : exec (.censusComplete h []) s = done { s.censusCounted (hix h) with
      buf := { s.buf with orphans := s.buf.orphans.map (markMissed (hix h)) } } := by
    show execCensusComplete h [] s = _
    rw [execCensusComplete, s.censusComplete_first (hix h) hbusy hnew]
  have honly := s.censusCounted_onlyRegs (hix h)
  obtain ⟨hidle, hcount⟩ := s.censusCounted_reads (hix h)
  -- the kernel is to compare states with a variable in them, not with the register file written out
  obtain ⟨u, hu⟩ : ∃ u, s.censusCounted (hix h) = u := ⟨_, rfl⟩
  rw [hu] at hexec honly hidle hcount
  exact Gives.of_done hexec (honly.todo.trans hq) ⟨hidle, hcount, rfl, honly.1.regs rfl,
    honly.unseen State.msgs (fun _ _ => rfl), honly.unseen State.out (fun _ _ => rfl)⟩

/-! ## The statement -/

/-- Settles O6: each command's effect is written out by the lemma about its path, and the rest of the state is untouched. -/
theorem switchQueuesAndMirrors : Obligations.SwitchQueuesAndMirrors := by
  unfold Obligations.SwitchQueuesAndMirrors
  refine ⟨?hold, ?egress, ?credits, ?timer, ?start, ?runNow, ?complete⟩
  case hold =>
    rintro s h k d m hq hf hd hhead hst hdst hcls hop _ hoff hall hhalf hlost hw ht hcol hcharge hc hhdr hfit
    rw [← hhalf] at hoff hlost
    have hqueue : m.queueIx = 0 := by simp [Msg.queueIx, hop, hcls, egressClass]
    have hearth : s.toHearth m = some (s.place m.withHearth) :=
      s.toHearth_reserve m hf (by simp [hop]) hall hoff hhdr hfit
    have hcredit : (s.place m.withHearth).creditsBack m = s.place m.withHearth :=
      State.creditsBack_uncascaded hc (by simp [hcharge])
    have hretry : s.retry m = s.place m.withHearth :=
      (s.retry_toHearth m hst hw ht (by simp [hqueue]) hdst hcol).trans (State.offer_toHearth hdst hcol hlost hearth hcredit)
    refine Gives.of_done (u := s.place m.withHearth) ?_ hq ⟨rfl, rfl⟩
    show execHoldListRetry h false k d 0 s = _
    rw [execHoldListRetry, hd, show (0 : Fin 4).val = 0 from rfl, hhead, ← hretry]
  case egress =>
    intro s p m hq hf hm hop hcls hdata hlen hpoison hc hk hmissing hsaid hhost
    have hqueue : m.queueIx ≠ 3 := by simp [Msg.queueIx, hop, hcls, egressClass]
    exact gives_egressMessageStart s p m hq hf hm hop hqueue hdata hlen hpoison hc hk hmissing hsaid hhost
  case credits =>
    intro s p covered hq _
    exact Gives.of_done (u := { s with buf := { s.buf with starved := _ } }) rfl hq
      ⟨starved_contains s.buf.starved p.val covered, rfl⟩
  case timer =>
    intro s h n hq _ hen
    have hexec : exec (.mirrorIdleTimer h n) s = done (s.mirrorProduce (hix h) n.val) := by
      show execMirrorIdleTimer h n s = _
      rw [execMirrorIdleTimer, if_pos hen]
    exact Gives.of_done hexec hq ⟨rfl, rfl, rfl⟩
  case start => exact fun s h hq _ hblaze hidle => gives_censusStart hq rfl hblaze hidle
  case runNow => exact fun s h hq _ hblaze hidle => gives_censusStart hq rfl hblaze hidle
  case complete => exact fun s h hq _ hbusy hnew => gives_censusComplete s h hq hbusy hnew

end Sys2Proof.Machine

/-!
PROOF. Spare banks, meters, Bulk promotion and histograms (R199, R209, R217, R221 to R223).
-/
namespace Sys2Proof.Machine

/-! ## Spare banks (R199) -/

/-- A spare bank, all of its rows free, is in use. -/
def State.spareIn (s : State) (h k : Nat) : State := (s.put F.BANK_CTRL_STATE 0 h k).put F.BANK_CTRL_FREE 3072 h k

theorem State.spareIn_onlyRegs (s : State) (h k : Nat) : OnlyRegs s (s.spareIn h k) [⟨.BANK_CTRL, h, k⟩] :=
  ((OnlyRegs.refl s _).put _ _ _ _ (.head _)).put _ _ _ _ (.head _)

theorem State.spareIn_reads (s : State) (h k : Nat) :
    (s.spareIn h k).get F.BANK_CTRL_STATE h k = 0 ∧ (s.spareIn h k).get F.BANK_CTRL_FREE h k = 3072 :=
  ⟨(State.get_put_of_apart _ (by decide) _ _ _ _ _).trans (State.get_put_lt _ _ _ _ (by decide) (by decide)),
   State.get_put_lt _ _ _ _ (by decide) (by decide)⟩

/-- A bank has left the pool: it drained at once. -/
def State.bankGone (s : State) (h b : Nat) : State :=
  ((s.put F.BANK_CTRL_STATE 2 h b).put F.BANK_CTRL_FREE 0 h b).put F.BANK_CTRL_STATE 3 h b

theorem State.bankGone_onlyRegs (s : State) (h b : Nat) : OnlyRegs s (s.bankGone h b) [⟨.BANK_CTRL, h, b⟩] := by
  have hk : (⟨.BANK_CTRL, h, b⟩ : Key) ∈ [(⟨.BANK_CTRL, h, b⟩ : Key)] := .head _
  unfold State.bankGone
  exact (((OnlyRegs.refl s _).put _ _ _ _ hk).put _ _ _ _ hk).put _ _ _ _ hk

theorem State.bankGone_reads (s : State) (h b : Nat) :
    (s.bankGone h b).get F.BANK_CTRL_STATE h b = 3 ∧ (s.bankGone h b).get F.BANK_CTRL_FREE h b = 0 :=
  ⟨State.get_put_lt _ _ _ _ (by decide) (by decide),
   (State.get_put_of_apart _ (by decide) _ _ _ _ _).trans (State.get_put_lt _ _ _ _ (by decide) (by decide))⟩

/-- A bank of which no message and no orphan holds a cell is gone as soon as it drains. -/
theorem State.drain_unused (s : State) (h b : Nat) (hm : s.msgs = []) (ho : s.buf.orphans = []) :
    ((s.put F.BANK_CTRL_STATE 2 h b).put F.BANK_CTRL_FREE 0 h b).bankDrained h b = s.bankGone h b := by
  generalize hu : (s.put F.BANK_CTRL_STATE 2 h b).put F.BANK_CTRL_FREE 0 h b = u
  have hst : u.get F.BANK_CTRL_STATE h b = 2 := by
    rw [← hu, State.get_put_of_apart _ (by decide), State.get_put_lt _ _ _ _ (by decide) (by decide)]
  have hum : u.msgs = [] := by rw [← hu, State.put_msgs, State.put_msgs, hm]
  have huo : u.buf.orphans = [] := by rw [← hu, State.put_buf, State.put_buf, ho]
  rw [State.bankGone, hu]
  simp [State.bankDrained, hum, huo, hst]

/-- The first spare takes the place of a bank in use. -/
theorem State.bankRetire_spare (s : State) (h b k : Nat) (hb : s.get F.BANK_CTRL_STATE h b = 0)
    (hk : (List.range 256).find? (fun x => s.get F.BANK_CTRL_STATE h x == 1) = some k) (hm : s.msgs = []) (ho : s.buf.orphans = []) :
    s.bankRetire h b = (s.spareIn h k).bankGone h b := by
  have honly := s.spareIn_onlyRegs h k
  have hmsgs : (s.spareIn h k).msgs = [] := (honly.unseen State.msgs (fun _ _ => rfl)).trans hm
  have horphans : (s.spareIn h k).buf.orphans = [] := (honly.unseen (fun x => x.buf.orphans) (fun _ _ => rfl)).trans ho
  rw [← State.drain_unused _ h b hmsgs horphans, State.spareIn]
  unfold State.bankRetire
  rw [hb, hk]
  simp only [bne_self_eq_false, Bool.false_eq_true, if_false]

/-! ## Meters (R209) -/

/-- A refill of a half in which one meter misses tokens gives it 16 ns of its rates. -/
theorem State.refill_one (s : State) (h st c r : Nat) (hst : st < 4096) (hd : s.buf.deficits = [(4096 * h + st, (c, r))]) :
    s.refill h = s.setMissing h st (c - s.get F.METER_CIR_CIR h st, r - s.get F.METER_PIR_PIR h st) := by
  have hhalf : (4096 * h + st) / 4096 = h := by omega
  have hstall : (4096 * h + st) % 4096 = st := by omega
  simp [State.refill, hd, hhalf, hstall]

/-! ## The Bulk shaper (R217) -/

/-- A number of 31 bits is what its two's complement of 32 bits says. -/
theorem signed32_toTwos32 {n : Nat} (h : n < 2 ^ 31) : signed32 (toTwos32 n % 2 ^ 32) = n := by
  have htwos : toTwos32 n = n := by
    rw [toTwos32, Int.emod_eq_of_lt (by omega) (by omega), Int.toNat_natCast]
  have hmod : n % 2 ^ 32 = n := Nat.mod_eq_of_lt (by omega)
  rw [htwos, hmod, signed32, hmod, if_pos h]

theorem State.bulkCredit_setBulkCredit (s : State) (p : Nat) {n : Nat} (h : n < 2 ^ 31) : (s.setBulkCredit p n).bulkCredit p = n := by
  rw [State.bulkCredit, State.setBulkCredit, State.get_put_self _ _ _ _ _ (by decide)]
  exact signed32_toTwos32 h

/-! ## Histograms (R221 to R223) -/

/-- A bucket of both histograms of a port counts a sample. -/
def State.countBucket (s : State) (e : Nat × Nat) : State :=
  (s.put F.DEPTH_HIST_V (saturated 32 (s.get F.DEPTH_HIST_V e.1 e.2) 1) e.1 e.2).put F.DELAY_HIST_V
    (saturated 32 (s.get F.DELAY_HIST_V e.1 e.2) 1) e.1 e.2

/-- Both histograms have counted one sample in a bucket. -/
def BucketCounted (s t : State) (e : Nat × Nat) : Prop :=
  t.get F.DEPTH_HIST_V e.1 e.2 = saturated 32 (s.get F.DEPTH_HIST_V e.1 e.2) 1 ∧
    t.get F.DELAY_HIST_V e.1 e.2 = saturated 32 (s.get F.DELAY_HIST_V e.1 e.2) 1

/-- The registers of a bucket. -/
def bucketRegs (e : Nat × Nat) : List Key := [⟨.DEPTH_HIST, e.1, e.2⟩, ⟨.DELAY_HIST, e.1, e.2⟩]

theorem State.countBucket_onlyRegs (s : State) (e : Nat × Nat) : OnlyRegs s (s.countBucket e) (bucketRegs e) :=
  ((OnlyRegs.refl s _).put _ _ _ _ (.head _)).put _ _ _ _ (.tail _ (.head _))

theorem State.countBucket_counted (s : State) (e : Nat × Nat) : BucketCounted s (s.countBucket e) e :=
  ⟨(State.get_put_of_apart _ (by decide) _ _ _ _ _).trans (State.get_put_lt _ _ _ _ (by decide) (saturated_lt 32 _ _)),
   State.get_put_lt _ _ _ _ (by decide) (saturated_lt 32 _ _)⟩

theorem eq_of_mem_bucketRegs {k : Key} {e : Nat × Nat} (h : k ∈ bucketRegs e) : (k.i, k.j) = e := by
  simp only [bucketRegs, List.mem_cons, List.not_mem_nil, or_false] at h
  rcases h with rfl | rfl <;> rfl

/-- A bucket whose registers are kept reads as before. -/
theorem get_bucket_of_keeps {s t : State} {l : List (Nat × Nat)} (h : KeepsRegs s t (l.flatMap bucketRegs)) {e : Nat × Nat}
    (he : e ∉ l) :
    t.get F.DEPTH_HIST_V e.1 e.2 = s.get F.DEPTH_HIST_V e.1 e.2 ∧ t.get F.DELAY_HIST_V e.1 e.2 = s.get F.DELAY_HIST_V e.1 e.2 := by
  have hkeys : ∀ k ∈ bucketRegs e, k ∉ l.flatMap bucketRegs := fun k hk hm => by
    obtain ⟨x, hx, hkx⟩ := List.mem_flatMap.mp hm
    have hxe : x = e := (eq_of_mem_bucketRegs hkx).symm.trans (eq_of_mem_bucketRegs hk)
    exact he (hxe ▸ hx)
  exact ⟨h.get (f := F.DEPTH_HIST_V) (hkeys _ (.head _)), h.get (f := F.DELAY_HIST_V) (hkeys _ (.tail _ (.head _)))⟩

/-- Buckets that count one after another, each once. -/
theorem State.countBuckets_counted (l : List (Nat × Nat)) (s : State) (hnodup : l.Nodup) :
    OnlyRegs s (l.foldl State.countBucket s) (l.flatMap bucketRegs) ∧ ∀ e ∈ l, BucketCounted s (l.foldl State.countBucket s) e := by
  induction l generalizing s with
  | nil => exact ⟨OnlyRegs.refl s _, by simp⟩
  | cons e l ih =>
    obtain ⟨he, hl⟩ := List.nodup_cons.mp hnodup
    obtain ⟨honly, hcounted⟩ := ih (s.countBucket e) hl
    have hhead := s.countBucket_onlyRegs e
    refine ⟨(hhead.mono (List.subset_append_left _ _)).trans (honly.mono (List.subset_append_right _ _)), fun x hx => ?_⟩
    obtain rfl | hx := List.mem_cons.mp hx
    · obtain ⟨hdepth, hdelay⟩ := get_bucket_of_keeps honly.1 he
      obtain ⟨hdepth', hdelay'⟩ := s.countBucket_counted x
      exact ⟨hdepth.trans hdepth', hdelay.trans hdelay'⟩
    · have hne : x ∉ [e] := fun hm => he (List.mem_singleton.mp hm ▸ hx)
      obtain ⟨hdepth, hdelay⟩ := get_bucket_of_keeps (l := [e]) (hhead.1.mono (by simp)) hne
      obtain ⟨hdepth', hdelay'⟩ := hcounted x hx
      exact ⟨by rw [List.foldl_cons, hdepth', hdepth], by rw [List.foldl_cons, hdelay', hdelay]⟩

/-- What lets every queue of some ports be sampled as empty. -/
structure SamplesEmpty (s : State) (l : List Nat) : Prop where
  msgs : s.msgs = []
  runs : ∀ p ∈ l, s.flag F.HIST_CTRL_FREEZE p = false

theorem SamplesEmpty.countBucket {s : State} {l : List Nat} (h : SamplesEmpty s l) (e : Nat × Nat) : SamplesEmpty (s.countBucket e) l where
  msgs := ((s.countBucket_onlyRegs e).unseen State.msgs (fun _ _ => rfl)).trans h.msgs
  runs p hp := by
    rw [State.flag, (s.countBucket_onlyRegs e).1.get (by simp [bucketRegs, F.HIST_CTRL_FREEZE])]
    exact h.runs p hp

/-- A fold whose steps are those of another where an invariant of that other holds. -/
theorem foldl_congr_of_invariant {σ α : Type} {I : σ → Prop} {f g : σ → α → σ} {l : List α} {s : σ} (h : I s)
    (hstep : ∀ t, ∀ x ∈ l, I t → I (g t x)) (heq : ∀ t, ∀ x ∈ l, I t → f t x = g t x) : l.foldl f s = l.foldl g s := by
  induction l generalizing s with
  | nil => rfl
  | cons x l ih =>
    rw [List.foldl_cons, List.foldl_cons, heq s x List.mem_cons_self h]
    exact ih (hstep s x List.mem_cons_self h) (fun t y hy => hstep t y (.tail _ hy)) (fun t y hy => heq t y (.tail _ hy))

/-- A sample of an empty queue counts in bucket 0 of its class (R222). -/
theorem State.sampleQueue_empty {s : State} (hm : s.msgs = []) (p q : Nat) : s.sampleQueue p q = s.countBucket (p, 16 * q) := by
  have hempty : s.queue p q = [] := by simp [State.queue, hm]
  simp only [State.sampleQueue, hempty, histBucket, List.isEmpty_nil, if_true, Nat.add_zero]
  rw [State.bump_unwatched _ _ _ _ _ rfl, State.bump_unwatched _ _ _ _ _ rfl, State.get_put_reg _ _ _ _ _ _ _ _ (by decide)]
  rfl

/-- The buckets 0 of the five classes of a port, and those of the ports of a half. -/
def emptyBuckets (p : Nat) : List (Nat × Nat) := ((List.range 5).map (16 * ·)).map (Prod.mk p)
def halfBuckets (h : Nat) : List (Nat × Nat) := (portsOf h).flatMap emptyBuckets

theorem State.samplePort_empty {s : State} {l : List Nat} (h : SamplesEmpty s l) {p : Nat} (hp : p ∈ l) :
    s.samplePort p = (emptyBuckets p).foldl State.countBucket s := by
  rw [State.samplePort, h.runs p hp, if_neg Bool.false_ne_true, emptyBuckets, List.foldl_map, List.foldl_map]
  exact foldl_congr_of_invariant (I := (SamplesEmpty · l)) h (fun _ _ _ ht => ht.countBucket _)
    (fun _ _ _ ht => State.sampleQueue_empty ht.msgs _ _)

theorem State.samplePorts_empty {s : State} {h : Nat} (hs : SamplesEmpty s (portsOf h)) :
    (portsOf h).foldl State.samplePort s = (halfBuckets h).foldl State.countBucket s := by
  rw [halfBuckets, List.foldl_flatMap]
  exact foldl_congr_of_invariant (I := (SamplesEmpty · (portsOf h))) hs
    (fun _ p _ ht => List.foldlRecOn (motive := (SamplesEmpty · (portsOf h))) (emptyBuckets p) _ ht (fun _ hu _ _ => hu.countBucket _))
    (fun _ _ hp ht => State.samplePort_empty ht hp)

theorem halfBuckets_nodup (h : Nat) : (halfBuckets h).Nodup := by
  have hports : (portsOf h).Nodup := List.nodup_range.map (fun a b hab => by simpa using hab)
  have hclasses : ((List.range 5).map (16 * ·)).Nodup := List.nodup_range.map (fun a b hab => by simpa using hab)
  exact hports.product hclasses

theorem mem_halfBuckets (h : Nat) (k : Fin 48) (q : Fin 5) : (48 * h + k.val, 16 * q.val) ∈ halfBuckets h :=
  List.mem_flatMap.mpr ⟨48 * h + k.val, List.mem_map.mpr ⟨k.val, List.mem_range.mpr k.isLt, rfl⟩,
    List.mem_map_of_mem (List.mem_map_of_mem (List.mem_range.mpr q.isLt))⟩

/-- A bucket of both histograms of a port is emptied. -/
def State.clearBucket (p : Nat) (s : State) (n : Nat) : State := (s.put F.DEPTH_HIST_V 0 p n).put F.DELAY_HIST_V 0 p n

/-- A bucket of both histograms of a port reads 0. -/
def BucketEmpty (s : State) (p n : Nat) : Prop := s.get F.DEPTH_HIST_V p n = 0 ∧ s.get F.DELAY_HIST_V p n = 0

theorem State.histClear_eq (s : State) (p : Nat) : s.histClear p = (List.range 80).foldl (State.clearBucket p) s := rfl

theorem State.clearBucket_onlyRegs (p : Nat) (s : State) (n : Nat) : OnlyRegs s (s.clearBucket p n) (bucketRegs (p, n)) :=
  ((OnlyRegs.refl s _).put _ _ _ _ (.head _)).put _ _ _ _ (.tail _ (.head _))

theorem State.clearBucket_empty (p : Nat) (s : State) {m n : Nat} (h : n = m ∨ BucketEmpty s p n) :
    BucketEmpty (s.clearBucket p m) p n := by
  by_cases hn : n = m
  · subst hn
    exact ⟨(State.get_put_of_apart _ (by decide) _ _ _ _ _).trans (State.get_put_lt _ _ _ _ (by decide) (by decide)),
      State.get_put_lt _ _ _ _ (by decide) (by decide)⟩
  · obtain ⟨hdepth, hdelay⟩ := h.resolve_left hn
    obtain ⟨hdepth', hdelay'⟩ := get_bucket_of_keeps (l := [(p, m)]) (e := (p, n))
      ((s.clearBucket_onlyRegs p m).1.mono (by simp)) (by simp [hn])
    exact ⟨hdepth'.trans hdepth, hdelay'.trans hdelay⟩

/-- Buckets that are emptied one after another. -/
theorem State.clearBuckets_empty (p : Nat) (l : List Nat) (s : State) :
    OnlyRegs s (l.foldl (State.clearBucket p) s) (l.flatMap (fun n => bucketRegs (p, n))) ∧
      ∀ n, n ∈ l ∨ BucketEmpty s p n → BucketEmpty (l.foldl (State.clearBucket p) s) p n := by
  induction l generalizing s with
  | nil => exact ⟨OnlyRegs.refl s _, by simp⟩
  | cons m l ih =>
    obtain ⟨honly, hempty⟩ := ih (s.clearBucket p m)
    refine ⟨((s.clearBucket_onlyRegs p m).mono (List.subset_append_left _ _)).trans (honly.mono (List.subset_append_right _ _)),
      fun n hn => hempty n ?_⟩
    rw [List.mem_cons, or_right_comm] at hn
    exact hn.symm.imp_right (State.clearBucket_empty p s)

/-! ## The statement -/

/-- Settles O7: each command's effect is written out by the lemma about its path, and the rest of the state is untouched. -/
theorem banksMetersAndHistograms : Obligations.BanksMetersAndHistograms := by
  unfold Obligations.BanksMetersAndHistograms
  refine ⟨?bank, ?refill, ?bulk, ?sample, ?clear⟩
  case bank =>
    intro s h b k hq _ hb hk hm ho
    have hne : b.val ≠ k := fun e => by
      have hspare := List.find?_some hk
      simp [← e, hb] at hspare
    have hin := s.spareIn_onlyRegs (hix h) k
    have hgone := (s.spareIn (hix h) k).bankGone_onlyRegs (hix h) b.val
    have hspare : (⟨.BANK_CTRL, hix h, k⟩ : Key) ∉ [(⟨.BANK_CTRL, hix h, b.val⟩ : Key)] := by simp [hne.symm]
    obtain ⟨hstate, hfree⟩ := (s.spareIn (hix h) k).bankGone_reads (hix h) b.val
    obtain ⟨hstate', hfree'⟩ := s.spareIn_reads (hix h) k
    have honly := (hin.mono (List.subset_cons_self ⟨.BANK_CTRL, hix h, b.val⟩ _)).trans
      (hgone.mono (List.cons_subset_cons _ (List.nil_subset _)))
    exact Gives.of_done (congrArg done (s.bankRetire_spare (hix h) b.val k hb hk hm ho)) (honly.todo.trans hq)
      ⟨hstate, hfree, (hgone.1.get hspare).trans hstate', (hgone.1.get hspare).trans hfree', honly⟩
  case refill =>
    intro s h st c r hq _ hblaze hst hd
    have hexec : exec (.meterTokenRefill h) s = done (s.setMissing (hix h) st
        (c - s.get F.METER_CIR_CIR (hix h) st, r - s.get F.METER_PIR_PIR (hix h) st)) := by
      show execMeterTokenRefill h s = _
      rw [execMeterTokenRefill, if_pos hblaze, s.refill_one (hix h) st c r hst hd]
    exact Gives.of_done hexec hq ⟨numGet_put_self _ _ _ _, rfl⟩
  case bulk =>
    intro s p hq _ hqueue
    have hhigh : 16 * s.get F.BULK_SHAPE_HI_CREDIT p.val < 2 ^ 31 := by
      have hlt : s.get F.BULK_SHAPE_HI_CREDIT p.val < 2 ^ 16 := Nat.mod_lt _ (by decide)
      omega
    have hexec : exec (.bulkPromote p) s = done ((s.setBulkCredit p.val (s.bulkHigh p.val)).put F.BULK_STATUS_PROMOTED 1 p.val) := by
      show execBulkPromote p s = _
      rw [execBulkPromote, if_neg (by simpa using hqueue)]
    have honly : OnlyRegs s ((s.setBulkCredit p.val (s.bulkHigh p.val)).put F.BULK_STATUS_PROMOTED 1 p.val)
        [⟨.BULK_CREDIT, p.val, 0⟩, ⟨.BULK_STATUS, p.val, 0⟩] :=
      ((OnlyRegs.refl s _).put _ _ _ _ (.head _)).put _ _ _ _ (.tail _ (.head _))
    refine Gives.of_done hexec (honly.todo.trans hq) ⟨State.flag_putFlag_self _ (by decide) (by decide) true _ _, ?_, honly⟩
    rw [State.bulkCredit, State.get_put_reg _ _ _ _ _ _ _ _ (by decide), ← State.bulkCredit]
    exact s.bulkCredit_setBulkCredit p.val hhigh
  case sample =>
    intro s h k hq _ hm hruns
    have hs : SamplesEmpty s (portsOf (hix h)) := ⟨hm, fun p hp => by
      obtain ⟨n, hn, rfl⟩ := List.mem_map.mp hp
      exact hruns ⟨n, List.mem_range.mp hn⟩⟩
    obtain ⟨honly, hcounted⟩ := State.countBuckets_counted (halfBuckets (hix h)) s (halfBuckets_nodup _)
    have hexec : exec (.histSample h) s = done ((halfBuckets (hix h)).foldl State.countBucket s) := by
      show execHistSample h s = _
      rw [execHistSample, State.samplePorts_empty hs]
    generalize (halfBuckets (hix h)).foldl State.countBucket s = t at honly hcounted hexec
    exact Gives.of_done hexec (honly.todo.trans hq)
      ⟨fun q => hcounted _ (mem_halfBuckets (hix h) k q), honly.unseen State.msgs (fun _ _ => rfl),
        honly.unseen State.out (fun _ _ => rfl)⟩
  case clear =>
    intro s p hq _
    obtain ⟨honly, hempty⟩ := State.clearBuckets_empty p.val (List.range 80) s
    have hexec : exec (.histClear p) s = done ((List.range 80).foldl (State.clearBucket p.val) s) := by
      show execHistClear p s = _
      rw [execHistClear, s.histClear_eq]
    generalize (List.range 80).foldl (State.clearBucket p.val) s = t at honly hempty hexec
    exact Gives.of_done hexec (honly.todo.trans hq)
      ⟨fun n => hempty n.val (.inl (List.mem_range.mpr n.isLt)), honly⟩

end Sys2Proof.Machine

/-!
PROOF. What firmware answers in a Stall's mailbox about its capacity, its health and the poison in it (R219, R252).
-/
namespace Sys2Proof.Machine

/-! ## A line that the Hearth writes behind another message (R175, R178) -/

/-- A line of a slice that the Hearth writes: the slice's entry names a place at a port that refuses nothing, the slice does not move,
and the only message there is waits on the hold list that the write joins. -/
structure State.LineQueues (s : State) (r : SliceRef) (p l b : Nat) (m : Msg) : Prop where
  entry : s.sliceOf 0 r = (p, l, b)
  entryAtHalf : s.sliceOf (halfOf p) r = (p, l, b)
  unmoved : s.relocOf r = none
  taken : s.refuses p = false
  alone : s.msgs = [m]
  fresh : m.id ≠ s.nextId
  held : m.stage = .held
  input : m.input = 126
  dst : m.dst = p
  half : m.half = halfOf p
  queue : m.queueIx = 2

/-- The write of a line, in the Hearth's staging for its port. -/
def lineWrite (id : Nat) (r : SliceRef) (x p l b : Nat) (d : List Byte) (poison : Bool) : Msg :=
  { id := id, cls := 1, op := .memWrite, input := 126, dst := p, ld := l, dpa := b + x, slice := some r, off := x, addr := x,
    blocks := 1, data := d, poison := poison, len := 64, half := halfOf p, charge := .staging }

/-- A message that waits on the same hold list is ahead of the write. -/
theorem State.not_isHead_lineWrite {s : State} {r : SliceRef} {p l b : Nat} {m : Msg} (h : s.LineQueues r p l b m) (x : Nat)
    (d : List Byte) (poison : Bool) :
    ({ s with msgs := [m, lineWrite s.nextId r x p l b d poison] } : State).isHead (lineWrite s.nextId r x p l b d poison) = false := by
  have hqueue : (lineWrite s.nextId r x p l b d poison).queueIx = 2 := rfl
  simp [State.isHead, State.aheadOf, h.fresh, h.held, h.input, h.dst, h.half, h.queue, lineWrite]
  exact hqueue.symm

/-- So the write waits behind it, and nothing else happens. -/
theorem State.hearthWrite_queues {s : State} {r : SliceRef} {p l b : Nat} {m : Msg} (h : s.LineQueues r p l b m) (x : Nat)
    (d : List Byte) (poison : Bool) :
    s.hearthWrite r x d poison =
      { s with msgs := [m, lineWrite s.nextId r x p l b d poison], nextId := s.nextId + 1 } := by
  let w : Msg := lineWrite s.nextId r x p l b d poison
  let u : State := { s with msgs := [m, w], nextId := s.nextId + 1 }
  have haim : s.aim (halfOf p) { w with id := 0, ld := 0, dpa := 0, half := 0, charge := .none } =
      ({ w with id := 0, half := 0, charge := .none }, none) := by
    simp [State.aim, State.route, h.unmoved, h.entryAtHalf, Msg.at, Msg.isLedger, w, lineWrite]
  have henq : s.enqueue { w with id := 0, half := 0, charge := .none } (halfOf p) .staging = (w, u) := by
    simp [State.enqueue, State.freshId, h.alone, w, u, lineWrite]
  have hwaits : u.offerNew w false = u := by
    have hfind : u.msgs.find? (fun y => y.id == w.id) = some w := by simp [u, w, lineWrite, h.fresh]
    have hhead : u.isHead w = false := s.not_isHead_lineWrite h x d poison
    simp [State.offerNew, hfind, hhead]
  have hsend : s.hearthWrite r x d poison =
      (s.agentSend (halfOf p) { w with id := 0, ld := 0, dpa := 0, half := 0, charge := .none }).2 := by
    simp [State.hearthWrite, h.entry, h.taken, w, lineWrite]
  rw [hsend, State.agentSend, haim]
  simp only [henq, hwaits, u, w]

/-! ## Mailbox commands that write a line (R252) -/

/-- What an answer in the mailbox leaves, in whichever state it is given. -/
theorem State.mail_effect {s : State} {st : Nat} (hr : s.mailRuns st = true) (opcode : Nat) (code : MailCode) (vs : List Nat)
    (f : Emulated → Emulated) :
    Says s (s.mail st opcode code vs f) (s.mailPort st) (.mailbox st opcode code vs) ∧
      (s.mail st opcode code vs f).emul st = { f (s.emul st) with doorbell := false } ∧
      { s.mail st opcode code vs f with msgs := s.msgs, nextId := s.nextId, out := s.out, emulated := s.emulated } = s := by
  let u := s.setEmul st { f (s.emul st) with doorbell := false }
  have hmail : s.mail st opcode code vs f = u.say (s.mailPort st) (.mailbox st opcode code vs) := by
    rw [State.mail, if_pos hr]
  rw [hmail]
  exact ⟨u.say_says _ _, by simp [u],
    congrArg (fun v : State => { v with emulated := s.emulated }) (u.say_frame (s.mailPort st) (.mailbox st opcode code vs))⟩

/-- A mailbox command that has a line written, and then succeeds with a change of the emulated device: the write waits behind the
message that was there, and the answer follows it. -/
theorem gives_lineMail {c : Instr} {s : State} {st opcode x p l b : Nat} {r : SliceRef} {m : Msg} {d : List Byte} {poison : Bool}
    {f : Emulated → Emulated} (hq : Quiet s) (hr : s.mailRuns st = true) (h : s.LineQueues r p l b m)
    (e : exec c s = done ((s.hearthWrite r x d poison).mail st opcode .success [] f)) :
    Gives c s (fun t =>
      ((t.msgs.take 2).map (fun y => (y.op, y.input, y.dst, y.ld, y.dpa)) =
        [(m.op, m.input, m.dst, m.ld, m.dpa), (.memWrite, 126, p, l, b + x)]) ∧
      ((t.msgs.take 2).map (fun y => (y.data, y.poison)) = [(m.data, m.poison), (d, poison)]) ∧
      (t.emul st = { f (s.emul st) with doorbell := false }) ∧
      (t.msgs.drop 2 = if s.mailPort st < 96 then
        [hearthMsg (s.nextId + 1) (s.mailPort st) (.mailbox st opcode .success [])] else []) ∧
      (t.out = s.out ++ (if s.mailPort st < 96 then [] else [.mailbox st opcode .success []])) ∧
      KeepsRegs s t []) := by
  rw [State.hearthWrite_queues h] at e
  let u : State := { s with msgs := [m, lineWrite s.nextId r x p l b d poison], nextId := s.nextId + 1 }
  obtain ⟨⟨hmsgs, -, hout⟩, hemul, hframe⟩ := State.mail_effect (s := u) hr opcode .success [] f
  have hquiet : Quiet (u.mail st opcode .success [] f) := (congrArg State.todo hframe).trans hq
  have hregs : (u.mail st opcode .success [] f).regs = s.regs := by
    have hsame := congrArg State.regs hframe; exact hsame
  refine Gives.of_done e hquiet ⟨?_, ?_, hemul, ?_, hout, (KeepsRegs.refl s []).regs hregs⟩ <;> rw [hmsgs] <;> rfl

theorem exec_injectPoison {s : State} {st : StallId} {o : BitVec 64} {r : SliceRef} {x : Nat} (hr : s.mailRuns st.val = true)
    (hdebug : s.debugUnlocked = true) (hline : o.toNat % 64 = 0) (hin : o.toNat < s.get F.STALL_LAYOUT_CAP st.val * 2 ^ 28)
    (hslice : s.stallLine st.val o.toNat = (r, x)) :
    exec (.injectPoison st o) s = done ((s.hearthWrite r x zeros64 true).mail st.val 0x4301 .success []
      (fun e => { e with poison := e.poison.filter (fun y => y != o.toNat) ++ [o.toNat] })) := by
  have hstart : o.toNat / 64 * 64 = o.toNat := Nat.div_mul_cancel (Nat.dvd_of_mod_eq_zero hline)
  have hinside : s.inStall st.val o.toNat = true := decide_eq_true hin
  show execInjectPoison st o s = _
  simp [execInjectPoison, hstart, hr, hdebug, hinside, hslice]

theorem exec_clearPoison {s : State} {st : StallId} {o : BitVec 64} {r : SliceRef} {x : Nat} (hr : s.mailRuns st.val = true)
    (hline : o.toNat % 64 = 0) (hin : o.toNat < s.get F.STALL_LAYOUT_CAP st.val * 2 ^ 28)
    (hslice : s.stallLine st.val o.toNat = (r, x)) (d : List Byte) :
    exec (.clearPoison st o d) s = done ((s.hearthWrite r x d false).mail st.val 0x4302 .success []
      (fun e => { e with poison := e.poison.filter (fun y => y != o.toNat) })) := by
  have hstart : o.toNat / 64 * 64 = o.toNat := Nat.div_mul_cancel (Nat.dvd_of_mod_eq_zero hline)
  have hinside : s.inStall st.val o.toNat = true := decide_eq_true hin
  show execClearPoison st o d s = _
  simp [execClearPoison, hstart, hr, hinside, hslice]

/-! ## The worst of two health reports (R252) -/

/-- Of two reports with one level each, the bits of either and the higher level. -/
theorem worst_pair {a b : Health} (ha : a.levels.length = 1) (hb : b.levels.length = 1) :
    worst [a, b] = { bits := a.bits ||| b.bits, levels := [max (a.levels.getD 0 0) (b.levels.getD 0 0)] } := by
  simp [worst, ha, hb]

/-! ## The statement -/

/-- Settles O17: what only answers goes by `gives_mail`; a poison command has its line written behind the message that waits for the
same port, and answers then. -/
theorem mailboxIdentityHealthPoison : Obligations.MailboxIdentityHealthPoison := by
  unfold Obligations.MailboxIdentityHealthPoison
  refine ⟨?identity, ?partitions, ?health, ?poisonList, ?inject, ?clear, ?unsupported⟩
  case identity => exact fun s st hq hr => gives_mail (f := id) hq hr rfl
  case partitions =>
    intro s st hq hr hvolatile
    refine gives_mail (f := id) hq hr ?_
    show execGetPartitionInfo st s = _
    simp [execGetPartitionInfo, hvolatile]
  case health =>
    intro s st a b hq hr ha hb
    refine gives_mail (f := id) hq hr ?_
    show execGetHealthInfo st [a, b] s = _
    rw [execGetHealthInfo, worst_pair ha hb]
  case poisonList => exact fun s st hq hr => gives_mail (f := id) hq hr rfl
  case inject =>
    intro s st o m r x p l b hq hr hdebug hline hin hslice hentry hhalf hreloc htaken hmsgs hid hheld hinput hdst hmhalf hqueue
    exact gives_lineMail hq hr ⟨hentry, hhalf, hreloc, htaken, hmsgs, hid, hheld, hinput, hdst, hmhalf, hqueue⟩
      (exec_injectPoison hr hdebug hline hin hslice)
  case clear =>
    intro s st o m r x p l b d hq hr hline hin hslice hentry hhalf hreloc htaken hmsgs hid hheld hinput hdst hmhalf hqueue
    exact gives_lineMail hq hr ⟨hentry, hhalf, hreloc, htaken, hmsgs, hid, hheld, hinput, hdst, hmhalf, hqueue⟩
      (exec_clearPoison hr hline hin hslice d)
  case unsupported => exact fun s st op hq hr => gives_mail (f := id) hq hr rfl

end Sys2Proof.Machine

/-!
PROOF. Checkers and their windows, the validation of a commit, and operations that end while no session is open (R236 to R239, R276,
R282, R294, R332).
-/
namespace Sys2Proof.Machine

/-! ## Flags and lists -/

/-- A flag after its field is stored. -/
theorem State.flag_put_self (s : State) (f : Fld) {v : Nat} (i j : Nat) (h : f.lo + f.w ≤ 64) (hv : v < 2 ^ f.w) :
    (s.put f v i j).flag f i j = (v != 0) := by
  rw [State.flag, s.get_put_lt f i j h hv]

theorem contains_filter_ne (l : List Nat) (c : Nat) : (l.filter (fun x => x != c)).contains c = false := by simp

theorem contains_filter_ne_append (l : List Nat) (c : Nat) : (l.filter (fun x => x != c) ++ [c]).contains c = true := by simp

/-! ## While no session is open nobody hears of an event or of the end of an operation (R445, R450) -/

theorem State.event_unheard (s : State) (opcode : Nat) (l : List Nat) (h : s.sessions = []) : s.event opcode l = s := by
  rw [State.event, h, List.map_nil, ← h]

theorem State.endOperation_unheard (s : State) (o : Operation) (st : Status) (h : s.sessions = []) :
    s.endOperation o st = { s with ops := s.ops.filter (fun x => x.id != o.id) ++ [{ o with status := st }] } := by
  simp only [State.endOperation, State.opDoneEvent, State.answerAborts, h, List.map_nil, List.foldl_nil]

/-- A change of a region's state is then one of its register. -/
theorem State.setRegion_unheard (s : State) (r v : Nat) (h : s.sessions = []) : OnlyRegs s (s.setRegion r v) [⟨.REGION_STATUS, r, 0⟩] := by
  have hput : OnlyRegs s (s.put F.REGION_STATUS_STATE v r) [⟨.REGION_STATUS, r, 0⟩] := (OnlyRegs.refl s _).put _ _ _ _ (.head _)
  rw [State.setRegion]
  split
  · exact OnlyRegs.refl s _
  · rw [State.event_unheard _ _ _ ((s.put_sessions _ _ _ _).trans h)]
    exact hput

/-! ## Transaction slots (R276, R287) -/

@[simp] theorem State.get_withTxns (s : State) (f : Txns → Txns) (g : Fld) (i j : Nat) : (s.withTxns f).get g i j = s.get g i j := rfl
@[simp] theorem State.flag_withTxns (s : State) (f : Txns → Txns) (g : Fld) (i j : Nat) : (s.withTxns f).flag g i j = s.flag g i j := rfl
@[simp] theorem State.txns_withTxns (s : State) (f : Txns → Txns) : (s.withTxns f).txns = f s.txns := rfl
@[simp] theorem State.todo_withTxns (s : State) (f : Txns → Txns) : (s.withTxns f).todo = s.todo := rfl
@[simp] theorem State.txState_withTxns (s : State) (f : Txns → Txns) (t : Nat) : (s.withTxns f).txState t = s.txState t := rfl
theorem State.tx_withQueue (s : State) (g : List Nat → List Nat) (t : Nat) :
    (s.withTxns (fun q => { q with queue := g q.queue })).tx t = s.tx t := rfl
@[simp] theorem State.tx_clearReg (s : State) (r : Reg) (i j t : Nat) : (s.clearReg r i j).tx t = s.tx t := rfl
@[simp] theorem State.tx_setTx_self (s : State) (t : Nat) (x : TxSlot) : (s.setTx t x).tx t = x := numGet_put_self _ _ _ _

/-- Nothing differs but registers and transactions. -/
abbrev TxnsFrame (s t : State) : Prop := { t with regs := s.regs, txns := s.txns } = s

theorem TxnsFrame.put {s t : State} (h : TxnsFrame s t) (f : Fld) (v i j : Nat) : TxnsFrame s (t.put f v i j) := h
theorem TxnsFrame.wr {s t : State} (h : TxnsFrame s t) (r : Reg) (v : Word) (i j : Nat) : TxnsFrame s (t.wr r v i j) := h
theorem TxnsFrame.clearReg {s t : State} (h : TxnsFrame s t) (r : Reg) (i j : Nat) : TxnsFrame s (t.clearReg r i j) := h
theorem TxnsFrame.withTxns {s t : State} (h : TxnsFrame s t) (f : Txns → Txns) : TxnsFrame s (t.withTxns f) := h
theorem TxnsFrame.setTx {s t : State} (h : TxnsFrame s t) (k : Nat) (x : TxSlot) : TxnsFrame s (t.setTx k x) := h

theorem TxnsFrame.todo {s t : State} (h : TxnsFrame s t) : t.todo = s.todo := by
  have e := congrArg State.todo h; exact e

theorem TxnsFrame.msgs {s t : State} (h : TxnsFrame s t) : t.msgs = s.msgs := by
  have e := congrArg State.msgs h; exact e

theorem OnlyRegs.txnsFrame {s t : State} {ks : List Key} (h : OnlyRegs s t ks) : TxnsFrame s t :=
  congrArg (fun x : State => { x with txns := s.txns }) h.2

theorem KeepsRegs.withTxns {s t : State} {ks : List Key} (h : KeepsRegs s t ks) (f : Txns → Txns) : KeepsRegs s (t.withTxns f) ks :=
  h.regs rfl

/-- A slot that is freed. -/
theorem State.txClear_effect (s : State) (t : Nat) :
    (s.txClear t).txState t = txFree ∧ (s.txClear t).tx t = {} ∧
      KeepsRegs s (s.txClear t) [⟨.TXSLOT_STATE, t, 0⟩, ⟨.SLOT_BASE_EPOCH, t, 0⟩] ∧
      { s.txClear t with regs := s.regs, txns := s.txns } = s := by
  have honly : OnlyRegs (s.setTx t {}) ((s.setTx t {}).put F.TXSLOT_STATE_STATE txFree t) [⟨.TXSLOT_STATE, t, 0⟩] :=
    (OnlyRegs.refl _ _).put _ _ _ _ (.head _)
  have hfree := (s.setTx t {}).get_put_lt F.TXSLOT_STATE_STATE (v := txFree) t 0 (by decide) (by decide)
  have hkeep : KeepsRegs ((s.setTx t {}).put F.TXSLOT_STATE_STATE txFree t) (s.txClear t) [⟨.SLOT_BASE_EPOCH, t, 0⟩] :=
    (KeepsRegs.refl _ _).clearReg _ _ _ (.head _)
  have htx : (s.txClear t).tx t = ((s.setTx t {}).put F.TXSLOT_STATE_STATE txFree t).tx t := State.tx_clearReg _ _ _ _ _
  exact ⟨(hkeep.get (by simp [F.TXSLOT_STATE_STATE])).trans hfree,
    htx.trans ((honly.unseen (fun x => x.tx t) (fun _ _ => rfl)).trans (s.tx_setTx_self t {})),
    (KeepsRegs.trans (KeepsRegs.congr (s' := s) honly.1 rfl rfl |>.mono (by simp)) (hkeep.mono (by simp))),
    (TxnsFrame.put (TxnsFrame.setTx rfl t {}) _ _ _ _).clearReg _ _ _⟩

/-! ## Checkers (R236 to R239) -/

/-- A context's checker is disabled, and no longer on its way to be enabled (R237). -/
theorem State.checkerOff_effect (s : State) (c : Nat) :
    (s.checkerOff c).flag F.CHK_CTRL_EN c = false ∧ (s.checkerOff c).txns.enabling.contains c = false ∧
      KeepsRegs s (s.checkerOff c) [⟨.CHK_CTRL, c, 0⟩] ∧ TxnsFrame s (s.checkerOff c) := by
  have honly : OnlyRegs s (s.put F.CHK_CTRL_EN 0 c) [⟨.CHK_CTRL, c, 0⟩] := (OnlyRegs.refl s _).put _ _ _ _ (.head _)
  rw [State.checkerOff, State.flag_withTxns, State.txns_withTxns]
  exact ⟨s.flag_put_self F.CHK_CTRL_EN c 0 (by decide) (by decide), contains_filter_ne _ _, honly.1.withTxns _,
    honly.txnsFrame.withTxns _⟩

/-- A disabled checker whose windows neither overlap nor leave their decoders' ranges is on its way to be enabled (R238). -/
theorem State.checkerOn_fits (s : State) (c : Nat) (hen : s.flag F.CHK_CTRL_EN c = false) (hover : s.windowsOverlap c = false)
    (hfit : ∀ w : Fin 256, s.windowLive 0 c w.val = false ∨ s.windowFits c w.val = true) :
    (s.checkerOn c).2 = s.withTxns (fun t => { t with enabling := t.enabling.filter (fun x => x != c) ++ [c] }) := by
  have hnone : (List.range 256).any (fun w => s.windowLive 0 c w && !s.windowFits c w) = false := by
    refine List.any_eq_false.mpr (fun w hw => ?_)
    rcases hfit ⟨w, List.mem_range.mp hw⟩ with h | h <;> simp [h]
  simp [State.checkerOn, hen, hover, hnone]

/-- With no message in the device none waits at a checker. -/
theorem State.takeWaiting_nil (s : State) (f : Msg → Bool) (h : s.msgs = []) : s.takeWaiting f = s := by
  simp [State.takeWaiting, h]

/-- What CHECKER_ENABLED does of a checker on its way (R238). -/
def State.checkerFilled (s : State) (c : Nat) : State :=
  (s.put F.CHK_CTRL_EN 1 c).withTxns (fun t => { t with enabling := t.enabling.filter (fun x => x != c),
                                                        dirty := t.dirty.filter (fun x => x != c) })

theorem State.checkerFilled_effect (s : State) (c : Nat) :
    (s.checkerFilled c).flag F.CHK_CTRL_EN c = true ∧ (s.checkerFilled c).txns.enabling.contains c = false ∧
      (s.checkerFilled c).txns.dirty.contains c = false ∧ KeepsRegs s (s.checkerFilled c) [⟨.CHK_CTRL, c, 0⟩] ∧
      TxnsFrame s (s.checkerFilled c) := by
  have honly : OnlyRegs s (s.put F.CHK_CTRL_EN 1 c) [⟨.CHK_CTRL, c, 0⟩] := (OnlyRegs.refl s _).put _ _ _ _ (.head _)
  rw [State.checkerFilled, State.flag_withTxns, State.txns_withTxns]
  exact ⟨s.flag_put_self F.CHK_CTRL_EN c 0 (by decide) (by decide), contains_filter_ne _ _, contains_filter_ne _ _,
    honly.1.withTxns _, honly.txnsFrame.withTxns _⟩

theorem exec_checkerEnabled {s : State} {c : Context} (hen : s.txns.enabling.contains c.val = true) (hm : s.msgs = []) :
    exec (.checkerEnabled c) s = done (s.checkerFilled c.val) := by
  obtain ⟨-, -, -, -, hframe⟩ := s.checkerFilled_effect c.val
  have htake := (s.checkerFilled c.val).takeWaiting_nil (fun m => m.ctx == c.val) (hframe.msgs.trans hm)
  show execCheckerEnabled c s = _
  rw [execCheckerEnabled, if_pos hen, ← htake]
  rfl

/-- What the end of a checker's hold does: it is marked, and its source, latched already, counts (R239, R497). -/
def State.holdExpired (s : State) (c : Nat) : State :=
  (s.put F.CHK_CTRL_HOLD_EXPIRED 1 c).put F.FC_SRC_COUNT (saturated 8 (s.get F.FC_SRC_COUNT (s.checkerSource c)) 1) (s.checkerSource c)

theorem State.holdExpired_effect (s : State) (c : Nat) :
    (s.holdExpired c).flag F.CHK_CTRL_HOLD_EXPIRED c = true ∧
      (s.holdExpired c).get F.FC_SRC_COUNT (s.checkerSource c) = saturated 8 (s.get F.FC_SRC_COUNT (s.checkerSource c)) 1 ∧
      OnlyRegs s (s.holdExpired c) [⟨.CHK_CTRL, c, 0⟩, ⟨.FC_SRC, s.checkerSource c, 0⟩] := by
  refine ⟨?_, State.get_put_lt _ F.FC_SRC_COUNT _ 0 (by decide) (saturated_lt _ _ _),
    ((OnlyRegs.refl s _).put F.CHK_CTRL_HOLD_EXPIRED 1 c 0 (.head _)).put F.FC_SRC_COUNT _ _ 0 (.tail _ (.head _))⟩
  rw [State.holdExpired, State.flag_put_of_apart _ (by decide)]
  exact s.flag_put_self F.CHK_CTRL_HOLD_EXPIRED c 0 (by decide) (by decide)

theorem exec_checkerHoldExpired {s : State} {c : Context} (hen : s.flag F.CHK_CTRL_EN c.val = false)
    (hl : s.flag F.FC_SRC_LATCHED (s.checkerSource c.val) = true) (hm : s.msgs = []) :
    exec (.checkerHoldExpired c) s = done (s.holdExpired c.val) := by
  have hraise : (s.put F.CHK_CTRL_HOLD_EXPIRED 1 c.val).raise (s.checkerSource c.val) (chkInfo c.val) = s.holdExpired c.val := by
    rw [State.raise_latched _ _ _ ((s.flag_put_of_apart (by decide) _ _ _ _ _).trans hl), s.get_put_of_apart (by decide)]
    rfl
  have hmsgs : (s.holdExpired c.val).msgs = [] := (s.holdExpired_effect c.val).2.2.unseen State.msgs (fun _ _ => rfl) |>.trans hm
  show execCheckerHoldExpired c s = _
  simp only [execCheckerHoldExpired, hen, Bool.false_eq_true, if_false, hraise, State.takeWaiting_nil _ _ hmsgs]

/-- The word of WIN_BASE that a direct write of `v` leaves: VALID and BASE (R228, R279). -/
theorem winBase_fields (v : BitVec 32) :
    Word.bits (BitVec.ofNat 64 (blend Reg.WIN_BASE.txnMask 0 v.toNat)) 31 1 = v.toNat / 2 ^ 31 ∧
      Word.bits (BitVec.ofNat 64 (blend Reg.WIN_BASE.txnMask 0 v.toNat)) 0 24 = v.toNat % 2 ^ 24 := by
  have hmask : Reg.WIN_BASE.txnMask = 2 ^ 31 + (2 ^ 24 - 1) := by decide
  have hblend : blend Reg.WIN_BASE.txnMask 0 v.toNat = v.toNat &&& (2 ^ 31 + (2 ^ 24 - 1)) := by
    rw [hmask, blend, Nat.zero_sub, Nat.zero_add]
    rfl
  have hv := v.isLt
  have hle : v.toNat &&& (2 ^ 31 + (2 ^ 24 - 1)) ≤ v.toNat := Nat.and_le_left
  have hword : (BitVec.ofNat 64 (v.toNat &&& (2 ^ 31 + (2 ^ 24 - 1)))).toNat = v.toNat &&& (2 ^ 31 + (2 ^ 24 - 1)) := by
    rw [BitVec.toNat_ofNat, Nat.mod_eq_of_lt (by omega)]
  rw [hblend]
  constructor
  · rw [Word.bits, hword, Nat.and_div_two_pow, show (2 ^ 31 + (2 ^ 24 - 1)) / 2 ^ 31 = 1 from rfl, Nat.and_one_is_mod]
    omega
  · rw [Word.bits, hword, Nat.pow_zero, Nat.div_one, Nat.and_mod_two_pow, show (2 ^ 31 + (2 ^ 24 - 1)) % 2 ^ 24 = 2 ^ 24 - 1 from rfl,
      Nat.and_two_pow_sub_one_eq_mod, Nat.mod_mod]

/-- WIN_BASE after a direct write, which leaves its context's windows marked as written directly (R236). -/
def State.winBaseSet (s : State) (c w : Nat) (v : BitVec 32) : State :=
  (s.wr .WIN_BASE (BitVec.ofNat 64 (blend Reg.WIN_BASE.txnMask 0 v.toNat)) c w).withTxns
    (fun t => { t with dirty := t.dirty.filter (fun x => x != c) ++ [c] })

theorem State.winBaseSet_effect (s : State) (c w : Nat) (v : BitVec 32) :
    (s.winBaseSet c w v).get F.WIN_BASE_VALID c w = v.toNat / 2 ^ 31 ∧ (s.winBaseSet c w v).get F.WIN_BASE_BASE c w = v.toNat % 2 ^ 24 ∧
      (s.winBaseSet c w v).txns.dirty.contains c = true ∧ KeepsRegs s (s.winBaseSet c w v) [⟨.WIN_BASE, c, w⟩] ∧
      TxnsFrame s (s.winBaseSet c w v) := by
  obtain ⟨hvalid, hbase⟩ := winBase_fields v
  generalize hx : BitVec.ofNat 64 (blend Reg.WIN_BASE.txnMask 0 v.toNat) = x at hvalid hbase
  have honly : OnlyRegs s (s.wr .WIN_BASE x c w) [⟨.WIN_BASE, c, w⟩] := (OnlyRegs.refl s _).wr _ _ _ _ (.head _)
  rw [← s.rd_wr_self .WIN_BASE x c w] at hvalid hbase
  rw [State.winBaseSet, hx, State.get_withTxns, State.get_withTxns, State.txns_withTxns]
  exact ⟨hvalid, hbase, contains_filter_ne_append _ _, honly.1.withTxns _, honly.txnsFrame.withTxns _⟩

/-! ## Validation of a commit (R282, R285, R288) -/

/-- A commit ID is drawn: 32 bits, not all 0 (R288). -/
theorem State.newId_eq (s : State) : ∃ id, s.newId = (id, { s with free := s.free + 1 }) ∧ id ≠ 0 ∧ id < 2 ^ 32 := by
  have hlt : (Config.random s.free).toNat % 2 ^ 32 < 2 ^ 32 := Nat.mod_lt _ (by decide)
  refine ⟨if (Config.random s.free).toNat % 2 ^ 32 = 0 then 1 else (Config.random s.free).toNat % 2 ^ 32, rfl, ?_⟩
  split
  · decide
  · next h => exact ⟨h, hlt⟩

/-- With every channel idle no change of the pause causes concerns one (R368). -/
theorem State.allPauseChecks_idle (s : State) (h : ∀ c : Fin 28, s.ch c.val = chIdle) : s.allPauseChecks = s :=
  foldl_eq_self (fun c hc => by simp [State.chPauseCheck, h ⟨c, List.mem_range.mp hc⟩])

/-- A transaction that is not one which only firmware can open: firmware neither writes it anew nor follows its preparation. -/
theorem State.fwRewrite_not_own (s : State) (t : Nat) (h : (s.tx t).own = false) : s.fwRewrite t = s := by
  rw [State.fwRewrite]
  rw [TxSlot.own] at h
  split <;> simp_all

theorem State.fwPrepared_not_own (s : State) (t : Nat) (h : (s.tx t).own = false) : s.fwPrepared t = s := by
  rw [State.fwPrepared]
  rw [TxSlot.own] at h
  split
  · next hfw => simp [hfw, FwTxn.own] at h
  · rfl

/-- A slot whose commit passed its checks: one validation more, its items staged, and the registers' values kept to undo them. -/
def State.stagedSlot (s : State) (t : Nat) : TxSlot :=
  { s.tx t with validations := (s.tx t).validations + 1, redo := (s.tx t).shadow,
                undo := (s.tx t).shadow.map (fun e => (e.1, s.rd e.1.reg e.1.i e.1.j)) }

/-- The slot's registers once its commit is Prepared for an epoch and an ID. -/
def State.prepared (s : State) (t epoch id : Nat) : State :=
  (((s.put F.JOURNAL_EPOCH_V epoch t).put F.JOURNAL_ID_V id t).put F.JOURNAL_PHASE_PHASE jPrepared t).put F.TXSLOT_STATE_STATE txStaged t

theorem State.prepared_onlyRegs (s : State) (t epoch id : Nat) :
    OnlyRegs s (s.prepared t epoch id) [⟨.TXSLOT_STATE, t, 0⟩, ⟨.JOURNAL_PHASE, t, 0⟩, ⟨.JOURNAL_EPOCH, t, 0⟩, ⟨.JOURNAL_ID, t, 0⟩] :=
  ((((OnlyRegs.refl s _).put F.JOURNAL_EPOCH_V epoch t 0 (.tail _ (.tail _ (.head _)))).put F.JOURNAL_ID_V id t 0
    (.tail _ (.tail _ (.tail _ (.head _))))).put F.JOURNAL_PHASE_PHASE jPrepared t 0 (.tail _ (.head _))).put
    F.TXSLOT_STATE_STATE txStaged t 0 (.head _)

theorem State.prepared_reads (s : State) (t : Nat) {epoch id : Nat} (hepoch : epoch < 2 ^ 32) (hid : id < 2 ^ 32) :
    (s.prepared t epoch id).txState t = txStaged ∧ (s.prepared t epoch id).get F.JOURNAL_PHASE_PHASE t = jPrepared ∧
      (s.prepared t epoch id).get F.JOURNAL_EPOCH_V t = epoch ∧ (s.prepared t epoch id).get F.JOURNAL_ID_V t = id := by
  refine ⟨State.get_put_lt _ F.TXSLOT_STATE_STATE t 0 (by decide) (by decide), ?_, ?_, ?_⟩ <;>
    rw [State.prepared, State.get_put_of_apart _ (by decide)]
  · exact State.get_put_lt _ F.JOURNAL_PHASE_PHASE t 0 (by decide) (by decide)
  · rw [State.get_put_of_apart _ (by decide), State.get_put_of_apart _ (by decide)]
    exact State.get_put_lt _ F.JOURNAL_EPOCH_V t 0 (by decide) hepoch
  · rw [State.get_put_of_apart _ (by decide)]
    exact State.get_put_lt _ F.JOURNAL_ID_V t 0 (by decide) hid

/-- The state that a commit is staged in: an ID is drawn, and the slot keeps its items. -/
def State.beforeStaging (s : State) (t : Nat) : State := State.setTx { s with free := s.free + 1 } t (s.stagedSlot t)

/-- A commit that passed its checks and drew the ID `id`: it is Prepared for the next epoch, and queued. -/
def State.stagedCommit (s : State) (t id : Nat) : State :=
  ((s.beforeStaging t).prepared t s.nextEpoch id).withTxns (fun q => { q with queue := q.queue ++ [t] })

theorem State.stagedCommit_keeps (s : State) (t id : Nat) :
    KeepsRegs s (s.stagedCommit t id) [⟨.TXSLOT_STATE, t, 0⟩, ⟨.JOURNAL_PHASE, t, 0⟩, ⟨.JOURNAL_EPOCH, t, 0⟩, ⟨.JOURNAL_ID, t, 0⟩] :=
  (KeepsRegs.congr (s' := s) ((s.beforeStaging t).prepared_onlyRegs t s.nextEpoch id).1 rfl rfl).withTxns _

theorem State.stagedCommit_reads (s : State) (t : Nat) {id : Nat} (hid : id < 2 ^ 32) :
    (s.stagedCommit t id).txState t = txStaged ∧ (s.stagedCommit t id).get F.JOURNAL_PHASE_PHASE t = jPrepared ∧
      (s.stagedCommit t id).get F.JOURNAL_EPOCH_V t = s.nextEpoch ∧ (s.stagedCommit t id).get F.JOURNAL_ID_V t = id := by
  rw [State.stagedCommit, State.txState_withTxns, State.get_withTxns, State.get_withTxns, State.get_withTxns]
  exact State.prepared_reads _ t (Nat.mod_lt _ (by decide)) hid

theorem State.stagedCommit_rest (s : State) (t id : Nat) :
    (s.stagedCommit t id).tx t = s.stagedSlot t ∧ (s.stagedCommit t id).txns.queue = s.txns.queue ++ [t] ∧
      (s.stagedCommit t id).todo = s.todo := by
  have honly := (s.beforeStaging t).prepared_onlyRegs t s.nextEpoch id
  have htx : ((s.beforeStaging t).prepared t s.nextEpoch id).tx t = s.stagedSlot t :=
    (honly.unseen (fun v => v.tx t) (fun _ _ => rfl)).trans (State.tx_setTx_self _ t _)
  have hqueue : ((s.beforeStaging t).prepared t s.nextEpoch id).txns.queue = s.txns.queue :=
    honly.unseen (fun v => v.txns.queue) (fun _ _ => rfl)
  have htodo : ((s.beforeStaging t).prepared t s.nextEpoch id).todo = s.todo := honly.todo
  rw [State.stagedCommit, State.tx_withQueue _ (· ++ [t]), State.txns_withTxns, State.todo_withTxns, hqueue]
  exact ⟨htx, rfl, htodo⟩

/-- The validation of a commit whose recalls are over and whose checks pass. -/
theorem State.commitValidated_staged {s : State} {t : Nat} (hst : s.txState t = txValidating) (hown : (s.tx t).own = false)
    (hrecalls : (s.tx t).recalls = []) (hval : (s.tx t).validations < 8) (hcheck : s.commitCheck t = none) {id : Nat}
    (hid : s.newId = (id, { s with free := s.free + 1 })) : s.commitValidated t = s.stagedCommit t id := by
  have hpre : (if s.txState t == txValidating then s.fwRewrite t else s) = s := by rw [s.fwRewrite_not_own t hown, ite_self]
  have hguard : (s.txState t != txValidating || !(s.tx t).recalls.isEmpty) = false := by simp [hst, hrecalls]
  have hnot : ¬ 8 ≤ (s.tx t).validations := by omega
  have hprep : (s.stagedCommit t id).fwPrepared t = s.stagedCommit t id := by
    refine State.fwPrepared_not_own _ _ ?_
    rw [(s.stagedCommit_rest t id).1]
    exact hown
  have hepoch (x : TxSlot) : (State.setTx { s with free := s.free + 1 } t x).nextEpoch = s.nextEpoch := rfl
  rw [← hprep]
  simp only [State.commitValidated, hpre, hguard, hnot, hcheck, hid, hepoch, State.rd_with_free, Bool.false_eq_true, if_false]
  rfl

/-! ## Recalls (R332) -/

/-- The end of a recall takes it off the list, and touches beside that the flows of its host and the state of the region. -/
theorem State.recallEnd_effect (s : State) (r x : Nat) (h : s.sessions = []) :
    (s.recallEnd r x).market.recalls = s.market.recalls.filter (fun e => e != (r, x)) ∧
      KeepsRegs s (s.recallEnd r x) [⟨.REGION_STATUS, r, 0⟩] ∧
      { s.recallEnd r x with regs := s.regs, market := s.market } = s := by
  let u : State := s.withMarket (fun m => { m with recalls := m.recalls.filter (fun e => e != (r, x)),
                                                   flows := m.flows.filter (fun f => !(f.region == r && f.forRecall == some x)) })
  have honly : OnlyRegs u (s.recallEnd r x) [⟨.REGION_STATUS, r, 0⟩] := by
    rw [State.recallEnd]
    split
    · exact OnlyRegs.refl u _
    · exact u.setRegion_unheard r _ h
  exact ⟨honly.unseen (fun v => v.market.recalls) (fun _ _ => rfl), honly.1.congr rfl rfl,
    congrArg (fun v : State => { v with market := s.market }) honly.2⟩

/-- A fence reads as it was set. -/
theorem State.fenced_setFence (s : State) (r x : Nat) (b : Bool) : (s.setFence r x b).fenced r x = b := by
  have hbit : x % 32 + 1 ≤ 64 := by omega
  rw [State.fenced, State.setFence, State.rd_wr_self, Word.bits_setBits_self _ _ _ _ hbit]
  cases b <;> rfl

/-- An UNFENCE_HOST whose flows are over ends OK, and its host's fence is lifted. -/
theorem exec_recallWalkDone_unfence {s : State} {r : Fin 256} {x : HostId} {o : Operation}
    (hop : s.runningOp (.unfence r.val x.val) = some o) (hidle : s.recallIdle r.val x.val = true) :
    exec (.recallWalkDone (.unfence r x)) s =
      done (((s.recallEnd r.val x.val).setFence r.val x.val false).endOperation o .ok) := by
  show execRecallWalkDone (.unfence r x) s = _
  simp only [execRecallWalkDone, hop, hidle, if_true]

/-! ## The time of a transaction (R294) -/

/-- An operation of a commit that is being applied ends TIMEOUT; the commit goes on. -/
theorem exec_commitTimeout_applying {s : State} {t : Fin 4} {o : Operation} (hst : s.txState t.val = txApplying)
    (hop : s.runningOp (.commit t.val) = some o) :
    exec (.commitTimeout t) s = done ((s.endOperation o .timeout).raise 782) := by
  show execCommitTimeout t s = _
  simp [execCommitTimeout, hst, hop]

/-! ## The statement -/

/-- Settles O12: each command's effect is written out by the lemma about its path. -/
theorem checkersAndValidation : Obligations.CheckersAndValidation := by
  unfold Obligations.CheckersAndValidation
  refine ⟨?disable, ?enable, ?enabled, ?holdExpired, ?window, ?idle, ?validated, ?unfence, ?timeout⟩
  case disable =>
    intro s c hq _ happ
    obtain ⟨hen, henabling, hkeep, hframe⟩ := s.checkerOff_effect c.val
    refine Gives.of_done (u := s.checkerOff c.val) ?_ (hframe.todo.trans hq) ⟨hen, henabling, hkeep, hframe⟩
    show done (s.writeEn c.val false) = _
    simp [State.writeEn, happ]
  case enable =>
    intro s c hq _ happ hen hover hfit
    refine Gives.of_done (u := (s.checkerOn c.val).2) ?_ ?_ ?_
    · show done (s.writeEn c.val true) = _
      simp [State.writeEn, happ]
    all_goals rw [s.checkerOn_fits c.val hen hover hfit]
    · exact hq
    · exact ⟨contains_filter_ne_append _ _, rfl⟩
  case enabled =>
    intro s c hq _ hen hm
    obtain ⟨hset, henabling, hdirty, hkeep, hframe⟩ := s.checkerFilled_effect c.val
    exact Gives.of_done (exec_checkerEnabled hen hm) (hframe.todo.trans hq) ⟨hset, henabling, hdirty, hkeep, hframe⟩
  case holdExpired =>
    intro s c hq _ hen hl hm
    obtain ⟨hflag, hcount, honly⟩ := s.holdExpired_effect c.val
    exact Gives.of_done (exec_checkerHoldExpired hen hl hm) (honly.todo.trans hq) ⟨hflag, hcount, honly⟩
  case window =>
    intro s c w v hq _ hen
    obtain ⟨hvalid, hbase, hdirty, hkeep, hframe⟩ := s.winBaseSet_effect c.val w.val v
    have hexec : exec (.windowDirectWrite c w .base v) s = done (s.winBaseSet c.val w.val v) := by
      show done (s.writeWindow .WIN_BASE c.val w.val v.toNat) = _
      rw [State.writeWindow, hen]
      rfl
    exact Gives.of_done hexec (TxnsFrame.todo hframe |>.trans hq) ⟨hvalid, hbase, hdirty, hkeep, hframe⟩
  case idle =>
    intro s t0 hq _ hst
    obtain ⟨hfree, htx, hkeep, hframe⟩ := s.txClear_effect t0.val
    refine Gives.of_done (u := s.txClear t0.val) ?_ (TxnsFrame.todo hframe |>.trans hq) ⟨hfree, htx, hkeep, hframe⟩
    show execTxnIdleTimeout t0 s = _
    simp [execTxnIdleTimeout, hst]
  case validated =>
    intro s t0 hq _ hst hown hrecalls hval hcheck hidle
    obtain ⟨id, hnew, hne, hlt⟩ := s.newId_eq
    have hkeep := s.stagedCommit_keeps t0.val id
    have hpause : (s.stagedCommit t0.val id).allPauseChecks = s.stagedCommit t0.val id :=
      State.allPauseChecks_idle _ (fun c => (hkeep.get (by simp [F.CH_STATUS_STATE])).trans (hidle c))
    have hexec : exec (.commitValidated t0) s = done (s.stagedCommit t0.val id) := by
      show execCommitValidated t0 s = _
      rw [execCommitValidated, State.commitValidated_staged hst hown hrecalls hval hcheck hnew, hpause]
    obtain ⟨hstate, hphase, hepoch, hid⟩ := s.stagedCommit_reads t0.val hlt
    obtain ⟨htx, hqueue, htodo⟩ := s.stagedCommit_rest t0.val id
    exact Gives.of_done hexec (htodo.trans hq) ⟨hstate, hphase, hepoch, by rw [hid]; exact hne, hqueue, by rw [htx]; rfl,
      by rw [htx]; rfl, hkeep⟩
  case unfence =>
    intro s r x o hq _ hop hidle hses
    obtain ⟨hrecalls, hkeep, hframe⟩ := s.recallEnd_effect r.val x.val hses
    have hexec := exec_recallWalkDone_unfence hop hidle
    generalize s.recallEnd r.val x.val = u at hrecalls hkeep hframe hexec
    have htodo : u.todo = s.todo := by have e := congrArg State.todo hframe; exact e
    have hops : u.ops = s.ops := by have e := congrArg State.ops hframe; exact e
    have hmsgs : u.msgs = s.msgs := by have e := congrArg State.msgs hframe; exact e
    have husess : u.sessions = s.sessions := by have e := congrArg State.sessions hframe; exact e
    rw [State.endOperation_unheard (u.setFence r.val x.val false) o .ok (husess.trans hses)] at hexec
    refine Gives.of_done hexec (htodo.trans hq) ⟨u.fenced_setFence r.val x.val false, ?_, ?_, ?_, hmsgs⟩
    · show u.ops.filter _ ++ _ = _
      rw [hops]
    · show u.market.recalls.contains _ = false
      rw [hrecalls]
      simp
    · exact ((hkeep.mono (by simp)).wr .REGION_FENCED _ _ _ (.head _)).regs rfl
  case timeout =>
    intro s t0 o hq _ hst hop hl hses
    have hexec := exec_commitTimeout_applying hst hop
    let u : State := { s with ops := s.ops.filter (fun x => x.id != o.id) ++ [{ o with status := .timeout }] }
    have honly : OnlyRegs u (u.put F.FC_SRC_COUNT (saturated 8 (u.get F.FC_SRC_COUNT 782) 1) 782) [⟨.FC_SRC, 782, 0⟩] :=
      (OnlyRegs.refl u _).put _ _ _ _ (.head _)
    rw [s.endOperation_unheard o .timeout hses, State.raise_latched u _ _ hl] at hexec
    generalize u.put F.FC_SRC_COUNT (saturated 8 (u.get F.FC_SRC_COUNT 782) 1) 782 = t at honly hexec
    exact Gives.of_done hexec (honly.todo.trans hq) ⟨honly.unseen State.ops (fun _ _ => rfl),
      (honly.1.get (by simp [F.TXSLOT_STATE_STATE])).trans hst, honly.1.congr rfl rfl,
      congrArg (fun v : State => { v with ops := s.ops }) honly.2⟩

end Sys2Proof.Machine

/-!
PROOF. Erases of a Stall, the end of its reset, and the scrubber, while no session is open (R253, R260, R262, R268, R270, R274).
-/
namespace Sys2Proof.Machine

/-! ## The state and the quench of a Stall (R215, R253) -/

/-- With no session open nobody hears of a Stall's change of state. -/
theorem State.setStall_unheard (s : State) (st : Nat) {v : Nat} (hv : v < 16) (h : s.sessions = []) :
    (s.setStall st v).stall st = v ∧ OnlyRegs s (s.setStall st v) [⟨.STALL_STATE, st, 0⟩] := by
  by_cases hsame : s.stall st = v
  · rw [s.setStall_same st v hsame]
    exact ⟨hsame, OnlyRegs.refl s _⟩
  · have hput : OnlyRegs s (s.put F.STALL_STATE_STATE v st) [⟨.STALL_STATE, st, 0⟩] := (OnlyRegs.refl s _).put _ _ _ _ (.head _)
    rw [s.setStall_other st v hsame, State.event_unheard _ _ _ ((s.put_sessions _ _ _ _).trans h)]
    exact ⟨s.stall_put st v hv, hput⟩

theorem State.quenchHalf_effect (s : State) (h st : Nat) (b : Bool) :
    (s.quenchHalf h st b).flag F.METER_CTRL_QUENCH h st = b ∧ OnlyRegs s (s.quenchHalf h st b) [⟨.METER_CTRL, h, st⟩] := by
  have hput (t : State) (ht : OnlyRegs s t [⟨.METER_CTRL, h, st⟩]) :
      (t.putFlag F.METER_CTRL_QUENCH b h st).flag F.METER_CTRL_QUENCH h st = b ∧
      OnlyRegs s (t.putFlag F.METER_CTRL_QUENCH b h st) [⟨.METER_CTRL, h, st⟩] :=
    ⟨t.flag_putFlag_self (by decide) (by decide) b h st, ht.put _ _ _ _ (.head _)⟩
  rw [State.quenchHalf]
  split
  · exact hput _ ((OnlyRegs.refl s _).put _ _ _ _ (.head _))
  · exact hput s (OnlyRegs.refl s _)

/-- The meter registers of a Stall, one in each half. -/
abbrev meterKeys (st : Nat) : List Key := [⟨.METER_CTRL, 0, st⟩, ⟨.METER_CTRL, 1, st⟩]

/-- QUENCH of a Stall in both halves. -/
def State.quenchHalves (s : State) (st : Nat) (b : Bool) : State := (s.quenchHalf 0 st b).quenchHalf 1 st b

theorem State.quenchHalves_effect (s : State) (st : Nat) (b : Bool) :
    (s.quenchHalves st b).flag F.METER_CTRL_QUENCH 0 st = b ∧ (s.quenchHalves st b).flag F.METER_CTRL_QUENCH 1 st = b ∧
      OnlyRegs s (s.quenchHalves st b) (meterKeys st) := by
  obtain ⟨hzero, honly⟩ := s.quenchHalf_effect 0 st b
  obtain ⟨hone, honly'⟩ := (s.quenchHalf 0 st b).quenchHalf_effect 1 st b
  have hkept : (s.quenchHalves st b).get F.METER_CTRL_QUENCH 0 st = (s.quenchHalf 0 st b).get F.METER_CTRL_QUENCH 0 st :=
    honly'.1.get (by simp)
  refine ⟨?_, hone, (honly.mono (by simp)).trans (honly'.mono (by simp))⟩
  rw [State.flag, hkept]
  exact hzero

/-- What a change of a Stall's quench leaves, where its state follows (R253). -/
structure Quenches (s t : State) (st : Nat) (b : Bool) (v : Nat) : Prop where
  half0 : t.flag F.METER_CTRL_QUENCH 0 st = b
  half1 : t.flag F.METER_CTRL_QUENCH 1 st = b
  state : t.stall st = v
  only : OnlyRegs s t (meterKeys st ++ [⟨.STALL_STATE, st, 0⟩])

theorem State.quenchHalves_setStall (s : State) (st : Nat) (b : Bool) {v : Nat} (hv : v < 16) (h : s.sessions = []) :
    Quenches s ((s.quenchHalves st b).setStall st v) st b v := by
  obtain ⟨hzero, hone, honly⟩ := s.quenchHalves_effect st b
  generalize s.quenchHalves st b = u at hzero hone honly
  obtain ⟨hstate, honly'⟩ := u.setStall_unheard st hv ((honly.unseen State.sessions (fun _ _ => rfl)).trans h)
  have hflag (i : Nat) : (u.setStall st v).flag F.METER_CTRL_QUENCH i st = u.flag F.METER_CTRL_QUENCH i st := by
    rw [State.flag, honly'.1.get (by simp [F.METER_CTRL_QUENCH]), State.flag]
  exact ⟨(hflag 0).trans hzero, (hflag 1).trans hone, hstate, (honly.mono (by simp)).trans (honly'.mono (by simp))⟩

theorem State.stall_quenchHalves (s : State) (st : Nat) (b : Bool) : (s.quenchHalves st b).stall st = s.stall st :=
  (s.quenchHalves_effect st b).2.2.1.get (by simp [F.STALL_STATE_STATE])

/-- The state of the Stall follows, but while an erase holds it quenched. -/
theorem State.setQuench_eq (s : State) (st : Nat) (b : Bool) : s.setQuench st b =
    if b && (s.quenchHalves st b).stall st == stBound then (s.quenchHalves st b).setStall st stQuenched
    else if !b && (s.quenchHalves st b).stall st == stQuenched && !(s.quenchHalves st b).erasing st then
      (s.quenchHalves st b).setStall st stBound
    else s.quenchHalves st b := rfl

/-- A Bound Stall is quenched. -/
theorem State.setQuench_bound {s : State} {st : Nat} (hb : s.stall st = stBound) (h : s.sessions = []) :
    Quenches s (s.setQuench st true) st true stQuenched := by
  rw [s.setQuench_eq, if_pos (by rw [Bool.true_and, beq_iff_eq, s.stall_quenchHalves, hb])]
  exact s.quenchHalves_setStall st true (by decide) h

/-- The quench of a Stall that no erase holds is lifted. -/
theorem State.setQuench_lifted {s : State} {st : Nat} (hq : s.stall st = stQuenched) (he : (s.emul st).background = none)
    (h : s.sessions = []) : Quenches s (s.setQuench st false) st false stBound := by
  have hemul : (s.quenchHalves st false).emul st = s.emul st :=
    (s.quenchHalves_effect st false).2.2.unseen (fun x => x.emul st) (fun _ _ => rfl)
  rw [s.setQuench_eq, if_neg (by simp), if_pos (by simp [State.stall_quenchHalves, hq, State.erasing, hemul, he])]
  exact s.quenchHalves_setStall st false (by decide) h

/-! ## Erases (R253) -/

/-- An answer in the mailbox, after which registers of a list change. -/
theorem State.mail_then {s t : State} {st : Nat} {ks : List Key} (hr : s.mailRuns st = true) (opcode : Nat) (code : MailCode)
    (f : Emulated → Emulated) (h : OnlyRegs (s.mail st opcode code [] f) t ks) :
    Says s t (s.mailPort st) (.mailbox st opcode code []) ∧ t.emul st = { f (s.emul st) with doorbell := false } ∧
      KeepsRegs s t ks ∧ { t with regs := s.regs, msgs := s.msgs, nextId := s.nextId, out := s.out, emulated := s.emulated } = s ∧
      t.todo = s.todo := by
  obtain ⟨⟨hmsgs, hid, hout⟩, hemul, hframe⟩ := State.mail_effect hr opcode code [] f
  generalize s.mail st opcode code [] f = u at h hmsgs hid hout hemul hframe
  have hregs : u.regs = s.regs := by have e := congrArg State.regs hframe; exact e
  have htodo : u.todo = s.todo := by have e := congrArg State.todo hframe; exact e
  have hrest : ({ t with regs := u.regs, msgs := s.msgs, nextId := s.nextId, out := s.out, emulated := s.emulated } : State) =
      { u with msgs := s.msgs, nextId := s.nextId, out := s.out, emulated := s.emulated } :=
    congrArg (fun v : State => { v with msgs := s.msgs, nextId := s.nextId, out := s.out, emulated := s.emulated }) h.2
  refine ⟨⟨(h.unseen State.msgs (fun _ _ => rfl)).trans hmsgs, (h.unseen State.nextId (fun _ _ => rfl)).trans hid,
    (h.unseen State.out (fun _ _ => rfl)).trans hout⟩, (h.unseen (fun x => x.emul st) (fun _ _ => rfl)).trans hemul,
    h.1.congr hregs.symm rfl, ?_, h.todo.trans htodo⟩
  rw [← hregs]
  exact hrest.trans hframe

/-- A Sanitize or a Secure Erase of a Bound Stall with no slice. -/
theorem gives_eraseStart {c : Instr} {s : State} {st opcode : Nat} (hq : Quiet s) (e : exec c s = done (s.eraseStart st opcode))
    (hr : s.mailRuns st = true) (hnone : (s.emul st).background = none) (hslices : s.stallRanges st = [])
    (hwas : s.quenchSet st = false) (hbound : s.stall st = stBound) (hses : s.sessions = []) :
    Gives c s (fun t => Says s t (s.mailPort st) (.mailbox st opcode .backgroundStarted []) ∧
      t.emul st = { s.emul st with doorbell := false, background := some opcode, wasQuenched := false, failed := false } ∧
      t.flag F.METER_CTRL_QUENCH 0 st = true ∧ t.flag F.METER_CTRL_QUENCH 1 st = true ∧ t.stall st = stQuenched ∧
      KeepsRegs s t [⟨.METER_CTRL, 0, st⟩, ⟨.METER_CTRL, 1, st⟩, ⟨.STALL_STATE, st, 0⟩] ∧
      { t with regs := s.regs, msgs := s.msgs, nextId := s.nextId, out := s.out, emulated := s.emulated } = s) := by
  let f : Emulated → Emulated := fun x => { x with background := some opcode, wasQuenched := false, failed := false }
  have hframe := (State.mail_effect hr opcode .backgroundStarted [] f).2.2
  have hstart : s.eraseStart st opcode = (((s.mail st opcode .backgroundStarted [] f).setQuench st true).releaseAll
      (((s.mail st opcode .backgroundStarted [] f).stallRanges st).map (fun x =>
        { port := x.port, ld := x.ld, start := x.lo / 2 ^ 20, len := x.len / 2 ^ 20, stall := some st, forErase := true }))) := by
    simp only [State.eraseStart, hr, hnone, hwas, Option.isSome_none, Bool.not_true, Bool.false_eq_true, if_false, f]
  have hthen {t : State} {ks : List Key} := State.mail_then (t := t) (ks := ks) hr opcode .backgroundStarted f
  generalize s.mail st opcode .backgroundStarted [] f = u at hframe hstart hthen
  have hranges : u.stallRanges st = [] := by
    have hsame := congrArg (fun x : State => x.stallRanges st) hframe
    exact Eq.trans hsame hslices
  have hstall : u.stall st = stBound := by
    have hsame := congrArg (fun x : State => x.stall st) hframe
    exact Eq.trans hsame hbound
  have husess : u.sessions = [] := by
    have hsame := congrArg State.sessions hframe
    exact Eq.trans hsame hses
  rw [hstart, hranges, List.map_nil, State.releaseAll, List.foldl_nil] at e
  obtain ⟨hzero, hone, hstate, honly⟩ := u.setQuench_bound hstall husess
  obtain ⟨hsays, hemul, hkeep, hrest, htodo⟩ := hthen honly
  exact Gives.of_done e (htodo.trans hq) ⟨hsays, hemul, hzero, hone, hstate, hkeep, hrest⟩

/-- The end of an erase whose ranges are scrubbed. -/
theorem gives_eraseDone {s : State} {st : StallId} {op : Nat} (hq : Quiet s) (hr : s.mailRuns st.val = true)
    (hop : (s.emul st.val).background = some op) (hfailed : (s.emul st.val).failed = false)
    (hwas : (s.emul st.val).wasQuenched = false) (hranges : s.ranges = []) (hstall : s.stall st.val = stQuenched)
    (hses : s.sessions = []) :
    Gives (.mailboxBgOpComplete st) s (fun t => Says s t (s.mailPort st.val) (.mailbox st.val op .success []) ∧
      t.emul st.val = { s.emul st.val with doorbell := false, background := none, failed := false, poison := [] } ∧
      t.flag F.METER_CTRL_QUENCH 0 st.val = false ∧ t.flag F.METER_CTRL_QUENCH 1 st.val = false ∧ t.stall st.val = stBound) := by
  let f : Emulated → Emulated := fun x => { x with background := none, failed := false, poison := if x.failed then x.poison else [] }
  have hexec : exec (.mailboxBgOpComplete st) s = done ((s.mail st.val op .success [] f).setQuench st.val false) := by
    show done (s.eraseDone st.val) = _
    simp [State.eraseDone, hop, hr, hranges, hfailed, hwas, f]
  obtain ⟨-, hnone, hframe⟩ := State.mail_effect hr op .success [] f
  have hthen {t : State} {ks : List Key} := State.mail_then (t := t) (ks := ks) hr op .success f
  generalize s.mail st.val op .success [] f = u at hframe hexec hthen hnone
  have hquenched : u.stall st.val = stQuenched := by
    have hsame := congrArg (fun x : State => x.stall st.val) hframe
    exact Eq.trans hsame hstall
  have husess : u.sessions = [] := by
    have hsame := congrArg State.sessions hframe
    exact Eq.trans hsame hses
  obtain ⟨hzero, hone, hstate, honly⟩ := u.setQuench_lifted hquenched (by rw [hnone]) husess
  obtain ⟨hsays, hemul, -, -, htodo⟩ := hthen honly
  exact Gives.of_done hexec (htodo.trans hq) ⟨hsays, by rw [hemul]; simp [f, hfailed], hzero, hone, hstate⟩

/-! ## Squashed messages (R260) -/

/-- No channel has a descriptor to squash. -/
theorem State.chSquash_idle (s : State) (st : Nat) (h : ∀ c : Fin 28, (s.chan c.val).desc = none) : s.chSquash st = s :=
  foldl_eq_self (fun c hc => by simp [h ⟨c, List.mem_range.mp hc⟩])

/-- A read of a Stall's host that waits, with no twin and no cells in a buffer. -/
structure Msg.WaitsToRead (m : Msg) (st : Nat) : Prop where
  stall : m.stall = some st
  op : m.op = .memRead
  live : m.squashed = false
  held : m.stage = .held
  twin : m.twin = none
  cells : m.cells = []

/-- What the end of a drain leaves of it: its host's answer, and a count. -/
def State.squashedRead (s : State) (m : Msg) (st : Nat) : State :=
  let u := s.put F.STALL_SQUASHED_V (saturated F.STALL_SQUASHED_V.w (s.get F.STALL_SQUASHED_V st) 1) st
  { u with out := u.out ++ m.heldAnswer, msgs := u.msgs.filter (fun x => x.id != m.id) }

theorem State.squash_read {s : State} {m : Msg} {st : Nat} (h : m.WaitsToRead st) (hk : s.buf.skid = []) :
    s.squash m = s.squashedRead m st := by
  have hporter : m.ofPorter = false := by simp [Msg.ofPorter, h.op]
  have hanswer : m.isAnswer = false := by simp [Msg.isAnswer, h.op]
  have hbump := s.bump_unwatched F.STALL_SQUASHED_V 1 st 0 rfl
  have hskid : ((s.put F.STALL_SQUASHED_V (saturated F.STALL_SQUASHED_V.w (s.get F.STALL_SQUASHED_V st) 1) st).emits
      m.heldAnswer).buf.skid = [] := hk
  simp only [State.squash, h.stall, h.live, h.held, h.twin, hporter, hanswer, hbump, Option.getD_some, Option.bind_none,
    Bool.false_eq_true, if_false, reduceCtorEq, State.remove_no_cells _ _ h.cells hskid]
  rfl

theorem State.squashedRead_effect (s : State) (m : Msg) (st : Nat) :
    (s.squashedRead m st).msgs = s.msgs.filter (fun x => x.id != m.id) ∧ (s.squashedRead m st).out = s.out ++ m.heldAnswer ∧
      (s.squashedRead m st).get F.STALL_SQUASHED_V st = saturated F.STALL_SQUASHED_V.w (s.get F.STALL_SQUASHED_V st) 1 ∧
      KeepsRegs s (s.squashedRead m st) [⟨.STALL_SQUASHED, st, 0⟩] ∧
      { s.squashedRead m st with regs := s.regs, msgs := s.msgs, out := s.out } = s := by
  have hput := s.get_put_lt F.STALL_SQUASHED_V st 0 (by decide) (saturated_lt F.STALL_SQUASHED_V.w (s.get F.STALL_SQUASHED_V st) 1)
  have honly : OnlyRegs s (s.put F.STALL_SQUASHED_V (saturated F.STALL_SQUASHED_V.w (s.get F.STALL_SQUASHED_V st) 1) st)
      [⟨.STALL_SQUASHED, st, 0⟩] := (OnlyRegs.refl s _).put _ _ _ _ (.head _)
  rw [State.squashedRead]
  generalize s.put F.STALL_SQUASHED_V (saturated F.STALL_SQUASHED_V.w (s.get F.STALL_SQUASHED_V st) 1) st = u at hput honly
  refine ⟨congrArg _ (honly.unseen State.msgs (fun _ _ => rfl)), congrArg (· ++ m.heldAnswer) (honly.unseen State.out (fun _ _ => rfl)),
    hput, honly.1.regs rfl, congrArg (fun v : State => { v with msgs := s.msgs, out := s.out }) honly.2⟩

/-- The drain of a resetting Stall of which one read is left. -/
theorem gives_stallDrainEnd {s : State} {st : StallId} {m : Msg} (hq : Quiet s) (hst : s.stall st.val = stResetting)
    (hm : s.msgs = [m]) (h : m.WaitsToRead st.val) (hcopy : m.copy = false) (hk : s.buf.skid = [])
    (hidle : ∀ c : Fin 28, (s.chan c.val).desc = none) :
    Gives (.stallDrainEnd st) s (fun t => t.msgs = [] ∧ t.out = s.out ++ m.heldAnswer ∧
      t.get F.STALL_SQUASHED_V st.val = saturated F.STALL_SQUASHED_V.w (s.get F.STALL_SQUASHED_V st.val) 1 ∧
      KeepsRegs s t [⟨.STALL_SQUASHED, st.val, 0⟩] ∧ t.mem = s.mem) := by
  have hof : s.stallMsgs st.val = [m] := by simp [State.stallMsgs, hm, h.stall, h.op, hcopy]
  obtain ⟨hmsgs, hout, hcount, hkeep, hframe⟩ := s.squashedRead_effect m st.val
  have hexec : exec (.stallDrainEnd st) s = done ((s.squashedRead m st.val).chSquash st.val) := by
    show done (s.drainEnds st.val) = _
    simp [State.drainEnds, hst, hof, State.squash_read h hk]
  generalize s.squashedRead m st.val = u at hmsgs hout hcount hkeep hframe hexec
  have hchan (c : Fin 28) : (u.chan c.val).desc = none := by
    have hsame := congrArg (fun x : State => (x.chan c.val).desc) hframe
    exact Eq.trans hsame (hidle c)
  have htodo : u.todo = s.todo := by have e := congrArg State.todo hframe; exact e
  have hmem : u.mem = s.mem := by have e := congrArg State.mem hframe; exact e
  rw [u.chSquash_idle st.val hchan] at hexec
  exact Gives.of_done hexec (htodo.trans hq) ⟨by rw [hmsgs, hm]; simp, hout, hcount, hkeep, hmem⟩

/-! ## The end of a Stall reset (R262) -/

/-- The one running operation ends. -/
theorem State.endOp_one {s : State} {o : Operation} (k : OpKind) (st : Status) (hops : s.ops = [o]) (hk : o.kind = k)
    (hrun : o.status = .accepted) (hses : s.sessions = []) : s.endOp k st = { s with ops := [{ o with status := st }] } := by
  simp [State.endOp, hops, hk, hrun, State.endOperation_unheard _ _ _ hses]

theorem State.stallMsgs_nil (s : State) (st : Nat) (h : s.msgs = []) : s.stallMsgs st = [] := by simp [State.stallMsgs, h]

/-- The reset of a bound Stall that is not quenched, and whose decoders its host has not placed. -/
theorem gives_stallResetFinish {s : State} {st : StallId} {o : Operation} (hq : Quiet s) (hup : s.hearthDown = false)
    (hst : s.stall st.val = stResetting) (hm : s.msgs = []) (hb : s.flag F.STALL_BIND_BOUND st.val = true)
    (hfails : (s.emul st.val).failsAfter = false) (hplaced : s.placedDecoders st.val = []) (hquench : s.quenchSet st.val = false)
    (hops : s.ops = [o]) (hk : o.kind = .resetStall st.val) (hrun : o.status = .accepted) (hses : s.sessions = []) :
    Gives (.stallResetComplete st) s (fun t => t.stall st.val = stBound ∧ (t.emul st.val).config = [] ∧ (t.emul st.val).hdm = [] ∧
      t.ops = [{ o with status := .ok }] ∧ KeepsRegs s t [⟨.STALL_STATE, st.val, 0⟩] ∧ t.mem = s.mem) := by
  let e : Emulated := { s.emul st.val with config := [], hdm := [], doeIn := [], doeOut := [], failsAfter := false }
  have hexec : exec (.stallResetComplete st) s =
      done (((s.setEmul st.val e).setStall st.val stBound).endOp (.resetStall st.val) .ok) := by
    have hbound : (s.setEmul st.val e).flag F.STALL_BIND_BOUND st.val = true := hb
    have hopen : (s.setEmul st.val e).quenchSet st.val = false := hquench
    show done (s.stallResetDone st.val) = _
    simp [State.stallResetDone, hst, s.stallMsgs_nil _ hm, hup, hplaced, State.stallResetFinish, hfails, hbound, hopen, e]
  have hemul := s.emul_setEmul st.val e
  obtain ⟨hstate, honly⟩ := (s.setEmul st.val e).setStall_unheard st.val (v := stBound) (by decide) hses
  have hset : (s.setEmul st.val e).regs = s.regs ∧ (s.setEmul st.val e).ops = [o] ∧ (s.setEmul st.val e).sessions = [] ∧
      (s.setEmul st.val e).mem = s.mem ∧ (s.setEmul st.val e).todo = s.todo := ⟨rfl, hops, hses, rfl, rfl⟩
  obtain ⟨hregs, huops, husess, humem, hutodo⟩ := hset
  generalize s.setEmul st.val e = u at *
  generalize u.setStall st.val stBound = w at *
  rw [State.endOp_one _ .ok ((honly.unseen State.ops (fun _ _ => rfl)).trans huops) hk hrun
    ((honly.unseen State.sessions (fun _ _ => rfl)).trans husess)] at hexec
  have hkept : w.emul st.val = e := (honly.unseen (fun x => x.emul st.val) (fun _ _ => rfl)).trans hemul
  exact Gives.of_done hexec (honly.todo.trans (hutodo.trans hq)) ⟨hstate, congrArg Emulated.config hkept,
    congrArg Emulated.hdm hkept, rfl, honly.1.congr hregs.symm rfl, (honly.unseen State.mem (fun _ _ => rfl)).trans humem⟩

/-! ## What a commit takes from a host is not in the slots' registers (R332) -/

/-- Registers of one name aside, two states read alike. -/
def AgreeBut (r : Reg) (a b : State) : Prop := ∀ k : Key, k.reg ≠ r → a.rd k.reg k.i k.j = b.rd k.reg k.i k.j

theorem AgreeBut.get {r : Reg} {a b : State} (h : AgreeBut r a b) {f : Fld} (hf : f.reg ≠ r) (i j : Nat) : a.get f i j = b.get f i j := by
  rw [State.get, h ⟨f.reg, i, j⟩ hf, State.get]

theorem AgreeBut.flag {r : Reg} {a b : State} (h : AgreeBut r a b) {f : Fld} (hf : f.reg ≠ r) (i j : Nat) :
    a.flag f i j = b.flag f i j := by
  rw [State.flag, h.get hf, State.flag]

theorem State.rd_wr (s : State) (r : Reg) (v : Word) (i j : Nat) (k : Key) :
    (s.wr r v i j).rd k.reg k.i k.j = if k = ⟨r, i, j⟩ then v else s.rd k.reg k.i k.j := by
  split
  · next h => rw [h]; exact s.rd_wr_self r v i j
  · next h => exact s.rd_wr_ne r k.reg v i j k.i k.j h

/-- A register is written in both, by words that agree where it counts. -/
theorem AgreeBut.wr {r : Reg} {a b : State} (h : AgreeBut r a b) {q : Reg} {v w : Word} (hv : q ≠ r → v = w) (i j : Nat) :
    AgreeBut r (a.wr q v i j) (b.wr q w i j) := by
  intro k hk
  rw [State.rd_wr, State.rd_wr]
  split
  · next e => exact hv (fun hq => hk (by rw [e]; exact hq))
  · exact h k hk

theorem AgreeBut.put {r : Reg} {a b : State} (h : AgreeBut r a b) (f : Fld) (v i j : Nat) :
    AgreeBut r (a.put f v i j) (b.put f v i j) :=
  h.wr (fun hf => by rw [h ⟨f.reg, i, j⟩ hf]) i j

/-- A register written in one of them, of the name that is left aside. -/
theorem AgreeBut.put_left {a b : State} (f : Fld) (h : AgreeBut f.reg a b) (v i j : Nat) : AgreeBut f.reg (a.put f v i j) b :=
  fun k hk => (a.rd_put_ne f v i j k.reg k.i k.j (fun e => hk (congrArg Key.reg e))).trans (h k hk)

theorem AgreeBut.layItem {r : Reg} {a b : State} (h : AgreeBut r a b) (k : Key) (v : Word) :
    AgreeBut r (a.layItem k v) (b.layItem k v) := by
  have hone (x y : State) (hxy : AgreeBut r x y) (i : Nat) :
      AgreeBut r (x.wr k.reg (BitVec.ofNat 64 (blend k.reg.txnMask (x.rd k.reg i k.j).toNat v.toNat)) i k.j)
        (y.wr k.reg (BitVec.ofNat 64 (blend k.reg.txnMask (y.rd k.reg i k.j).toNat v.toNat)) i k.j) :=
    hxy.wr (fun hq => by rw [hxy ⟨k.reg, i, k.j⟩ hq]) i k.j
  rw [State.layItem, State.layItem]
  split
  · exact hone _ _ (hone _ _ h 0) 1
  · exact hone _ _ h k.i

theorem AgreeBut.foldl {α : Type} {r : Reg} {f g : State → α → State} (hfg : ∀ x a b, AgreeBut r a b → AgreeBut r (f a x) (g b x))
    (l : List α) {a b : State} (h : AgreeBut r a b) : AgreeBut r (l.foldl f a) (l.foldl g b) := by
  induction l generalizing a b with
  | nil => exact h
  | cons x l ih => exact ih (hfg x a b h)

/-- A decoder becomes pending in both or in neither. -/
theorem AgreeBut.makesPending {r : Reg} {a b a' b' : State} (h : AgreeBut r a b) (h' : AgreeBut r a' b') (hr : Reg.DEC_CTRL ≠ r)
    (e : Nat × Nat) : a.makesPending a' e = b.makesPending b' e := by
  rw [State.makesPending, h.flag (f := F.DEC_CTRL_HOST_PLACE) hr, h.flag (f := F.DEC_CTRL_VALID) hr,
    h'.flag (f := F.DEC_CTRL_HOST_PLACE) hr, State.makesPending]

theorem AgreeBut.layPending {r : Reg} {a b a' b' : State} (h : AgreeBut r a b) (h' : AgreeBut r a' b') (hr : Reg.DEC_CTRL ≠ r)
    (ds : List (Nat × Nat)) : AgreeBut r (a.layPending a' ds) (b.layPending b' ds) := by
  refine AgreeBut.foldl (fun e x y hxy => ?_) ds h
  simp only [hxy.makesPending h' hr e, hxy.flag (f := F.DEC_CTRL_HOST_PLACE) hr e.1 e.2]
  split_ifs
  · exact hxy.put _ _ _ _
  · exact hxy
  · exact hxy.put _ _ _ _

theorem AgreeBut.candidate {r : Reg} {a b : State} (h : AgreeBut r a b) (hr : Reg.DEC_CTRL ≠ r) (items : List (Key × Word)) :
    AgreeBut r (a.candidate items false) (b.candidate items false) :=
  (AgreeBut.foldl (fun e _ _ hxy => hxy.layItem e.1 e.2) items h).layPending h hr _

theorem AgreeBut.regionHosts {r : Reg} {a b : State} (h : AgreeBut r a b) (hr : Reg.DEC_CTRL ≠ r) (g : Nat) :
    a.regionHosts g = b.regionHosts g := by
  simp only [State.regionHosts, h.flag (f := F.DEC_CTRL_VALID) hr, h.get (f := F.DEC_CTRL_TYPE) hr, h.get (f := F.DEC_CTRL_REGION) hr]

theorem AgreeBut.recallsOf {r : Reg} {a b : State} (h : AgreeBut r a b) (hdec : Reg.DEC_CTRL ≠ r) (hreg : Reg.REGION_CTRL ≠ r)
    (items : List (Key × Word)) : a.recallsOf items = b.recallsOf items := by
  have hvalid : a.regionsValid = b.regionsValid := by
    simp only [State.regionsValid, h.flag (f := F.REGION_CTRL_VALID) hreg]
  simp only [State.recallsOf, hvalid, h.regionHosts hdec, (h.candidate hdec items).regionHosts hdec]

/-! ## A transaction of firmware's own (R262, R274) -/

/-- Slot 3 with the items of a transaction of firmware's own. -/
def State.fwSlot (s : State) (w : FwTxn) : TxSlot := { shadow := s.fwItems w, writes := (s.fwItems w).map Prod.fst, fw := some w }

/-- The configuration in force where the transaction starts. -/
def State.fwBase (s : State) (w : FwTxn) : State := (s.setTx 3 (s.fwSlot w)).put F.SLOT_BASE_EPOCH_V (s.get F.EPOCH_V) 3

/-- Its commit is validated. -/
def State.fwBegun (s : State) (w : FwTxn) : State := ((s.fwBase w).setTxState 3 txValidating).setTx 3 (s.fwSlot w)

theorem State.fwBase_effect (s : State) (w : FwTxn) :
    (s.fwBase w).get F.SLOT_BASE_EPOCH_V 3 = s.get F.EPOCH_V ∧ (s.fwBase w).tx 3 = s.fwSlot w ∧
      KeepsRegs s (s.fwBase w) [⟨.SLOT_BASE_EPOCH, 3, 0⟩] ∧ TxnsFrame s (s.fwBase w) := by
  have honly : OnlyRegs (s.setTx 3 (s.fwSlot w)) (s.fwBase w) [⟨.SLOT_BASE_EPOCH, 3, 0⟩] := (OnlyRegs.refl _ _).put _ _ _ _ (.head _)
  exact ⟨State.get_put_lt _ F.SLOT_BASE_EPOCH_V 3 0 (by decide) (s.get_lt F.EPOCH_V 0 0),
    (honly.unseen (fun x => x.tx 3) (fun _ _ => rfl)).trans (s.tx_setTx_self 3 _), honly.1.congr (s' := s) rfl rfl,
    TxnsFrame.put (TxnsFrame.setTx rfl 3 _) _ _ _ _⟩

theorem State.setTxState_onlyRegs (s : State) (t v : Nat) : OnlyRegs s (s.setTxState t v) [⟨.TXSLOT_STATE, t, 0⟩] :=
  (OnlyRegs.refl s _).put F.TXSLOT_STATE_STATE v t 0 (.head _)

theorem KeepsRegs.setTx {s t : State} {ks : List Key} (h : KeepsRegs s t ks) (k : Nat) (x : TxSlot) : KeepsRegs s (t.setTx k x) ks :=
  h.regs rfl

theorem TxnsFrame.setTxState {s t : State} (h : TxnsFrame s t) (k v : Nat) : TxnsFrame s (t.setTxState k v) :=
  h.put F.TXSLOT_STATE_STATE v k 0

theorem State.txState_setTxState (s : State) (t : Nat) {v : Nat} (hv : v < 2 ^ F.TXSLOT_STATE_STATE.w) : (s.setTxState t v).txState t = v :=
  s.get_put_lt F.TXSLOT_STATE_STATE t 0 (by decide) hv

@[simp] theorem State.txState_setTx (s : State) (t k : Nat) (x : TxSlot) : (s.setTx k x).txState t = s.txState t := rfl
@[simp] theorem State.get_setTx (s : State) (k : Nat) (x : TxSlot) (f : Fld) (i j : Nat) : (s.setTx k x).get f i j = s.get f i j := rfl

theorem State.fwBegun_effect (s : State) (w : FwTxn) :
    (s.fwBegun w).txState 3 = txValidating ∧ (s.fwBegun w).tx 3 = s.fwSlot w ∧
      (s.fwBegun w).get F.SLOT_BASE_EPOCH_V 3 = s.get F.EPOCH_V ∧
      KeepsRegs s (s.fwBegun w) [⟨.TXSLOT_STATE, 3, 0⟩, ⟨.SLOT_BASE_EPOCH, 3, 0⟩] ∧ TxnsFrame s (s.fwBegun w) := by
  obtain ⟨hepoch, -, hkeep, hframe⟩ := s.fwBase_effect w
  rw [State.fwBegun, State.txState_setTx, State.get_setTx, State.tx_setTx_self]
  generalize s.fwBase w = b at hepoch hkeep hframe ⊢
  have honly := b.setTxState_onlyRegs 3 txValidating
  exact ⟨b.txState_setTxState 3 (by decide), rfl, (honly.1.get (by simp [F.SLOT_BASE_EPOCH_V])).trans hepoch,
    ((hkeep.mono (by simp)).trans (honly.1.mono (by simp))).setTx 3 _,
    (hframe.setTxState 3 txValidating).setTx 3 _⟩

/-- A transaction of firmware's own that takes no region from a host begins without a recall. -/
theorem State.fwBegin_unrecalled {s : State} {w : FwTxn} (h : s.recallsOf (s.fwItems w) = []) : s.fwBegin w = s.fwBegun w := by
  have hagree : AgreeBut .SLOT_BASE_EPOCH (s.fwBase w) s := AgreeBut.put_left F.SLOT_BASE_EPOCH_V (fun _ _ => rfl) _ _ _
  have hrecalls : (s.fwBase w).recallsOf (s.fwItems w) = [] := (hagree.recallsOf (by decide) (by decide) _).trans h
  have htx := (s.fwBase_effect w).2.1
  have hbegin : s.fwBegin w = (s.fwBase w).commitStart 3 := rfl
  rw [hbegin, State.commitStart, htx, show (s.fwSlot w).shadow = s.fwItems w from rfl, hrecalls]
  rfl

/-- The reset of a Stall whose host has placed decoders: firmware's transaction, which is to take them back, is validated first. -/
theorem gives_stallReset_unplaces {s : State} {st : StallId} (hq : Quiet s) (hup : s.hearthDown = false)
    (hst : s.stall st.val = stResetting) (hm : s.msgs = []) (hplaced : s.placedDecoders st.val ≠ []) (hfree : s.txState 3 = txFree)
    (htx : s.tx 3 = {}) (hfw : s.txns.fw = []) (hrecalls : s.recallsOf (s.fwItems (.unplaceAll st.val)) = []) :
    Gives (.stallResetComplete st) s (fun t => t.txState 3 = txValidating ∧ (t.tx 3).fw = some (.unplaceAll st.val) ∧
      (t.tx 3).shadow = s.fwItems (.unplaceAll st.val) ∧ t.get F.SLOT_BASE_EPOCH_V 3 = s.get F.EPOCH_V ∧
      t.stall st.val = stResetting ∧ KeepsRegs s t [⟨.TXSLOT_STATE, 3, 0⟩, ⟨.SLOT_BASE_EPOCH, 3, 0⟩] ∧
      { t with regs := s.regs, txns := s.txns } = s) := by
  have hexec : exec (.stallResetComplete st) s = done (s.fwBegun (.unplaceAll st.val)) := by
    have hnot : s.fwHas (.unplaceAll st.val) = false := by simp [State.fwHas, htx, hfw]
    have htxn : s.fwTxn (.unplaceAll st.val) = s.fwBegin (.unplaceAll st.val) := by simp [State.fwTxn, hfree, hfw]
    show done (s.stallResetDone st.val) = _
    simp [State.stallResetDone, hst, s.stallMsgs_nil _ hm, hup, hplaced, hnot, htxn, State.fwBegin_unrecalled hrecalls]
  obtain ⟨hstate, hslot, hepoch, hkeep, hframe⟩ := s.fwBegun_effect (.unplaceAll st.val)
  exact Gives.of_done hexec (hframe.todo.trans hq) ⟨hstate, by rw [hslot]; rfl, by rw [hslot]; rfl, hepoch,
    (hkeep.get (by simp [F.STALL_STATE_STATE])).trans hst, hkeep, hframe⟩

/-! ## The scrubber (R268, R270) -/

/-- The registers that count the ranges. -/
abbrev scrubKeys : List Key := [⟨.SCRUB_ACTIVE, 0, 0⟩, ⟨.SCRUB_QUARANTINED, 0, 0⟩]

/-- One range is the list: the registers say whether it is scrubbed or in quarantine. -/
theorem State.setRanges_one (s : State) (r : DevRange) :
    (s.setRanges [r]).get F.SCRUB_ACTIVE_V = (if r.quarantined || r.forErase then 0 else 1) ∧
      (s.setRanges [r]).get F.SCRUB_QUARANTINED_V = (if r.quarantined then 1 else 0) ∧
      OnlyRegs { s with ranges := [r] } (s.setRanges [r]) scrubKeys := by
  let u : State := { s with ranges := [r] }
  have hset : s.setRanges [r] = (u.put F.SCRUB_ACTIVE_V (if r.quarantined || r.forErase then 0 else 1)).put F.SCRUB_QUARANTINED_V
      (if r.quarantined then 1 else 0) := by
    cases hr : r.quarantined <;> cases hf : r.forErase <;> simp [State.setRanges, hr, hf, u]
  rw [hset]
  refine ⟨?_, State.get_put_lt _ F.SCRUB_QUARANTINED_V 0 0 (by decide) (by split <;> decide),
    ((OnlyRegs.refl u _).put F.SCRUB_ACTIVE_V _ _ _ (.head _)).put F.SCRUB_QUARANTINED_V _ _ _ (.tail _ (.head _))⟩
  rw [State.get_put_of_apart _ (by decide)]
  exact State.get_put_lt _ F.SCRUB_ACTIVE_V 0 0 (by decide) (by split <;> decide)

theorem State.scrubbing_one {s : State} {r : DevRange} {p : Nat} (hr : s.ranges = [r]) (hp : r.port = p) (hq : r.quarantined = false) :
    s.scrubbing p = some r := by simp [State.scrubbing, hr, hp, hq]

theorem replaceRange_one (r r' : DevRange) : replaceRange r [r'] [r] = [r'] := by simp [replaceRange]

/-- A MiB that is not its range's last is scrubbed. -/
theorem gives_scrubbed {s : State} {p : Port} {r : DevRange} (hq : Quiet s) (hup : s.hearthDown = false) (hr : s.ranges = [r])
    (hp : r.port = p.val) (hquar : r.quarantined = false) (hlen : r.scrubbed + 1 < r.len) :
    Gives (.scrubBarrierConfirmed p) s (fun t => t.ranges = [{ r with scrubbed := r.scrubbed + 1 }] ∧
      t.out = s.out ++ [.scrub p.val r.ld ((r.start + r.scrubbed) * 2 ^ 20)] ∧ KeepsRegs s t scrubKeys ∧ t.msgs = s.msgs) := by
  let u : State := s.emit (.scrub p.val r.ld ((r.start + r.scrubbed) * 2 ^ 20))
  have hexec : exec (.scrubBarrierConfirmed p) s = done (u.setRanges [{ r with scrubbed := r.scrubbed + 1 }]) := by
    have hup' : u.hearthDown = false := hup
    have hr' : u.ranges = [r] := hr
    show done (s.scrubbed p.val) = _
    simp only [State.scrubbed, State.scrubbing_one hr hp hquar, hup, Bool.false_eq_true, if_false]
    rw [if_neg (by rw [hup']; decide), if_pos hlen, hr', replaceRange_one]
  obtain ⟨-, -, honly⟩ := u.setRanges_one { r with scrubbed := r.scrubbed + 1 }
  generalize u.setRanges [{ r with scrubbed := r.scrubbed + 1 }] = t at hexec honly
  exact Gives.of_done hexec (honly.todo.trans hq) ⟨honly.unseen State.ranges (fun _ _ => rfl), honly.unseen State.out (fun _ _ => rfl),
    honly.1.congr (s' := s) rfl rfl, honly.unseen State.msgs (fun _ _ => rfl)⟩

/-- An erase that waits for another range does not fail. -/
theorem State.eraseFails_other (s : State) {r : DevRange} (h : r.forErase = false) : s.eraseFails r = s := by
  rw [State.eraseFails]
  split
  · rw [h]; rfl
  · rfl

theorem DevRange.quarantine_idle {r : DevRange} (h : r.forErase = false) :
    r.quarantine = { r with quarantined := true, scrubbed := 0 } := by
  rw [DevRange.quarantine, ← h]

/-- A scrub write of a range that no operation and no erase waits for fails. -/
theorem gives_scrubWriteFail {s : State} {p : Port} {r : DevRange} (hq : Quiet s) (hr : s.ranges = [r]) (hp : r.port = p.val)
    (hquar : r.quarantined = false) (herase : r.forErase = false) (hops : s.ops = [])
    (hl : s.flag F.FC_SRC_LATCHED (8 * p.val + 7) = true) :
    Gives (.scrubWriteFail p) s (fun t => t.ranges = [{ r with quarantined := true, scrubbed := 0 }] ∧
      t.get F.FC_SRC_COUNT (8 * p.val + 7) = saturated 8 (s.get F.FC_SRC_COUNT (8 * p.val + 7)) 1 ∧
      t.get F.SCRUB_QUARANTINED_V = 1 ∧ t.get F.SCRUB_ACTIVE_V = 0 ∧
      KeepsRegs s t [⟨.FC_SRC, 8 * p.val + 7, 0⟩, ⟨.SCRUB_ACTIVE, 0, 0⟩, ⟨.SCRUB_QUARANTINED, 0, 0⟩]) := by
  let u : State := s.setRanges [{ r with quarantined := true, scrubbed := 0 }]
  let t : State := u.put F.FC_SRC_COUNT (saturated 8 (s.get F.FC_SRC_COUNT (8 * p.val + 7)) 1) (8 * p.val + 7)
  obtain ⟨hactive, hquarantined, honly⟩ := s.setRanges_one { r with quarantined := true, scrubbed := 0 }
  have hsource (f : Fld) (hf : f.reg = .FC_SRC) : u.get f (8 * p.val + 7) = s.get f (8 * p.val + 7) :=
    (honly.1.congr (s' := s) (t' := u) rfl rfl).get (by simp [hf])
  have hput : OnlyRegs u t [⟨.FC_SRC, 8 * p.val + 7, 0⟩] := (OnlyRegs.refl u _).put F.FC_SRC_COUNT _ _ _ (.head _)
  have hcount : t.get F.FC_SRC_COUNT (8 * p.val + 7) = saturated 8 (s.get F.FC_SRC_COUNT (8 * p.val + 7)) 1 :=
    u.get_put_lt F.FC_SRC_COUNT _ 0 (by decide) (saturated_lt _ _ _)
  have hraise (i : FaultInfo) : u.raise (8 * p.val + 7) i = t := by
    rw [State.raise_latched u _ i (by rw [State.flag, hsource _ rfl]; exact hl), hsource _ rfl]
  have huops : u.ops = [] := (honly.unseen State.ops (fun _ _ => rfl)).trans hops
  have htops : t.ops = [] := (hput.unseen State.ops (fun _ _ => rfl)).trans huops
  have hexec : exec (.scrubWriteFail p) s = done t := by
    have hquarantine : (s.setRanges [r.quarantine]).eraseFails r = u := by
      rw [State.eraseFails_other _ herase, DevRange.quarantine_idle herase]
    show done (s.scrubFails p.val) = _
    simp only [State.scrubFails, State.scrubbing_one hr hp hquar, hr, replaceRange_one, hquarantine, hraise, htops, List.filter_nil,
      List.foldl_nil]
  have hget (f : Fld) (hf : f.reg ≠ .FC_SRC) : t.get f = u.get f := hput.1.get (by simp [hf])
  exact Gives.of_done hexec (hput.todo.trans (honly.todo.trans hq))
    ⟨(hput.unseen State.ranges (fun _ _ => rfl)).trans (honly.unseen State.ranges (fun _ _ => rfl)), hcount,
      (hget _ (by decide)).trans hquarantined, (hget _ (by decide)).trans hactive,
      ((honly.1.congr (s' := s) (t' := u) rfl rfl).mono (by simp)).trans (hput.1.mono (by simp))⟩

/-! ## The statement -/

/-- Settles O18: each clause is the lemma about its command. -/
theorem erasuresStallResetsAndScrubs : Obligations.ErasuresStallResetsAndScrubs := by
  unfold Obligations.ErasuresStallResetsAndScrubs
  refine ⟨?sanitize, ?secureErase, ?erased, ?drained, ?reset, ?unplaces, ?scrubbed, ?scrubFails⟩
  case sanitize =>
    intro s st hq _ hr hnone hslices hwas hbound hses
    exact gives_eraseStart hq rfl hr hnone hslices hwas hbound hses
  case secureErase =>
    intro s st hq _ hr hnone hslices hwas hbound hses
    exact gives_eraseStart hq rfl hr hnone hslices hwas hbound hses
  case erased =>
    intro s st op hq _ hr hop hfailed hwas hranges hstall hses
    exact gives_eraseDone hq hr hop hfailed hwas hranges hstall hses
  case drained =>
    intro s st m hq _ hst hm hstall hop _ _ _ hcopy htwin hlive hheld _ hcells hskid hidle
    exact gives_stallDrainEnd hq hst hm ⟨hstall, hop, hlive, hheld, htwin, hcells⟩ hcopy hskid hidle
  case reset =>
    intro s st o hq _ hup hst hm hb hfails hplaced hquench hops hk hrun hses
    exact gives_stallResetFinish hq hup hst hm hb hfails hplaced hquench hops hk hrun hses
  case unplaces =>
    intro s st hq _ hup hst hm hplaced hfree htx hfw hrecalls
    exact gives_stallReset_unplaces hq hup hst hm hplaced hfree htx hfw hrecalls
  case scrubbed =>
    intro s p r hq _ hup hr hp hquar hlen
    exact gives_scrubbed hq hup hr hp hquar hlen
  case scrubFails =>
    intro s p r hq _ hr hp hquar herase hops hl
    exact gives_scrubWriteFail hq hr hp hquar herase hops hl

end Sys2Proof.Machine

/-!
PROOF. What a session's commands of transactions answer and leave, and what becomes of its transactions at its end (R275, R276, R287).
-/
namespace Sys2Proof.Machine

/-! ## Replies over UDP and MCTP (R426, R441) -/

theorem sourcePort_of_not_cxl {src : Source} (h : onCxl src = false) : sourcePort src = 96 := by
  cases src with
  | cxl p => simp [onCxl] at h
  | udp _ _ => rfl
  | smbus _ => rfl
  | i3c _ => rfl

/-- A reply that does not go over CXL.io leaves the device at once. -/
theorem State.answer_outside (s : State) {src : Source} (id seq : Nat) (r : Reply) (h : onCxl src = false) :
    s.answer src id seq r =
      { s with
        out := s.out ++ [.reply src id seq r],
        sessions := s.sessions.map (fun x => if x.id == id && id != 0 then x.keep seq r else x) } := by
  rw [State.answer, sourcePort_of_not_cxl h]
  rfl

/-- The cache of a session ends with the reply it was given last. -/
theorem Session.getLast?_keep (x : Session) (seq : Nat) (r : Reply) : (x.keep seq r).cache.getLast? = some (seq, r) := by
  simp [Session.keep]

/-- The answer of a command that its session takes, and whose body leaves the counter units frozen and starts no reaction. -/
theorem gives_answer {c i : Instr} {s u : State} {h : EcpHdr} {x : Session} {cmd : Cmd} {run : Session → State → Ans × State} {a : Ans}
    (hf : Frozen s) (ht : Takes s h x) (hp : x.perms.covers cmd.needs = true) (hu : cmd.needs.unlock = false)
    (e : exec c s = ecpDo s i h cmd run) (hrun : run (x.accept h.seq.toNat) (s.heard h x) = (a, u)) (hfu : Frozen u) (hqu : Quiet u) :
    Gives c s (fun t => t = u.answer h.src x.id h.seq.toNat ⟨cmd.opcode, a.1, a.2⟩) := by
  have hcxl : onCxl h.src = false := ht.2.2.2.2.2.1
  rw [ecpDo_takes hf ht hp hu, hrun, u.replyTo_frozen _ _ _ _ _ hfu] at e
  refine Gives.of_done e ?_ rfl
  rw [u.answer_outside _ _ _ hcxl]
  exact hqu

/-- The same for a body that touches registers and transactions only: its answer is the one reply. -/
theorem gives_reply {c i : Instr} {s u : State} {h : EcpHdr} {x : Session} {cmd : Cmd} {run : Session → State → Ans × State} {a : Ans}
    (hq : Quiet s) (hf : Frozen s) (ht : Takes s h x) (hp : x.perms.covers cmd.needs = true) (hu : cmd.needs.unlock = false)
    (e : exec c s = ecpDo s i h cmd run) (hrun : run (x.accept h.seq.toNat) (s.heard h x) = (a, u)) (hfu : Frozen u)
    (hframe : TxnsFrame (s.heard h x) u) :
    Gives c s (fun t => Replies s t h x cmd.opcode a.1 a.2 ∧ t.regs = u.regs ∧ t.txns = u.txns ∧
      { t with out := s.out, sessions := s.sessions, regs := s.regs, txns := s.txns } = s) := by
  refine (gives_answer hf ht hp hu e hrun hfu (hframe.todo.trans hq)).imp (fun t hanswer => ?_)
  obtain ⟨-, -, -, -, -, hcxl, -, hne, -, -, -, hhigh, -⟩ := ht
  rw [u.answer_outside _ _ _ hcxl] at hanswer
  have hout : u.out = s.out := by have h := congrArg State.out hframe; exact h
  have hmsgs : u.msgs = s.msgs := hframe.msgs
  have hnext : u.nextId = s.nextId := by have h := congrArg State.nextId hframe; exact h
  have hsessions : u.sessions = [x.accept h.seq.toNat] := by have h := congrArg State.sessions hframe; exact h
  have hkept : (x.accept h.seq.toNat).id = x.id ∧ (x.accept h.seq.toNat).high = h.seq.toNat := ⟨rfl, max_eq_right hhigh.le⟩
  subst hanswer
  refine ⟨⟨?_, ?_⟩, rfl, rfl, ?_⟩
  · simp [Says, sourcePort_of_not_cxl hcxl, hout, hmsgs, hnext, Said.out]
  · have hkeep (y : Session) (r : Reply) : (y.keep h.seq.toNat r).id = y.id ∧ (y.keep h.seq.toNat r).high = y.high := ⟨rfl, rfl⟩
    have hsame : (x.id == x.id && x.id != 0) = true := by simp [hne]
    simp only [hsessions, List.map_cons, List.map_nil, hkept, hsame, if_true, hkeep, Session.getLast?_keep]
  · have h := congrArg (fun v : State => { v with out := s.out, sessions := s.sessions }) hframe; exact h

/-- A command that is refused, or answered, with no effect of its own. -/
theorem gives_reply_only {c i : Instr} {s : State} {h : EcpHdr} {x : Session} {cmd : Cmd} {run : Session → State → Ans × State} {a : Ans}
    (hq : Quiet s) (hf : Frozen s) (ht : Takes s h x) (hp : x.perms.covers cmd.needs = true) (hu : cmd.needs.unlock = false)
    (e : exec c s = ecpDo s i h cmd run) (hrun : run (x.accept h.seq.toNat) (s.heard h x) = (a, s.heard h x)) :
    Gives c s (fun t => Replies s t h x cmd.opcode a.1 a.2 ∧ { t with out := s.out, sessions := s.sessions } = s) := by
  refine (gives_reply hq hf ht hp hu e hrun hf rfl).imp (fun t ⟨hreply, hregs, htxns, hframe⟩ => ⟨hreply, ?_⟩)
  have hregs : t.regs = s.regs := hregs
  have htxns : t.txns = s.txns := htxns
  rw [← hregs, ← htxns] at hframe
  exact hframe

/-! ## Whose transaction it is (R275, R276) -/

theorem State.onTxn_free {s : State} {t : Nat} (h : s.txState t = txFree) (x : Session) (f : State → Ans × State) :
    s.onTxn x t f = ((.invalid, [4, noItem]), s) := by
  simp [State.onTxn, h]

theorem State.onTxn_foreign {s : State} {x : Session} {t : Nat} (h : s.txState t ≠ txFree) (ho : (s.tx t).owner ≠ x.id)
    (f : State → Ans × State) : s.onTxn x t f = (refuse .denied, s) := by
  simp [State.onTxn, h, ho]

theorem State.onTxn_own {s : State} {x : Session} {t : Nat} (h : s.txState t ≠ txFree) (ht : t ≠ 3) (ho : (s.tx t).owner = x.id)
    (f : State → Ans × State) : s.onTxn x t f = f s := by
  simp [State.onTxn, h, ht, ho]

theorem Perms.covers_configure {p : Perms} (h : p.configure = true) : p.covers pConfigure = true := by
  simp [Perms.covers, pConfigure, h]

/-- Every command that names a free slot is INVALID. -/
theorem gives_onTxn_free {c i : Instr} {s : State} {h : EcpHdr} {x : Session} {opcode k : Nat} {f : Session → State → Ans × State}
    (hq : Quiet s) (hf : Frozen s) (ht : Takes s h x) (hp : x.perms.configure = true) (hfree : s.txState k = txFree)
    (e : exec c s = ecpDo s i h ⟨opcode, pConfigure⟩ (fun y u => u.onTxn y k (f y))) :
    Gives c s (fun t => Replies s t h x opcode .invalid [4, noItem] ∧ { t with out := s.out, sessions := s.sessions } = s) :=
  gives_reply_only hq hf ht (Perms.covers_configure hp) rfl e
    (State.onTxn_free (s := s.heard h x) hfree (x.accept h.seq.toNat) (f (x.accept h.seq.toNat)))

/-- Every command that names another session's transaction is DENIED. -/
theorem gives_onTxn_foreign {c i : Instr} {s : State} {h : EcpHdr} {x : Session} {opcode k : Nat} {f : Session → State → Ans × State}
    (hq : Quiet s) (hf : Frozen s) (ht : Takes s h x) (hp : x.perms.configure = true) (hused : s.txState k ≠ txFree)
    (hother : (s.tx k).owner ≠ x.id) (e : exec c s = ecpDo s i h ⟨opcode, pConfigure⟩ (fun y u => u.onTxn y k (f y))) :
    Gives c s (fun t => Replies s t h x opcode .denied [0, noItem] ∧ { t with out := s.out, sessions := s.sessions } = s) :=
  gives_reply_only hq hf ht (Perms.covers_configure hp) rfl e
    (State.onTxn_foreign (s := s.heard h x) (x := x.accept h.seq.toNat) hused hother (f (x.accept h.seq.toNat)))

/-- A command that names the session's own transaction, one that sessions may open, and touches registers and transactions only. -/
theorem gives_onTxn_own {c i : Instr} {s u : State} {h : EcpHdr} {x : Session} {opcode k : Nat} {f : Session → State → Ans × State} {a : Ans}
    (hq : Quiet s) (hf : Frozen s) (ht : Takes s h x) (hp : x.perms.configure = true) (hused : s.txState k ≠ txFree) (hk : k ≠ 3)
    (howner : (s.tx k).owner = x.id) (e : exec c s = ecpDo s i h ⟨opcode, pConfigure⟩ (fun y u => u.onTxn y k (f y)))
    (hrun : f (x.accept h.seq.toNat) (s.heard h x) = (a, u)) (hfu : Frozen u) (hframe : TxnsFrame (s.heard h x) u) :
    Gives c s (fun t => Replies s t h x opcode a.1 a.2 ∧ t.regs = u.regs ∧ t.txns = u.txns ∧
      { t with out := s.out, sessions := s.sessions, regs := s.regs, txns := s.txns } = s) :=
  gives_reply hq hf ht (Perms.covers_configure hp) rfl e
    ((State.onTxn_own (s := s.heard h x) (x := x.accept h.seq.toNat) hused hk howner _).trans hrun) hfu hframe

/-- The same for one that changes nothing. -/
theorem gives_onTxn_own_unchanged {c i : Instr} {s : State} {h : EcpHdr} {x : Session} {opcode k : Nat}
    {f : Session → State → Ans × State} {a : Ans} (hq : Quiet s) (hf : Frozen s) (ht : Takes s h x) (hp : x.perms.configure = true)
    (hused : s.txState k ≠ txFree) (hk : k ≠ 3) (howner : (s.tx k).owner = x.id)
    (e : exec c s = ecpDo s i h ⟨opcode, pConfigure⟩ (fun y u => u.onTxn y k (f y)))
    (hrun : f (x.accept h.seq.toNat) (s.heard h x) = (a, s.heard h x)) :
    Gives c s (fun t => Replies s t h x opcode a.1 a.2 ∧ { t with out := s.out, sessions := s.sessions } = s) :=
  gives_reply_only hq hf ht (Perms.covers_configure hp) rfl e
    ((State.onTxn_own (s := s.heard h x) (x := x.accept h.seq.toNat) hused hk howner _).trans hrun)

/-- What a Rollback does to a transaction of its own session (R286, R287). -/
def State.txnRollback (s : State) (t : Nat) : Ans × State :=
  if s.txState t != txOpen then (refuse .busy, s) else (okAns, s.txClear t)

theorem State.txnRollback_open {s : State} {t : Nat} (h : s.txState t = txOpen) : s.txnRollback t = (okAns, s.txClear t) := by
  simp [State.txnRollback, h]

theorem State.txnRollback_busy {s : State} {t : Nat} (h : s.txState t ≠ txOpen) : s.txnRollback t = (refuse .busy, s) := by
  simp [State.txnRollback, h]

theorem exec_txnRollback (s : State) (h : EcpHdr) (k : Fin 4) :
    exec (.txnRollback h k) s =
      ecpDo s (.txnRollback h k) h ⟨0x0305, pConfigure⟩ (fun y u => u.onTxn y k.val (fun u => u.txnRollback k.val)) := rfl

/-! ## Begin (R274, R281) -/

/-- A slot that a session has opened. -/
def State.begun (s : State) (x : Session) (k : Nat) : State :=
  ((s.setTx k { owner := x.id, inspect := x.perms.inspect }).setTxState k txOpen).put F.SLOT_BASE_EPOCH_V (s.get F.EPOCH_V) k

theorem State.txnBegin_free {s : State} {x : Session} {k : Nat} (h : s.freeTxn = some k) : s.txnBegin x = ((.ok, [k]), s.begun x k) := by
  simp only [State.txnBegin, h]
  rfl

theorem State.begun_effect (s : State) (x : Session) (k : Nat) :
    (s.begun x k).txState k = txOpen ∧ ((s.begun x k).tx k).owner = x.id ∧
      KeepsRegs s (s.begun x k) [⟨.TXSLOT_STATE, k, 0⟩, ⟨.SLOT_BASE_EPOCH, k, 0⟩] ∧ TxnsFrame s (s.begun x k) := by
  let a : State := s.setTx k { owner := x.id, inspect := x.perms.inspect }
  let b : State := a.setTxState k txOpen
  have honly : OnlyRegs a (s.begun x k) [⟨.TXSLOT_STATE, k, 0⟩, ⟨.SLOT_BASE_EPOCH, k, 0⟩] :=
    ((a.setTxState_onlyRegs k txOpen).mono (by simp)).put F.SLOT_BASE_EPOCH_V _ k 0 (.tail _ (.head _))
  have hopen : (s.begun x k).txState k = b.txState k := b.get_put_of_apart (f := F.SLOT_BASE_EPOCH_V) (by decide) _ _ _ _ _
  have htx : (s.begun x k).tx k = a.tx k := honly.unseen (fun v => v.tx k) (fun _ _ => rfl)
  exact ⟨hopen.trans (a.txState_setTxState k (by decide)), by rw [htx, State.tx_setTx_self], honly.1.congr rfl rfl,
    ((TxnsFrame.setTx rfl k _).setTxState k txOpen).put _ _ _ _⟩

/-! ## The end of a session (R275, R438) -/

theorem State.tx_congr {s t : State} (h : t.txns = s.txns) (k : Nat) : t.tx k = s.tx k := by
  rw [State.tx, h, State.tx]

/-- A slot that is freed leaves the others. -/
theorem State.txClear_other (s : State) {t k : Nat} (h : k ≠ t) :
    (s.txClear t).txState k = s.txState k ∧ (s.txClear t).tx k = s.tx k := by
  obtain ⟨-, -, hkeep, -⟩ := s.txClear_effect t
  refine ⟨hkeep.get (by simp [F.TXSLOT_STATE_STATE, h]), ?_⟩
  have htxns : (s.txClear t).txns = (s.setTx t {}).txns := rfl
  rw [State.tx_congr htxns]
  exact numGet_put_ne {} h {} s.txns.slots

theorem TxnsFrame.trans {s t u : State} (h : TxnsFrame s t) (h' : TxnsFrame t u) : TxnsFrame s u := by
  have e := congrArg (fun v : State => { v with regs := s.regs, txns := s.txns }) h'
  exact e.trans h

theorem TxnsFrame.sessions {s t : State} (h : TxnsFrame s t) : t.sessions = s.sessions := by
  have e := congrArg State.sessions h; exact e

/-- What the end of session `id` makes of a slot with no commit in validation: its open transaction is rolled back. -/
def endedSlot (id : Nat) (p : Nat × TxSlot) : Nat × TxSlot := if p.2.owner = id ∧ p.1 = txOpen then (txFree, {}) else p

theorem endedSlot_idem (id : Nat) (p : Nat × TxSlot) : endedSlot id (endedSlot id p) = endedSlot id p := by
  unfold endedSlot
  split <;> simp_all

/-- A slot: its state and what it holds. -/
def State.slotPair (s : State) (k : Nat) : Nat × TxSlot := (s.txState k, s.tx k)

/-- What the end of a session does to a slot that sessions may open. -/
def State.endSlot (x : Session) (s : State) (t : Nat) : State :=
  if (s.tx t).owner != x.id then s
  else if s.txState t == txOpen then s.txClear t
  else if s.txState t == txValidating then (s.commitRefused t .aborted none).txClear t
  else s

/-- A slot with no commit in validation ends as `endedSlot` says; the others stay, and so does the rest. -/
theorem State.endSlot_effect (s : State) (x : Session) (t : Nat) (h : s.txState t ≠ txValidating) :
    (∀ k, (s.endSlot x t).slotPair k = if k = t then endedSlot x.id (s.slotPair k) else s.slotPair k) ∧
      (Frozen s → Frozen (s.endSlot x t)) ∧ TxnsFrame s (s.endSlot x t) := by
  by_cases hend : (s.tx t).owner = x.id ∧ s.txState t = txOpen
  · obtain ⟨hfree, hempty, hkeep, hframe⟩ := s.txClear_effect t
    have hclear : s.endSlot x t = s.txClear t := by simp [State.endSlot, hend]
    rw [hclear]
    refine ⟨fun k => ?_, hkeep.frozen (by simp), hframe⟩
    by_cases hk : k = t
    · subst hk
      simp [State.slotPair, endedSlot, hend, hfree, hempty]
    · obtain ⟨hstate, htx⟩ := s.txClear_other hk
      simp [State.slotPair, hk, hstate, htx]
  · have hsame : s.endSlot x t = s := by
      by_cases ho : (s.tx t).owner = x.id
      · have hopen : s.txState t ≠ txOpen := fun hopen => hend ⟨ho, hopen⟩
        simp [State.endSlot, ho, h, hopen]
      · simp [State.endSlot, ho]
    have hended : endedSlot x.id (s.slotPair t) = s.slotPair t := if_neg hend
    rw [hsame]
    refine ⟨fun k => ?_, id, rfl⟩
    split
    · next hk => rw [hk, hended]
    · rfl

theorem endedSlot_validating {id : Nat} {p : Nat × TxSlot} (h : p.1 ≠ txValidating) : (endedSlot id p).1 ≠ txValidating := by
  unfold endedSlot
  split
  · exact (by decide : txFree ≠ txValidating)
  · exact h

/-- The same for a list of slots, one after the other. -/
theorem State.endSlots_effect (l : List Nat) (s : State) (x : Session) (h : ∀ t ∈ l, s.txState t ≠ txValidating) :
    (∀ k, (l.foldl (State.endSlot x) s).slotPair k = if k ∈ l then endedSlot x.id (s.slotPair k) else s.slotPair k) ∧
      (Frozen s → Frozen (l.foldl (State.endSlot x) s)) ∧ TxnsFrame s (l.foldl (State.endSlot x) s) := by
  induction l generalizing s with
  | nil => exact ⟨fun k => by simp, id, rfl⟩
  | cons a l ih =>
    obtain ⟨hslot, hfrozen, hframe⟩ := s.endSlot_effect x a (h a List.mem_cons_self)
    have hnext : ∀ t ∈ l, (s.endSlot x a).txState t ≠ txValidating := fun t ht => by
      have hpair : (s.endSlot x a).txState t = ((s.endSlot x a).slotPair t).1 := rfl
      rw [hpair, hslot]
      split
      · exact endedSlot_validating (h t (.tail _ ht))
      · exact h t (.tail _ ht)
    obtain ⟨hslots, hfrozens, hframes⟩ := ih _ hnext
    refine ⟨fun k => ?_, fun hf => hfrozens (hfrozen hf), hframe.trans hframes⟩
    rw [List.foldl_cons, hslots, hslot]
    by_cases hk : k = a
    · simp [hk, endedSlot_idem]
    · simp [hk]

/-- A session is gone, and its operations are no session's. -/
def State.dropSession (s : State) (x : Session) : State :=
  { s with sessions := s.sessions.filter (fun y => y.id != x.id),
           ops := s.ops.map (fun o => if o.session == x.id then { o with session := 0 } else o) }

theorem State.sessionEnd_eq (s : State) (x : Session) :
    s.sessionEnd x = ((List.range 3).foldl (State.endSlot x) s).dropSession x := rfl

theorem State.slotPair_dropSession (s : State) (x : Session) (k : Nat) : (s.dropSession x).slotPair k = s.slotPair k := rfl

/-- The end of a session while no commit is validated: its open transactions are rolled back, and the session is gone. -/
theorem State.sessionEnd_effect (s : State) (x : Session) (h : ∀ t ∈ List.range 3, s.txState t ≠ txValidating) :
    (∀ k, (s.sessionEnd x).slotPair k = if k ∈ List.range 3 then endedSlot x.id (s.slotPair k) else s.slotPair k) ∧
      (Frozen s → Frozen (s.sessionEnd x)) ∧ (s.sessionEnd x).todo = s.todo ∧
      (s.sessionEnd x).sessions = s.sessions.filter (fun y => y.id != x.id) := by
  obtain ⟨hslots, hfrozen, hframe⟩ := State.endSlots_effect (List.range 3) s x h
  rw [s.sessionEnd_eq]
  generalize (List.range 3).foldl (State.endSlot x) s = u at hslots hfrozen hframe ⊢
  exact ⟨fun k => (u.slotPair_dropSession x k).trans (hslots k), hfrozen, hframe.todo,
    congrArg (List.filter (fun y : Session => y.id != x.id)) hframe.sessions⟩

/-- The close of a session ends it, and its slots with it. -/
theorem gives_sessionClose {s : State} {h : EcpHdr} {x : Session} (hq : Quiet s) (hf : Frozen s) (ht : Takes s h x)
    (hval : ∀ k : Fin 4, s.txState k.val ≠ txValidating) :
    Gives (.sessionClose h) s (fun t => t.sessions = [] ∧
      ∀ k, t.slotPair k = if k ∈ List.range 3 then endedSlot x.id (s.slotPair k) else s.slotPair k) := by
  have hexec : exec (.sessionClose h) s =
      ecpDo s (.sessionClose h) h ⟨0x0003, {}⟩ (fun y u => (okAns, u.endSessions (fun z => z.id == y.id))) := rfl
  have hend : (s.heard h x).endSessions (fun z => z.id == (x.accept h.seq.toNat).id) =
      (s.heard h x).sessionEnd (x.accept h.seq.toNat) := by
    simp [State.endSessions, State.heard]
  have hvalid : ∀ t ∈ List.range 3, (s.heard h x).txState t ≠ txValidating := fun t ht =>
    hval ⟨t, by have := List.mem_range.mp ht; omega⟩
  obtain ⟨hslots, hfrozen, htodo, hsessions⟩ := (s.heard h x).sessionEnd_effect (x.accept h.seq.toNat) hvalid
  have hnone : (s.heard h x).sessions.filter (fun y => y.id != (x.accept h.seq.toNat).id) = [] := by simp [State.heard]
  rw [hnone] at hsessions
  generalize (s.heard h x).sessionEnd (x.accept h.seq.toNat) = u at hend hslots hfrozen htodo hsessions
  refine (gives_answer hf ht rfl rfl hexec (congrArg (Prod.mk okAns) hend) (hfrozen hf) (htodo.trans hq)).imp (fun t hanswer => ?_)
  have hcxl : onCxl h.src = false := ht.2.2.2.2.2.1
  rw [State.answer_outside _ _ _ _ hcxl, hsessions] at hanswer
  subst hanswer
  exact ⟨rfl, hslots⟩

/-! ## The statements -/

/-- Settles O53: Begin and the end of a session by what they do to the slots, every other command by `gives_onTxn_foreign`. -/
theorem aTransactionBelongsToItsSession : Obligations.ATransactionBelongsToItsSession := by
  unfold Obligations.ATransactionBelongsToItsSession
  refine ⟨?begin, fun s h x k l hq hf ht hp hused hother => gives_onTxn_foreign hq hf ht hp hused hother rfl,
    fun s h x k l hq hf ht hp hused hother => gives_onTxn_foreign hq hf ht hp hused hother rfl,
    fun s h x k hq hf ht hp hused hother => gives_onTxn_foreign hq hf ht hp hused hother rfl,
    fun s h x k hq hf ht hp hused hother => gives_onTxn_foreign hq hf ht hp hused hother rfl, ?close⟩
  case begin =>
    intro s h x k hq hf ht hp hk
    obtain ⟨hopen, howner, hkeep, hframe⟩ := (s.heard h x).begun_effect (x.accept h.seq.toNat) k
    refine (gives_reply (cmd := ⟨0x0300, pConfigure⟩) (a := (.ok, [k])) hq hf ht (Perms.covers_configure hp) rfl rfl
      (State.txnBegin_free (s := s.heard h x) hk) (hkeep.frozen (by simp) hf) hframe).imp
      (fun t ⟨hreply, hregs, htxns, hrest⟩ => ⟨hreply, ?_, ?_, hrest⟩)
    · rw [State.tx_congr htxns, howner]; rfl
    · exact (State.get_regs _ _ hregs _ _ _).trans hopen
  case close =>
    intro s h x hq hf ht hval hops
    refine (gives_sessionClose hq hf ht hval).imp (fun t ⟨hsessions, hslots⟩ => ⟨hsessions, fun k howner hopen => ?_, fun k hother => ?_⟩)
    · have hmine : endedSlot x.id (s.slotPair k.val) = (txFree, {}) := if_pos ⟨howner, hopen⟩
      have hslot := hslots k.val
      rw [if_pos (List.mem_range.mpr k.isLt), hmine] at hslot
      exact Prod.mk.inj hslot
    · have htheirs : endedSlot x.id (s.slotPair k.val) = s.slotPair k.val := if_neg (fun hmine => hother hmine.1)
      have hslot := hslots k.val
      rw [htheirs, ite_self] at hslot
      exact Prod.mk.inj hslot

/-- Settles O54: the end of the idle time is `State.txClear`, and every command is one that names a free slot. -/
theorem anIdleTransactionIsRolledBack : Obligations.AnIdleTransactionIsRolledBack := by
  unfold Obligations.AnIdleTransactionIsRolledBack
  refine ⟨?idle, fun s h x k l hq hf ht hp hfree => gives_onTxn_free hq hf ht hp hfree rfl,
    fun s h x k l hq hf ht hp hfree => gives_onTxn_free hq hf ht hp hfree rfl,
    fun s h x k a hq hf ht hp hfree => gives_onTxn_free hq hf ht hp hfree rfl,
    fun s h x k hq hf ht hp hfree => gives_onTxn_free hq hf ht hp hfree rfl,
    fun s h x k hq hf ht hp hfree => gives_onTxn_free hq hf ht hp hfree rfl⟩
  case idle =>
    intro s k hq hf hopen
    have hexec : exec (.txnIdleTimeout k) s = done (s.txClear k.val) := by
      show execTxnIdleTimeout k s = _
      simp [execTxnIdleTimeout, hopen]
    have heffect := s.txClear_effect k.val
    exact Gives.of_done hexec ((TxnsFrame.todo heffect.2.2.2).trans hq) heffect

/-- Settles O55: a Rollback of the session's own Open transaction is `State.txClear`; any other is refused. -/
theorem rollbackDiscardsTheShadow : Obligations.RollbackDiscardsTheShadow := by
  unfold Obligations.RollbackDiscardsTheShadow
  refine ⟨?own, fun s h x k hq hf ht hp hfree => gives_onTxn_free hq hf ht hp hfree rfl, ?busy⟩
  case own =>
    intro s h x k hq hf ht hp hopen hk howner
    obtain ⟨hfree, hempty, hkeep, hframe⟩ := (s.heard h x).txClear_effect k.val
    have hused : s.txState k.val ≠ txFree := by rw [hopen]; decide
    refine (gives_onTxn_own hq hf ht hp hused hk howner (exec_txnRollback s h k) (State.txnRollback_open (s := s.heard h x) hopen)
      (hkeep.frozen (by simp) hf) hframe).imp
      (fun t ⟨hreply, hregs, htxns, hrest⟩ => ⟨hreply, (State.get_regs _ _ hregs _ _ _).trans hfree, ?_, ?_, hrest⟩)
    · rw [State.tx_congr htxns, hempty]
    · exact hkeep.congr rfl hregs
  case busy =>
    intro s h x k hq hf ht hp hopen hused hk howner
    exact gives_onTxn_own_unchanged hq hf ht hp hused hk howner (exec_txnRollback s h k)
      (State.txnRollback_busy (s := s.heard h x) hopen)

end Sys2Proof.Machine

/-!
PROOF. Applying a commit in the halves, their reports to the Hearth, and charge (R289 to R300).
-/
namespace Sys2Proof.Machine

/-! ## How far a half is (R290) -/

theorem TxnsFrame.setStep {s t : State} (h : TxnsFrame s t) (k x : Nat) (a : ApplyStep) : TxnsFrame s (t.setStep k x a) := h
theorem KeepsRegs.setStep {s t : State} {ks : List Key} (h : KeepsRegs s t ks) (k x : Nat) (a : ApplyStep) :
    KeepsRegs s (t.setStep k x a) ks := h.regs rfl

theorem TxnsFrame.ahead {s t : State} (h : TxnsFrame s t) : t.ahead = s.ahead := by
  have e := congrArg State.ahead h; exact e

@[simp] theorem State.tx_put (s : State) (f : Fld) (v i j t : Nat) : (s.put f v i j).tx t = s.tx t := rfl
@[simp] theorem State.tx_withClosed (s : State) (g : List Nat → List Nat) (t : Nat) :
    (s.withTxns (fun x => { x with closed := g x.closed })).tx t = s.tx t := rfl
@[simp] theorem State.closed_setStep (s : State) (k h : Nat) (a : ApplyStep) : (s.setStep k h a).txns.closed = s.txns.closed := rfl

theorem hix_lt (h : Half) : hix h < 2 := by cases h <;> decide

theorem other_half_ne (h : Half) : 1 - hix h ≠ hix h := by cases h <;> decide

/-- Marking the step of one half, in a list of both. -/
theorem tabFind_mark (l : List (Nat × ApplyStep)) (h k : Nat) (a : ApplyStep) :
    tabFind k (l.map (fun e => if e.1 = h then (h, a) else e)) = if k = h then (tabFind k l).map (fun _ => a) else tabFind k l := by
  induction l with
  | nil => simp [tabFind]
  | cons e l ih =>
    by_cases he : e.1 = h
    · by_cases hk : k = h
      · simp [tabFind, he, hk]
      · have hne : h ≠ k := fun h' => hk h'.symm
        simpa [tabFind, he, hk, hne] using ih
    · by_cases hk : e.1 = k
      · have hne : k ≠ h := fun h' => he (hk.trans h')
        simp [tabFind, hk, hne]
      · simpa [tabFind, he, hk] using ih

theorem State.stepOf_setStep_self {s : State} {t h : Nat} {b : ApplyStep} (hb : (s.tx t).stepOf h = some b) (a : ApplyStep) :
    ((s.setStep t h a).tx t).stepOf h = some a := by
  rw [TxSlot.stepOf] at hb
  simp [State.setStep, TxSlot.stepOf, tabFind_mark, hb]

theorem State.stepOf_setStep_other (s : State) (t : Nat) {h k : Nat} (hk : k ≠ h) (a : ApplyStep) :
    ((s.setStep t h a).tx t).stepOf k = (s.tx t).stepOf k := by
  simp [State.setStep, TxSlot.stepOf, tabFind_mark, hk]

/-! ## APPLY reaches a half (R290) -/

/-- While an APPLY is outstanding no other is sent (R285). -/
theorem State.sendApply_outstanding {s : State} {t : Nat} (h : s.applySlot = some t) : s.sendApply = s := by
  simp [State.sendApply, h]

/-- The epoch after the one that a half holds is not stale there (R289). -/
theorem State.staleAt_next {s : State} {h e : Nat} (he : e = (s.get F.HALF_EPOCH_V h + 1) % 2 ^ 32) (id : Nat) :
    s.staleAt h e id = false := by
  have hlt : s.get F.HALF_EPOCH_V h < 2 ^ 32 := s.get_lt F.HALF_EPOCH_V h 0
  rw [State.staleAt, he]
  generalize s.get F.HALF_EPOCH_V h = y at hlt ⊢
  have hne : (y + 1) % 2 ^ 32 ≠ y := by omega
  have hnot : ¬ (y + 2 ^ 32 - (y + 1) % 2 ^ 32) % 2 ^ 32 < 2 ^ 31 := by omega
  have hlow : epochLower ((y + 1) % 2 ^ 32) y = false := by simp only [epochLower, hnot, decide_false, Bool.and_false]
  simp only [hlow, beq_false_of_ne hne, Bool.false_and, Bool.or_self]

/-- A half that takes APPLY: its affected ingresses are closed, and it reads APPLYING. -/
def State.closedFor (s : State) (t h : Nat) : State :=
  ((s.withTxns (fun x => { x with closed := x.closed ++ (s.affected (s.applyItems t) h).filter (fun p => !x.closed.contains p) })).setStep
    t h .closed).put F.HALF_STATE_APPLYING 1 h

theorem State.halfApply_closes {s : State} {t h : Nat} (hslot : s.applySlot = some t) (hstep : (s.tx t).stepOf h = some .sent)
    (hlink : s.txns.lost.contains h = false) (hhold : s.flag F.HALF_STATE_HOLD h = false) (hsplit : s.flag F.HALF_STATE_SPLIT h = false)
    (hstale : s.staleAt h (s.get F.JOURNAL_EPOCH_V t) (s.get F.JOURNAL_ID_V t) = false) : s.halfApply h = s.closedFor t h := by
  simp only [State.halfApply, State.sendApply_outstanding hslot, hslot, hstep, hlink, hhold, hsplit, hstale]
  rfl

theorem State.closedFor_effect {s : State} {t h : Nat} {b : ApplyStep} (hb : (s.tx t).stepOf h = some b) :
    (s.closedFor t h).flag F.HALF_STATE_APPLYING h = true ∧ ((s.closedFor t h).tx t).stepOf h = some .closed ∧
      (∀ p ∈ s.affected (s.applyItems t) h, (s.closedFor t h).txns.closed.contains p = true) ∧
      KeepsRegs s (s.closedFor t h) [⟨.HALF_STATE, h, 0⟩] ∧ TxnsFrame s (s.closedFor t h) := by
  let g : List Nat → List Nat := fun l => l ++ (s.affected (s.applyItems t) h).filter (fun p => !l.contains p)
  let a : State := s.withTxns (fun x => { x with closed := g x.closed })
  have htx : a.tx t = s.tx t := s.tx_withClosed g t
  rw [State.closedFor, State.tx_put, State.put_txns, State.closed_setStep, State.txns_withTxns]
  refine ⟨State.flag_put_self _ F.HALF_STATE_APPLYING h 0 (by decide) (by decide), a.stepOf_setStep_self (by rw [htx]; exact hb) .closed,
    fun p hp => ?_, (((KeepsRegs.refl s _).withTxns _).setStep _ _ _).put F.HALF_STATE_APPLYING 1 h 0 (.head _),
    ((TxnsFrame.withTxns rfl _).setStep _ _ _).put _ _ _ _⟩
  by_cases hc : p ∈ s.txns.closed <;> simp [hc, hp]

/-! ## The ingresses open again (R290) -/

/-- The closed ingresses of a half are open again. -/
def State.reopened (s : State) (h : Nat) : State :=
  (s.put F.HALF_STATE_APPLYING 0 h).withTxns (fun x => { x with closed := x.closed.filter (fun p => halfOf p != h) })

theorem State.reopened_effect (s : State) (h : Nat) :
    (s.reopened h).flag F.HALF_STATE_APPLYING h = false ∧
      (s.reopened h).txns.closed = s.txns.closed.filter (fun p => halfOf p != h) ∧
      (∀ t, (s.reopened h).tx t = s.tx t) ∧
      KeepsRegs s (s.reopened h) [⟨.HALF_STATE, h, 0⟩] ∧ TxnsFrame s (s.reopened h) := by
  rw [State.reopened, State.txns_withTxns, State.put_txns, State.flag_withTxns]
  exact ⟨State.flag_put_self s F.HALF_STATE_APPLYING h 0 (by decide) (by decide), rfl,
    fun t => (State.tx_withClosed _ (List.filter (fun p => halfOf p != h)) t).trans (s.tx_put _ _ _ _ t),
    ((KeepsRegs.refl s _).put F.HALF_STATE_APPLYING 0 h 0 (.head _)).withTxns _, (TxnsFrame.put rfl _ _ _ _).withTxns _⟩

theorem State.reopen_nil (s : State) (h : Nat) (hm : s.msgs = []) : s.reopen h = s.reopened h := by
  obtain ⟨-, -, -, -, hframe⟩ := s.reopened_effect h
  have hreopen : s.reopen h = (s.reopened h).takeWaiting (fun m => (s.txns.closed.filter (fun p => halfOf p == h)).contains m.input) := by
    rw [State.reopen, State.reopened]
  rw [hreopen, State.takeWaiting_nil _ _ (hframe.msgs.trans hm)]

/-- A change of registers that leaves the channels' states alone: with every channel idle none is concerned (R368). -/
theorem KeepsRegs.allPauseChecks {s t : State} {ks : List Key} (h : KeepsRegs s t ks) (hks : ∀ k ∈ ks, k.reg ≠ .CH_STATUS)
    (hidle : ∀ c : Fin 28, s.ch c.val = chIdle) : t.allPauseChecks = t :=
  t.allPauseChecks_idle (fun c => (h.get (f := F.CH_STATUS_STATE) (fun hk => hks _ hk rfl)).trans (hidle c))

/-- The items that a half holds ahead of the committed image. -/
def State.withAhead (s : State) (l : List (Nat × List (Key × Word))) : State := { s with ahead := l }

/-- A half that applied a commit: it holds the journalled epoch and ID, and its ingresses are open. -/
def State.applied (s : State) (t h : Nat) : State :=
  (((((s.withAhead (s.ahead.filter (fun e => e.1 != h) ++ [(h, (s.tx t).redo)])).put F.HALF_EPOCH_V (s.get F.JOURNAL_EPOCH_V t) h).put
    F.HALF_COMMIT_V (s.get F.JOURNAL_ID_V t) h).setStep t h .applied).reopened h)

theorem State.halfQuiesced_applies {s : State} {t h : Nat} (hslot : s.applySlot = some t) (hst : s.txState t = txApplying)
    (hstep : (s.tx t).stepOf h = some .closed) (hm : s.msgs = []) : s.halfQuiesced h true = s.applied t h := by
  have hundo : (s.txState t == txUndoing) = false := by rw [hst]; rfl
  have hreopen := State.reopen_nil (((((s.withAhead (s.ahead.filter (fun e => e.1 != h) ++ [(h, (s.tx t).redo)])).put F.HALF_EPOCH_V
    (s.get F.JOURNAL_EPOCH_V t) h).put F.HALF_COMMIT_V (s.get F.JOURNAL_ID_V t) h).setStep t h .applied)) h hm
  rw [State.applied, ← hreopen]
  simp only [State.halfQuiesced, hslot, hstep, hundo]
  rfl

theorem State.halfQuiesced_fails {s : State} {t h : Nat} (hslot : s.applySlot = some t)
    (hstep : (s.tx t).stepOf h = some .closed) (hm : s.msgs = []) : s.halfQuiesced h false = (s.setStep t h .failed).reopened h := by
  rw [← State.reopen_nil (s.setStep t h .failed) h hm]
  simp [State.halfQuiesced, hslot, hstep]

theorem State.applied_effect {s : State} {t h : Nat} (hstep : (s.tx t).stepOf h = some .closed) :
    (s.applied t h).get F.HALF_EPOCH_V h = s.get F.JOURNAL_EPOCH_V t ∧ (s.applied t h).get F.HALF_COMMIT_V h = s.get F.JOURNAL_ID_V t ∧
      (s.applied t h).flag F.HALF_STATE_APPLYING h = false ∧ ((s.applied t h).tx t).stepOf h = some .applied ∧
      (s.applied t h).ahead = s.ahead.filter (fun e => e.1 != h) ++ [(h, (s.tx t).redo)] ∧
      (s.applied t h).txns.closed = s.txns.closed.filter (fun p => halfOf p != h) ∧
      KeepsRegs s (s.applied t h) [⟨.HALF_STATE, h, 0⟩, ⟨.HALF_EPOCH, h, 0⟩, ⟨.HALF_COMMIT, h, 0⟩] ∧ (s.applied t h).todo = s.todo := by
  let a : State := s.withAhead (s.ahead.filter (fun e => e.1 != h) ++ [(h, (s.tx t).redo)])
  let b : State := a.put F.HALF_EPOCH_V (s.get F.JOURNAL_EPOCH_V t) h
  let c : State := b.put F.HALF_COMMIT_V (s.get F.JOURNAL_ID_V t) h
  have hepoch : c.get F.HALF_EPOCH_V h = s.get F.JOURNAL_EPOCH_V t :=
    (b.get_put_of_apart (by decide) _ _ _ _ _).trans (a.get_put_lt F.HALF_EPOCH_V h 0 (by decide) (s.get_lt F.JOURNAL_EPOCH_V t 0))
  have hid : c.get F.HALF_COMMIT_V h = s.get F.JOURNAL_ID_V t :=
    b.get_put_lt F.HALF_COMMIT_V h 0 (by decide) (s.get_lt F.JOURNAL_ID_V t 0)
  have hkeep : KeepsRegs s c [⟨.HALF_STATE, h, 0⟩, ⟨.HALF_EPOCH, h, 0⟩, ⟨.HALF_COMMIT, h, 0⟩] :=
    (((KeepsRegs.refl s _).regs (u := a) rfl).put F.HALF_EPOCH_V _ h 0 (.tail _ (.head _))).put F.HALF_COMMIT_V _ h 0
      (.tail _ (.tail _ (.head _)))
  have hframe : TxnsFrame a c := TxnsFrame.put (TxnsFrame.put rfl _ _ _ _) _ _ _ _
  have htxns : c.txns = s.txns := (b.put_txns _ _ _ _).trans (a.put_txns _ _ _ _)
  have htx : (c.tx t).stepOf h = some .closed := by rw [State.tx_put, State.tx_put]; exact hstep
  have happlied : s.applied t h = (c.setStep t h .applied).reopened h := rfl
  generalize c = c at *
  obtain ⟨happlying, hclosed, hslots, hreopened, hrest⟩ := (c.setStep t h .applied).reopened_effect h
  rw [happlied]
  have hhead (r : Reg) (hr : r ≠ .HALF_STATE) : (⟨r, h, 0⟩ : Key) ∉ [(⟨.HALF_STATE, h, 0⟩ : Key)] := by simp [hr]
  refine ⟨?_, ?_, happlying, ?_, ?_, ?_, ?_, ?_⟩
  · exact (hreopened.get (hhead _ (by decide))).trans hepoch
  · exact (hreopened.get (hhead _ (by decide))).trans hid
  · rw [hslots]
    exact c.stepOf_setStep_self htx .applied
  · exact hrest.ahead.trans (hframe.setStep t h .applied).ahead
  · rw [hclosed, c.closed_setStep, htxns]
  · exact (hkeep.setStep _ _ _).trans (hreopened.mono (by simp))
  · exact hrest.todo.trans (hframe.setStep t h .applied).todo

/-! ## Reports (R290, R294) -/

theorem mem_of_tabFind {κ α : Type} [DecidableEq κ] {k : κ} {v : α} {l : List (κ × α)} (h : tabFind k l = some v) : (k, v) ∈ l := by
  induction l with
  | nil => simp [tabFind] at h
  | cons e l ih =>
    by_cases he : e.1 = k
    · have hv : e.2 = v := by simpa [tabFind, he] using h
      rw [← he, ← hv]
      exact List.mem_cons_self
    · exact .tail _ (ih (by simpa [tabFind, he] using h))

/-- While a half has reported nothing, the other's report leads to nothing yet. -/
theorem State.reports_waiting {s : State} {t h : Nat} (hsent : (s.tx t).stepOf h = some .sent) : s.reports t = s := by
  have hmem : ApplyStep.sent ∈ (s.tx t).halves.map Prod.snd := List.mem_map_of_mem (mem_of_tabFind hsent)
  have hnot (p : ApplyStep → Bool) (hp : p .sent = false) : ((s.tx t).halves.map Prod.snd).all p = false :=
    List.all_eq_false.mpr ⟨_, hmem, by simp [hp]⟩
  simp only [State.reports, hnot (fun a => decide (a = .toldApplied)) rfl, hnot (fun a => decide (a = .toldFailed)) rfl,
    hnot (fun a => decide (a = .toldFailed) || decide (a = .toldApplied)) rfl, Bool.false_eq_true, if_false]

theorem State.warmCheck_none {s : State} (h : s.power.warmWaits = none) : s.warmCheck = s := by
  simp [State.warmCheck, h]

theorem TxnsFrame.power {s t : State} (h : TxnsFrame s t) : t.power = s.power := by
  have e := congrArg State.power h; exact e

theorem exec_appliedReport {s : State} {h : Half} {t : Nat} (hslot : s.applySlot = some t) (hstep : (s.tx t).stepOf (hix h) = some .applied)
    (hother : (s.tx t).stepOf (1 - hix h) = some .sent) (hw : s.power.warmWaits = none) (hidle : ∀ c : Fin 28, s.ch c.val = chIdle) :
    exec (.appliedReport h) s = done (s.setStep t (hix h) .toldApplied) := by
  have hreports : (s.setStep t (hix h) .toldApplied).reports t = s.setStep t (hix h) .toldApplied :=
    State.reports_waiting ((s.stepOf_setStep_other t (other_half_ne h) _).trans hother)
  have hwarm : (s.setStep t (hix h) .toldApplied).warmCheck = s.setStep t (hix h) .toldApplied := State.warmCheck_none hw
  have hpause : (s.setStep t (hix h) .toldApplied).allPauseChecks = s.setStep t (hix h) .toldApplied :=
    ((KeepsRegs.refl s []).setStep _ _ _).allPauseChecks (by simp) hidle
  show execAppliedReport h s = _
  simp only [execAppliedReport, hslot, hstep, beq_self_eq_true, if_true, hreports, hwarm, hpause]

/-- The Hearth notes that a half failed, whose fault is latched already (R290, R497). -/
def State.failNoted (s : State) (t h : Nat) : State :=
  (s.setStep t h .toldFailed).put F.FC_SRC_COUNT (saturated 8 (s.get F.FC_SRC_COUNT 782) 1) 782

theorem State.failNoted_effect {s : State} {t h k : Nat} (hstep : (s.tx t).stepOf h = some .failed) (hk : k ≠ h) :
    ((s.failNoted t h).tx t).stepOf h = some .toldFailed ∧ ((s.failNoted t h).tx t).stepOf k = (s.tx t).stepOf k ∧
      (s.failNoted t h).get F.FC_SRC_COUNT 782 = saturated 8 (s.get F.FC_SRC_COUNT 782) 1 ∧
      KeepsRegs s (s.failNoted t h) [⟨.FC_SRC, 782, 0⟩] ∧ TxnsFrame s (s.failNoted t h) := by
  rw [State.failNoted, State.tx_put]
  exact ⟨State.stepOf_setStep_self hstep _, s.stepOf_setStep_other t hk _,
    State.get_put_lt _ F.FC_SRC_COUNT _ _ (by decide) (saturated_lt _ _ _),
    ((KeepsRegs.refl s _).setStep _ _ _).put F.FC_SRC_COUNT _ _ _ (.head _), (TxnsFrame.setStep rfl _ _ _).put _ _ _ _⟩

theorem exec_applyFailedReport {s : State} {h : Half} {t : Nat} (hslot : s.applySlot = some t)
    (hstep : (s.tx t).stepOf (hix h) = some .failed) (hother : (s.tx t).stepOf (1 - hix h) = some .sent)
    (hl : s.flag F.FC_SRC_LATCHED 782 = true) (hw : s.power.warmWaits = none) (hidle : ∀ c : Fin 28, s.ch c.val = chIdle) :
    exec (.applyFailedReport h) s = done (s.failNoted t (hix h)) := by
  obtain ⟨-, hsent, -, hkeep, hframe⟩ := State.failNoted_effect hstep (other_half_ne h)
  have hraise : (s.setStep t (hix h) .toldFailed).raise 782 { cause := 0xFF } = s.failNoted t (hix h) := State.raise_latched _ _ _ hl
  have hreports : (s.failNoted t (hix h)).reports t = s.failNoted t (hix h) := State.reports_waiting (hsent.trans hother)
  have hwarm : (s.failNoted t (hix h)).warmCheck = s.failNoted t (hix h) :=
    State.warmCheck_none ((congrArg Power.warmWaits hframe.power).trans hw)
  have hpause : (s.failNoted t (hix h)).allPauseChecks = s.failNoted t (hix h) := hkeep.allPauseChecks (by simp) hidle
  show execApplyFailedReport h s = _
  simp only [execApplyFailedReport, hslot, hstep, beq_self_eq_true, if_true, hraise, hreports, hwarm, hpause]

/-! ## Charge (R295) -/

/-- A slot whose transaction is not being committed has no journal to settle (R300). -/
theorem State.settleSlot_open {s : State} {t : Nat} (h : s.txState t = txFree ∨ s.txState t = txOpen) : s.settleSlot t = s := by
  rcases h with h | h <;> simp [State.settleSlot, h]

theorem State.settleTxns_open {s : State} (h : ∀ k : Fin 4, s.txState k.val = txFree ∨ s.txState k.val = txOpen) : s.settleTxns = s :=
  foldl_eq_self (fun t ht => State.settleSlot_open (h ⟨t, List.mem_range.mp ht⟩))

/-- The ingresses of both halves are open. -/
def State.bothReopened (s : State) : State := (s.reopened 0).reopened 1

theorem State.bothReopened_effect (s : State) :
    s.bothReopened.flag F.HALF_STATE_APPLYING 0 = false ∧ s.bothReopened.flag F.HALF_STATE_APPLYING 1 = false ∧
      KeepsRegs s s.bothReopened [⟨.HALF_STATE, 0, 0⟩, ⟨.HALF_STATE, 1, 0⟩] ∧ TxnsFrame s s.bothReopened := by
  obtain ⟨heast, -, -, hkeep0, hframe0⟩ := s.reopened_effect 0
  obtain ⟨hwest, -, -, hkeep1, hframe1⟩ := (s.reopened 0).reopened_effect 1
  have hflag : s.bothReopened.get F.HALF_STATE_APPLYING 0 = (s.reopened 0).get F.HALF_STATE_APPLYING 0 :=
    hkeep1.get (by simp)
  rw [State.flag] at heast
  rw [State.flag, hflag]
  refine ⟨heast, hwest, (hkeep0.mono (by simp)).trans (hkeep1.mono (by simp)), hframe0.trans hframe1⟩

/-- Without a row of items no epoch is noted. -/
theorem State.stampItems_nil (s : State) : s.stampItems [] = s := rfl

theorem State.hearthReturns_up {s : State} (h : s.hearthDown = false) : s.hearthReturns = s := by
  simp [State.hearthReturns, h]

/-- CHARGE goes to both halves. -/
def State.sendsCharge (s : State) : State := s.withTxns (fun t => { t with charge := [0, 1] })

theorem State.sendsCharge_effect (s : State) :
    s.sendsCharge.txns.charge = [0, 1] ∧ (∀ f i, s.sendsCharge.get f i = s.get f i) ∧ (∀ f i, s.sendsCharge.flag f i = s.flag f i) ∧
      KeepsRegs s s.sendsCharge [] ∧ TxnsFrame s s.sendsCharge :=
  ⟨rfl, fun _ _ => rfl, fun _ _ => rfl, (KeepsRegs.refl s _).withTxns _, rfl⟩

/-- Both halves hold the Hearth's epoch and ID. -/
def State.halvesAgree (s : State) : Prop :=
  (s.get F.HALF_EPOCH_V 0 = s.get F.EPOCH_V ∧ s.get F.HALF_COMMIT_V 0 = s.get F.COMMIT_ID_V) ∧
    (s.get F.HALF_EPOCH_V 1 = s.get F.EPOCH_V ∧ s.get F.HALF_COMMIT_V 1 = s.get F.COMMIT_ID_V)

theorem State.halvesAgree.of_keeps {s t : State} (h : s.halvesAgree) (hkeep : KeepsRegs s t [⟨.HALF_STATE, 0, 0⟩, ⟨.HALF_STATE, 1, 0⟩]) :
    t.halvesAgree := by
  have hget (f : Fld) (hf : f.reg ≠ .HALF_STATE) (i : Nat) : t.get f i = s.get f i := hkeep.get (by simp [hf])
  rw [State.halvesAgree, hget F.HALF_EPOCH_V (by decide), hget F.EPOCH_V (by decide), hget F.HALF_COMMIT_V (by decide),
    hget F.COMMIT_ID_V (by decide), hget F.HALF_EPOCH_V (by decide), hget F.HALF_COMMIT_V (by decide)]
  exact h

/-- Where no journal is to be settled and nothing differs, CHARGE is all that is sent. -/
theorem State.chargeReassert_agreed {s u : State} (hup : s.hearthDown = false) (hlost : s.txns.lost = []) (hsettle : s.settleTxns = s)
    (hreopen : (s.chargeHalf 0).chargeHalf 1 = u) (hahead : s.ahead = []) (hnone : u.ahead = []) (h : u.halvesAgree) :
    s.chargeReassert = u.sendsCharge := by
  obtain ⟨⟨he0, hc0⟩, he1, hc1⟩ := h
  have hclear : { u with ahead := [] } = u := by rw [← hnone]
  simp only [State.chargeReassert, State.hearthReturns_up hup, hlost, hup, hsettle, hreopen, hahead, hnone, he0, hc0, he1, hc1,
    beq_self_eq_true, List.flatMap_nil, State.stampItems_nil, List.isEmpty_nil, Bool.not_true, Bool.not_false,
    Bool.or_self, Bool.and_self, Bool.false_eq_true, if_false, if_true, hclear]
  rfl

theorem State.bothReopened_eq {s : State} (hm : s.msgs = []) : (s.chargeHalf 0).chargeHalf 1 = s.bothReopened := by
  obtain ⟨-, -, -, -, hframe⟩ := s.reopened_effect 0
  rw [State.chargeHalf, State.chargeHalf, s.reopen_nil 0 hm, State.reopen_nil _ 1 (hframe.msgs.trans hm), State.bothReopened]

/-- A half that takes CHARGE leaves Hold and clears SPLIT. -/
def State.chargeTaken (s : State) (h : Nat) : State :=
  ((s.withTxns (fun t => { t with charge := t.charge.filter (fun x => x != h) })).put F.HALF_STATE_HOLD 0 h).put F.HALF_STATE_SPLIT 0 h

theorem State.chargeTaken_effect (s : State) (h : Nat) :
    (s.chargeTaken h).flag F.HALF_STATE_HOLD h = false ∧ (s.chargeTaken h).flag F.HALF_STATE_SPLIT h = false ∧
      (s.chargeTaken h).txns.charge = s.txns.charge.filter (fun x => x != h) ∧
      KeepsRegs s (s.chargeTaken h) [⟨.HALF_STATE, h, 0⟩] ∧ TxnsFrame s (s.chargeTaken h) := by
  rw [State.chargeTaken, State.put_txns, State.put_txns, State.flag_put_of_apart (f := F.HALF_STATE_SPLIT) (g := F.HALF_STATE_HOLD) _ (by decide)]
  exact ⟨State.flag_put_self _ F.HALF_STATE_HOLD h 0 (by decide) (by decide),
    State.flag_put_self _ F.HALF_STATE_SPLIT h 0 (by decide) (by decide), rfl,
    (((KeepsRegs.refl s _).withTxns _).put F.HALF_STATE_HOLD 0 h 0 (.head _)).put F.HALF_STATE_SPLIT 0 h 0 (.head _),
    ((TxnsFrame.withTxns rfl _).put _ _ _ _).put _ _ _ _⟩

theorem exec_chargeReceive {s : State} {h : Half} (hcharge : s.txns.charge.contains (hix h) = true)
    (hepoch : s.get F.HALF_EPOCH_V (hix h) = s.get F.EPOCH_V) (hid : s.get F.HALF_COMMIT_V (hix h) = s.get F.COMMIT_ID_V) :
    exec (.chargeReceive h) s = done (s.chargeTaken (hix h)) := by
  show execChargeReceive h s = _
  simp only [execChargeReceive, hcharge, if_true, State.get_withTxns, hepoch, hid, beq_self_eq_true, Bool.and_self]
  rfl

/-! ## The statement -/

/-- Settles O13: each command's effect is written out by the lemma about its path, and the rest of the state is untouched. -/
theorem applyAndCharge : Obligations.ApplyAndCharge := by
  unfold Obligations.ApplyAndCharge
  refine ⟨?apply, ?quiesced, ?timeout, ?applied, ?failed, ?reassert, ?receive⟩
  case apply =>
    intro s h t hq hf hslot hstep hlink hhold hsplit hepoch hnext
    have hstale : s.staleAt (hix h) (s.get F.JOURNAL_EPOCH_V t.val) (s.get F.JOURNAL_ID_V t.val) = false :=
      State.staleAt_next (by rw [hnext, hepoch]; rfl) _
    obtain ⟨happlying, hclosed, hports, hkeep, hframe⟩ := State.closedFor_effect hstep
    exact Gives.of_done (congrArg done (State.halfApply_closes hslot hstep hlink hhold hsplit hstale)) (hframe.todo.trans hq)
      ⟨happlying, hclosed, hports, hkeep, hframe⟩
  case quiesced =>
    intro s h t hq hf hslot hst hstep hm hidle
    obtain ⟨hepoch, hid, happlying, happlied, hahead, hclosed, hkeep, htodo⟩ := State.applied_effect hstep
    have hexec : exec (.halfApplyQuiesced h true) s = done (s.applied t.val (hix h)) := by
      show execHalfApplyQuiesced h true s = _
      rw [execHalfApplyQuiesced, State.halfQuiesced_applies hslot hst hstep hm, hkeep.allPauseChecks (by simp) hidle]
    exact Gives.of_done hexec (htodo.trans hq) ⟨hepoch, hid, happlying, happlied, hahead, hclosed, hkeep⟩
  case timeout =>
    intro s h t hq hf hslot hstep hm hidle
    let u : State := s.setStep t.val (hix h) .failed
    have hfailed : (u.tx t.val).stepOf (hix h) = some .failed := State.stepOf_setStep_self hstep .failed
    obtain ⟨happlying, hclosed, hslots, hkeep, hframe⟩ := u.reopened_effect (hix h)
    have hkeeps : KeepsRegs s (u.reopened (hix h)) [⟨.HALF_STATE, hix h, 0⟩] := ((KeepsRegs.refl s _).setStep _ _ _).trans hkeep
    have hexec : exec (.applyQuiesceTimeout h) s = done (u.reopened (hix h)) := by
      show execApplyQuiesceTimeout h s = _
      rw [execApplyQuiesceTimeout, State.halfQuiesced_fails hslot hstep hm, hkeeps.allPauseChecks (by simp) hidle]
    exact Gives.of_done hexec (hframe.todo.trans hq) ⟨by rw [hslots]; exact hfailed, happlying,
      hclosed.trans (by rw [State.closed_setStep]), hkeeps, (TxnsFrame.setStep rfl _ _ _).trans hframe⟩
  case applied =>
    intro s h t hq hf hslot hstep hother hw hidle
    exact Gives.of_done (exec_appliedReport hslot hstep hother hw hidle) hq
      ⟨State.stepOf_setStep_self hstep _, (s.stepOf_setStep_other _ (other_half_ne h) _).trans hother, rfl⟩
  case failed =>
    intro s h t hq hf hslot hstep hother hl hw hidle
    obtain ⟨htold, -, hcount, hkeep, hframe⟩ := State.failNoted_effect hstep (other_half_ne h)
    exact Gives.of_done (exec_applyFailedReport hslot hstep hother hl hw hidle) (hframe.todo.trans hq) ⟨htold, hcount, hkeep, hframe⟩
  case reassert =>
    intro s hq hf hup hlost hopen hahead hm he0 hc0 he1 hc1 hidle
    obtain ⟨heast, hwest, hkeep, hframe⟩ := s.bothReopened_effect
    obtain ⟨hcharge, hget, hflag, hsent, hrest⟩ := s.bothReopened.sendsCharge_effect
    have hkeeps := hkeep.trans (hsent.mono (List.nil_subset _))
    have hagree : s.bothReopened.halvesAgree := State.halvesAgree.of_keeps ⟨⟨he0, hc0⟩, he1, hc1⟩ hkeep
    have hcharges : s.chargeReassert = s.bothReopened.sendsCharge :=
      State.chargeReassert_agreed hup hlost (State.settleTxns_open hopen) (State.bothReopened_eq hm) hahead (hframe.ahead.trans hahead) hagree
    have hexec : exec .chargeReassert s = done s.bothReopened.sendsCharge := by
      show execChargeReassert s = _
      rw [execChargeReassert, hup, if_neg Bool.false_ne_true, hcharges, hkeeps.allPauseChecks (by simp) hidle]
    have hall := hframe.trans hrest
    exact Gives.of_done hexec (hall.todo.trans hq) ⟨hcharge, hkeeps.get (by simp [F.EPOCH_V]), (hflag _ _).trans heast,
      (hflag _ _).trans hwest, hkeeps, hall⟩
  case receive =>
    intro s h hq hf hcharge hepoch hid
    obtain ⟨hhold, hsplit, htaken, hkeep, hframe⟩ := s.chargeTaken_effect (hix h)
    exact Gives.of_done (exec_chargeReceive hcharge hepoch hid) (hframe.todo.trans hq) ⟨hhold, hsplit, htaken, hkeep, hframe⟩

end Sys2Proof.Machine

/-!
PROOF. The events of a relocation context: its chunks and watermark, a mirrored write, its handover, and how it ends (R379, R382, R385,
R387 to R392).
-/
namespace Sys2Proof.Machine

/-! ## Contexts -/

/-- A field of a register that no listed key names. -/
theorem KeepsRegs.get_of_reg {s t : State} {ks : List Key} (h : KeepsRegs s t ks) {f : Fld} (hf : ∀ k ∈ ks, k.reg ≠ f.reg) (i j : Nat) :
    t.get f i j = s.get f i j := h.get (fun hk => hf _ hk rfl)

theorem KeepsRegs.flag_of_reg {s t : State} {ks : List Key} (h : KeepsRegs s t ks) {f : Fld} (hf : ∀ k ∈ ks, k.reg ≠ f.reg) (i j : Nat) :
    t.flag f i j = s.flag f i j := by
  rw [State.flag, h.get_of_reg hf, State.flag]

@[simp] theorem State.reloc_setReloc_self (s : State) (x : Nat) (c : RelocCtx) : (s.setReloc x c).reloc x = c := numGet_put_self _ _ _ _

theorem other_relocHalf_ne (x : Fin 8) : 1 - x.val / 4 ≠ x.val / 4 := by omega

theorem State.rlCopies_of_copying {s : State} {x : Nat} (h : s.rlState x = rlCopying) : s.rlCopies x = true := by simp [State.rlCopies, h]

theorem State.rlCopies_of_reverse {s : State} {x : Nat} (h : s.rlState x = rlReverse) : s.rlCopies x = true := by simp [State.rlCopies, h]

/-! ## Watermarks (R382, R398) -/

/-- The watermark that the half of a context holds, and the one that the other half holds. -/
theorem State.wmark_own (s : State) (x : Nat) : s.wmark (x / 4) x = s.get F.RELOC_WATERMARK_W x := by simp [State.wmark]
theorem State.inCopy_own (s : State) (x : Nat) : s.inCopy (x / 4) x = s.get F.RELOC_IN_COPY_C x := by simp [State.inCopy]
theorem State.wmark_peer (s : State) {h x : Nat} (hh : h ≠ x / 4) : s.wmark h x = s.get F.RELOC_PEER_WATERMARK_W (4 * h + x % 4) := by
  simp [State.wmark, hh.symm]
theorem State.inCopy_peer (s : State) {h x : Nat} (hh : h ≠ x / 4) : s.inCopy h x = s.get F.RELOC_PEER_IN_COPY_C (4 * h + x % 4) := by
  simp [State.inCopy, hh.symm]

/-- The half of a context holds W and C. -/
def State.ownMark (s : State) (x w c : Nat) : State := (s.put F.RELOC_WATERMARK_W w x).put F.RELOC_IN_COPY_C c x

/-- The other half holds them. -/
def State.peerMark (s : State) (h x w c : Nat) : State :=
  (s.put F.RELOC_PEER_WATERMARK_W w (4 * h + x % 4)).put F.RELOC_PEER_IN_COPY_C c (4 * h + x % 4)

theorem State.ownMark_effect (s : State) (x : Nat) {w c : Nat} (hw : w < 2 ^ 32) (hc : c < 2 ^ 32) :
    (s.ownMark x w c).get F.RELOC_WATERMARK_W x = w ∧ (s.ownMark x w c).get F.RELOC_IN_COPY_C x = c ∧
      OnlyRegs s (s.ownMark x w c) [⟨.RELOC_WATERMARK, x, 0⟩, ⟨.RELOC_IN_COPY, x, 0⟩] :=
  ⟨((s.put F.RELOC_WATERMARK_W w x).get_put_of_apart (by decide) _ _ _ _ _).trans (s.get_put_lt F.RELOC_WATERMARK_W x 0 (by decide) hw),
    State.get_put_lt _ F.RELOC_IN_COPY_C x 0 (by decide) hc,
    ((OnlyRegs.refl s _).put F.RELOC_WATERMARK_W w x 0 (.head _)).put F.RELOC_IN_COPY_C c x 0 (.tail _ (.head _))⟩

theorem State.peerMark_effect (s : State) (h x : Nat) {w c : Nat} (hw : w < 2 ^ 32) (hc : c < 2 ^ 32) :
    (s.peerMark h x w c).get F.RELOC_PEER_WATERMARK_W (4 * h + x % 4) = w ∧
      (s.peerMark h x w c).get F.RELOC_PEER_IN_COPY_C (4 * h + x % 4) = c ∧
      OnlyRegs s (s.peerMark h x w c) [⟨.RELOC_PEER_WATERMARK, 4 * h + x % 4, 0⟩, ⟨.RELOC_PEER_IN_COPY, 4 * h + x % 4, 0⟩] :=
  ⟨((s.put F.RELOC_PEER_WATERMARK_W w (4 * h + x % 4)).get_put_of_apart (by decide) _ _ _ _ _).trans
      (s.get_put_lt F.RELOC_PEER_WATERMARK_W (4 * h + x % 4) 0 (by decide) hw),
    State.get_put_lt _ F.RELOC_PEER_IN_COPY_C (4 * h + x % 4) 0 (by decide) hc,
    ((OnlyRegs.refl s _).put F.RELOC_PEER_WATERMARK_W w _ 0 (.head _)).put F.RELOC_PEER_IN_COPY_C c _ 0 (.tail _ (.head _))⟩

/-- With no message in the device none waits for a watermark. -/
theorem State.releaseHeld_nil (s : State) (h x : Nat) (hm : s.msgs = []) : s.releaseHeld h x = s := by
  simp [State.releaseHeld, hm]

theorem State.takeMark_own {s : State} (hm : s.msgs = []) (x w c : Nat) : s.takeMark (x / 4) x w c = s.ownMark x w c := by
  simp only [State.takeMark, beq_self_eq_true, if_true]
  exact State.releaseHeld_nil _ _ _ hm

theorem State.takeMark_peer {s : State} (hm : s.msgs = []) {h x : Nat} (hh : h ≠ x / 4) (w c : Nat) :
    s.takeMark h x w c = s.peerMark h x w c := by
  simp only [State.takeMark, beq_false_of_ne hh.symm, Bool.false_eq_true, if_false]
  exact State.releaseHeld_nil _ _ _ hm

/-- A half does not take the epoch and the ID that it holds for stale (R289). -/
theorem State.staleAt_own (s : State) (h : Nat) : s.staleAt h (s.get F.HALF_EPOCH_V h) (s.get F.HALF_COMMIT_V h) = false := by
  have hlow (y : Nat) : epochLower y y = false := by
    simp [epochLower]
  simp [State.staleAt, hlow]

/-! ## Chunks (R382, R385) -/

/-- The chunk after a journalled watermark is published in the context's own half (R382). -/
theorem State.rlPublish_next {s : State} {x w : Nat} (hm : s.msgs = []) (hpause : s.rlPauses x = false) (hback : (s.reloc x).back = false)
    (hw : w < s.get F.RELOC_CHUNKS_N x) :
    s.rlPublish x w = (s.ownMark x w w).setReloc x { s.reloc x with step := .publish, journalled := w } := by
  have hne : w ≠ s.get F.RELOC_CHUNKS_N x := hw.ne
  have hnext : s.rlNextChunk x w = w := by simp [State.rlNextChunk, hpause, hback, hne]
  have hreloc : (s.ownMark x w w).reloc x = s.reloc x := rfl
  rw [State.rlPublish, hnext, State.takeMark_own hm, hreloc]

theorem gives_relocJournalAcked {s : State} {x : Fin 8} (hq : Quiet s) (hst : s.rlState x.val = rlCopying)
    (hstep : (s.reloc x.val).step = .journal) (hback : (s.reloc x.val).back = false) (hup : s.hearthDown = false) (hm : s.msgs = [])
    (hpause : s.rlPauses x.val = false) (hw : (s.reloc x.val).journalled < s.get F.RELOC_CHUNKS_N x.val) :
    Gives (.relocJournalAcked x) s (fun t => t.get F.RELOC_WATERMARK_W x.val = (s.reloc x.val).journalled ∧
      t.get F.RELOC_IN_COPY_C x.val = (s.reloc x.val).journalled ∧ (t.reloc x.val).step = .publish ∧
      KeepsRegs s t [⟨.RELOC_WATERMARK, x.val, 0⟩, ⟨.RELOC_IN_COPY, x.val, 0⟩] ∧ { t with regs := s.regs, relocs := s.relocs } = s) := by
  have hlt : (s.reloc x.val).journalled < 2 ^ 32 := hw.trans (s.get_lt F.RELOC_CHUNKS_N x.val 0)
  have hlink : s.txns.lost.contains (x.val / 4) = false := by
    simp only [State.rlPauses, Bool.or_eq_false_iff] at hpause
    exact hpause.1.1.1.2
  have hexec : exec (.relocJournalAcked x) s = done (s.rlPublish x.val (s.reloc x.val).journalled) := by
    show execRelocJournalAcked x s = _
    simp only [execRelocJournalAcked, State.rlCopies_of_copying hst, hstep, hup, hlink, hback, Bool.not_true, ne_eq, not_true_eq_false,
      decide_false, Bool.or_self, Bool.false_eq_true, if_false]
  rw [State.rlPublish_next hm hpause hback hw] at hexec
  obtain ⟨hmark, hcopy, honly⟩ := s.ownMark_effect x.val hlt hlt
  generalize s.ownMark x.val (s.reloc x.val).journalled (s.reloc x.val).journalled = u at hexec hmark hcopy honly
  exact Gives.of_done hexec (honly.todo.trans hq) ⟨hmark, hcopy, by simp, honly.1.regs rfl,
    congrArg (fun v : State => { v with relocs := s.relocs }) honly.2⟩

theorem gives_watermarkMessage {s : State} {x : Fin 8} (hq : Quiet s) (hstep : (s.reloc x.val).step = .publish) (hseam : s.seamUp = true)
    (hm : s.msgs = []) (hepoch : s.get F.HALF_EPOCH_V 0 = s.get F.HALF_EPOCH_V 1)
    (hid : s.get F.HALF_COMMIT_V 0 = s.get F.HALF_COMMIT_V 1) :
    Gives (.watermarkMessage x) s (fun t => t.wmark (1 - x.val / 4) x.val = s.wmark (x.val / 4) x.val ∧
      t.inCopy (1 - x.val / 4) x.val = s.inCopy (x.val / 4) x.val ∧ t.wmark (x.val / 4) x.val = s.wmark (x.val / 4) x.val ∧
      KeepsRegs s t [⟨.RELOC_PEER_WATERMARK, 4 * (1 - x.val / 4) + x.val % 4, 0⟩,
        ⟨.RELOC_PEER_IN_COPY, 4 * (1 - x.val / 4) + x.val % 4, 0⟩] ∧ { t with regs := s.regs } = s) := by
  have hne := other_relocHalf_ne x
  have hsame : s.get F.HALF_EPOCH_V (x.val / 4) = s.get F.HALF_EPOCH_V (1 - x.val / 4) ∧
      s.get F.HALF_COMMIT_V (x.val / 4) = s.get F.HALF_COMMIT_V (1 - x.val / 4) := by
    rcases (by omega : x.val / 4 = 0 ∨ x.val / 4 = 1) with h | h <;> simp [h, hepoch, hid]
  have hstale : s.staleAt (1 - x.val / 4) (s.get F.HALF_EPOCH_V (x.val / 4)) (s.get F.HALF_COMMIT_V (x.val / 4)) = false := by
    rw [hsame.1, hsame.2, s.staleAt_own]
  have hexec : exec (.watermarkMessage x) s =
      done (s.peerMark (1 - x.val / 4) x.val (s.wmark (x.val / 4) x.val) (s.inCopy (x.val / 4) x.val)) := by
    rw [← State.takeMark_peer hm hne]
    show execWatermarkMessage x s = _
    simp [execWatermarkMessage, hstep, hseam, hstale]
  have hw : s.wmark (x.val / 4) x.val < 2 ^ 32 := by
    rw [s.wmark_own]
    exact s.get_lt F.RELOC_WATERMARK_W x.val 0
  have hc : s.inCopy (x.val / 4) x.val < 2 ^ 32 := by
    rw [s.inCopy_own]
    exact s.get_lt F.RELOC_IN_COPY_C x.val 0
  obtain ⟨hmark, hcopy, honly⟩ := s.peerMark_effect (1 - x.val / 4) x.val hw hc
  generalize s.peerMark (1 - x.val / 4) x.val (s.wmark (x.val / 4) x.val) (s.inCopy (x.val / 4) x.val) = u at hexec hmark hcopy honly
  have hown : u.wmark (x.val / 4) x.val = s.wmark (x.val / 4) x.val := by
    rw [State.wmark_own, State.wmark_own, honly.1.get_of_reg (by simp [F.RELOC_WATERMARK_W])]
  exact Gives.of_done hexec (honly.todo.trans hq) ⟨(u.wmark_peer hne).trans hmark, (u.inCopy_peer hne).trans hcopy, hown, honly⟩

/-- A publication that the other half has acknowledged waits for the writes to the next chunk (R382). -/
theorem exec_watermarkAck {s : State} {x : Fin 8} (hst : s.rlState x.val = rlCopying) (hstep : (s.reloc x.val).step = .publish)
    (hseam : s.seamUp = true) (hlink : s.txns.lost.contains (x.val / 4) = false)
    (hmark : s.wmark (1 - x.val / 4) x.val = s.wmark (x.val / 4) x.val)
    (hcopy : s.inCopy (1 - x.val / 4) x.val = s.inCopy (x.val / 4) x.val)
    (hw : s.wmark (x.val / 4) x.val ≠ s.get F.RELOC_CHUNKS_N x.val) (hc : s.inCopy (x.val / 4) x.val ≠ noChunk) :
    exec (.watermarkAck x) s = done (s.setReloc x.val { s.reloc x.val with step := .drain }) := by
  have hback : (rlCopying == rlRollingBack) = false := by decide
  show execWatermarkAck x s = _
  simp only [execWatermarkAck, hstep, hseam, hlink, hmark, hcopy, hst, hback, State.rlCopies_of_copying hst, beq_false_of_ne hw,
    beq_false_of_ne hc, ne_eq, not_true_eq_false, Bool.not_true, Bool.or_self, Bool.and_false, bne_self_eq_false, Bool.false_eq_true,
    if_false]

/-- A chunk that failed is copied again, and counted (R385). -/
theorem gives_relocChunkFailed {s : State} {x : Fin 8} (hq : Quiet s) (hst : s.rlState x.val = rlCopying ∨ s.rlState x.val = rlReverse)
    (hstep : (s.reloc x.val).step = .copying) (hfails : (s.reloc x.val).fails < 2) :
    Gives (.relocChunkFailed x) s (fun t => (t.reloc x.val).fails = (s.reloc x.val).fails + 1 ∧ (t.reloc x.val).step = .copying ∧
      t.get F.RELOC_RETRIES_V x.val = saturated 8 (s.get F.RELOC_RETRIES_V x.val) 1 ∧ KeepsRegs s t [⟨.RELOC_RETRIES, x.val, 0⟩] ∧
      { t with regs := s.regs, relocs := s.relocs } = s) := by
  let c : RelocCtx := { s.reloc x.val with fails := (s.reloc x.val).fails + 1 }
  have hcopies : s.rlCopies x.val = true := hst.elim State.rlCopies_of_copying State.rlCopies_of_reverse
  have hfew : ¬ 2 ≤ (s.reloc x.val).fails := by omega
  have hexec : exec (.relocChunkFailed x) s =
      done ((s.setReloc x.val c).put F.RELOC_RETRIES_V (saturated 8 ((s.setReloc x.val c).get F.RELOC_RETRIES_V x.val) 1) x.val) := by
    have hbump (u : State) : u.bump F.RELOC_RETRIES_V 1 x.val = u.put F.RELOC_RETRIES_V (saturated 8 (u.get F.RELOC_RETRIES_V x.val) 1) x.val :=
      u.bump_unwatched F.RELOC_RETRIES_V 1 x.val 0 rfl
    rw [← hbump]
    show execRelocChunkFailed x s = _
    simp only [execRelocChunkFailed, hcopies, hstep, hfew, decide_true, Bool.and_self, if_true, if_false, c]
  have hset : (s.setReloc x.val c).reloc x.val = c ∧ (s.setReloc x.val c).get F.RELOC_RETRIES_V x.val = s.get F.RELOC_RETRIES_V x.val ∧
      (s.setReloc x.val c).regs = s.regs ∧ (s.setReloc x.val c).todo = s.todo ∧ { s.setReloc x.val c with relocs := s.relocs } = s :=
    ⟨s.reloc_setReloc_self _ _, rfl, rfl, rfl, rfl⟩
  obtain ⟨hctx, hretries, hregs, htodo, hrest⟩ := hset
  generalize s.setReloc x.val c = u at *
  have hput := u.get_put_lt F.RELOC_RETRIES_V x.val 0 (by decide) (saturated_lt 8 (u.get F.RELOC_RETRIES_V x.val) 1)
  have honly : OnlyRegs u (u.put F.RELOC_RETRIES_V (saturated 8 (u.get F.RELOC_RETRIES_V x.val) 1) x.val) [⟨.RELOC_RETRIES, x.val, 0⟩] :=
    (OnlyRegs.refl u _).put _ _ _ _ (.head _)
  have hreloc := (honly.unseen (fun y => y.reloc x.val) (fun _ _ => rfl)).trans hctx
  generalize u.put F.RELOC_RETRIES_V (saturated 8 (u.get F.RELOC_RETRIES_V x.val) 1) x.val = t at *
  exact Gives.of_done hexec (honly.todo.trans (htodo.trans hq)) ⟨congrArg RelocCtx.fails hreloc,
    (congrArg RelocCtx.step hreloc).trans hstep, hput.trans (by rw [hretries]), honly.1.congr hregs.symm rfl,
    (congrArg (fun y : State => { y with regs := s.regs, relocs := s.relocs }) honly.2).trans
      ((congrArg (fun y : State => { y with regs := s.regs }) hrest))⟩

/-! ## Mirrored writes (R379, R381) -/

/-- A write whose copy is not answered yet is marked answered. -/
theorem State.deviceDone_first {s : State} {m c : Msg} (hm : s.msgs = [m, c]) (hne : m.id ≠ c.id) (hin : m.input < 96)
    (ht : m.twin = some c.id) (hlive : m.squashed = false) (hma : m.answered = false) (hca : c.answered = false) :
    s.deviceDone m [] false = { s with msgs := [{ m with answered := true }, c] } := by
  simp [State.deviceDone, hlive, hin, ht, hm, hne, hne.symm, hma, hca, State.update]

/-- The copy of an answered write: both leave, and the write is completed. -/
theorem State.deviceDone_second {s : State} {m c : Msg} (hm : s.msgs = [m, c]) (hne : m.id ≠ c.id) (hin : c.input < 96)
    (ht : c.twin = some m.id) (hlive : c.squashed = false) (hma : m.answered = true) (hcopy : c.copy = true) (hmc : m.cells = [])
    (hcc : c.cells = []) (hk : s.buf.skid = []) :
    s.deviceDone c [] false = State.respond { s with msgs := [] } m [] false := by
  have hremove : (s.remove c).remove m = { s with msgs := [] } := by
    let u : State := { s with msgs := s.msgs.filter (fun x => x.id != c.id) }
    rw [s.remove_no_cells c hcc hk, u.remove_no_cells m hmc hk]
    simp [u, hm, hne]
  simp [State.deviceDone, hlive, hin, ht, hm, hma, hcopy, hremove]

theorem exec_mirroredWriteComplete {s : State} {m c : Msg} (hm : s.msgs = [m, c]) (hid : m.id ≠ 0) (hne : m.id ≠ c.id)
    (hms : m.stage = .atDevice) (hcs : c.stage = .atDevice) (hmt : m.twin = some c.id) (hct : c.twin = some m.id)
    (hmlive : m.squashed = false) (hclive : c.squashed = false) (hma : m.answered = false) (hca : c.answered = false)
    (hcopy : c.copy = true) (hmin : m.input < 96) (hcin : c.input = m.input) (hmc : m.cells = []) (hk : s.buf.skid = [])
    (hcc : c.cells = []) (hcol : m.colour = .green) (hheld : s.isHeld m.input = false) (hh : halfOf m.input ≠ halfOf m.dst) :
    exec (.mirroredWriteComplete m.id) s =
      done { s with msgs := [({ m with answered := true } : Msg).completion (halfOf m.dst)] } := by
  let a : Msg := { m with answered := true }
  let u : State := { s with msgs := [a, c] }
  let v : State := { u with msgs := [] }
  have hpair : (s.deviceDone m [] false).deviceDone c [] false = { s with msgs := [a.completion (halfOf m.dst)] } := by
    rw [State.deviceDone_first hm hne hmin hmt hmlive hma hca,
      State.deviceDone_second (s := u) (m := a) rfl hne (hcin ▸ hmin) hct hclive rfl hcopy hmc hcc hk,
      v.respond_over_seam a hid hmin hheld hh hcol (by simp [v])]
    rfl
  show execMirroredWriteComplete m.id s = _
  simp [execMirroredWriteComplete, hm, hms, hcs, hmt, hmlive, hne, hpair, a]

/-! ## Handover (R387) -/

/-- A commit of slice entries alone takes no region from a host. -/
theorem State.recallsOf_slices (s : State) {items : List (Key × Word)} (h : ∀ e ∈ items, e.1.reg = .REGION_SLICE ∨
    e.1.reg = .REGION_LEDGER ∨ e.1.reg = .STALL_SLICE) : s.recallsOf items = [] := by
  have hnone : contextsIn (items.map Prod.fst) = [] := by
    rw [contextsIn, List.filter_eq_nil_iff.mpr]
    · rfl
    · intro k hk
      obtain ⟨e, he, rfl⟩ := List.mem_map.mp hk
      rcases h e he with hr | hr | hr <;> simp [hr, Reg.isWindow]
  simp [State.recallsOf, hnone]

theorem State.rlItems_slices (s : State) (x : Nat) : ∀ e ∈ s.rlItems x, e.1.reg = .REGION_SLICE ∨ e.1.reg = .REGION_LEDGER ∨
    e.1.reg = .STALL_SLICE := by
  intro e he
  rw [State.rlItems] at he
  split_ifs at he
  · simp at he
  · simp only [List.mem_cons, List.not_mem_nil, or_false] at he
    rcases he with rfl | rfl <;> simp
  · simp only [List.mem_cons, List.not_mem_nil, or_false] at he
    simp [he]

theorem State.rlItems_local {s : State} {x : Nat} (h : s.flag F.RELOC_OBJECT_REMOTE x = false) : (s.rlItems x).isEmpty = false := by
  rw [State.rlItems, h, if_neg Bool.false_ne_true]
  split <;> rfl

theorem State.ledgerFlush_empty {s : State} (h : s.market.cache = []) (f : LedgerLine → Bool) : s.ledgerFlush f = s := by
  rw [State.ledgerFlush, h, List.foldl_nil]

theorem State.withMarket_cache_empty {s : State} (h : s.market.cache = []) (f : LedgerLine → Bool) :
    s.withMarket (fun m => { m with cache := m.cache.filter f }) = s := by
  have hcache : ({ s.market with cache := s.market.cache.filter f } : Market) = s.market := by
    rw [h, List.filter_nil, ← h]
  rw [State.withMarket, hcache]

theorem gives_relocHandoverDone {s : State} {x : Fin 8} (hq : Quiet s) (hst : s.rlState x.val = rlHandover) (hflows : s.market.flows = [])
    (hcache : s.market.cache = []) (href : s.refusing = false) (hrem : s.flag F.RELOC_OBJECT_REMOTE x.val = false)
    (hfree : s.txState 3 = txFree) (htx : s.tx 3 = {}) (hfw : s.txns.fw = []) :
    Gives (.relocHandoverDone x) s (fun t => t.txState 3 = txValidating ∧ (t.tx 3).fw = some (.relocCommit x.val) ∧
      (t.tx 3).shadow = s.rlItems x.val ∧ (t.tx 3).recalls = [] ∧ t.get F.SLOT_BASE_EPOCH_V 3 = s.get F.EPOCH_V ∧
      t.rlState x.val = rlHandover ∧ KeepsRegs s t [⟨.TXSLOT_STATE, 3, 0⟩, ⟨.SLOT_BASE_EPOCH, 3, 0⟩] ∧
      { t with regs := s.regs, txns := s.txns } = s) := by
  have hnot : s.fwHas (.relocCommit x.val) = false := by simp [State.fwHas, htx, hfw]
  have htxn : s.fwTxn (.relocCommit x.val) = s.fwBegin (.relocCommit x.val) := by simp [State.fwTxn, hfree, hfw]
  have hcommit : s.rlCommitNow x.val = (.ok, s.fwBegun (.relocCommit x.val)) := by
    simp only [State.rlCommitNow, hnot, href, State.rlItems_local hrem, Bool.false_eq_true, if_false, htxn]
    rw [State.fwBegin_unrecalled (w := .relocCommit x.val) (s.recallsOf_slices (s.rlItems_slices x.val))]
  have hexec : exec (.relocHandoverDone x) s = done (s.fwBegun (.relocCommit x.val)) := by
    show execRelocHandoverDone x s = _
    simp only [execRelocHandoverDone, hst, bne_self_eq_false, hflows, List.any_nil, Bool.or_self, Bool.false_eq_true, if_false,
      State.ledgerFlush_empty hcache, State.withMarket_cache_empty hcache, hcommit]
  obtain ⟨hstate, hslot, hepoch, hkeep, hframe⟩ := s.fwBegun_effect (.relocCommit x.val)
  exact Gives.of_done hexec (hframe.todo.trans hq) ⟨hstate, by rw [hslot]; rfl, by rw [hslot]; rfl, by rw [hslot]; rfl, hepoch,
    (hkeep.get_of_reg (by simp [F.RELOC_STATE_STATE]) _ _).trans hst, hkeep, hframe⟩

/-! ## The end of a relocation (R389, R390, R392) -/

/-- Nothing differs but registers, contexts, released ranges, operations, and who hears of it. -/
abbrev RelocFrame (s t : State) : Prop :=
  { t with regs := s.regs, relocs := s.relocs, ranges := s.ranges, ops := s.ops, sessions := s.sessions, agg := s.agg } = s

theorem RelocFrame.trans {s t u : State} (h : RelocFrame s t) (h' : RelocFrame t u) : RelocFrame s u :=
  (congrArg (fun v : State =>
    { v with regs := s.regs, relocs := s.relocs, ranges := s.ranges, ops := s.ops, sessions := s.sessions, agg := s.agg }) h').trans h

theorem RelocFrame.todo {s t : State} (h : RelocFrame s t) : t.todo = s.todo := by have e := congrArg State.todo h; exact e
theorem RelocFrame.msgs {s t : State} (h : RelocFrame s t) : t.msgs = s.msgs := by have e := congrArg State.msgs h; exact e
theorem RelocFrame.mem {s t : State} (h : RelocFrame s t) : t.mem = s.mem := by have e := congrArg State.mem h; exact e

theorem OnlyRegs.relocFrame {s t : State} {ks : List Key} (h : OnlyRegs s t ks) : RelocFrame s t :=
  congrArg (fun x : State => { x with relocs := s.relocs, ranges := s.ranges, ops := s.ops, sessions := s.sessions, agg := s.agg }) h.2

theorem State.event_withNotice (s : State) (xs : List Session) (a : Aggregator) (opcode : Nat) (l : List Nat) :
    ∃ ys, (s.withNotice xs a).event opcode l = s.withNotice ys a := ⟨_, rfl⟩

/-- An interrupt and an event. -/
theorem State.irqEvent_event (s : State) (n opcode : Nat) (l : List Nat) :
    ∃ xs a, (s.irqEvent n).event opcode l = (s.putLatched n true).withNotice xs a := by
  obtain ⟨a, ha⟩ := s.irqEvent_eq n
  obtain ⟨xs, hxs⟩ := (s.putLatched n true).event_withNotice s.sessions a opcode l
  exact ⟨xs, a, by rw [ha, hxs]⟩

/-- A change of a context's state: its register, its interrupt and its event. -/
theorem State.setRl_eq {s : State} {x v : Nat} (h : s.rlState x ≠ v) :
    ∃ xs a, s.setRl x v = ((s.put F.RELOC_STATE_STATE v x).putLatched (248 + x) true).withNotice xs a := by
  simp only [State.setRl, beq_false_of_ne h, Bool.false_eq_true, if_false]
  exact State.irqEvent_event _ _ _ _

theorem KeepsRegs.setReloc {s t : State} {ks : List Key} (h : KeepsRegs s t ks) (x : Nat) (c : RelocCtx) :
    KeepsRegs s (t.setReloc x c) ks := h.regs rfl
theorem KeepsRegs.withNotice {s t : State} {ks : List Key} (h : KeepsRegs s t ks) (xs : List Session) (a : Aggregator) :
    KeepsRegs s (t.withNotice xs a) ks := h.regs rfl

theorem RelocFrame.withNotice {s t : State} (h : RelocFrame s t) (xs : List Session) (a : Aggregator) :
    RelocFrame s (t.withNotice xs a) := h
theorem RelocFrame.setReloc {s t : State} (h : RelocFrame s t) (x : Nat) (c : RelocCtx) : RelocFrame s (t.setReloc x c) := h

/-- A latched interrupt changes one register of pending bits. -/
theorem State.putLatched_onlyRegs (s : State) (n : Nat) (b : Bool) : OnlyRegs s (s.putLatched n b) [⟨.IA_PENDING, n / 32, 0⟩] :=
  (OnlyRegs.refl s _).wr .IA_PENDING _ (n / 32) 0 (.head _)

/-- What a change of a context's state leaves, once its register is written. -/
theorem State.rlNoticed_effect {s u : State} {x v : Nat} (hput : OnlyRegs s u [⟨.RELOC_STATE, x, 0⟩]) (hstate : u.rlState x = v)
    (xs : List Session) (a : Aggregator) :
    ((u.putLatched (248 + x) true).withNotice xs a).rlState x = v ∧
      ((u.putLatched (248 + x) true).withNotice xs a).ranges = s.ranges ∧
      ((u.putLatched (248 + x) true).withNotice xs a).ops = s.ops ∧
      KeepsRegs s ((u.putLatched (248 + x) true).withNotice xs a) [⟨.RELOC_STATE, x, 0⟩, ⟨.IA_PENDING, (248 + x) / 32, 0⟩] ∧
      RelocFrame s ((u.putLatched (248 + x) true).withNotice xs a) := by
  have honly : OnlyRegs s (u.putLatched (248 + x) true) [⟨.RELOC_STATE, x, 0⟩, ⟨.IA_PENDING, (248 + x) / 32, 0⟩] :=
    (hput.mono (by simp)).trans ((u.putLatched_onlyRegs _ _).mono (by simp))
  exact ⟨(u.get_putLatched _ _ F.RELOC_STATE_STATE x 0 (by decide)).trans hstate, honly.unseen State.ranges (fun _ _ => rfl),
    honly.unseen State.ops (fun _ _ => rfl), honly.1.withNotice xs a, honly.relocFrame.withNotice xs a⟩

theorem State.setRl_effect {s : State} {x v : Nat} (h : s.rlState x ≠ v) (hv : v < 2 ^ F.RELOC_STATE_STATE.w) :
    (s.setRl x v).rlState x = v ∧ (s.setRl x v).ranges = s.ranges ∧ (s.setRl x v).ops = s.ops ∧
      KeepsRegs s (s.setRl x v) [⟨.RELOC_STATE, x, 0⟩, ⟨.IA_PENDING, (248 + x) / 32, 0⟩] ∧ RelocFrame s (s.setRl x v) := by
  obtain ⟨xs, a, hset⟩ := State.setRl_eq h
  have hput : OnlyRegs s (s.put F.RELOC_STATE_STATE v x) [⟨.RELOC_STATE, x, 0⟩] := (OnlyRegs.refl s _).put _ _ _ _ (.head _)
  have hstate : (s.put F.RELOC_STATE_STATE v x).rlState x = v := s.get_put_lt F.RELOC_STATE_STATE x 0 (by decide) hv
  rw [hset]
  exact State.rlNoticed_effect hput hstate xs a

/-- The marks of a context are cleared. -/
theorem State.unmarked_effect (s : State) (x : Nat) :
    ((s.put F.RELOC_STATE_TAINTED 0 x).put F.RELOC_OBJECT_VALID 0 x).rlState x = s.rlState x ∧
      ((s.put F.RELOC_STATE_TAINTED 0 x).put F.RELOC_OBJECT_VALID 0 x).flag F.RELOC_OBJECT_VALID x = false ∧
      OnlyRegs s ((s.put F.RELOC_STATE_TAINTED 0 x).put F.RELOC_OBJECT_VALID 0 x) [⟨.RELOC_STATE, x, 0⟩, ⟨.RELOC_OBJECT, x, 0⟩] :=
  ⟨(State.get_put_of_apart _ (by decide) _ _ _ _ _).trans (State.get_put_of_apart _ (by decide) _ _ _ _ _),
    State.flag_put_self _ F.RELOC_OBJECT_VALID x 0 (by decide) (by decide),
    ((OnlyRegs.refl s _).put F.RELOC_STATE_TAINTED 0 x 0 (.head _)).put F.RELOC_OBJECT_VALID 0 x 0 (.tail _ (.head _))⟩

/-- A context of `t` that is free, its operations and released ranges as listed, where nothing but this differs from `s`. -/
structure EndedCtx (s t : State) (x : Nat) (l : List DevRange) (os : List Operation) : Prop where
  state : t.rlState x = rlFree
  valid : t.flag F.RELOC_OBJECT_VALID x = false
  reloc : t.reloc x = {}
  ranges : t.ranges = l
  ops : t.ops = os
  keep : KeepsRegs s t [⟨.RELOC_STATE, x, 0⟩, ⟨.RELOC_OBJECT, x, 0⟩, ⟨.IA_PENDING, (248 + x) / 32, 0⟩, ⟨.SCRUB_ACTIVE, 0, 0⟩,
    ⟨.SCRUB_QUARANTINED, 0, 0⟩]
  frame : RelocFrame s t

/-- A context whose registers show it free is forgotten. -/
theorem EndedCtx.of_unmarked {s u w : State} {x : Nat} (hset : u.rlState x = rlFree ∧ u.ranges = s.ranges ∧ u.ops = s.ops ∧
      KeepsRegs s u [⟨.RELOC_STATE, x, 0⟩, ⟨.IA_PENDING, (248 + x) / 32, 0⟩] ∧ RelocFrame s u)
    (hclear : w.rlState x = u.rlState x ∧ w.flag F.RELOC_OBJECT_VALID x = false ∧
      OnlyRegs u w [⟨.RELOC_STATE, x, 0⟩, ⟨.RELOC_OBJECT, x, 0⟩]) : EndedCtx s (w.setReloc x {}) x s.ranges s.ops := by
  obtain ⟨hfree, hranges, hops, hkeep, hframe⟩ := hset
  obtain ⟨hstate, hvalid, honly⟩ := hclear
  exact ⟨hstate.trans hfree, hvalid, w.reloc_setReloc_self x {}, (honly.unseen State.ranges (fun _ _ => rfl)).trans hranges,
    (honly.unseen State.ops (fun _ _ => rfl)).trans hops, ((hkeep.mono (by simp)).trans (honly.1.mono (by simp))).setReloc x {},
    (hframe.trans honly.relocFrame).setReloc x {}⟩

theorem State.rlFreeCtx_effect {s : State} {x : Nat} (hmarket : s.flag F.RELOC_OBJECT_MARKET x = false) (h : s.rlState x ≠ rlFree) :
    EndedCtx s (s.rlFreeCtx x) x s.ranges s.ops := by
  have hsettles : s.regionSettles x = s := by simp [State.regionSettles, hmarket]
  have hset := State.setRl_effect h (by decide)
  rw [State.rlFreeCtx, hsettles]
  exact EndedCtx.of_unmarked hset (State.unmarked_effect _ x)

/-- A range is released: it joins the list, which only the registers that count it show (R268). -/
theorem State.releaseRange_effect (s : State) {r : DevRange} (h : r.len ≠ 0) :
    OnlyRegs { s with ranges := s.ranges ++ [r] } (s.releaseRange r) scrubKeys := by
  rw [State.releaseRange, if_neg h]
  exact ((OnlyRegs.refl _ _).put F.SCRUB_ACTIVE_V _ 0 0 (.head _)).put F.SCRUB_QUARANTINED_V _ 0 0 (.tail _ (.head _))

/-- Ranges are released, the operation ends, and the context is freed. -/
theorem EndedCtx.of_released {s u v : State} {x : Nat} {l : List DevRange} {os : List Operation}
    (hrel : OnlyRegs { s with ranges := l } u scrubKeys) (hend : v = { u with ops := os }) (hst : s.rlState x ≠ rlFree)
    (hmarket : s.flag F.RELOC_OBJECT_MARKET x = false) : EndedCtx s (v.rlFreeCtx x) x l os := by
  have hkeep : KeepsRegs s v scrubKeys := hrel.1.congr rfl (by rw [hend])
  have hstate : v.rlState x ≠ rlFree := by
    rw [State.rlState, hkeep.get_of_reg (by simp [F.RELOC_STATE_STATE])]
    exact hst
  have hheld : v.flag F.RELOC_OBJECT_MARKET x = false := (hkeep.flag_of_reg (by simp [F.RELOC_OBJECT_MARKET]) _ _).trans hmarket
  have hfreed := State.rlFreeCtx_effect hheld hstate
  have hranges : v.ranges = l := by
    rw [hend]
    exact hrel.unseen State.ranges (fun _ _ => rfl)
  have hframe : RelocFrame s v := by
    rw [hend]
    exact congrArg (fun y : State =>
      { y with relocs := s.relocs, ranges := s.ranges, ops := s.ops, sessions := s.sessions, agg := s.agg }) hrel.2
  exact ⟨hfreed.state, hfreed.valid, hfreed.reloc, hfreed.ranges.trans hranges, hfreed.ops.trans (by rw [hend]),
    (hkeep.mono (by simp)).trans hfreed.keep, hframe.trans hfreed.frame⟩

theorem State.endOp_none {s : State} (k : OpKind) (st : Status) (h : s.ops = []) : s.endOp k st = s := by
  simp only [State.endOp, h, List.filter_nil, List.foldl_nil]

/-- A context that is rolled back while no operation runs: its target range is released (R390). -/
theorem State.rlRolled_effect {s : State} {x : Nat} (hst : s.rlState x ≠ rlFree) (hrem : s.flag F.RELOC_OBJECT_REMOTE x = false)
    (hmarket : s.flag F.RELOC_OBJECT_MARKET x = false) (hn : 1 ≤ s.get F.RELOC_CHUNKS_N x) (hops : s.ops = []) :
    EndedCtx s (s.rlRolled x) x (s.ranges ++ [s.rlTargetRange x]) [] := by
  have hlen : (s.rlTargetRange x).len ≠ 0 := Nat.one_le_iff_ne_zero.mp hn
  have hrel := s.releaseRange_effect hlen
  have hkeep : KeepsRegs s (s.releaseRange (s.rlTargetRange x)) scrubKeys := hrel.1.congr rfl rfl
  have hheld : (s.releaseRange (s.rlTargetRange x)).flag F.RELOC_OBJECT_MARKET x = false :=
    (hkeep.flag_of_reg (by simp [F.RELOC_OBJECT_MARKET]) _ _).trans hmarket
  have hnone : (s.releaseRange (s.rlTargetRange x)).ops = [] := (hrel.unseen State.ops (fun _ _ => rfl)).trans hops
  have hrolled : s.rlRolled x = (s.releaseRange (s.rlTargetRange x)).rlFreeCtx x := by
    simp only [State.rlRolled, hrem, hheld, Bool.false_eq_true, if_false, State.endOp_none _ _ hnone]
  rw [hrolled]
  exact EndedCtx.of_released hrel (by rw [← hnone]) hst hmarket

theorem gives_relocSourceDrained_back {s : State} {x : Fin 8} (hq : Quiet s) (hst : s.rlState x.val = rlRollingBack)
    (hstep : (s.reloc x.val).step = .drain) (hpairs : s.rlPairs x.val = false) (hrem : s.flag F.RELOC_OBJECT_REMOTE x.val = false)
    (hmarket : s.flag F.RELOC_OBJECT_MARKET x.val = false) (hn : 1 ≤ s.get F.RELOC_CHUNKS_N x.val) (hops : s.ops = []) :
    Gives (.relocSourceDrained x) s (fun t => t.rlState x.val = rlFree ∧ t.flag F.RELOC_OBJECT_VALID x.val = false ∧
      t.ranges = s.ranges ++ [s.rlTargetRange x.val] ∧ t.reloc x.val = {} ∧ t.msgs = s.msgs ∧ t.mem = s.mem) := by
  have hexec : exec (.relocSourceDrained x) s = done (s.rlRolled x.val) := by
    show execRelocSourceDrained x s = _
    simp [execRelocSourceDrained, State.rlRolledCheck, hst, hstep, hpairs]
  have hended := State.rlRolled_effect (by rw [hst]; decide) hrem hmarket hn hops
  exact Gives.of_done hexec (hended.frame.todo.trans hq)
    ⟨hended.state, hended.valid, hended.ranges, hended.reloc, hended.frame.msgs, hended.frame.mem⟩

theorem gives_relocSourceRelease {s : State} {x : Fin 8} {o : Operation} (hq : Quiet s) (hst : s.rlState x.val = rlCommitting)
    (hmoved : s.rlOnSource 2 x.val = false) (hawait : s.market.awaiting = []) (hm : s.msgs = [])
    (hrem : s.flag F.RELOC_OBJECT_REMOTE x.val = false) (hmarket : s.flag F.RELOC_OBJECT_MARKET x.val = false)
    (hn : 256 ≤ s.get F.RELOC_CHUNKS_N x.val) (hops : s.ops = [o]) (hk : o.kind = .relocation x.val) (hrun : o.status = .accepted)
    (hses : s.sessions = []) :
    Gives (.relocSourceRelease x) s (fun t => t.rlState x.val = rlFree ∧ t.flag F.RELOC_OBJECT_VALID x.val = false ∧
      t.ranges = s.ranges ++ [sliceRange (s.rd .RELOC_SRC x.val) (s.get F.RELOC_CHUNKS_N x.val / 256) none] ∧
      t.ops = [{ o with status := .ok }] ∧ t.reloc x.val = {} ∧ t.msgs = s.msgs ∧ t.mem = s.mem) := by
  let r : DevRange := sliceRange (s.rd .RELOC_SRC x.val) (s.get F.RELOC_CHUNKS_N x.val / 256) none
  have hlen : r.len ≠ 0 := by
    simp only [r, sliceRange]
    omega
  have hrel := s.releaseRange_effect hlen
  have hend := State.endOp_one (.relocation x.val) .ok ((hrel.unseen State.ops (fun _ _ => rfl)).trans hops) hk hrun
    ((hrel.unseen State.sessions (fun _ _ => rfl)).trans hses)
  have hexec : exec (.relocSourceRelease x) s = done (((s.releaseRange r).endOp (.relocation x.val) .ok).rlFreeCtx x.val) := by
    have hslice : (s.rlSlice x.val).region = false := hmarket
    show execRelocSourceRelease x s = _
    simp only [execRelocSourceRelease, State.rlRelease, State.rlUnits, hst, hmoved, hawait, hm, hrem, hslice, beq_self_eq_true, Bool.not_false,
      Bool.or_false, Bool.and_self, List.contains_nil, List.any_nil, if_true, Bool.false_eq_true, if_false, r]
  have hended := EndedCtx.of_released (x := x.val) hrel hend (by rw [hst]; decide) hmarket
  exact Gives.of_done hexec (hended.frame.todo.trans hq)
    ⟨hended.state, hended.valid, hended.ranges, hended.ops, hended.reloc, hended.frame.msgs, hended.frame.mem⟩

/-! ## A target that fails (R392) -/

/-- Both halves hold W = 0 and no chunk in copy, and the fault, latched already, is counted. -/
def State.targetLost (s : State) (x : Nat) : State :=
  ((s.ownMark x 0 noChunk).peerMark (1 - x / 4) x 0 noChunk).put F.FC_SRC_COUNT (saturated 8 (s.get F.FC_SRC_COUNT (778 + x / 4)) 1) (778 + x / 4)

/-- The registers of W and C in both halves. -/
abbrev markKeys (x : Nat) : List Key := [⟨.RELOC_WATERMARK, x, 0⟩, ⟨.RELOC_IN_COPY, x, 0⟩,
  ⟨.RELOC_PEER_WATERMARK, 4 * (1 - x / 4) + x % 4, 0⟩, ⟨.RELOC_PEER_IN_COPY, 4 * (1 - x / 4) + x % 4, 0⟩]

theorem State.bothMarks_effect (s : State) (x : Nat) {w c : Nat} (hw : w < 2 ^ 32) (hc : c < 2 ^ 32) :
    ((s.ownMark x w c).peerMark (1 - x / 4) x w c).get F.RELOC_WATERMARK_W x = w ∧
      ((s.ownMark x w c).peerMark (1 - x / 4) x w c).get F.RELOC_IN_COPY_C x = c ∧
      ((s.ownMark x w c).peerMark (1 - x / 4) x w c).get F.RELOC_PEER_WATERMARK_W (4 * (1 - x / 4) + x % 4) = w ∧
      OnlyRegs s ((s.ownMark x w c).peerMark (1 - x / 4) x w c) (markKeys x) := by
  obtain ⟨hown, hcopy, honly⟩ := s.ownMark_effect x hw hc
  generalize s.ownMark x w c = u at hown hcopy honly
  obtain ⟨hpeer, -, hmore⟩ := u.peerMark_effect (1 - x / 4) x hw hc
  generalize u.peerMark (1 - x / 4) x w c = t at hpeer hmore
  exact ⟨(hmore.1.get_of_reg (by simp [F.RELOC_WATERMARK_W]) _ _).trans hown, (hmore.1.get_of_reg (by simp [F.RELOC_IN_COPY_C]) _ _).trans hcopy,
    hpeer, (honly.mono (by simp)).trans (hmore.mono (by simp))⟩

theorem State.targetLost_effect (s : State) (x : Nat) :
    (s.targetLost x).get F.RELOC_WATERMARK_W x = 0 ∧ (s.targetLost x).get F.RELOC_IN_COPY_C x = noChunk ∧
      (s.targetLost x).get F.RELOC_PEER_WATERMARK_W (4 * (1 - x / 4) + x % 4) = 0 ∧
      (s.targetLost x).get F.FC_SRC_COUNT (778 + x / 4) = saturated 8 (s.get F.FC_SRC_COUNT (778 + x / 4)) 1 ∧
      OnlyRegs s (s.targetLost x) (⟨.FC_SRC, 778 + x / 4, 0⟩ :: markKeys x) := by
  obtain ⟨hown, hcopy, hpeer, honly⟩ := s.bothMarks_effect x (w := 0) (c := noChunk) (by decide) (by decide)
  rw [State.targetLost]
  generalize (s.ownMark x 0 noChunk).peerMark (1 - x / 4) x 0 noChunk = u at hown hcopy hpeer honly ⊢
  exact ⟨(u.get_put_of_apart (by decide) _ _ _ _ _).trans hown, (u.get_put_of_apart (by decide) _ _ _ _ _).trans hcopy,
    (u.get_put_of_apart (by decide) _ _ _ _ _).trans hpeer,
    u.get_put_lt F.FC_SRC_COUNT _ 0 (by decide) (saturated_lt _ _ _),
    (honly.mono (List.subset_cons_self _ _)).put F.FC_SRC_COUNT _ _ 0 (.head _)⟩

theorem State.publishBoth_raise {s : State} {x : Fin 8} (hm : s.msgs = []) (hl : s.flag F.FC_SRC_LATCHED (778 + x.val / 4) = true) :
    (s.publishBoth x.val 0 noChunk).raise (778 + x.val / 4) = s.targetLost x.val := by
  obtain ⟨-, -, -, honly⟩ := s.bothMarks_effect x.val (w := 0) (c := noChunk) (by decide) (by decide)
  have hsource (f : Fld) (hf : f.reg = .FC_SRC) :
      ((s.ownMark x.val 0 noChunk).peerMark (1 - x.val / 4) x.val 0 noChunk).get f (778 + x.val / 4) = s.get f (778 + x.val / 4) :=
    honly.1.get_of_reg (by simp [hf]) _ _
  have hown : (s.ownMark x.val 0 noChunk).msgs = [] :=
    ((s.ownMark_effect x.val (w := 0) (c := noChunk) (by decide) (by decide)).2.2.unseen State.msgs (fun _ _ => rfl)).trans hm
  rw [State.publishBoth, State.takeMark_own hm, State.takeMark_peer hown (other_relocHalf_ne x), State.targetLost]
  generalize (s.ownMark x.val 0 noChunk).peerMark (1 - x.val / 4) x.val 0 noChunk = u at hsource ⊢
  rw [State.raise_latched u _ _ (by rw [State.flag, hsource _ rfl]; exact hl), hsource _ rfl]

/-- Where no message and no operation is under way, the loss of a target rolls the context back at once. -/
theorem State.rlTargetFails_eq {s u : State} {x : Nat} (hraise : (s.publishBoth x 0 noChunk).raise (778 + x / 4) = u) (hm : u.msgs = [])
    (hops : u.ops = []) : s.rlTargetFails x = u.rlRolled x := by
  have hsame : { u with msgs := [] } = u := by rw [← hm]
  simp only [State.rlTargetFails, hraise, hm, List.filter_nil, List.foldl_nil, List.map_nil, hsame, State.endOp_none _ _ hops]

theorem KeepsRegs.rlTargetRange {s t : State} {ks : List Key} (h : KeepsRegs s t ks)
    (hk : ∀ k ∈ ks, k.reg ≠ .RELOC_DST ∧ k.reg ≠ .RELOC_CHUNKS) (x : Nat) : t.rlTargetRange x = s.rlTargetRange x := by
  have hdst (f : Fld) (hf : f.reg = .RELOC_DST) : t.get f x = s.get f x := h.get_of_reg (fun k hm => hf ▸ (hk k hm).1) x 0
  have hn : t.get F.RELOC_CHUNKS_N x = s.get F.RELOC_CHUNKS_N x := h.get_of_reg (fun k hm => (hk k hm).2) x 0
  simp only [State.rlTargetRange, State.rlTarget, hn, hdst F.RELOC_DST_PORT rfl, hdst F.RELOC_DST_LD rfl, hdst F.RELOC_DST_DPA_BASE rfl]

theorem gives_relocTargetFailure {s : State} {x : Fin 8} (hq : Quiet s) (hst : s.rlState x.val = rlCopying)
    (hcounts : s.rlTargetCounts x.val = true) (hm : s.msgs = []) (hrem : s.flag F.RELOC_OBJECT_REMOTE x.val = false)
    (hmarket : s.flag F.RELOC_OBJECT_MARKET x.val = false) (hn : 1 ≤ s.get F.RELOC_CHUNKS_N x.val) (hops : s.ops = [])
    (hl : s.flag F.FC_SRC_LATCHED (778 + x.val / 4) = true) :
    Gives (.relocTargetFailure x) s (fun t => t.rlState x.val = rlFree ∧ t.get F.RELOC_WATERMARK_W x.val = 0 ∧
      t.get F.RELOC_IN_COPY_C x.val = noChunk ∧ t.get F.RELOC_PEER_WATERMARK_W (4 * (1 - x.val / 4) + x.val % 4) = 0 ∧
      t.ranges = s.ranges ++ [s.rlTargetRange x.val] ∧
      t.get F.FC_SRC_COUNT (778 + x.val / 4) = saturated 8 (s.get F.FC_SRC_COUNT (778 + x.val / 4)) 1 ∧ t.msgs = s.msgs ∧
      t.mem = s.mem) := by
  have hraise := State.publishBoth_raise hm hl
  obtain ⟨hown, hcopy, hpeer, hcount, honly⟩ := s.targetLost_effect x.val
  generalize s.targetLost x.val = u at hraise hown hcopy hpeer hcount honly
  have hfails := State.rlTargetFails_eq hraise ((honly.unseen State.msgs (fun _ _ => rfl)).trans hm)
    ((honly.unseen State.ops (fun _ _ => rfl)).trans hops)
  have hexec : exec (.relocTargetFailure x) s = done (u.rlRolled x.val) := by
    show execRelocTargetFailure x s = _
    rw [execRelocTargetFailure, hcounts, if_pos rfl, hfails]
  have hchunks : u.get F.RELOC_CHUNKS_N x.val = s.get F.RELOC_CHUNKS_N x.val := honly.1.get_of_reg (by simp [F.RELOC_CHUNKS_N]) _ _
  have hsame : u.rlState x.val = s.rlState x.val := honly.1.get_of_reg (by simp [F.RELOC_STATE_STATE]) _ _
  have hstate : u.rlState x.val ≠ rlFree := by
    rw [hsame, hst]
    decide
  have hended := State.rlRolled_effect hstate ((honly.1.flag_of_reg (by simp [F.RELOC_OBJECT_REMOTE]) _ _).trans hrem)
    ((honly.1.flag_of_reg (by simp [F.RELOC_OBJECT_MARKET]) _ _).trans hmarket)
    (hn.trans_eq hchunks.symm) ((honly.unseen State.ops (fun _ _ => rfl)).trans hops)
  rw [honly.1.rlTargetRange (by simp), honly.unseen State.ranges (fun _ _ => rfl)] at hended
  have hkept (f : Fld) (i : Nat) (hf : f.reg ≠ .RELOC_STATE ∧ f.reg ≠ .RELOC_OBJECT ∧ f.reg ≠ .IA_PENDING ∧ f.reg ≠ .SCRUB_ACTIVE ∧
      f.reg ≠ .SCRUB_QUARANTINED) : (u.rlRolled x.val).get f i = u.get f i := by
    obtain ⟨h1, h2, h3, h4, h5⟩ := hf
    exact hended.keep.get_of_reg (by simp [h1.symm, h2.symm, h3.symm, h4.symm, h5.symm]) _ _
  have hframe : RelocFrame s (u.rlRolled x.val) := honly.relocFrame.trans hended.frame
  exact Gives.of_done hexec (hframe.todo.trans hq) ⟨hended.state, (hkept _ _ (by decide)).trans hown, (hkept _ _ (by decide)).trans hcopy,
    (hkept _ _ (by decide)).trans hpeer, hended.ranges, (hkept _ _ (by decide)).trans hcount, hframe.msgs, hframe.mem⟩

/-! ## The statement -/

/-- Settles O15: each clause is the lemma about its event, or the event changes one context and no more. -/
theorem relocationEvents : Obligations.RelocationEvents := by
  unfold Obligations.RelocationEvents
  refine ⟨?delivered, ?journalled, ?published, ?acknowledged, ?drained, ?failed, ?mirrored, ?marker, ?release, ?target, ?handover, ?back⟩
  case delivered =>
    intro s x hq hf hst hstep hback
    have hexec : exec (.relocChunkDelivered x) s = done (s.setReloc x.val
        { s.reloc x.val with step := .journal, fails := 0, journalled := (s.reloc x.val).journalled + 1 }) := by
      show execRelocChunkDelivered x s = _
      simp [execRelocChunkDelivered, State.rlCopies_of_copying hst, hstep, hback]
    exact Gives.of_done hexec hq ⟨by simp, by simp, by simp, rfl⟩
  case journalled =>
    intro s x hq hf hst hstep hback hup hm hpause hw
    exact gives_relocJournalAcked hq hst hstep hback hup hm hpause hw
  case published =>
    intro s x hq hf hstep hseam hm hepoch hid
    exact gives_watermarkMessage hq hstep hseam hm hepoch hid
  case acknowledged =>
    intro s x hq hf hst hstep hseam hlink hmark hcopy hw hc
    exact Gives.of_done (exec_watermarkAck hst hstep hseam hlink hmark hcopy hw hc) hq ⟨by simp, rfl⟩
  case drained =>
    intro s x hq hf hst hstep hc hwrites
    have hexec : exec (.relocSourceDrained x) s = done (s.setReloc x.val { s.reloc x.val with step := .copying }) := by
      show execRelocSourceDrained x s = _
      simp [execRelocSourceDrained, State.rlCopies_of_copying hst, hst, hstep, hc, hwrites]
    exact Gives.of_done hexec hq ⟨by simp, rfl⟩
  case failed =>
    intro s x hq hf hst hstep hfails
    exact gives_relocChunkFailed hq hst hstep hfails
  case mirrored =>
    intro s m c hq hf hm hid hne hms hcs hmt hct hmlive hclive hma hca _ hcopy hmin hcin hop _ hmc hk hcc hcol hheld hh
    exact Gives.of_done (exec_mirroredWriteComplete hm hid hne hms hcs hmt hct hmlive hclive hma hca hcopy hmin hcin hmc hk hcc hcol
      hheld hh) hq ⟨by simp [Msg.completion, Msg.response, hop], rfl, rfl⟩
  case marker =>
    intro s x hq hf
    exact Gives.of_done rfl hq ⟨rfl, rfl⟩
  case release =>
    intro s x o hq hf hst hmoved hawait hm hrem hmarket hn hops hk hrun hses
    exact gives_relocSourceRelease hq hst hmoved hawait hm hrem hmarket hn hops hk hrun hses
  case target =>
    intro s x hq hf hst hcounts _ hm hrem hmarket hn hops hl
    exact gives_relocTargetFailure hq hst hcounts hm hrem hmarket hn hops hl
  case handover =>
    intro s x hq hf hst hflows hcache href hrem hfree htx hfw
    exact gives_relocHandoverDone hq hst hflows hcache href hrem hfree htx hfw
  case back =>
    intro s x hq hf hst hstep hpairs hrem hmarket hn hops
    exact gives_relocSourceDrained_back hq hst hstep hpairs hrem hmarket hn hops

end Sys2Proof.Machine

/-!
PROOF. Retirement of Ledger ways, the end of a region's recovery, and a flush of a clean cache (R315, R336, R341).
-/
namespace Sys2Proof.Machine

/-! ## A way leaves the mask of its set group, another joins it (R315) -/

/-- A bit that is set is taken off a word's value. -/
theorem Word.toNat_setBits_one_off (v : Word) {a : Nat} (h : Word.bits v a 1 = 1) :
    (Word.setBits v a 1 0).toNat = v.toNat - 2 ^ a := by
  rw [Word.setBits, h, BitVec.toNat_ofNat, Nat.zero_mod, Nat.zero_mul, Nat.add_zero, Nat.one_mul,
    Nat.mod_eq_of_lt ((Nat.sub_le _ _).trans_lt v.isLt)]

/-- A bit that is not set adds to a word's value. -/
theorem Word.toNat_setBits_one_on (v : Word) {k : Nat} (h : Word.bits v k 1 = 0) (hlt : v.toNat + 2 ^ k < 2 ^ 64) :
    (Word.setBits v k 1 1).toNat = v.toNat + 2 ^ k := by
  rw [Word.setBits, h, BitVec.toNat_ofNat, Nat.zero_mul, Nat.sub_zero, Nat.pow_one, Nat.one_mod, Nat.one_mul, Nat.mod_eq_of_lt hlt]

/-- No carry reaches bit `a` of a mask of 18 ways that way `a` leaves and way `k` joins. -/
theorem bit_off_of_exchange {n a k : Nat} (hn : n < 2 ^ 18) (ha : a < 18) (hk : k < 18) (hon : n / 2 ^ a % 2 = 1)
    (hoff : n / 2 ^ k % 2 = 0) : (n - 2 ^ a + 2 ^ k) / 2 ^ a % 2 = 0 := by
  obtain ⟨v, rfl⟩ : ∃ v : Word, v.toNat = n := ⟨BitVec.ofNat 64 n, Nat.mod_eq_of_lt (hn.trans (by decide))⟩
  have hne : a + 1 ≤ k ∨ k + 1 ≤ a := by
    rcases Nat.lt_trichotomy a k with h | rfl | h <;> omega
  have hpow : 2 ^ k < 2 ^ 18 := Nat.pow_lt_pow_right (by decide) hk
  have hless : v.toNat - 2 ^ a ≤ v.toNat := Nat.sub_le _ _
  have hleft := Word.toNat_setBits_one_off v hon
  have hkept : Word.bits (Word.setBits v a 1 0) k 1 = 0 := (Word.bits_setBits_apart v a 1 0 k 1 (by omega) hne).trans hoff
  have hjoined := Word.toNat_setBits_one_on _ hkept (by omega)
  rw [← hleft, ← hjoined]
  calc Word.bits (Word.setBits (Word.setBits v a 1 0) k 1 1) a 1
      = Word.bits (Word.setBits v a 1 0) a 1 := Word.bits_setBits_apart _ k 1 1 a 1 (by omega) hne.symm
    _ = 0 := Word.bits_setBits_self v a 1 0 (by omega)

/-- A bit below the width that a value is cut to. -/
theorem bit_of_mod_two_pow (n : Nat) {a k : Nat} (h : a < k) : n % 2 ^ k / 2 ^ a % 2 = n / 2 ^ a % 2 := by
  have hsplit : 2 ^ k = 2 ^ a * 2 ^ (k - a) := by rw [← Nat.pow_add, Nat.add_sub_of_le h.le]
  rw [hsplit, Nat.mod_mul_right_div_self, Nat.mod_mod_of_dvd _ (dvd_pow_self 2 (by omega))]

/-- A way of a set group, read from its register. -/
theorem State.bit_ledgerGroup (s : State) (h g : Nat) {k : Nat} (hk : k < 18) :
    Word.bits (s.rd .LEDGER_GROUP h g) k 1 = s.get F.LEDGER_GROUP_ACTIVE h g / 2 ^ k % 2 := by
  have hbit := Word.bits_one_of_bits (s.rd .LEDGER_GROUP h g) 0 18 k hk
  rwa [Nat.zero_add] at hbit

theorem State.mem_groupWays {s : State} {h g k : Nat} :
    k ∈ s.groupWays h g ↔ k < 18 ∧ s.get F.LEDGER_GROUP_ACTIVE h g / 2 ^ k % 2 = 1 := by
  simp only [State.groupWays, List.mem_filter, List.mem_range, beq_iff_eq]
  exact and_congr_right fun hk => by rw [s.bit_ledgerGroup h g hk]

/-- A spare is no active way. -/
theorem State.groupSpare_inactive {s : State} {h g k : Nat} (hs : s.groupSpare h g = some k) : k < 18 ∧ k ∉ s.groupWays h g := by
  have hnot := List.find?_some hs
  simp only [Bool.and_eq_true, Bool.not_eq_true', List.contains_eq_mem, decide_eq_false_iff_not] at hnot
  exact ⟨List.mem_range.mp (List.mem_of_find?_eq_some hs), hnot.1⟩

/-- An active way is no spare, so that its retirement takes no spare from its group. -/
theorem State.groupSpare_gone {s : State} {h g w : Nat} (hway : w ∈ s.groupWays h g) (f : Market → Market)
    (hgone : (f s.market).gone = s.market.gone ++ [(192 * h + g, w)]) :
    (s.withMarket f).groupSpare h g = s.groupSpare h g := by
  have hways : (s.withMarket f).groupWays h g = s.groupWays h g := rfl
  have hlist : (s.withMarket f).market.gone = s.market.gone ++ [(192 * h + g, w)] := hgone
  simp only [State.groupSpare, hways, hlist]
  congr 1
  funext k
  by_cases hk : k ∈ s.groupWays h g
  · simp [hk]
  · have hne : k ≠ w := fun e => hk (e ▸ hway)
    simp [hk, hne]

/-! ## Retirement of a way (R315) -/

theorem State.withMarket_put (s : State) (f : Fld) (v i j : Nat) (g : Market → Market) :
    (s.put f v i j).withMarket g = (s.withMarket g).put f v i j := rfl

/-- A way of a set group goes into retirement. -/
def State.wayRetires (s : State) (h g w : Nat) : State :=
  s.withMarket (fun m => { m with retiring := m.retiring ++ [(192 * h + g, w)] })

theorem exec_ledgerWayRetire {s : State} {h : Half} {g : Fin 192} {w : Fin 32}
    (hidle : s.flag F.LEDGER_GROUP_RETIRING (hix h) g.val = false) (hway : (s.groupWays (hix h) g.val).contains w.val = true)
    (hspare : (s.groupSpare (hix h) g.val).isSome = true) :
    exec (.ledgerWayRetire h g w) s = done ((s.wayRetires (hix h) g.val w.val).put F.LEDGER_GROUP_RETIRING 1 (hix h) g.val) := by
  have hsome : (s.groupSpare (hix h) g.val).isNone = false := by rw [Option.isNone_eq_false_iff, hspare]
  show execLedgerWayRetire h g w s = _
  simp only [execLedgerWayRetire, State.wayRetire, hidle, hway, hsome, Bool.not_true, Bool.or_false, Bool.false_and, Bool.false_eq_true,
    if_false]
  rw [State.withMarket_put, State.wayRetires]

/-- The only way in retirement, of which nothing is cached, is gone. -/
def State.wayGone (s : State) (h g w : Nat) : State :=
  s.withMarket (fun m => { m with retiring := [], gone := m.gone ++ [(192 * h + g, w)] })

/-- The mask of a set group's active ways is stored, and its retirement is over. -/
def State.putWays (s : State) (mask h g : Nat) : State :=
  (s.put F.LEDGER_GROUP_ACTIVE mask h g).put F.LEDGER_GROUP_RETIRING 0 h g

theorem State.wayRetired_uncached {s : State} {h g w k : Nat} (hret : s.market.retiring = [(192 * h + g, w)])
    (hcache : s.market.cache = []) (hway : w ∈ s.groupWays h g) (hspare : s.groupSpare h g = some k) :
    s.wayRetired h g = (s.wayGone h g w).putWays (s.get F.LEDGER_GROUP_ACTIVE h g - 2 ^ w + 2 ^ k) h g := by
  have hgone : s.withMarket (fun m => { m with cache := m.cache.filter (fun e => !e.inWay h g w),
                                               retiring := m.retiring.filter (fun e => e.1 != 192 * h + g),
                                               gone := m.gone ++ [(192 * h + g, w)] }) = s.wayGone h g w := by
    simp [State.wayGone, State.withMarket, hret, hcache]
  have hfind : s.market.retiring.find? (fun e => e.1 == 192 * h + g) = some (192 * h + g, w) := by simp [hret]
  have hnone : s.market.cache.any (fun e => e.inWay h g w && (e.busy || (e.dirty && s.ledgerHeld e))) = false := by simp [hcache]
  have hsame : (s.wayGone h g w).groupSpare h g = some k := (State.groupSpare_gone hway _ rfl).trans hspare
  simp only [State.wayRetired, hfind, hnone, State.ledgerFlush_empty hcache, hgone, hsame, Bool.false_eq_true, if_false]
  rfl

theorem State.putWays_effect (s : State) (mask h g : Nat) :
    (s.putWays mask h g).flag F.LEDGER_GROUP_RETIRING h g = false ∧
      (s.putWays mask h g).get F.LEDGER_GROUP_ACTIVE h g = mask % 2 ^ 18 ∧
      OnlyRegs s (s.putWays mask h g) [⟨.LEDGER_GROUP, h, g⟩] :=
  ⟨State.flag_put_self _ F.LEDGER_GROUP_RETIRING h g (by decide) (by decide),
   (State.get_put_of_apart _ (by decide) _ _ _ _ _).trans (s.get_put_self F.LEDGER_GROUP_ACTIVE mask h g (by decide)),
   ((OnlyRegs.refl s _).put F.LEDGER_GROUP_ACTIVE _ _ _ (.head _)).put F.LEDGER_GROUP_RETIRING _ _ _ (.head _)⟩

theorem gives_ledgerWayRetireDone {s : State} {h : Half} {g : Fin 192} {w k : Nat} (hq : Quiet s)
    (hret : s.market.retiring = [(192 * hix h + g.val, w)]) (hcache : s.market.cache = [])
    (hway : (s.groupWays (hix h) g.val).contains w = true) (hspare : s.groupSpare (hix h) g.val = some k) :
    Gives (.ledgerWayRetireDone h g) s (fun t => t.flag F.LEDGER_GROUP_RETIRING (hix h) g.val = false ∧
      Word.bits (t.rd .LEDGER_GROUP (hix h) g.val) w 1 = 0 ∧ t.get F.LEDGER_GROUP_ACTIVE (hix h) g.val < 2 ^ 18 ∧
      t.market.retiring = [] ∧ t.market.gone = s.market.gone ++ [(192 * hix h + g.val, w)] ∧
      KeepsRegs s t [⟨.LEDGER_GROUP, hix h, g.val⟩]) := by
  have hin : w ∈ s.groupWays (hix h) g.val := List.contains_iff_mem.mp hway
  obtain ⟨hw, hon⟩ := State.mem_groupWays.mp hin
  obtain ⟨hk, hout⟩ := State.groupSpare_inactive hspare
  have hoff : s.get F.LEDGER_GROUP_ACTIVE (hix h) g.val / 2 ^ k % 2 = 0 :=
    (Nat.mod_two_eq_zero_or_one _).resolve_right fun hone => hout (State.mem_groupWays.mpr ⟨hk, hone⟩)
  have hlt : s.get F.LEDGER_GROUP_ACTIVE (hix h) g.val < 2 ^ 18 := Nat.mod_lt _ (by decide)
  have hexec : exec (.ledgerWayRetireDone h g) s = done (s.wayRetired (hix h) g.val) := rfl
  rw [State.wayRetired_uncached hret hcache hin hspare] at hexec
  obtain ⟨hflag, hmask, honly⟩ := (s.wayGone (hix h) g.val w).putWays_effect
    (s.get F.LEDGER_GROUP_ACTIVE (hix h) g.val - 2 ^ w + 2 ^ k) (hix h) g.val
  refine Gives.of_done hexec (honly.todo.trans hq) ⟨hflag, ?_, Nat.mod_lt _ (by decide),
    honly.unseen (fun x => x.market.retiring) (fun _ _ => rfl), honly.unseen (fun x => x.market.gone) (fun _ _ => rfl),
    honly.1.congr rfl rfl⟩
  rw [State.bit_ledgerGroup _ _ _ hw, hmask, bit_of_mod_two_pow _ hw]
  exact bit_off_of_exchange hlt hw hk hon hoff

/-! ## The end of a recovery (R336) -/

/-- What the rewritten entries of a region's slices tell the outside. -/
def State.unknownOuts (s : State) (r : Nat) (ways : List Nat) : List Out :=
  ways.map (fun w => .ledgerUnknown r w (s.unknownHolders r))

theorem State.foldl_emit_unknown (s : State) (r : Nat) (ways : List Nat) :
    ways.foldl (fun s w => s.emit (.ledgerUnknown r w (s.unknownHolders r))) s = s.emits (s.unknownOuts r ways) := by
  induction ways generalizing s with
  | nil => simp [State.unknownOuts, State.emits]
  | cons w ways ih =>
    have hsame : (s.emit (.ledgerUnknown r w (s.unknownHolders r))).unknownOuts r ways = s.unknownOuts r ways := rfl
    rw [List.foldl_cons, ih, hsame, State.emits, State.emits, State.emit]
    simp [State.unknownOuts]

/-- No slice of a region recovers any more; a region that was Recovering is Available (R336). -/
def State.regionRecovered (s : State) (r : Nat) : State :=
  let s := s.put F.REGION_STATUS_RECOVERING 0 r
  if s.get F.REGION_STATUS_STATE r == 3 then s.setRegion r 1 else s

theorem State.get_setRegion_unheard (s : State) (r : Nat) {v : Nat} (hv : v < 16) (h : s.sessions = []) :
    (s.setRegion r v).get F.REGION_STATUS_STATE r = v ∧
      (s.setRegion r v).get F.REGION_STATUS_RECOVERING r = s.get F.REGION_STATUS_RECOVERING r := by
  rw [State.setRegion]
  split
  · next hsame => exact ⟨beq_iff_eq.mp hsame, rfl⟩
  · rw [State.event_unheard _ _ _ ((s.put_sessions _ _ _ _).trans h)]
    exact ⟨s.get_put_lt F.REGION_STATUS_STATE r 0 (by decide) hv, s.get_put_of_apart (by decide) _ _ _ _ _⟩

theorem State.regionRecovered_effect (s : State) (r : Nat) (h : s.sessions = []) :
    (s.regionRecovered r).get F.REGION_STATUS_RECOVERING r = 0 ∧
      (s.regionRecovered r).get F.REGION_STATUS_STATE r =
        (if s.get F.REGION_STATUS_STATE r = 3 then 1 else s.get F.REGION_STATUS_STATE r) ∧
      OnlyRegs s (s.regionRecovered r) [⟨.REGION_STATUS, r, 0⟩] := by
  let u : State := s.put F.REGION_STATUS_RECOVERING 0 r
  have hnone : u.get F.REGION_STATUS_RECOVERING r = 0 := s.get_put_self F.REGION_STATUS_RECOVERING 0 r 0 (by decide)
  have hstate : u.get F.REGION_STATUS_STATE r = s.get F.REGION_STATUS_STATE r := s.get_put_of_apart (by decide) _ _ _ _ _
  have hput : OnlyRegs s u [⟨.REGION_STATUS, r, 0⟩] := (OnlyRegs.refl s _).put _ _ _ _ (.head _)
  by_cases h3 : s.get F.REGION_STATUS_STATE r = 3
  · have heq : s.regionRecovered r = u.setRegion r 1 := if_pos (beq_iff_eq.mpr (hstate.trans h3))
    obtain ⟨hone, hkept⟩ := u.get_setRegion_unheard r (v := 1) (by decide) h
    rw [heq, if_pos h3]
    exact ⟨hkept.trans hnone, hone, hput.trans (u.setRegion_unheard r 1 h)⟩
  · have heq : s.regionRecovered r = u := if_neg (by rw [beq_iff_eq]; exact fun e => h3 (hstate.symm.trans e))
    rw [heq, if_neg h3]
    exact ⟨hnone, hstate, hput⟩

theorem exec_regionRecoveryDone {s : State} {r : Fin 256} {o : Operation} (hop : s.runningOp (.recoverRegion r.val) = some o) :
    exec (.regionRecoveryDone r) s =
      done (((s.emits (s.unknownOuts r.val ((List.range 16).filter (fun w => s.recovering r.val w)))).regionRecovered r.val).endOperation
        o .ok) := by
  rw [← State.foldl_emit_unknown]
  show execRegionRecoveryDone r s = _
  simp only [execRegionRecoveryDone, hop]
  rfl

/-! ## Flush (R341) -/

theorem State.ledgerFlush_clean {s : State} {f : LedgerLine → Bool} (h : ∀ e ∈ s.market.cache, (e.dirty && f e) = false) :
    s.ledgerFlush f = s :=
  foldl_eq_self fun e he => if_neg fun hwritten => by
    simp only [Bool.and_eq_true] at hwritten
    obtain ⟨⟨⟨hdirty, -⟩, hsel⟩, -⟩ := hwritten
    have hclean := h e he
    rw [hdirty, hsel] at hclean
    exact Bool.noConfusion hclean

/-! ## The statement -/

/-- Settles O11: the lemma about each command's path writes its effect out, and the rest of the state is untouched. -/
theorem ledgerWaysRecoveryAndFlush : Obligations.LedgerWaysRecoveryAndFlush := by
  unfold Obligations.LedgerWaysRecoveryAndFlush
  refine ⟨?retire, ?retired, ?recovered, ?flush⟩
  case retire =>
    intro s h g w hq hf hidle hway hspare
    let u : State := s.wayRetires (hix h) g.val w.val
    have honly : OnlyRegs u (u.put F.LEDGER_GROUP_RETIRING 1 (hix h) g.val) [⟨.LEDGER_GROUP, hix h, g.val⟩] :=
      (OnlyRegs.refl u _).put _ _ _ _ (.head _)
    exact Gives.of_done (exec_ledgerWayRetire hidle hway hspare) (honly.todo.trans hq)
      ⟨u.flag_put_self F.LEDGER_GROUP_RETIRING _ _ (by decide) (by decide), honly.unseen (fun x => x.market.retiring) (fun _ _ => rfl),
       honly.1.congr rfl rfl, congrArg (fun x : State => { x with regs := s.regs, market := s.market }) honly.2⟩
  case retired =>
    intro s h g w k hq hf hret hcache hway hspare hne
    exact gives_ledgerWayRetireDone hq hret hcache hway hspare
  case recovered =>
    intro s r o hq hf hop hses
    let outs : List Out := s.unknownOuts r.val ((List.range 16).filter (fun w => s.recovering r.val w))
    obtain ⟨hnone, hstate, honly⟩ := (s.emits outs).regionRecovered_effect r.val hses
    have hexec := exec_regionRecoveryDone hop
    generalize (s.emits outs).regionRecovered r.val = t at hnone hstate honly hexec
    rw [State.endOperation_unheard t o .ok ((honly.unseen State.sessions (fun _ _ => rfl)).trans hses)] at hexec
    have hops : t.ops = s.ops := honly.unseen State.ops (fun _ _ => rfl)
    exact Gives.of_done hexec (honly.todo.trans hq) ⟨hnone, hstate, by rw [hops], honly.1.congr rfl rfl,
      honly.unseen State.msgs (fun _ _ => rfl), honly.unseen State.out (fun _ _ => rfl)⟩
  case flush =>
    intro s h hq hf hidle hclean
    let u : State := s.put F.COH_STATUS_FLUSHING 1 (hix h)
    have honly : OnlyRegs s u [⟨.COH_STATUS, hix h, 0⟩] := (OnlyRegs.refl s _).put _ _ _ _ (.head _)
    have hflush : u.ledgerFlush (fun e => e.half == hix h) = u := State.ledgerFlush_clean (by rwa [s.put_market])
    have hexec : exec (.cohFlush h) s = done u := by
      show execCohFlush h s = _
      rw [execCohFlush, State.cohFlush, if_neg (by simp [hidle]), hflush]
    have hflag : u.flag F.COH_STATUS_FLUSHING (hix h) = true := s.flag_put_self _ _ _ (by decide) (by decide)
    exact Gives.of_done hexec (honly.todo.trans hq) ⟨hflag, honly⟩

end Sys2Proof.Machine

/-!
PROOF. A Ledger read whose slice entry names port 127, lost at a Flue link whose source reacts with Douse: the half is reset, and its
Ledger cache is lost with it (R35, R40, R314, R503).
-/
namespace Sys2Proof.Machine

/-! ## One reaction, carried out -/

theorem State.settle_one {s : State} {x : Todo} (h : s.todo = [x]) (hq : Quiet (State.react { s with todo := [] } x)) :
    s.settle = State.react { s with todo := [] } x := by
  have hstep : s.settle = (State.react { s with todo := [] } x).settleN 2047 := by
    rw [State.settle, State.settleN, h]
  rw [hstep, State.settleN_quiet _ _ hq]

/-! ## A half whose ports are down is reset (R40) -/

/-- Reactions, coherence engines and operations are as they were. -/
structure ResetFrame (s t : State) : Prop where
  todo : t.todo = s.todo
  market : t.market = s.market
  ops : t.ops = s.ops

theorem ResetFrame.refl (s : State) : ResetFrame s s := ⟨rfl, rfl, rfl⟩

theorem ResetFrame.trans {s t u : State} (h : ResetFrame s t) (h' : ResetFrame t u) : ResetFrame s u :=
  ⟨h'.todo.trans h.todo, h'.market.trans h.market, h'.ops.trans h.ops⟩

theorem ResetFrame.put {s t : State} (h : ResetFrame s t) (f : Fld) (v i j : Nat) : ResetFrame s (t.put f v i j) :=
  ⟨(t.put_todo f v i j).trans h.todo, (t.put_market f v i j).trans h.market, (t.put_ops f v i j).trans h.ops⟩

theorem ResetFrame.resetRegs (s : State) (sel : Key → Bool) : ResetFrame s (s.resetRegs sel) := ⟨rfl, rfl, rfl⟩

theorem ResetFrame.portForgets (s : State) (p lost : Nat) : ResetFrame s (s.portForgets p lost) := by
  simp only [State.portForgets, State.putFlag]
  refine ResetFrame.put (ResetFrame.put (ResetFrame.put ?_ _ _ _ _) _ _ _ _) _ _ _ _
  exact ⟨rfl, rfl, rfl⟩

/-- No port is in L0 or has a Cascade link. -/
abbrev PortsDown (s : State) : Prop := ∀ p : Port, s.linkState p.val ≠ lsL0 ∧ s.isCascade p.val = false

/-- A link that is down already falls: its port rests, and the others are as they were. -/
theorem PortsDown.linkFalls {s : State} (h : PortsDown s) (p : Port) :
    ResetFrame s (s.linkFalls p.val (s.restState p.val)) ∧ PortsDown (s.linkFalls p.val (s.restState p.val)) := by
  obtain ⟨hstate, hcascade⟩ := h p
  have hrest : s.restState p.val ≠ lsL0 ∧ s.restState p.val < 32 := by
    rcases s.restState_cases p.val with e | e | e <;> rw [e] <;> decide
  obtain ⟨hkeeps, hfell, -, -, hframe⟩ := s.linkFalls_within p.val (s.restState p.val) hstate hrest.1 hrest.2 hcascade
  generalize s.linkFalls p.val (s.restState p.val) = t at hkeeps hfell hframe
  refine ⟨⟨?_, ?_, ?_⟩, fun q => ⟨?_, ?_⟩⟩
  · have e := congrArg State.todo hframe; exact e
  · have e := congrArg State.market hframe; exact e
  · have e := congrArg State.ops hframe; exact e
  · by_cases hq : q.val = p.val
    · rw [hq, hfell]; exact hrest.1
    · have hout : (⟨.PHY_STATUS, q.val, 0⟩ : Key) ∉ linkRegs p.val := by simp [linkRegs, hq]
      rw [hkeeps.linkState hout]; exact (h q).1
  · exact (State.isCascade_of_role (hkeeps.role (fun _ => linkRegs_not_role) q.val)).trans (h q).2

/-- The links of a half fall. -/
def State.halfFalls (s : State) (h : Nat) : State := (portsOf h).foldl (fun s p => s.linkFalls p (s.restState p)) s

theorem PortsDown.halfFalls {s : State} (hs : PortsDown s) {h : Nat} (hh : h < 2) : ResetFrame s (s.halfFalls h) := by
  have hport : ∀ p ∈ portsOf h, p < 96 := fun p hp => by
    obtain ⟨l, hl, rfl⟩ := List.mem_map.mp hp
    rw [List.mem_range] at hl
    omega
  have hboth : ResetFrame s (s.halfFalls h) ∧ PortsDown (s.halfFalls h) :=
    List.foldlRecOn (motive := fun t => ResetFrame s t ∧ PortsDown t) (portsOf h) _ ⟨ResetFrame.refl s, hs⟩ fun t ht p hp => by
      obtain ⟨hframe, hdown⟩ := ht
      obtain ⟨hstep, hstill⟩ := hdown.linkFalls ⟨p, hport p hp⟩
      exact ⟨hframe.trans hstep, hstill⟩
  exact hboth.1

/-- The registers of a half's blocks are reset, and its ports forget what their links left (R40, R107). -/
def State.halfForgets (s : State) (h : Nat) : State :=
  ((portsOf h).map (fun p => (p, s.get F.PHY_STATUS_REFCLK_LOST p))).foldl (fun s e => s.portForgets e.1 e.2)
    (s.resetRegs (fun k => keyHalf k == some h || s.keyUnit h k))

theorem ResetFrame.halfForgets (s : State) (h : Nat) : ResetFrame s (s.halfForgets h) :=
  (ResetFrame.resetRegs s _).trans
    (List.foldlRecOn _ _ (ResetFrame.refl _) fun t ht e _ => ht.trans (ResetFrame.portForgets t e.1 e.2))

/-- Every relocation under way is tainted. -/
def State.taintAll (s : State) : State := s.rlActive.foldl (fun s x => s.rlTaint x) s

/-- The operations on a half's ports and Porter channels are aborted. -/
def State.halfAborts (s : State) (h : Nat) : State :=
  (List.range 14).foldl (fun s c => s.endOp (.chain (14 * h + c)) .aborted)
    (((portsOf h).filter (fun p => s.resetPorts.contains p)).foldl (fun s p => s.endOp (.resetPort p) .aborted) s)

theorem State.halfAborts_none {s : State} (h : Nat) (hops : s.ops = []) : s.halfAborts h = s := by
  have hports : ((portsOf h).filter (fun p => s.resetPorts.contains p)).foldl (fun s p => s.endOp (.resetPort p) .aborted) s = s :=
    foldl_eq_self fun _ _ => State.endOp_none _ _ hops
  rw [State.halfAborts, hports]
  exact foldl_eq_self fun _ _ => State.endOp_none _ _ hops

/-- A half is held in reset. -/
def State.holdHalf (s : State) (h : Nat) : State :=
  { s with txns := { s.txns with closed := s.txns.closed.filter (fun p => halfOf p != h) },
           resetHalves := s.resetHalves.filter (fun x => x != h) ++ [h], resetPorts := s.resetPorts.filter (fun p => halfOf p != h) }

theorem ResetFrame.holdHalf (s : State) (h : Nat) : ResetFrame s (s.holdHalf h) := ⟨rfl, rfl, rfl⟩

/-- The parts of a half's reset, one after another. -/
theorem State.halfClear_eq (s : State) (h : Nat) (b : Bool) :
    s.halfClear h b = (((((s.homeLost h b).purgeHalf h).taintAll.halfFalls h).halfForgets h).halfAborts h).holdHalf h := by
  simp only [State.halfClear, State.taintAll, State.halfFalls, State.halfForgets, State.halfAborts, State.holdHalf]

/-- Where its ports are down and no relocation and no operation is under way, a half's reset reaches no reaction, and of the coherence
engines only what the loss of its home engine reaches. -/
theorem State.halfClear_frame {s v : State} {h : Nat} {b : Bool} (hh : h < 2) (hpurge : (s.homeLost h b).purgeHalf h = v)
    (hctx : v.rlActive = []) (hdown : PortsDown v) (hops : v.ops = []) :
    ResetFrame v (s.halfClear h b) := by
  have hframe : ResetFrame v ((v.halfFalls h).halfForgets h) := (hdown.halfFalls hh).trans (ResetFrame.halfForgets _ h)
  rw [State.halfClear_eq, hpurge, State.taintAll, hctx, List.foldl_nil, State.halfAborts_none h (hframe.ops.trans hops)]
  exact hframe.trans (ResetFrame.holdHalf _ h)

/-- Douse resets its half (R503). -/
theorem State.react_douse {s : State} {h : Nat} (hup : s.get F.PWR_STATE_STATE ≠ 5) (hout : s.resetHalves.contains h = false) :
    ∃ v, s.react (.douse h) = ((s.seamAllDown.answerSurvivor h).halfClear h true).wr .FC_DOUSED v := by
  have hreset : s.halfResetStart h = (s.seamAllDown.answerSurvivor h).halfClear h true := if_neg (by rw [hout]; decide)
  have hreact : s.react (.douse h) = (s.halfResetStart h).wr .FC_DOUSED (Word.setBits (s.rd .FC_DOUSED) h 1 1) :=
    if_neg (by simpa using hup)
  exact ⟨_, hreset ▸ hreact⟩

/-! ## The counterexample -/

/-- The request of host 7 for line 2 of way 1 of region 9 at the home engine of East: it waits for a way of its set. -/
def missForWay : Msg :=
  { id := 5, cls := 0, op := .memInv, input := 3, dst := 124, host := some 7, slice := some ⟨true, 9, 1⟩, off := 128, half := 0,
    stage := .atHome, device := true, mkt := .own }

/-- The entry of the request's slice names port 127, which the statement does not rule out, so that its Ledger read goes the way of a
message for the Hearth; the Flue link of East is lost, and the source of a message lost there reacts with Douse. -/
def missBehindLostFlue : State :=
  { regs := [(⟨.REGION_SLICE, 9, 1⟩, 0x807F000000000000), (⟨.FC_SRC, 780, 0⟩, 3), (⟨.PMU_GLOBAL, 0, 0⟩, 0x80000000)]
    nextId := 6
    msgs := [missForWay]
    market := { wayWaits := [5] }
    txns := { lost := [0] } }

/-- The units are frozen, and way 0 of the line's set is free. -/
theorem missBehindLostFlue_waits :
    Frozen missBehindLostFlue ∧
      missBehindLostFlue.ledgerWay 0 (ledgerSet missForWay.regionWay.1 missForWay.regionWay.2 missForWay.line) = some (0, none) := by
  decide +kernel

/-- The miss has its way, and its Ledger read is lost; the reaction to that is taken up. -/
def missBehindLostFlue_lost : State := { missBehindLostFlue.wayFreed 0 with todo := [] }

theorem missBehindLostFlue_todo : (missBehindLostFlue.wayFreed 0).todo = [.douse 0] := by
  decide +kernel

/-- Neither the Seam nor the other half has anything of the miss. -/
theorem missBehindLostFlue_survivor :
    missBehindLostFlue_lost.get F.PWR_STATE_STATE ≠ 5 ∧ missBehindLostFlue_lost.resetHalves.contains 0 = false ∧
      missBehindLostFlue_lost.seamAllDown.answerSurvivor 0 = missBehindLostFlue_lost := by
  decide +kernel

/-- East without its home engine and its messages. -/
def missBehindLostFlue_purged : State := { missBehindLostFlue_lost with msgs := [], market := {} }

theorem missBehindLostFlue_purge :
    (missBehindLostFlue_lost.homeLost 0 true).purgeHalf 0 = missBehindLostFlue_purged := by
  decide +kernel

theorem missBehindLostFlue_purged_rests :
    missBehindLostFlue_purged.rlActive = [] ∧ PortsDown missBehindLostFlue_purged ∧ missBehindLostFlue_purged.ops = [] := by
  decide +kernel

/-- The reset that the reaction starts leaves no way taken. -/
theorem missBehindLostFlue_settles : (missBehindLostFlue.wayFreed 0).settle.market.cache = [] := by
  obtain ⟨hup, hout, hsurvivor⟩ := missBehindLostFlue_survivor
  obtain ⟨hctx, hdown, hops⟩ := missBehindLostFlue_purged_rests
  obtain ⟨v, hreact⟩ := State.react_douse hup hout
  rw [hsurvivor] at hreact
  have hframe := State.halfClear_frame (by decide) missBehindLostFlue_purge hctx hdown hops
  have hquiet : Quiet (State.react missBehindLostFlue_lost (.douse 0)) := by
    rw [hreact]
    exact (State.wr_todo _ _ _ _ _).trans hframe.todo
  have hsettle : (missBehindLostFlue.wayFreed 0).settle = State.react missBehindLostFlue_lost (.douse 0) :=
    State.settle_one missBehindLostFlue_todo hquiet
  rw [hsettle, hreact, State.wr_market, hframe.market]
  rfl

/-- Refutes O10: the clause for a freed way says that the waiting miss takes it. Where the miss's Ledger read is lost at a Flue link
whose source reacts with Douse, the half is reset before the command ends, and the entry is lost with its Ledger cache. -/
theorem not_coherenceFlows : ¬ Obligations.CoherenceFlows := by
  unfold Obligations.CoherenceFlows
  rintro ⟨-, -, -, freed, -⟩
  obtain ⟨hfrozen, hway⟩ := missBehindLostFlue_waits
  obtain ⟨t, hexec, -, hcache, -⟩ := freed missBehindLostFlue .east missForWay 0 rfl hfrozen rfl rfl rfl rfl hway rfl
  obtain rfl : (missBehindLostFlue.wayFreed 0).settle = t := Host.Outcome.next.inj hexec
  rw [missBehindLostFlue_settles] at hcache
  exact absurd hcache (by decide)

end Sys2Proof.Machine

/-!
PROOF. What the commands of a Porter channel leave: start and stop, triggers and pauses, the descriptor fetch, a read that returns,
the end of a descriptor, late write errors, doorbells and retirement (R346 to R370).
-/
namespace Sys2Proof.Machine

/-! ## A channel beside its registers -/

@[simp] theorem State.chan_setChan (s : State) (c : Nat) (x : Channel) : (s.setChan c x).chan c = x := numGet_put_self _ _ _ _
@[simp] theorem State.chan_put (s : State) (f : Fld) (v i j c : Nat) : (s.put f v i j).chan c = s.chan c := by
  rw [State.chan, State.put_channels, State.chan]
@[simp] theorem State.chan_wr (s : State) (r : Reg) (v : Word) (i j c : Nat) : (s.wr r v i j).chan c = s.chan c := by
  rw [State.chan, State.wr_channels, State.chan]
@[simp] theorem State.chan_irqTouch (s : State) (n c : Nat) : (s.irqTouch n).chan c = s.chan c := by
  have h := congrArg (fun x : State => x.chan c) (s.irqTouch_frame n); exact h

@[simp] theorem State.rd_setChan (s : State) (c : Nat) (x : Channel) (r : Reg) (i j : Nat) : (s.setChan c x).rd r i j = s.rd r i j := rfl
@[simp] theorem State.get_setChan (s : State) (c : Nat) (x : Channel) (f : Fld) (i j : Nat) : (s.setChan c x).get f i j = s.get f i j := rfl
@[simp] theorem State.flag_setChan (s : State) (c : Nat) (x : Channel) (f : Fld) (i j : Nat) : (s.setChan c x).flag f i j = s.flag f i j := rfl

theorem State.get_irqTouch (s : State) (n : Nat) (f : Fld) (i j : Nat) : (s.irqTouch n).get f i j = s.get f i j :=
  State.get_regs _ _ (s.irqTouch_regs n) f i j

/-- A field that shares no bit with the channel's state is not touched by a store of `f`. -/
theorem State.ch_put_of_apart (s : State) {f : Fld} (h : f.apart F.CH_STATUS_STATE = true) (v i j c : Nat) :
    (s.put f v i j).ch c = s.ch c := s.get_put_of_apart h v i j c 0

/-! ## What a step of a channel may change -/

/-- Of the registers only those listed differ, and beside registers only the channels and the aggregator. -/
structure ChannelStep (s t : State) (ks : List Key) : Prop where
  keeps : KeepsRegs s t ks
  frame : { t with regs := s.regs, channels := s.channels, agg := s.agg } = s

section
variable {s t u : State} {ks : List Key}

theorem ChannelStep.refl (s : State) (ks : List Key) : ChannelStep s s ks := ⟨KeepsRegs.refl s ks, rfl⟩

theorem ChannelStep.wr (h : ChannelStep s t ks) (r : Reg) (v : Word) (i j : Nat) (hk : (⟨r, i, j⟩ : Key) ∈ ks) :
    ChannelStep s (t.wr r v i j) ks := ⟨h.keeps.wr r v i j hk, h.frame⟩

theorem ChannelStep.put (h : ChannelStep s t ks) (f : Fld) (v i j : Nat) (hk : (⟨f.reg, i, j⟩ : Key) ∈ ks) :
    ChannelStep s (t.put f v i j) ks := ⟨h.keeps.put f v i j hk, h.frame⟩

theorem ChannelStep.setChan (h : ChannelStep s t ks) (c : Nat) (x : Channel) : ChannelStep s (t.setChan c x) ks := ⟨h.keeps.regs rfl, h.frame⟩

theorem ChannelStep.irqTouch (h : ChannelStep s t ks) (n : Nat) : ChannelStep s (t.irqTouch n) ks :=
  ⟨h.keeps.regs (t.irqTouch_regs n),
   (congrArg (fun x : State => { x with regs := s.regs, channels := s.channels, agg := s.agg }) (t.irqTouch_frame n)).trans h.frame⟩

theorem ChannelStep.trans (h : ChannelStep s t ks) (h' : ChannelStep t u ks) : ChannelStep s u ks :=
  ⟨h.keeps.trans h'.keeps,
   (congrArg (fun x : State => { x with regs := s.regs, channels := s.channels, agg := s.agg }) h'.frame).trans h.frame⟩

theorem ChannelStep.mono {ks' : List Key} (h : ChannelStep s t ks) (hs : ks ⊆ ks') : ChannelStep s t ks' := ⟨h.keeps.mono hs, h.frame⟩

/-- What looks at no register, no channel and not at the aggregator does not see the difference. -/
theorem ChannelStep.unseen (h : ChannelStep s t ks) {α : Type} (g : State → α)
    (hg : ∀ x r c a, g { x with regs := r, channels := c, agg := a } = g x) : g t = g s := by
  rw [← hg t s.regs s.channels s.agg, h.frame]

theorem ChannelStep.todo (h : ChannelStep s t ks) : t.todo = s.todo := h.unseen State.todo (fun _ _ _ _ => rfl)
theorem ChannelStep.msgs (h : ChannelStep s t ks) : t.msgs = s.msgs := h.unseen State.msgs (fun _ _ _ _ => rfl)
theorem ChannelStep.mem (h : ChannelStep s t ks) : t.mem = s.mem := h.unseen State.mem (fun _ _ _ _ => rfl)
theorem ChannelStep.out (h : ChannelStep s t ks) : t.out = s.out := h.unseen State.out (fun _ _ _ _ => rfl)
theorem ChannelStep.ops (h : ChannelStep s t ks) : t.ops = s.ops := h.unseen State.ops (fun _ _ _ _ => rfl)

/-- The registers in which a pause cause stands: CH_CTRL, CH_CFG, the power state and the slots of a commit under way (R368). -/
def pauseRegs : List Reg := [.CH_CTRL, .CH_CFG, .PWR_STATE, .TXSLOT_STATE]

/-- A step that writes none of them leaves the causes as they were. -/
theorem ChannelStep.chPauses (h : ChannelStep s t ks) (hks : ∀ k ∈ ks, k.reg ∉ pauseRegs) (c : Nat) : t.chPauses c = s.chPauses c := by
  have hget (f : Fld) (hf : f.reg ∈ pauseRegs) (i : Nat) : t.get f i = s.get f i := h.keeps.get (fun hk => hks _ hk hf)
  have hflag (f : Fld) (hf : f.reg ∈ pauseRegs) (i : Nat) : t.flag f i = s.flag f i := congrArg (· != 0) (hget f hf i)
  have hpause := hflag F.CH_CTRL_PAUSE (by decide) c
  have hpriv := hflag F.CH_CFG_PRIV_OK (by decide) c
  have hrung : t.rung = s.rung := hget F.PWR_STATE_STATE (by decide) 0
  have hslots : t.txState = s.txState := funext (hget F.TXSLOT_STATE_STATE (by decide))
  have htx : t.tx = s.tx := h.unseen State.tx (fun _ _ _ _ => rfl)
  have hbelow : t.below = s.below := h.unseen State.below (fun _ _ _ _ => rfl)
  simp only [State.chPauses, State.commits95, State.applySlot, State.applyItems, hpause, hpriv, hrung, hslots, htx, hbelow]

end

/-! ## The state of a channel (R371) -/

theorem State.ch_setCh (s : State) (c : Nat) {v : Nat} (hv : v < 16) : (s.setCh c v).ch c = v :=
  (State.get_irqTouch _ _ _ _ _).trans (s.get_put_lt F.CH_STATUS_STATE c 0 (by decide) hv)

theorem State.get_setCh (s : State) (c v : Nat) {f : Fld} (h : F.CH_STATUS_STATE.apart f = true) (i j : Nat) :
    (s.setCh c v).get f i j = s.get f i j := (State.get_irqTouch _ _ _ _ _).trans (s.get_put_of_apart h _ _ _ _ _)

theorem State.rd_setCh (s : State) (c v : Nat) {r : Reg} (h : r ≠ .CH_STATUS) (i j : Nat) : (s.setCh c v).rd r i j = s.rd r i j :=
  (State.rd_irqTouch _ _ _ _ _).trans (s.rd_put_reg _ _ _ _ _ _ _ h)

@[simp] theorem State.chan_setCh (s : State) (c v k : Nat) : (s.setCh c v).chan k = s.chan k := by
  rw [State.setCh, State.chan_irqTouch, State.chan_put]

theorem ChannelStep.setCh {s t : State} {ks : List Key} (h : ChannelStep s t ks) (c v : Nat) (hk : (⟨.CH_STATUS, c, 0⟩ : Key) ∈ ks) :
    ChannelStep s (t.setCh c v) ks := (h.put F.CH_STATUS_STATE v c 0 hk).irqTouch _

/-- The chain ends while no operation runs. -/
theorem State.chEnds_none {s : State} (c v : Nat) (st : Status) (h : s.ops = []) : s.chEnds c v st = s.setCh c v :=
  State.endOp_none _ _ ((((ChannelStep.refl s [⟨.CH_STATUS, c, 0⟩]).setCh c v (.head _)).ops).trans h)

/-! ## A channel goes on to a descriptor (R361, R368) -/

/-- The registers that a channel's next fetch writes. -/
abbrev fetchRegs (c : Nat) : List Key := [⟨.CH_STATUS, c, 0⟩, ⟨.CH_CUR, c, 0⟩]

/-- While no cause pauses it, a channel fetches. -/
theorem State.chGo_fetches {s : State} {c : Nat} (a : Nat) (h : s.chPauses c = false) :
    s.chGo c a = (((s.put F.CH_CUR_V a c).setChan c
      { serial := (s.chan c).serial, lateErr := (s.chan c).lateErr, worst := (s.chan c).worst, fetching := true }).setCh c chRunning) := by
  have hpause : (s.put F.CH_CUR_V a c).chPauses c = false :=
    (((ChannelStep.refl s [⟨.CH_CUR, c, 0⟩]).put F.CH_CUR_V a c 0 (.head _)).chPauses (by simp [pauseRegs]) c).trans h
  simp only [State.chGo, hpause, Bool.false_eq_true, if_false, State.chan_put]

theorem State.chGo_effect {s : State} {c a : Nat} (h : s.chPauses c = false) (ha : a < 2 ^ 64) :
    (s.chGo c a).ch c = chRunning ∧ (s.chGo c a).get F.CH_CUR_V c = a ∧
      (s.chGo c a).chan c =
        { serial := (s.chan c).serial, lateErr := (s.chan c).lateErr, worst := (s.chan c).worst, fetching := true } ∧
      ChannelStep s (s.chGo c a) (fetchRegs c) := by
  rw [State.chGo_fetches a h]
  refine ⟨State.ch_setCh _ c (by decide), ?_, ?_, ?_⟩
  · rw [State.get_setCh _ _ _ (by decide), State.get_setChan, State.get_put_lt _ F.CH_CUR_V _ _ (by decide) ha]
  · rw [State.chan_setCh, State.chan_setChan]
  · exact (((ChannelStep.refl s _).put F.CH_CUR_V a c 0 (.tail _ (.head _))).setChan c _).setCh c chRunning (.head _)

/-! ## START and ABORT (R361, R366) -/

/-- The channel as START leaves it before the first fetch. -/
def State.chBegun (s : State) (c : Nat) : State :=
  ((s.wr .CH_SEEN (s.rd .CH_DOORBELL c) c).put F.CH_STATUS_ABORT_LATE 0 c).setChan c
    { serial := (s.chan c).serial, lateErr := (s.chan c).lateErr }

theorem State.chStart_idle {s : State} {c : Nat} (hidle : s.ch c = chIdle) (hrung : s.rung = rungBlaze) (hentry : s.power.entering = none) :
    s.chStart c = (s.chBegun c).chGo c (64 * s.get F.CH_HEAD_V c) := by
  have hhead : (((s.wr .CH_SEEN (s.rd .CH_DOORBELL c) c).put F.CH_STATUS_ABORT_LATE 0 c).get F.CH_HEAD_V c) = s.get F.CH_HEAD_V c :=
    (State.get_put_of_apart _ (by decide) _ _ _ _ _).trans (s.get_wr_reg _ _ _ _ _ _ _ (by decide))
  simp only [State.chStart, hidle, bne_self_eq_false, Bool.false_eq_true, if_false, s.exitCause_blaze hrung hentry, hhead,
    State.chBegun, State.chan_put, State.chan_wr]

theorem gives_chStart {s : State} {c : Fin 28} (hq : Quiet s) (hidle : s.ch c.val = chIdle) (hrung : s.rung = rungBlaze)
    (hentry : s.power.entering = none) (hpause : s.chPauses c.val = false) :
    Gives (.chStart c) s (fun t => t.ch c.val = chRunning ∧ t.get F.CH_CUR_V c.val = 64 * s.get F.CH_HEAD_V c.val ∧
      t.rd .CH_SEEN c.val = s.rd .CH_DOORBELL c.val ∧ (t.chan c.val).fetching = true ∧ (t.chan c.val).desc = none ∧
      KeepsRegs s t [⟨.CH_STATUS, c.val, 0⟩, ⟨.CH_CUR, c.val, 0⟩, ⟨.CH_SEEN, c.val, 0⟩] ∧ t.msgs = s.msgs ∧ t.mem = s.mem) := by
  have hbegun : ChannelStep s (s.chBegun c.val) [⟨.CH_STATUS, c.val, 0⟩, ⟨.CH_CUR, c.val, 0⟩, ⟨.CH_SEEN, c.val, 0⟩] :=
    (((ChannelStep.refl s _).wr .CH_SEEN _ _ _ (by simp)).put F.CH_STATUS_ABORT_LATE _ _ _ (.head _)).setChan _ _
  have hseen : (s.chBegun c.val).rd .CH_SEEN c.val = s.rd .CH_DOORBELL c.val := by
    rw [State.chBegun, State.rd_setChan, State.rd_put_reg _ _ _ _ _ _ _ _ (by decide), State.rd_wr_self]
  have hhead : 64 * s.get F.CH_HEAD_V c.val < 2 ^ 64 := by
    have hlt : s.get F.CH_HEAD_V c.val < 2 ^ 46 := s.get_lt F.CH_HEAD_V c.val 0
    omega
  obtain ⟨hstate, hcur, hchan, hgo⟩ := State.chGo_effect ((hbegun.chPauses (by simp [pauseRegs]) c.val).trans hpause) hhead
  have hstep := hbegun.trans (hgo.mono (by simp))
  exact Gives.of_done (congrArg done (State.chStart_idle hidle hrung hentry)) (hstep.todo.trans hq)
    ⟨hstate, hcur, (hgo.keeps.rd (by simp)).trans hseen, by rw [hchan], by rw [hchan], hstep.keeps, hstep.msgs, hstep.mem⟩

/-- With no message in the device no read is out that could be discarded. -/
theorem State.dropReads_nil {s : State} (c : Nat) (h : s.msgs = []) : s.dropReads c = s.setChan c { s.chan c with reads := [] } := by
  have hsame : { s with msgs := [] } = s := by rw [← h]
  simp only [State.dropReads, h, List.filter_nil, List.foldl_nil, List.map_nil, hsame]

theorem State.chAbort_atTail {s : State} {c : Nat} (hch : s.ch c = chAtTail) (hmsgs : s.msgs = []) (hops : s.ops = []) :
    s.chAbort c = ((s.setChan c { s.chan c with reads := [] }).setChan c
      { serial := (s.chan c).serial, lateErr := (s.chan c).lateErr }).setCh c chIdle := by
  have hends := State.chEnds_none (s := (s.setChan c { s.chan c with reads := [] }).setChan c
    { serial := (s.chan c).serial, lateErr := (s.chan c).lateErr }) c chIdle .aborted hops
  rw [← hends]
  simp [State.chAbort, hch, State.dropReads_nil c hmsgs]

theorem gives_chAbort_atTail {s : State} {c : Fin 28} (hq : Quiet s) (hch : s.ch c.val = chAtTail) (hmsgs : s.msgs = []) (hops : s.ops = []) :
    Gives (.chAbort c) s (fun t => t.ch c.val = chIdle ∧ (t.chan c.val).desc = none ∧ KeepsRegs s t [⟨.CH_STATUS, c.val, 0⟩] ∧
      t.msgs = s.msgs ∧ t.mem = s.mem) := by
  have hexec : exec (.chAbort c) s = done _ := congrArg done (State.chAbort_atTail hch hmsgs hops)
  have hstep := (((ChannelStep.refl s [⟨.CH_STATUS, c.val, 0⟩]).setChan c.val { s.chan c.val with reads := [] }).setChan c.val
    { serial := (s.chan c.val).serial, lateErr := (s.chan c.val).lateErr }).setCh c.val chIdle (.head _)
  exact Gives.of_done hexec (hstep.todo.trans hq)
    ⟨State.ch_setCh _ _ (by decide), by rw [State.chan_setCh, State.chan_setChan], hstep.keeps, hstep.msgs, hstep.mem⟩

/-! ## Triggers and pauses (R364, R368) -/

/-- A trigger event of a channel that does not wait for one is counted. -/
theorem State.chTrigger_counts {s : State} {c : Nat} (hn : s.get F.CH_STATUS_TRIG_PENDING c < 255) (hch : s.ch c ≠ chWaiting) :
    s.chTrigger c = s.put F.CH_STATUS_TRIG_PENDING (s.get F.CH_STATUS_TRIG_PENDING c + 1) c := by
  have hput : (s.put F.CH_STATUS_TRIG_PENDING (s.get F.CH_STATUS_TRIG_PENDING c + 1) c).ch c ≠ chWaiting := by
    rwa [s.ch_put_of_apart (by decide)]
  simp only [State.chTrigger, hn.ne, if_false, beq_iff_eq, hput]

theorem gives_trigger {i : Instr} {s : State} {c : Fin 28} (hq : Quiet s) (hexec : exec i s = done (s.chTrigger c.val))
    (hn : s.get F.CH_STATUS_TRIG_PENDING c.val < 255) (hch : s.ch c.val ≠ chWaiting) :
    Gives i s (fun t => t.get F.CH_STATUS_TRIG_PENDING c.val = s.get F.CH_STATUS_TRIG_PENDING c.val + 1 ∧
      OnlyRegs s t [⟨.CH_STATUS, c.val, 0⟩]) := by
  rw [State.chTrigger_counts hn hch] at hexec
  have honly := (OnlyRegs.refl s [⟨.CH_STATUS, c.val, 0⟩]).put F.CH_STATUS_TRIG_PENDING
    (s.get F.CH_STATUS_TRIG_PENDING c.val + 1) c.val 0 (.head _)
  have hlt : s.get F.CH_STATUS_TRIG_PENDING c.val + 1 < 2 ^ 8 := by omega
  exact Gives.of_done hexec (honly.todo.trans hq) ⟨s.get_put_lt F.CH_STATUS_TRIG_PENDING c.val 0 (by decide) hlt, honly⟩

theorem exec_porterPaceTimer {s : State} {c : Fin 28} (hsrc : s.get F.CH_PACE_TRIG_SRC c.val = 1) (hperiod : s.get F.CH_PACE_PERIOD c.val ≠ 0)
    (hblaze : s.atBlaze (c.val / 14) = true) : exec (.porterPaceTimer c) s = done (s.chTrigger c.val) := by
  show execPorterPaceTimer c s = _
  simp [execPorterPaceTimer, hsrc, hperiod, hblaze]

theorem State.chPauseCheck_of_ne {s : State} {c : Nat} (hwait : s.ch c ≠ chWaiting) (hpaused : s.ch c ≠ chPaused) : s.chPauseCheck c = s := by
  simp [State.chPauseCheck, hwait, hpaused]

/-! ## A descriptor that waits for its trigger (R350, R351, R364) -/

/-- A memory device returned the descriptor's bytes. -/
theorem State.fetch_device {s : State} {c : Fin 28} {a : Nat} {b : List Byte} {m : Msg} (hpath : s.privPath c.val a 64 false = .device m)
    (hb : b.length = 64) : s.fetch c a (.data b) = (.bytes b, s) := by
  simp [State.fetch, hpath, hb]

/-- The channel holds a descriptor that has not started. -/
def State.chHolds (s : State) (c : Nat) (d : Descriptor) : State :=
  s.setChan c { serial := (s.chan c).serial, lateErr := (s.chan c).lateErr, worst := (s.chan c).worst, desc := some d }

theorem State.chTakeDesc_waits {s : State} {c : Nat} {d : Descriptor} (hvalid : d.invalid = false) (hpriv : d.priv = true)
    (hok : s.flag F.CH_CFG_PRIV_OK c = true) (hwait : d.at 27 1 = 1) (hpause : s.chPauses c = false)
    (hnone : s.get F.CH_STATUS_TRIG_PENDING c = 0) : s.chTakeDesc c d = (s.chHolds c d).setCh c chWaiting := by
  have hheld : s.chTakeDesc c d = (s.chHolds c d).chWaits c := by
    simp [State.chTakeDesc, hvalid, hpriv, hok, hwait, State.chHolds]
  have hcauses : (s.chHolds c d).chPauses c = false := hpause
  have hevents : (s.chHolds c d).get F.CH_STATUS_TRIG_PENDING c = 0 := hnone
  simp only [hheld, State.chWaits, hcauses, hevents, Bool.false_eq_true, if_false, if_true]

theorem exec_descriptorFetch {s : State} {c : Fin 28} {b : List Byte} {m : Msg} (hrun : s.ch c.val = chRunning)
    (hout : (s.chan c.val).fetching = true) (hpath : s.privPath c.val (s.get F.CH_CUR_V c.val) 64 false = .device m) (hb : b.length = 64) :
    exec (.descriptorFetch c (.data b)) s = done (s.chTakeDesc c.val (descriptorOf b)) := by
  show execDescriptorFetch c (.data b) s = _
  simp [execDescriptorFetch, hrun, hout, State.fetch_device hpath hb]

/-! ## Tail re-reads and doorbells (R362) -/

theorem leNat_lt (b : List Byte) : leNat b < 256 ^ b.length := by
  induction b with
  | nil => decide
  | cons v t ih =>
    have hv := v.isLt
    rw [leNat, List.length_cons, Nat.pow_succ]
    omega

/-- NEXT of a descriptor fits CH_CUR. -/
theorem descriptorOf_next_lt (b : List Byte) : (descriptorOf b).next < 2 ^ 64 := by
  let n : List Byte := (b.drop 24).take 8
  have hlen : n.length ≤ 8 := List.length_take_le _ _
  calc (descriptorOf b).next ≤ leNat n := Nat.div_mul_le_self _ _
    _ < 256 ^ n.length := leNat_lt n
    _ ≤ 256 ^ 8 := Nat.pow_le_pow_right (by decide) hlen
    _ = 2 ^ 64 := by decide

theorem exec_tailReread_goesOn {s : State} {c : Fin 28} {b : List Byte} {m : Msg} (hch : s.ch c.val = chAtTail)
    (hout : (s.chan c.val).rereading = true) (hpath : s.privPath c.val (s.get F.CH_CUR_V c.val) 64 false = .device m)
    (hb : b.length = 64) (htail : (descriptorOf b).tail = false) :
    exec (.tailReread c (.data b)) s =
      done ((s.setChan c.val { s.chan c.val with rereading := false }).chGo c.val (descriptorOf b).next) := by
  show execTailReread c (.data b) s = _
  simp [execTailReread, hch, hout, State.fetch_device hpath hb, htail]

/-- A doorbell that was not yet seen: it is, and the re-read is out. -/
def State.chRereads (s : State) (c : Nat) : State :=
  (s.wr .CH_SEEN (s.rd .CH_DOORBELL c) c).setChan c { s.chan c with rereading := true }

theorem State.chRereads_frame {s t : State} {ks : List Key} (h : OnlyRegs s t ks) (c : Nat) :
    { t.chRereads c with regs := s.regs, channels := s.channels } = s :=
  congrArg (fun x : State => { x with channels := s.channels }) h.2

theorem State.chDoorbell_rereads {s : State} {c : Nat} (hch : s.ch c = chAtTail) (hout : (s.chan c).rereading = false)
    (hnew : s.rd .CH_DOORBELL c ≠ s.rd .CH_SEEN c) : s.chDoorbell c = s.chRereads c := by
  simp [State.chDoorbell, hch, hout, hnew, State.chRereads]

theorem State.chDoorbell_seen {s : State} {c : Nat} (h : s.rd .CH_DOORBELL c = s.rd .CH_SEEN c) : s.chDoorbell c = s := by
  simp [State.chDoorbell, h]

theorem gives_porterDoorbell {s : State} {c : Fin 28} {v : BitVec 32} (hq : Quiet s) (hch : s.ch c.val = chAtTail)
    (hout : (s.chan c.val).rereading = false) (hnew : s.get F.CH_SEEN_V c.val ≠ v.toNat) :
    Gives (.porterDoorbell c v) s (fun t => t.get F.CH_DOORBELL_V c.val = v.toNat ∧ t.get F.CH_SEEN_V c.val = v.toNat ∧
      (t.chan c.val).rereading = true ∧ KeepsRegs s t [⟨.CH_DOORBELL, c.val, 0⟩, ⟨.CH_SEEN, c.val, 0⟩] ∧
      { t with regs := s.regs, channels := s.channels } = s) := by
  let a : State := s.put F.CH_DOORBELL_V v.toNat c.val
  have hbell : a.get F.CH_DOORBELL_V c.val = v.toNat := s.get_put_lt F.CH_DOORBELL_V c.val 0 (by decide) v.isLt
  have hseen : a.get F.CH_SEEN_V c.val = s.get F.CH_SEEN_V c.val := s.get_put_of_apart (by decide) _ _ _ _ _
  have hne : a.rd .CH_DOORBELL c.val ≠ a.rd .CH_SEEN c.val := by
    intro heq
    have hsame : a.get F.CH_DOORBELL_V c.val = a.get F.CH_SEEN_V c.val := congrArg (fun w => Word.bits w 0 32) heq
    exact hnew (hseen.symm.trans (hsame.symm.trans hbell))
  have hexec : exec (.porterDoorbell c v) s = done (a.chRereads c.val) :=
    congrArg done (State.chDoorbell_rereads ((s.ch_put_of_apart (by decide) _ _ _ _).trans hch) hout hne)
  have hframe := State.chRereads_frame ((OnlyRegs.refl s [⟨.CH_DOORBELL, c.val, 0⟩]).put F.CH_DOORBELL_V v.toNat c.val 0 (.head _)) c.val
  have hquiet : (a.chRereads c.val).todo = s.todo := by have e := congrArg State.todo hframe; exact e
  have hbell' : (a.chRereads c.val).get F.CH_DOORBELL_V c.val = v.toNat := by
    rw [State.chRereads, State.get_setChan, State.get_wr_reg _ _ _ _ _ _ _ _ (by decide), hbell]
  have hseen' : (a.chRereads c.val).get F.CH_SEEN_V c.val = v.toNat := by
    rw [State.chRereads, State.get_setChan]
    exact (congrArg (fun w => Word.bits w 0 32) (a.rd_wr_self _ _ _ _)).trans hbell
  have hkeeps : KeepsRegs s (a.chRereads c.val) [⟨.CH_DOORBELL, c.val, 0⟩, ⟨.CH_SEEN, c.val, 0⟩] :=
    (((KeepsRegs.refl s _).put F.CH_DOORBELL_V _ _ _ (.head _)).wr .CH_SEEN _ _ _ (.tail _ (.head _))).regs rfl
  exact Gives.of_done hexec (hquiet.trans hq) ⟨hbell', hseen', by rw [State.chRereads, State.chan_setChan], hkeeps, hframe⟩

/-! ## A read that returns (R354) -/

/-- No write of the device came back failed. -/
theorem State.chTakeFailed_none {s : State} (c : Nat) (h : ∀ m ∈ s.msgs, m.op ≠ .bulkWrite) : s.chTakeFailed c = s := by
  have hnone : s.msgs.filter (fun m => m.input == 96 + c && decide (m.op = .bulkWrite) && decide (m.stage = .returned)) = [] :=
    List.filter_eq_nil_iff.mpr (fun m hm => by simp [h m hm])
  rw [State.chTakeFailed, hnone, List.foldl_nil]

/-- Every source byte is asked for: no access is issued. -/
theorem State.chIssue_asked {s : State} {c : Nat} {d : Descriptor} (hd : (s.chan c).desc = some d) (hasked : d.length ≤ (s.chan c).asked)
    (n : Nat) : s.chIssue c n = s := by
  cases n with
  | zero => rfl
  | succ n =>
    have hnone : s.chIssue1 c = none := by simp [State.chIssue1, hd, hasked]
    rw [State.chIssue, hnone]

/-- The packing register holds less than a destination access of a copy: none is issued. -/
theorem State.chPut_short {s : State} {c : Fin 28} {d : Descriptor} (hcopy : d.fill = false)
    (hshort : (s.chan c.val).pack.length < d.dstWidth) (n : Nat) : s.chPut c d n = s := by
  cases n with
  | zero => rfl
  | succ n => simp [State.chPut, hcopy, hshort]

/-- The device without messages. -/
def State.noMsgs (s : State) : State := { s with msgs := [] }

theorem State.remove_only {s : State} {m : Msg} (hmsgs : s.msgs = [m]) (hcells : m.cells = []) (hskid : s.buf.skid = []) :
    s.remove m = s.noMsgs := by
  simp [s.remove_no_cells m hcells hskid, hmsgs, State.noMsgs]

@[simp] theorem State.chan_noMsgs (s : State) (c : Nat) : s.noMsgs.chan c = s.chan c := by
  rw [State.chan, State.noMsgs, State.chan]

/-- The channel without its one read. -/
def Channel.popped (x : Channel) : Channel := { x with reads := [] }

/-- The channel after the data of its one read came in with message `m`. -/
def Channel.packed (x : Channel) (m : Msg) : Channel :=
  { x with reads := [], pack := x.pack ++ m.data.map (fun v => (v, m.poison)), poisoned := x.poisoned || m.poison }

theorem State.chTakeRead_returned {s : State} {c : Fin 28} {r : PorterRead} {m : Msg} (e : MemErr) (hf : Frozen s)
    (hreads : (s.chan c.val).reads = [r]) (hzeros : r.zeros = false) (hid : r.msg = some m.id) (hmsgs : s.msgs = [m])
    (hin : m.input = 96 + c.val) (hst : m.stage = .returned) (hgood : m.squashed = false) (hcells : m.cells = []) (hskid : s.buf.skid = [])
    (hlen : m.data.length = r.len) :
    s.chTakeRead c e = (s.noMsgs.setChan c.val (s.chan c.val).popped).setChan c.val ((s.chan c.val).packed m) := by
  have hfind : s.msgs.find? (fun x => x.id == m.id && x.input == 96 + c.val) = some m := by simp [hmsgs, hin]
  have hdata : (m.data ++ List.replicate r.len 0).take r.len = m.data := by rw [← hlen]; exact List.take_left
  have hpack : s.chTakeRead c e = (s.noMsgs.setChan c.val (s.chan c.val).popped).chPack c.val m.data m.poison := by
    simp only [State.chTakeRead, hreads, hzeros, hid, hfind, hst, State.remove_only hmsgs hcells hskid, hgood, hdata, Bool.false_eq_true,
      if_false, decide_true, if_true, State.chan_noMsgs, Channel.popped]
  have hcount (x : Channel) (u code n : Nat) : ((s.noMsgs.setChan c.val (s.chan c.val).popped).setChan c.val x).count u code n =
      (s.noMsgs.setChan c.val (s.chan c.val).popped).setChan c.val x := State.count_frozen _ _ _ _ hf
  simp only [hpack, State.chPack, hcount, State.chan_setChan]
  rfl

theorem gives_porterReadReturn {s : State} {c : Fin 28} {d : Descriptor} {m : Msg} (hq : Quiet s)
    (hd : (s.chan c.val).desc = some d) (hstarted : (s.chan c.val).started = true) (hbad : (s.chan c.val).bad = false)
    (hop : m.op = .bulkRead) (hmsgs : s.msgs = [m]) (hcopy : d.fill = false) (hasked : d.length ≤ (s.chan c.val).asked)
    (hshort : (s.chan c.val).pack.length + m.data.length < d.dstWidth)
    (hread : s.chTakeRead c .good =
      (s.noMsgs.setChan c.val (s.chan c.val).popped).setChan c.val ((s.chan c.val).packed m)) :
    Gives (.porterReadReturn c .good) s (fun t => t.chan c.val = (s.chan c.val).packed m ∧ t.msgs = [] ∧ t.regs = s.regs ∧ t.mem = s.mem) := by
  generalize hu : (s.noMsgs.setChan c.val (s.chan c.val).popped).setChan c.val ((s.chan c.val).packed m) = u at hread
  have hchan : u.chan c.val = (s.chan c.val).packed m := by rw [← hu, State.chan_setChan]
  have hfailed : s.chTakeFailed c.val = s := State.chTakeFailed_none _ (by simp [hmsgs, hop])
  have hput : u.chPut c d 128 = u := State.chPut_short hcopy (by simpa [hchan, Channel.packed] using hshort) _
  have hlast : u.chIssue c.val 16 = u := State.chIssue_asked (by rw [hchan]; exact hd) (by rw [hchan]; exact hasked) _
  have hexec : exec (.porterReadReturn c .good) s = done u := by
    show execPorterReadReturn c .good s = _
    simp [execPorterReadReturn, hfailed, hd, hstarted, hbad, State.chIssue_asked hd hasked, hread, hput, hlast]
  exact Gives.of_done hexec (by rw [← hu]; exact hq) ⟨hchan, by rw [← hu]; rfl, by rw [← hu]; rfl, by rw [← hu]; rfl⟩

/-! ## A write that failed after its descriptor completed (R359) -/

/-- A bit of a channel's errors whose source is latched: the address is kept and the source counts (R497). -/
theorem State.chErr_latched {s : State} {f : Fld} {c a : Nat} (hreg : f.reg = .CH_ERR) (h : s.flag F.FC_SRC_LATCHED (776 + c / 14) = true) :
    s.chErr f c (some a) = (((s.put F.CH_ERR_ADDR_V a c).put f 1 c).put F.FC_SRC_COUNT
      (saturated 8 (((s.put F.CH_ERR_ADDR_V a c).put f 1 c).get F.FC_SRC_COUNT (776 + c / 14)) 1) (776 + c / 14)).irqTouch (192 + c) := by
  have hlatched : ((s.put F.CH_ERR_ADDR_V a c).put f 1 c).flag F.FC_SRC_LATCHED (776 + c / 14) = true := by
    rw [State.flag, State.get_put_reg _ _ _ _ _ _ _ _ (by rw [hreg]; decide), State.get_put_of_apart _ (by decide)]
    exact h
  rw [← State.raise_latched _ _ { addr := some a, cause := f.lo } hlatched]
  rfl

theorem State.chErr_late_effect {s : State} {c : Nat} (a : Nat) (h : s.flag F.FC_SRC_LATCHED (776 + c / 14) = true) :
    (s.chErr F.CH_ERR_LATE_WRITE_ERR c (some a)).flag F.CH_ERR_LATE_WRITE_ERR c = true ∧
      (s.chErr F.CH_ERR_LATE_WRITE_ERR c (some a)).get F.CH_ERR_ADDR_V c = a % 2 ^ 64 ∧
      ChannelStep s (s.chErr F.CH_ERR_LATE_WRITE_ERR c (some a))
        [⟨.CH_ERR, c, 0⟩, ⟨.CH_ERR_ADDR, c, 0⟩, ⟨.FC_SRC, 776 + c / 14, 0⟩] := by
  rw [State.chErr_latched rfl h]
  generalize saturated 8 _ 1 = n
  refine ⟨?_, ?_, ?_⟩
  · rw [State.flag, State.get_irqTouch, State.get_put_of_apart _ (by decide), State.get_put_lt _ F.CH_ERR_LATE_WRITE_ERR _ _ (by decide) (by decide)]
    rfl
  · rw [State.get_irqTouch, State.get_put_of_apart _ (by decide), State.get_put_of_apart _ (by decide)]
    exact s.get_put_self F.CH_ERR_ADDR_V a c 0 (by decide)
  · exact ((((ChannelStep.refl s _).put F.CH_ERR_ADDR_V a c 0 (.tail _ (.head _))).put F.CH_ERR_LATE_WRITE_ERR 1 c 0 (.head _)).put F.FC_SRC_COUNT n
      (776 + c / 14) 0 (.tail _ (.tail _ (.head _)))).irqTouch _

/-- The error is remembered for the next barrier. -/
def State.chLateErr (s : State) (c a : Nat) : State :=
  (s.chErr F.CH_ERR_LATE_WRITE_ERR c (some a)).setChan c { s.chan c with lateErr := true }

/-- The one message is a failed write of an earlier descriptor. -/
theorem State.chTakeFailed_late {s : State} {c : Nat} {m : Msg} (hmsgs : s.msgs = [m]) (hin : m.input = 96 + c) (hop : m.op = .bulkWrite)
    (hst : m.stage = .returned) (hserial : m.session ≠ (s.chan c).serial) (hcells : m.cells = []) (hskid : s.buf.skid = []) :
    s.chTakeFailed c = s.noMsgs.chLateErr c m.addr := by
  simp [State.chTakeFailed, hmsgs, hin, hop, hst, State.remove_only hmsgs hcells hskid, hserial, State.chLateErr]

theorem State.chLateErr_effect {s : State} {c : Nat} (a : Nat) (h : s.flag F.FC_SRC_LATCHED (776 + c / 14) = true) :
    (s.chLateErr c a).flag F.CH_ERR_LATE_WRITE_ERR c = true ∧ (s.chLateErr c a).get F.CH_ERR_ADDR_V c = a % 2 ^ 64 ∧
      ((s.chLateErr c a).chan c).lateErr = true ∧
      ChannelStep s (s.chLateErr c a) [⟨.CH_ERR, c, 0⟩, ⟨.CH_ERR_ADDR, c, 0⟩, ⟨.FC_SRC, 776 + c / 14, 0⟩] := by
  obtain ⟨hflag, haddr, hstep⟩ := State.chErr_late_effect a h
  rw [State.chLateErr, State.flag_setChan, State.get_setChan, State.chan_setChan]
  exact ⟨hflag, haddr, rfl, hstep.setChan _ _⟩

/-! ## The end of a descriptor (R348, R358) -/

/-- The first bytes of those written are read. -/
theorem memGet_put_append (m : List Host.Cell) (a : Nat) (b r : List Byte) : memGet (memPut m a (b ++ r)) a b.length = b := by
  induction b generalizing m a with
  | nil => rfl
  | cons v t ih =>
    rw [List.cons_append, List.length_cons, memGet, memPut, ih, memByte_put_outside _ _ _ _ (by omega), memByte_putByte_self]

/-- The bank is the one used last. -/
def State.usesBank (s : State) (b : Nat) : State := s.withHearth (fun h => { h with used := h.used.filter (fun x => x != b) ++ [b] })

/-- An access to a bank may change the bank's register and which banks were used. -/
def BankFrame (s t : State) (b : Nat) : Prop :=
  KeepsRegs s t [⟨.SP_BANK_CTRL, b, 0⟩] ∧ { t with regs := s.regs, hearth := s.hearth } = s

theorem BankFrame.usesBank {s t : State} {b : Nat} (h : OnlyRegs s t [⟨.SP_BANK_CTRL, b, 0⟩]) : BankFrame s (t.usesBank b) b :=
  ⟨h.1.regs rfl, congrArg (fun x : State => { x with hearth := s.hearth }) h.2⟩

theorem State.touchBank_frozen {s : State} (a : Nat) (hf : Frozen s) : BankFrame s (s.touchBank a) (bankOf a) := by
  have hput : OnlyRegs s (s.put F.SP_BANK_CTRL_RETAINED 0 (bankOf a)) [⟨.SP_BANK_CTRL, bankOf a, 0⟩] :=
    (OnlyRegs.refl s _).put _ _ _ _ (.head _)
  have htouch : s.touchBank a =
      (if s.flag F.SP_BANK_CTRL_RETAINED (bankOf a) then s.put F.SP_BANK_CTRL_RETAINED 0 (bankOf a) else s).usesBank (bankOf a) := by
    simp only [State.touchBank, State.count_frozen s _ _ _ hf, State.count_frozen _ _ _ _ (hput.1.frozen (by simp) hf), State.usesBank]
  rw [htouch]
  split
  · exact BankFrame.usesBank hput
  · exact BankFrame.usesBank (OnlyRegs.refl s _)

/-- The state `t` in which STATUS 1 is written back at `a`, in bank `b` of the scratchpad. -/
structure WrittenBack (s t : State) (a b : Nat) : Prop where
  status : memGet t.mem a 4 = leBytes 4 1
  keeps : KeepsRegs s t [⟨.SP_BANK_CTRL, b, 0⟩]
  frame : { t with regs := s.regs, mem := s.mem, hearth := s.hearth } = s

theorem State.chWriteBack_scratchpad {s : State} {c a : Nat} (moved : Nat) (hf : Frozen s) (hup : s.hearthDown = false)
    (hlost : s.txns.lost.contains (c / 14) = false) (hpath : s.privPath c (a + 32) 16 true = .internal)
    (hin : inScratchpad a = true) (hopen : inSealed a = false) : WrittenBack s (s.chWriteBack c a 1 moved) (a + 32) (bankOf a) := by
  let rest : List Byte := leBytes 4 moved ++ leBytes 8 (s.fclk % 2 ^ 64)
  obtain ⟨hkeeps, hframe⟩ := s.touchBank_frozen a hf
  have hback : s.chWriteBack c a 1 moved = (s.touchBank a).memStore (a + 32) (leBytes 4 1 ++ rest) := by
    simp only [State.chWriteBack, hpath, hup, hlost, hin, hopen, Bool.or_false, Bool.false_eq_true, if_false, if_true, List.append_assoc, rest]
  rw [hback]
  generalize s.touchBank a = t at hkeeps hframe
  exact ⟨memGet_put_append t.mem (a + 32) (leBytes 4 1) rest, hkeeps.regs rfl,
    congrArg (fun x : State => { x with mem := s.mem }) hframe⟩

/-- The channel after a descriptor with STATUS 1. -/
def Channel.completed (x : Channel) (d : Descriptor) : Channel :=
  { serial := x.serial + 1, lateErr := x.lateErr && !d.barrier, worst := if x.worst = 1 then 1 else x.worst }

/-- The registers that a channel's end of a descriptor writes. -/
abbrev doneRegs (c : Nat) : List Key := [⟨.CH_STATUS, c, 0⟩, ⟨.CH_DONE_COUNT, c, 0⟩, ⟨.CH_CELLS, c, 0⟩]

/-- The channel counted one more descriptor. -/
def State.chDone (s : State) (c : Nat) : State := s.put F.CH_DONE_COUNT_V (saturated 32 (s.get F.CH_DONE_COUNT_V c) 1) c

theorem State.chDone_step (s : State) (c : Nat) : ChannelStep s (s.chDone c) (doneRegs c) :=
  (ChannelStep.refl s _).put F.CH_DONE_COUNT_V _ c 0 (.tail _ (.head _))

theorem State.bump_done {s : State} (c : Nat) (hf : Frozen s) : s.bump F.CH_DONE_COUNT_V 1 c = s.chDone c :=
  State.bump_frozen s F.CH_DONE_COUNT_V 1 c 0 ((s.chDone_step c).keeps.frozen (by simp) hf)

/-- The counters of a channel after a descriptor of `n` cells. -/
def State.chCounted (s : State) (c n : Nat) : State := (s.chDone c).bump F.CH_CELLS_V n c

theorem State.chCounted_effect {s : State} (c n : Nat) (hf : Frozen s) :
    (s.chCounted c n).get F.CH_DONE_COUNT_V c = saturated 32 (s.get F.CH_DONE_COUNT_V c) 1 ∧ ChannelStep s (s.chCounted c n) (doneRegs c) := by
  have hcells (w : Nat) : ChannelStep s ((s.chDone c).put F.CH_CELLS_V w c) (doneRegs c) :=
    (s.chDone_step c).put F.CH_CELLS_V w c 0 (.tail _ (.tail _ (.head _)))
  rw [State.chCounted, State.bump_frozen (s.chDone c) F.CH_CELLS_V n c 0 ((hcells _).keeps.frozen (by simp) hf)]
  refine ⟨?_, hcells _⟩
  rw [State.get_put_of_apart _ (by decide)]
  exact s.get_put_lt F.CH_DONE_COUNT_V c 0 (by decide) (saturated_lt 32 _ _)

/-- A descriptor that asks for neither an interrupt nor an event ends with STATUS 1. -/
theorem State.chFinish_ok {s : State} {c : Nat} {d : Descriptor} (hd : (s.chan c).desc = some d) (hirq : d.at 29 1 = 0) (hevt : d.at 28 1 = 0)
    (hf : Frozen (s.chWriteBack c (s.get F.CH_CUR_V c) 1 ((s.chan c).put - (s.chan c).dropped))) :
    s.chFinish c 1 = ((s.chWriteBack c (s.get F.CH_CUR_V c) 1 ((s.chan c).put - (s.chan c).dropped)).chCounted c
      (((s.chan c).put - (s.chan c).dropped) / 64)).setChan c ((s.chan c).completed d) := by
  simp [State.chFinish, hd, hirq, hevt, State.bump_done c hf, State.chCounted, Channel.completed]

/-- The state `t` after descriptor `d` ended with STATUS 1, its write-back in bank `b`. -/
structure Completed (s t : State) (c b : Nat) (d : Descriptor) : Prop where
  status : memGet t.mem (s.get F.CH_CUR_V c + 32) 4 = leBytes 4 1
  count : t.get F.CH_DONE_COUNT_V c = saturated 32 (s.get F.CH_DONE_COUNT_V c) 1
  chan : t.chan c = (s.chan c).completed d
  keeps : KeepsRegs s t (⟨.SP_BANK_CTRL, b, 0⟩ :: doneRegs c)
  frame : { t with regs := s.regs, mem := s.mem, hearth := s.hearth, channels := s.channels, agg := s.agg } = s

theorem Completed.unseen {s t : State} {c b : Nat} {d : Descriptor} (h : Completed s t c b d) {α : Type} (g : State → α)
    (hg : ∀ x r m e k a, g { x with regs := r, mem := m, hearth := e, channels := k, agg := a } = g x) : g t = g s := by
  rw [← hg t s.regs s.mem s.hearth s.channels s.agg, h.frame]

theorem State.chFinish_completed {s : State} {c b : Nat} {d : Descriptor} (hf : Frozen s) (hd : (s.chan c).desc = some d)
    (hirq : d.at 29 1 = 0) (hevt : d.at 28 1 = 0)
    (hback : WrittenBack s (s.chWriteBack c (s.get F.CH_CUR_V c) 1 ((s.chan c).put - (s.chan c).dropped)) (s.get F.CH_CUR_V c + 32) b) :
    Completed s (s.chFinish c 1) c b d := by
  obtain ⟨hbytes, hkeeps, hframe⟩ := hback
  have hfrozen := hkeeps.frozen (by simp) hf
  rw [State.chFinish_ok hd hirq hevt hfrozen]
  generalize s.chWriteBack c (s.get F.CH_CUR_V c) 1 ((s.chan c).put - (s.chan c).dropped) = w at *
  obtain ⟨hcount, hcounted⟩ := State.chCounted_effect c (((s.chan c).put - (s.chan c).dropped) / 64) hfrozen
  have hstep := hcounted.setChan c ((s.chan c).completed d)
  refine ⟨by rw [hstep.mem, hbytes], ?_, State.chan_setChan _ _ _, (hkeeps.mono (by simp)).trans (hstep.keeps.mono (by simp)), ?_⟩
  · rw [State.get_setChan, hcount, hkeeps.get (by simp [F.CH_DONE_COUNT_V])]
  · exact (congrArg (fun x : State => { x with regs := s.regs, mem := s.mem, hearth := s.hearth, channels := s.channels, agg := s.agg })
      hstep.frame).trans (congrArg (fun x : State => { x with channels := s.channels, agg := s.agg }) hframe)

theorem State.chComplete_tail {s : State} {c : Nat} {d : Descriptor} (hmsgs : s.msgs = []) (hready : s.chReady c = true)
    (hd : (s.chan c).desc = some d) (hstatus : (s.chan c).status d = 1) (htail : d.tail = true) :
    s.chComplete c = ((s.chFinish c 1).chEnds c chAtTail (chainStatus ((s.chFinish c 1).chan c).worst)).chDoorbell c := by
  have hfailed : s.chTakeFailed c = s := State.chTakeFailed_none c (by simp [hmsgs])
  simp [State.chComplete, hfailed, hready, hd, hstatus, htail]

theorem gives_descriptorComplete {s : State} {c : Fin 28} {b : Nat} {d : Descriptor} (hq : Quiet s) (hmsgs : s.msgs = [])
    (hready : s.chReady c.val = true) (hd : (s.chan c.val).desc = some d) (hstatus : (s.chan c.val).status d = 1) (htail : d.tail = true)
    (hops : s.ops = []) (hseen : s.rd .CH_DOORBELL c.val = s.rd .CH_SEEN c.val) (hended : Completed s (s.chFinish c.val 1) c.val b d) :
    Gives (.descriptorComplete c) s (fun t => t.ch c.val = chAtTail ∧ memGet t.mem (s.get F.CH_CUR_V c.val + 32) 4 = [1, 0, 0, 0] ∧
      t.get F.CH_DONE_COUNT_V c.val = saturated 32 (s.get F.CH_DONE_COUNT_V c.val) 1 ∧ (t.chan c.val).desc = none ∧
      (t.chan c.val).serial = (s.chan c.val).serial + 1 ∧ t.msgs = s.msgs ∧ t.out = s.out) := by
  have hcomplete := State.chComplete_tail hmsgs hready hd hstatus htail
  generalize s.chFinish c.val 1 = u at hended hcomplete
  have hend : ChannelStep u (u.setCh c.val chAtTail) (doneRegs c.val) := (ChannelStep.refl u _).setCh _ _ (.head _)
  have hrd (r : Reg) (hr : r ≠ .CH_STATUS ∧ r ≠ .CH_DONE_COUNT ∧ r ≠ .CH_CELLS ∧ r ≠ .SP_BANK_CTRL) :
      (u.setCh c.val chAtTail).rd r c.val = s.rd r c.val := by
    rw [State.rd_setCh _ _ _ hr.1, hended.keeps.rd (by simp [hr])]
  have hbell : (u.setCh c.val chAtTail).chDoorbell c.val = u.setCh c.val chAtTail :=
    State.chDoorbell_seen (by rw [hrd _ (by decide), hrd _ (by decide), hseen])
  have hexec : exec (.descriptorComplete c) s = done (u.setCh c.val chAtTail) := by
    show done (s.chComplete c.val) = _
    rw [hcomplete, State.chEnds_none _ _ _ ((hended.unseen State.ops (fun _ _ _ _ _ _ => rfl)).trans hops), hbell]
  refine Gives.of_done hexec (hend.todo.trans ((hended.unseen State.todo (fun _ _ _ _ _ _ => rfl)).trans hq))
    ⟨State.ch_setCh _ _ (by decide), ?_, ?_, ?_, ?_, hend.msgs.trans (hended.unseen State.msgs (fun _ _ _ _ _ _ => rfl)),
     hend.out.trans (hended.unseen State.out (fun _ _ _ _ _ _ => rfl))⟩
  · rw [hend.mem, hended.status]
    rfl
  · rw [State.get_setCh _ _ _ (by decide), hended.count]
  · rw [State.chan_setCh, hended.chan, Channel.completed]
  · rw [State.chan_setCh, hended.chan, Channel.completed]

/-! ## Retirement (R370) -/

/-- A bit that is cleared by subtraction leaves every other bit alone. -/
theorem testBit_sub_two_pow {x i j : Nat} (hi : x.testBit i = true) (hj : j ≠ i) : (x - 2 ^ i).testBit j = x.testBit j := by
  have hodd : x / 2 ^ i % 2 = 1 := by simpa [Nat.testBit_eq_decide_div_mod_eq] using hi
  obtain ⟨q, hq⟩ : ∃ q, x / 2 ^ i = 2 * q + 1 := ⟨x / 2 ^ i / 2, by omega⟩
  have hlt : x % 2 ^ i < 2 ^ i := Nat.mod_lt _ (by positivity)
  have hx : x = 2 ^ i * (2 * q + 1) + x % 2 ^ i := by rw [← hq, Nat.div_add_mod]
  have hsub : x - 2 ^ i = 2 ^ i * (2 * q) + x % 2 ^ i := by
    rw [Nat.mul_add, Nat.mul_one] at hx
    omega
  rw [hsub, Nat.testBit_two_pow_mul_add _ hlt]
  conv_rhs => rw [hx, Nat.testBit_two_pow_mul_add _ hlt]
  split
  · rfl
  · obtain ⟨k, hk⟩ : ∃ k, j - i = k + 1 := ⟨j - i - 1, by omega⟩
    rw [hk, Nat.testBit_succ, Nat.testBit_succ, show 2 * q / 2 = (2 * q + 1) / 2 by omega]

/-- The retired channels after physical channel `old` left service. -/
def retiredWith (retired old : Nat) : Nat := if retired.testBit old then retired else retired + 2 ^ old

/-- The active channels after spare `p` took the place of physical channel `old`. -/
def activeWith (active old p : Nat) : Nat := (if active.testBit old then active - 2 ^ old else active) + 2 ^ p

theorem testBit_retiredWith (retired old : Nat) : (retiredWith retired old).testBit old = true := by
  rw [retiredWith]
  split
  · assumption
  · next h => simpa [Nat.add_comm retired, Nat.testBit_two_pow_add_eq] using h

theorem testBit_activeWith {active p : Nat} (old : Nat) (hp : active.testBit p = false) : (activeWith active old p).testBit p = true := by
  have hleft : (if active.testBit old then active - 2 ^ old else active).testBit p = false := by
    split
    · next hold =>
      have hne : p ≠ old := fun h => by simp [← h, hp] at hold
      rw [testBit_sub_two_pow hold hne, hp]
    · exact hp
  rw [activeWith, Nat.add_comm, Nat.testBit_two_pow_add_eq, hleft]
  rfl

/-- A bit of PORTER_PHYS, read in its field. -/
theorem State.physBit (s : State) (h : Nat) {f : Fld} {k : Nat} (hreg : f.reg = .PORTER_PHYS) (hk : k < f.w) :
    Word.bits (s.rd .PORTER_PHYS h) (f.lo + k) 1 = if (s.get f h).testBit k then 1 else 0 := by
  rw [Word.bits_one_of_bits _ _ _ _ hk, State.get, hreg, Nat.testBit_eq_decide_div_mod_eq]
  rcases Nat.mod_two_eq_zero_or_one (Word.bits (s.rd .PORTER_PHYS h) f.lo f.w / 2 ^ k) with e | e <;> simp [e]

/-- A physical channel of a half that is neither active nor retired. -/
def State.spareAt (s : State) (h k : Nat) : Bool :=
  Word.bits (s.rd .PORTER_PHYS h) (F.PORTER_PHYS_ACTIVE.lo + k) 1 == 0 && Word.bits (s.rd .PORTER_PHYS h) (F.PORTER_PHYS_RETIRED.lo + k) 1 == 0

theorem State.spareAt_eq (s : State) (h : Nat) {k : Nat} (hk : k < 16) :
    s.spareAt h k = (!(s.get F.PORTER_PHYS_ACTIVE h).testBit k && !(s.get F.PORTER_PHYS_RETIRED h).testBit k) := by
  rw [State.spareAt, s.physBit h (f := F.PORTER_PHYS_ACTIVE) rfl hk, s.physBit h (f := F.PORTER_PHYS_RETIRED) rfl hk]
  cases (s.get F.PORTER_PHYS_ACTIVE h).testBit k <;> cases (s.get F.PORTER_PHYS_RETIRED h).testBit k <;> rfl

/-- Spare `p` serves channel `c` in the place of its physical channel. -/
def State.chReplaced (s : State) (c h p : Nat) : State :=
  let old := Word.bits (s.rd .PORTER_MAP h) (4 * (c % 14)) 4
  ((s.put F.PORTER_PHYS_RETIRED (retiredWith (s.get F.PORTER_PHYS_RETIRED h) old) h).put F.PORTER_PHYS_ACTIVE
    (activeWith (s.get F.PORTER_PHYS_ACTIVE h) old p) h).wr .PORTER_MAP (Word.setBits (s.rd .PORTER_MAP h) (4 * (c % 14)) 4 p) h

theorem State.chRetire_spare {s : State} {c p : Nat} (hidle : s.ch c = chIdle)
    (hspare : (List.range 16).find? (s.spareAt (c / 14)) = some p) : s.chRetire c = s.chReplaced c (c / 14) p := by
  generalize hh : c / 14 = h at hspare
  have hfind : (List.range 16).find? (fun k => !(s.get F.PORTER_PHYS_ACTIVE h).testBit k && !(s.get F.PORTER_PHYS_RETIRED h).testBit k) = some p :=
    (List.find?_congr (fun k hk => (s.spareAt_eq h (List.mem_range.mp hk)).symm)).trans hspare
  have hmap (v : Nat) : (s.put F.PORTER_PHYS_RETIRED v h).rd .PORTER_MAP h = s.rd .PORTER_MAP h := s.rd_put_reg _ _ _ _ _ _ _ (by decide)
  have hbit (v n : Nat) : (v / 2 ^ n % 2 == 1) = v.testBit n := by rw [Nat.testBit_eq_decide_div_mod_eq, beq_eq_decide]
  simp only [State.chRetire, hidle, hh, bne_self_eq_false, Bool.false_eq_true, if_false, hbit, hfind, hmap, State.chReplaced, retiredWith,
    activeWith]

theorem State.chReplaced_effect {s : State} {c h p : Nat} (hp : p < 16) (hspare : s.spareAt h p = true) :
    Word.bits ((s.chReplaced c h p).rd .PORTER_MAP h) (4 * (c % 14)) 4 = p ∧
      Word.bits ((s.chReplaced c h p).rd .PORTER_PHYS h)
        (F.PORTER_PHYS_RETIRED.lo + Word.bits (s.rd .PORTER_MAP h) (4 * (c % 14)) 4) 1 = 1 ∧
      Word.bits ((s.chReplaced c h p).rd .PORTER_PHYS h) (F.PORTER_PHYS_ACTIVE.lo + p) 1 = 1 ∧
      OnlyRegs s (s.chReplaced c h p) [⟨.PORTER_PHYS, h, 0⟩, ⟨.PORTER_MAP, h, 0⟩] := by
  have hold : Word.bits (s.rd .PORTER_MAP h) (4 * (c % 14)) 4 < 16 := Nat.mod_lt _ (by decide)
  have hfree : (s.get F.PORTER_PHYS_ACTIVE h).testBit p = false := by
    rw [s.spareAt_eq h hp] at hspare
    simp_all
  have hretired := testBit_retiredWith (s.get F.PORTER_PHYS_RETIRED h) (Word.bits (s.rd .PORTER_MAP h) (4 * (c % 14)) 4)
  have hactive := testBit_activeWith (Word.bits (s.rd .PORTER_MAP h) (4 * (c % 14)) 4) hfree
  have hmap : Word.bits (Word.setBits (s.rd .PORTER_MAP h) (4 * (c % 14)) 4 p) (4 * (c % 14)) 4 = p :=
    (Word.bits_setBits_self _ _ _ _ (by omega)).trans (Nat.mod_eq_of_lt hp)
  rw [State.chReplaced]
  generalize Word.bits (s.rd .PORTER_MAP h) (4 * (c % 14)) 4 = old at hold hretired hactive
  generalize retiredWith _ old = r at hretired
  generalize activeWith _ old p = a at hactive
  let u : State := s.put F.PORTER_PHYS_RETIRED r h
  generalize Word.setBits (s.rd .PORTER_MAP h) (4 * (c % 14)) 4 p = w at hmap
  have hgetR : ((u.put F.PORTER_PHYS_ACTIVE a h).wr .PORTER_MAP w h).get F.PORTER_PHYS_RETIRED h = r % 2 ^ 16 := by
    rw [State.get_wr_reg _ _ _ _ _ _ _ _ (by decide), State.get_put_of_apart _ (by decide)]
    exact s.get_put_self F.PORTER_PHYS_RETIRED r h 0 (by decide)
  have hgetA : ((u.put F.PORTER_PHYS_ACTIVE a h).wr .PORTER_MAP w h).get F.PORTER_PHYS_ACTIVE h = a % 2 ^ 16 := by
    rw [State.get_wr_reg _ _ _ _ _ _ _ _ (by decide)]
    exact u.get_put_self F.PORTER_PHYS_ACTIVE a h 0 (by decide)
  have hbitR : (r % 2 ^ 16).testBit old = true := by simp only [Nat.testBit_mod_two_pow, hold, hretired, decide_true, Bool.and_self]
  have hbitA : (a % 2 ^ 16).testBit p = true := by simp only [Nat.testBit_mod_two_pow, hp, hactive, decide_true, Bool.and_self]
  refine ⟨?_, ?_, ?_, ?_⟩
  · rw [State.rd_wr_self, hmap]
  · rw [State.physBit _ h (f := F.PORTER_PHYS_RETIRED) rfl hold, hgetR, if_pos hbitR]
  · rw [State.physBit _ h (f := F.PORTER_PHYS_ACTIVE) rfl hp, hgetA, if_pos hbitA]
  · exact (((OnlyRegs.refl s _).put F.PORTER_PHYS_RETIRED r h 0 (.head _)).put F.PORTER_PHYS_ACTIVE a h 0 (.head _)).wr
      .PORTER_MAP w h 0 (.tail _ (.head _))

/-! ## The statement -/

/-- Settles O14: each command by the equation for its branch and the registers that the branch writes. -/
theorem porterChannels : Obligations.PorterChannels := by
  unfold Obligations.PorterChannels
  refine ⟨?start, ?abort, ?trigger, ?pace, ?pause, ?fetch, ?read, ?complete, ?late, ?doorbell, ?reread, ?retire⟩
  case start =>
    intro s c hq _ hidle hrung hentry hpause
    exact gives_chStart hq hidle hrung hentry hpause
  case abort =>
    intro s c hq _ hch hmsgs hops
    exact gives_chAbort_atTail hq hch hmsgs hops
  case trigger =>
    intro s c hq _ hn hch
    exact gives_trigger hq rfl hn hch
  case pace =>
    intro s c hq _ hsrc hperiod hblaze hn hch
    exact gives_trigger hq (exec_porterPaceTimer hsrc hperiod hblaze) hn hch
  case pause =>
    intro s c b hq _ hwait hpaused
    have hch : (s.putFlag F.CH_CTRL_PAUSE b c.val).ch c.val = s.ch c.val := s.ch_put_of_apart (by decide) _ _ _ _
    have hexec : exec (.chPause c b) s = done (s.putFlag F.CH_CTRL_PAUSE b c.val) :=
      congrArg done (State.chPauseCheck_of_ne (hch.trans_ne hwait) (hch.trans_ne hpaused))
    have honly : OnlyRegs s (s.putFlag F.CH_CTRL_PAUSE b c.val) [⟨.CH_CTRL, c.val, 0⟩] := (OnlyRegs.refl s _).put _ _ _ _ (.head _)
    exact Gives.of_done hexec (honly.todo.trans hq) ⟨s.flag_putFlag_self (by decide) (by decide) b c.val 0, honly⟩
  case fetch =>
    intro s c b m hq _ hrun hout hpath hb hvalid hpriv hok hwait hpause hnone
    have hexec := (exec_descriptorFetch hrun hout hpath hb).trans
      (congrArg done (State.chTakeDesc_waits hvalid hpriv hok hwait hpause hnone))
    have hstep : ChannelStep s ((s.chHolds c.val (descriptorOf b)).setCh c.val chWaiting) [⟨.CH_STATUS, c.val, 0⟩] :=
      ((ChannelStep.refl s _).setChan _ _).setCh _ _ (.head _)
    have hchan : ((s.chHolds c.val (descriptorOf b)).setCh c.val chWaiting).chan c.val = _ :=
      (State.chan_setCh _ _ _ _).trans (s.chan_setChan _ _)
    exact Gives.of_done hexec (hstep.todo.trans hq)
      ⟨State.ch_setCh _ _ (by decide), by rw [hchan], by rw [hchan], by rw [hchan], hstep.keeps, hstep.msgs, hstep.mem⟩
  case read =>
    intro s c d r m hq hf hd hstarted hbad hreads hzeros hid hmsgs hin hop hst hgood hcells hskid hlen hcopy hasked _ hshort
    have hread := State.chTakeRead_returned .good hf hreads hzeros hid hmsgs hin hst hgood hcells hskid hlen
    exact (gives_porterReadReturn hq hd hstarted hbad hop hmsgs hcopy hasked (hlen ▸ hshort) hread).imp
      (fun t ⟨hchan, hrest⟩ => ⟨by rw [hchan]; rfl, by rw [hchan]; rfl, by rw [hchan]; rfl, hrest⟩)
  case complete =>
    intro s c d hq hf hmsgs hready hd hstatus htail hirq hevt hup hlost hops hpath hin hopen hseen
    have hback := State.chWriteBack_scratchpad ((s.chan c.val).put - (s.chan c.val).dropped) hf hup hlost hpath hin hopen
    exact gives_descriptorComplete hq hmsgs hready hd hstatus htail hops hseen (State.chFinish_completed hf hd hirq hevt hback)
  case late =>
    intro s c m hq _ hmsgs hin hop hst hserial hcells hskid hlatched
    have hexec : exec (.porterLateWriteError c) s = done (s.noMsgs.chLateErr c.val m.addr) :=
      congrArg done (State.chTakeFailed_late hmsgs hin hop hst hserial hcells hskid)
    obtain ⟨hflag, haddr, herr, hstep⟩ := State.chLateErr_effect (s := s.noMsgs) m.addr hlatched
    exact Gives.of_done hexec (hstep.todo.trans hq) ⟨hflag, haddr, herr, hstep.msgs, hstep.keeps.congr rfl rfl, hstep.mem⟩
  case doorbell =>
    intro s c v hq _ hch hout hnew
    exact gives_porterDoorbell hq hch hout hnew
  case reread =>
    intro s c b m hq _ hch hout hpath hb htail hpause
    let u : State := s.setChan c.val { s.chan c.val with rereading := false }
    have hpause' : u.chPauses c.val = false := hpause
    obtain ⟨hstate, hcur, hchan, hstep⟩ := State.chGo_effect hpause' (descriptorOf_next_lt b)
    exact Gives.of_done (exec_tailReread_goesOn hch hout hpath hb htail) (hstep.todo.trans hq)
      ⟨hstate, hcur, by rw [hchan], by rw [hchan], hstep.keeps.congr rfl rfl, hstep.msgs, hstep.mem⟩
  case retire =>
    intro s c p hq _ hidle hspare
    have hp : p < 16 := List.mem_range.mp (List.mem_of_find?_eq_some hspare)
    obtain ⟨hmap, hretired, hactive, honly⟩ := State.chReplaced_effect (c := c.val) hp (List.find?_some hspare)
    exact Gives.of_done (congrArg done (State.chRetire_spare hidle hspare)) (honly.todo.trans hq) ⟨hmap, hretired, hactive, honly⟩

end Sys2Proof.Machine
